-- ==== Sys2Proof/Word.lean ====
section
/-! DEFINITION. Word.lean: the word types of the device. The 24-bit word is the device's native unit (R18);
object values are cut into such words (R103). Byte streams (frames, keys, blobs) are lists of bytes, first byte
first (R34). Numbers the device counts or compares are natural numbers. -/

namespace Sys2Proof

/-- One byte of a frame, a key or an OCTETS value. -/
abbrev Byte := BitVec 8

/-- Bytes in order, the first byte first (R34, R103). -/
abbrev Octets := List (BitVec 8)

/-- The device's native 24-bit word (R18). -/
abbrev Word := BitVec 24

end Sys2Proof
end

