-- ==== Sys2Proof/Syntax.lean ====
section
/-! DEFINITION. Syntax.lean: the commands of the block, one constructor of `Instr` per row of
spec/opcode_table.json. The table gives no operands: an operand is what the outside supplies to the step (the
session that writes, the value written, the frame received, a measurement). `sess` is a session number (R114),
`p` a port, `b` a bolt, `n` a device lane number (R457), `g` a Twill group, `v` a value written. -/

namespace Sys2Proof

/-- A value of an object or a row field (R103): a number (two's complement types as their bit pattern, TIME96 as
seconds times 2^32 plus nanoseconds), or the bytes of an OCTETS value. -/
inductive Val where
  | num (n : Nat)
  | oct (bytes : Octets)
deriving DecidableEq, Repr

/-- The two pipes of a bolt (R16): E encrypts clear to line, D decrypts line to clear. -/
inductive Pipe where
  | e
  | d
deriving DecidableEq, Repr

/-- A function of R124: the unit of configuration that is stopped and started on its own. -/
inductive Fn where
  /-- Port p, home 0x3000+4p. -/
  | port (p : Nat)
  /-- Scheduler of port p, home 0x3000+4p+3. -/
  | sched (p : Nat)
  /-- Policy bank k of bolt b, home 0x2000+0x100b+0x10+k. -/
  | bank (b k : Nat)
  /-- Lane n, home 0x1900+n (R458). -/
  | lane (n : Nat)
  /-- Side-memory range r, home 0x1610+r (R654). -/
  | range (r : Nat)
  /-- Twill group g of bolt b, a row of window 0x4400 (R386). -/
  | group (b g : Nat)
  /-- Gingham admin list of port p, rows of window 0x4600 (R510). -/
  | gate (p : Nat)
  /-- Sector stream n, a row of window 0x4700 (R435). -/
  | stream (n : Nat)
deriving DecidableEq, Repr

/-- Which transport a network frame came by (R568, R571): the field network, or in-band on a port with the
request's outer VLAN tag, TPID and TCI, and whether it arrived with a SecTAG (R574), or across the mesh from the device with mesh ID
`src`, on the port its last hop came in by (R723). `mac` is the address of the sender on the last hop. -/
inductive Via where
  | t1s (mac : Nat)
  | inband (port mac : Nat) (vlan : Option (Nat × Nat)) (tagged : Bool)
  | mesh (port mac src : Nat)
deriving DecidableEq, Repr

/-- A frame received on an interface (R356): its bytes from the destination address up to the FCS, whether the FCS
was right, its receive lane timestamp in 2^-16 ns of device time (R535), whether its transmission had started when
its end was checked (R357) and the CT_START it then started with (R83), whether its PN was final then (R358), and whether its
pipe's keystream supply falls short of it (R191). -/
structure RxFrame where
  bytes   : Octets
  fcsOk   : Bool
  ts      : Nat
  started : Bool
  ct      : Nat
  final   : Bool
  short   : Bool
deriving DecidableEq, Repr

/-- A frame or panel that is still arriving when one of its beats fails: `panel` for a panel of Twill tributary `port`,
else a frame on interface `port`; `first` where the beat is its first (R45). -/
structure Passing where
  panel : Bool
  port  : Nat
  first : Bool
deriving DecidableEq, Repr

/-- What fails its parity check (R39): the beat that the checking point delivered `back` beats before its newest one
(R40), beat number `no` of what is still arriving with the frames and panels that have a word in it, in word order, or a
table row, with the interface whose arriving frame read it. Tables are those of event 0x01_0002; at point 9 the row names
the slot's SA row, and `word` the word of the row read. -/
inductive BeatRef where
  | held (back : Nat)
  | passing (no : Nat) (items : List Passing)
  | row (table row word : Nat) (reader : Option Nat)
deriving DecidableEq, Repr

/-- A parity error at a checking point of a pipe (R39 to R51). -/
structure ParityError where
  b     : Nat
  pipe  : Pipe
  point : Nat
  at_   : BeatRef
deriving DecidableEq, Repr

/-- What the outside supplies to a start (R757, R678, R599, R644): the straps, the Flue detectors (kind, B?) that
do not fire when stimulated, whether the Ember burn into each slot succeeds, and how many of the identity-key
regenerations end in FAULT, and in how many of those, the last ones, the job is MLDSA_KEYGEN. -/
structure StartInput where
  addrSel  : Nat
  pairId   : Nat
  stuck    : List (Nat × Bool)
  burnOk0  : Bool
  burnOk1  : Bool
  idFaults : Nat
  idMl     : Nat
deriving DecidableEq, Repr

/-- A codeword of a line lane as its receiver decides it (R375, R462): the 2,720 PAM4 levels, 0 to 3, and the level received before
the first (R463). -/
structure RxCodeword where
  before : Nat
  levels : List Nat
deriving DecidableEq, Repr

/-- When an edge of a timestamp input comes, and how long its pulse lasts (R538): whether in the second half of the nanosecond, and
the half nanoseconds until the next edge. -/
structure EdgeInput where
  half  : Bool
  lasts : Nat
deriving DecidableEq, Repr

/-- A private write on I3C (R563): the HDR-DDR command code, none in SDR, and its bytes. -/
structure I3cWrite where
  code  : Option Nat
  bytes : Octets
deriving DecidableEq, Repr

/-- A private read on I3C (R563): the HDR-DDR command code, none in SDR, and the most bytes that the controller takes. -/
structure I3cRead where
  code : Option Nat
  len  : Nat
deriving DecidableEq, Repr

/-- An overhead unit received on a lane (R382): the lane's codewords since the one that held the overhead unit before,
the last of which holds this one, its unit position in that codeword (R381), and the spread of lane arrival across the
group in ns (R391). -/
structure OverheadRx where
  cws    : List RxCodeword
  place  : Nat
  spread : Nat
deriving DecidableEq, Repr

/-- A codeword of one lane of a group: the local lane, the frame of its first unit (0: the frame before the lane's last
overhead unit, 1: that unit's frame, 2: the one after), that unit's number in it (R378), the codeword, and the receive
lane timestamp of its first bit in 2^-16 ns of device time (R535). -/
structure LaneCodeword where
  lane  : Nat
  frame : Nat
  unit  : Nat
  cw    : RxCodeword
  ts    : Nat
deriving DecidableEq, Repr

/-- A received panel (R404): the codewords of the group's lanes that carry the tributary's positions from the tracked start
on (R408), and whether the D-pipe was short of keystream for it (R191). -/
structure PanelRx where
  cws   : List LaneCodeword
  short : Bool
deriving DecidableEq, Repr

/-- What is measured once per second of device time: island clocks in kHz by object address (R33, R779), rails in mV
(R753), VBAT in mV (R694), reference offsets by bolt (R491), recovered clock and SNR by lane (R780), and for each
bolt and pipe the clocks waited for keystream and for a sector engine in the second (R192, R452). -/
structure SecondInput where
  clocks  : List (Nat × Nat)
  rails   : List Nat
  vbat    : Nat
  refPpm  : List (Nat × Int)
  lanes   : List (Nat × Int × Nat)
  stalls  : List (Nat × Pipe × Nat × Nat)
deriving DecidableEq, Repr

/-- One item of a counter report (R708): its kind (0 committed counter of a transmit row, 1 next panel counter of a
tributary, 2 SA_HIGHEST_PN of a receive row, 3 last verified panel counter of a receive row), the row or port, the
value and the unused mark. -/
structure Report where
  kind   : Nat
  item   : Nat
  value  : Nat
  unused : Bool
deriving DecidableEq, Repr

/-- What the partner sends while the mirror link comes up (R702): its identity certificate and the Rymin signature
pair, its pair public keys, its nonce, the identity signature over them, the ML-KEM ciphertext, and the peer memory
it returns (R709). -/
structure PeerHello where
  idcInfo  : Octets
  edPub    : Octets
  mlPub    : Octets
  idcSigEd : Octets
  idcSigMl : Octets
  xPub     : Octets
  kemPub   : Octets
  nonce    : Octets
  sigEd    : Octets
  sigMl    : Octets
  kemCt    : Octets
  pairId   : Nat
  role     : Nat
  roleGen  : Nat
  healthy  : Bool
  memory   : List Report
  memoryValid : Bool
  reports  : List Report
deriving DecidableEq, Repr

/-- A heartbeat (R703), with whether its GCM tag and frame count were valid, and the final reports that come with a
relinquish or handover flag (R708, R715). `request` is a handover request of the partner (R713). -/
structure Heartbeat where
  valid      : Bool
  role       : Nat
  roleGen    : Nat
  healthy    : Bool
  sync       : Nat
  relinquish : Bool
  handover   : Bool
  request    : Bool
  reports    : List Report
deriving DecidableEq, Repr

/-- An item of R704 carried by a mirror update. `mem` is the sender's peer memory of the receiver for the item
(R709): present, its value, used. A key travels wrapped under the pair wrap key. -/
inductive MirrorItem where
  | saRow (row : Nat) (fields : List (Nat × Val)) (wrapped : Octets) (mem : Option Report)
  | saDelete (row : Nat)
  | emRow (row : Nat) (fields : List (Nat × Val))
  | emDelete (row : Nat)
  | binding (p sub : Nat) (value : Nat)
  | txAn (p an : Nat)
  | arm (p : Nat) (on : Bool)
  | flip (p phase mf : Nat)
  | policyActive (b k : Nat)
  | gateRow (row : Nat) (fields : List (Nat × Val)) (valid : Bool)
  | gateObj (p sub : Nat) (value : Nat)
  | tribCounter (p : Nat) (mem : Option Report)
  | reports (rs : List Report)
deriving DecidableEq, Repr

/-- A mirror update (R705): the role generations it carries and one item. -/
structure MirrorUpdate where
  senderGen   : Nat
  receiverGen : Nat
  item        : MirrorItem
deriving DecidableEq, Repr

/-- The commands of the block: one constructor per row of spec/opcode_table.json. -/
inductive Instr where
  /-- POWER_GOOD_FALL (R747). A main rail stays below 90 % of nominal for 2 µs, power-good becomes false and the device enters internal reset. -/
  | powerGoodFall
  /-- RST_N_ASSERT (R756). A low pulse on RST_N of 10 µs or more puts the device into internal reset, and every pin takes its reset state. -/
  | rstNAssert
  /-- INTERNAL_RESET_END (R760). Internal reset ends at the later of the RST_N rise and 1 ms after power-good, and start-up runs up to Hearth ready. -/
  | internalResetEnd (st : StartInput)
  /-- HEARTH_BANKED_IN_STEP (R760). The banked Hearth core finishes loading and comes into step, and HEARTH_BANKED reads 2. -/
  | hearthBankedInStep
  /-- MAIN_POWER_LOST (R691). Main power is lost, and the backup domain records the RTC second tl. -/
  | mainPowerLost
  /-- MAIN_POWER_RETURNED (R691). Main power returns, the backup domain records tr, and the unmonitored interval is reported. -/
  | mainPowerReturned (senseHigh : Bool) (tempHigh : Bool) (vbatLow : Bool)
  /-- VBAT_COLLAPSE (R692). VBAT falls below 1.6 V with main power absent, and the backup domain loses its contents. -/
  | vbatCollapse
  /-- BK_COMPARATOR_TRIP (R689). A backup-domain comparator trips; it latches BK_FIRST and BK_TRIPS and, with main power present, raises its alarm or event. -/
  | bkComparatorTrip (j : Nat)
  /-- BK_CLEAR (R689). A BK_CLEAR command clears the comparator latches, BK_FIRST and BK_TRIPS. -/
  | bkClear (sess v : Nat)
  /-- FLUE_DETECTOR_FIRE (R680). A Flue detector asserts, and the event counts in its kind's filter, possibly raising the kind's alarm. -/
  | flueDetectorFire (kind : Nat) (detB : Bool)
  /-- FLUE_LONE_RECOGNISED (R681). 1 µs after a firing with no agreement from the other detector, the event is recognised as lone and enters the disagreement filter. -/
  | flueLoneRecognised (kind : Nat)
  /-- ALM_ACK (R671). A mask written to ALM_ACK clears those bits of ALM_PENDING. -/
  | almAck (sess mask : Nat)
  /-- ALM_HOLD_CLEAR (R675). A network session with the DUAL_CONTROL role ends HOLD_CHANGES. -/
  | almHoldClear (sess v : Nat)
  /-- TJ_SAMPLE (R753). The 1 ms temperature measurement updates TJ_NOW and TJ_PEAK and may raise the junction warning. -/
  | tjSample (tj : Int)
  /-- WATCHDOG_EXPIRY (R697). The active core misses its 1 ms watchdog, causing a switch-over or a Kindling restart. -/
  | watchdogExpiry
  /-- HEARTH_MEMORY_ERROR (R697). A persistent parity error in the active core's memory causes a switch-over or a restart. -/
  | hearthMemoryError
  /-- HEARTH_CMD (R697). HEARTH_CMD = 1 makes the banked core active, if it is in step. -/
  | hearthCmd (sess v : Nat)
  /-- SWITCH_OVER_COMPLETE (R698). The 2 ms switch-over gap ends; cursors are lost and requests are executed again. -/
  | switchOverComplete
  /-- KINDLING_RESTART_COMPLETE (R699). A restart of both cores from the preferred image completes within 40 ms. -/
  | kindlingRestartComplete
  /-- OBJECT_WRITE (R107). A Silsy write to an object with no row of its own is checked under R139 and takes effect as its access code states. -/
  | objectWrite (sess addr : Nat) (words : List Nat) (pad : Nat)
  /-- SELECT (R135). A write to a window's SELECT moves the session's cursor and captures role generations. -/
  | select (sess win row : Nat)
  /-- OP_READ (R119). The selected row is copied into the staging row, and its version is captured. -/
  | opRead (sess win : Nat)
  /-- OP_COMMIT (R119). The staging row is checked and written to the selected row atomically. -/
  | opCommit (sess win : Nat) (badLine : Option Nat)
  /-- OP_COMMIT_IF_UNCHANGED (R119). The row is committed only if its version still equals the version captured at READ. -/
  | opCommitIfUnchanged (sess win : Nat) (badLine : Option Nat)
  /-- OP_DELETE (R119). The selected row is made empty, or the table's own delete behaviour applies. -/
  | opDelete (sess win : Nat)
  /-- OP_NEXT (R119). The cursor moves to the next non-empty row, or to no row. -/
  | opNext (sess win : Nat)
  /-- OP_CLEAR (R119). Every staging field is set to its default. -/
  | opClear (sess win : Nat)
  /-- FN_STOP (R127). FN_CTRL = 1 stops a function, beginning its drain or cancelling a pending start. -/
  | fnStop (sess addr : Nat)
  /-- FN_START (R127). FN_CTRL = 2 starts a function, or freezes its values for a pending start. -/
  | fnStart (sess addr : Nat)
  /-- FN_DRAIN_COMPLETE (R127). A function's drain completes, and it goes to STOPPED or begins its pending start. -/
  | fnDrainComplete (f : Fn)
  /-- FN_DRAIN_LIMIT (R129). A drain reaches 100 ms, and its remaining frames are discarded with event 0x07_0102. -/
  | fnDrainLimit (f : Fn)
  /-- FN_START_COMPLETE (R127). A function's start finishes checking and loading, and it goes to RUNNING, STOPPING or, on failure, STOPPED. -/
  | fnStartComplete (f : Fn)
  /-- EVT_POP (R148). Writing the head's sequence number removes the head of the event queue. -/
  | evtPop (sess v : Nat)
  /-- DC_NONCE_READ (R153). Each read of DC_NONCE issues a fresh proposal nonce. -/
  | dcNonceRead (sess : Nat)
  /-- P_ACTION_SUBMIT (R154). A signed proposal is checked and placed in the lowest empty slot with its window opened. -/
  | pActionSubmit (sess : Nat)
  /-- P_ACTION_APPROVE (R154). A second credential's approval within the window makes the proposed change, or ends the proposal unmade. -/
  | pActionApprove (sess : Nat)
  /-- P_ACTION_CANCEL (R159). A signed cancel frees the proposal slot with reason 1. -/
  | pActionCancel (sess : Nat)
  /-- DC_WINDOW_EXPIRY (R157). At t0 + W the proposal slot is freed, and event 0x07_0203 is raised with reason 0. -/
  | dcWindowExpiry (slot : Nat)
  /-- CLEAR_FRAME_RECEIVED (R356). A frame arrives on a clear interface and is filtered, classified, admitted, assigned a PN and enciphered in the E-pipe. -/
  | clearFrameReceived (p : Nat) (rx : RxFrame)
  /-- LINE_FRAME_RECEIVED (R350). A frame arrives on a line interface and is filtered, matched to its SA, verified, replay-checked and classified in the D-pipe. -/
  | lineFrameReceived (p : Nat) (rx : RxFrame)
  /-- KEYSTREAM_MISS_FILLED (R69). After a hot-slot miss, the first keystream block arrives and the waiting frame proceeds. -/
  | keystreamMissFilled (b : Nat) (pipe : Pipe)
  /-- PAUSE_REPEAT (R362). Half of the pause quanta time passes while still above XON_THRESH, and the PAUSE is repeated. -/
  | pauseRepeat (p prio : Nat)
  /-- PEER_PAUSE_EXPIRY (R364). A pause received from the partner runs out, and transmission toward it resumes. -/
  | peerPauseExpiry (p prio : Nat)
  /-- BEAT_PARITY_ERROR (R41). A receiver detects a parity error in a beat and requests its replay. -/
  | beatParityError (e : ParityError)
  /-- SECTOR_TRANSFORM_DONE (R445). The sector engines finish a SECTOR frame, which then enters the crypto island and takes its SA and PN. -/
  | sectorTransformDone (b : Nat) (pipe : Pipe)
  /-- FRAME_DUE (R90). A class D frame reaches its due instant D after its first bit arrived. -/
  | frameDue (p : Nat)
  /-- FRAME_SELECTED (R500). The link is free, and the scheduler chooses and starts the next frame. -/
  | frameSelected (p : Nat)
  /-- CLASS_C_UNDERRUN (R85). The egress needs a word not yet arrived; the frame ends with a bad FCS and CT_START rises. -/
  | classCUnderrun (p : Nat)
  /-- FRAME_TX_END (R507). A frame's last byte is sent; credit and deficit are charged and buffer space is freed. -/
  | frameTxEnd (p : Nat) (txTs : Nat)
  /-- GATE_EDGE (R511). Device time reaches a gate-list entry boundary, and the gate mask in force changes. -/
  | gateEdge (p : Nat)
  /-- GATE_TAKEOVER (R515). At the takeover instant T, the admin list becomes the operating list. -/
  | gateTakeover (p : Nat)
  /-- STATION_LEARN (R311). The learn arbiter serves a learn request, adding, refreshing or moving an entry, or refusing it. -/
  | stationLearn (b : Nat)
  /-- AGE_SWEEP_TICK (R314). On each one-second tick of the bolt, the sweep retires learned entries that have reached AGE_TIME. -/
  | ageSweepTick (b : Nat)
  /-- STN_FLUSH (R316). A command removes the learned station entries of one local port or of all ports. -/
  | stnFlush (sess b v : Nat)
  /-- STN_FLUSH_COMPLETE (R316). A flush completes, and event 0x05_0004 is raised. -/
  | stnFlushComplete (b : Nat)
  /-- POLICY_ACTIVE (R305). A write of POLICY_ACTIVE switches the active policy bank at the next beat boundary. -/
  | policyActive (sess b v : Nat)
  /-- CM_LEVEL (R187). A CM_LEVEL write changes the countermeasure level at the next beat boundary and discards unpinned keystream. -/
  | cmLevel (sess b v : Nat)
  /-- PN_WARN (R203). A write of a PN warning threshold may raise warnings of installed SAs at their next frame. -/
  | pnWarn (sess b : Nat) (xpn : Bool) (v : Nat)
  /-- TW_PANEL_LIMIT (R222). A write of the panel limit stops or resumes tributaries against their per-key counts. -/
  | twPanelLimit (sess b v : Nat)
  /-- TX_SA_AN (R239). A write to TX_SA_ANn binds or unbinds a transmit SA of the port. -/
  | txSaAn (sess p n v : Nat)
  /-- TX_AN (R241). A write to TX_AN is the switch point to the newly requested transmit AN. -/
  | txAn (sess p v : Nat)
  /-- SA_RETIRED (R233). The last frame of a RETIRING SA passes the crypto island, and the row becomes EMPTY. -/
  | saRetired (sa : Nat)
  /-- LEGACY_GO (R274). A clear key is loaded from the legacy register into an AWAITING_KEY row. -/
  | legacyGo (sess v : Nat)
  /-- WRAP (R258). WRAP_KEY is wrapped into a Masko blob in the selected staging slot. -/
  | wrap (sess v : Nat)
  /-- TW_ARM_FLIP (R267). TW_ARM = 1 arms a transmit key-phase flip. -/
  | twArmFlip (sess p : Nat)
  /-- TW_ARM_CANCEL (R267). TW_ARM = 2 cancels an armed flip. -/
  | twArmCancel (sess p : Nat)
  /-- TW_MULTIFRAME_BOUNDARY (R267). A transmit multiframe boundary is reached, and an armed tributary flips phase. -/
  | twMultiframeBoundary (b g : Nat)
  /-- TW_TX_PHASE_RELEASE (R267). The last panel under the old phase passes the crypto island, and that phase row is emptied. -/
  | twTxPhaseRelease (p : Nat)
  /-- TW_PANEL_SENT (R402). A tributary sends a panel's tag unit, commits its filler gap, and its counters advance. -/
  | twPanelSent (p : Nat)
  /-- TW_OVERHEAD_RECEIVED (R414). A received overhead unit updates frame and multiframe alignment, calendar reports and the receive phase hold. -/
  | twOverheadReceived (ll : Nat) (oh : OverheadRx)
  /-- TW_PANEL_RECEIVED (R409). A received panel is delineated, its counter recovered, and it is verified under a phase row and decoded. -/
  | twPanelReceived (p : Nat) (rx : PanelRx)
  /-- TWILL_DEFECT_TIMER (R416). A Twill lane condition lasts 3 ms, and LOF or LOM is detected or cleared. -/
  | twillDefectTimer (ll : Nat) (lom : Bool)
  /-- TG_ACQ_HOLD_EXPIRY (R420). The group stays defect-free for TG_ACQ_HOLD and moves from ACQUIRE to NORMAL. -/
  | tgAcqHoldExpiry (b g : Nat)
  /-- TG_FORCE_ACQ (R420). Writing TG_FORCE_ACQ = 1 moves a NORMAL group to ACQUIRE. -/
  | tgForceAcq (sess v : Nat)
  /-- DEVICE_SECOND_BOUNDARY (R429). Device time reaches a whole second, and every bolt latches its second. -/
  | deviceSecondBoundary (m : SecondInput)
  /-- TIME_SET (R533). TIME_SET steps device time to the value written. -/
  | timeSet (sess : Nat) (words : List Nat)
  /-- TIME_ADJ (R533). TIME_ADJ starts a slew of device time by the signed offset. -/
  | timeAdj (sess v : Nat)
  /-- TIME_FREQ (R533). A TIME_FREQ write changes the rate of device time within 1 µs. -/
  | timeFreq (sess v : Nat)
  /-- PPS_RISE (R540). Device time reaches a whole second plus PPS_OFFSET, and PPS_OUT rises. -/
  | ppsRise
  /-- PPS_FALL (R541). PPS_WIDTH after the rise, PPS_OUT falls. -/
  | ppsFall
  /-- TS_IN_EDGE (R538). A selected edge on a timestamp input is timestamped and queued, or lost. -/
  | tsInEdge (i : Nat) (rising : Bool) (edge : EdgeInput)
  /-- TSI_POP (R539). Writing the head sequence number removes the head timestamp of the input. -/
  | tsiPop (sess i v : Nat)
  /-- TC_ERR_MAX (R552). A write of 0 resets TC_ERR_MAX. -/
  | tcErrMax (sess p v : Nat)
  /-- TJ_PEAK (R753). Any write sets TJ_PEAK to TJ_NOW. -/
  | tjPeak (sess v : Nat)
  /-- LANE_SIGNAL_DETECTED (R472). Signal has lasted 10 µs in NO_SIGNAL, and a full acquisition starts. -/
  | laneSignalDetected (n : Nat)
  /-- LANE_SIGNAL_LOST (R471). The signal has stayed below 60 mV for 1 µs, and the lane moves to NO_SIGNAL. -/
  | laneSignalLost (n : Nat)
  /-- LANE_LOCKED (R472). The acquisition or wake completes, and the lane enters LOCKED. The offset is `ppm`/100 ppm, below the
  reference where `slow`. -/
  | laneLocked (n : Nat) (slow : Bool) (ppm snr : Nat)
  /-- LANE_ACQ_TIMEOUT (R473). An acquisition misses its bound and restarts from the peaking search. -/
  | laneAcqTimeout (n : Nat)
  /-- LANE_LOCK_LOST (R474). The recovered frequency or phase leaves its range, and a full acquisition restarts. -/
  | laneLockLost (n : Nat)
  /-- LANE_SLEEP (R480). LN_SLEEP = 1 puts the lane to sleep with its transmitter idle. -/
  | laneSleep (sess n : Nat)
  /-- LANE_WAKE (R481). LN_SLEEP = 0 starts a wake, and the loops restart. -/
  | laneWake (sess n : Nat)
  /-- LANE_WAKE_TX_ACTIVE (R481). 1 ms into a wake, the transmitter turns on and the receiver starts from the kept settings. -/
  | laneWakeTxActive (n : Nat)
  /-- LANE_WAKE_TIMEOUT (R482). A wake has not locked by tw + 2.5 ms and proceeds as from NO_SIGNAL. -/
  | laneWakeTimeout (n : Nat)
  /-- LN_FFE (R466). A write changes the transmit equaliser taps within 1 µs. -/
  | lnFfe (sess n v : Nat)
  /-- LN_CTLE (R468). A write sets the peaking used at the next full acquisition. -/
  | lnCtle (sess n v : Nat)
  /-- REF_FAULT_DECLARED (R478). REFCLK is absent or out of tolerance, and the bolt's lanes go to REF_FAULT. -/
  | refFaultDeclared (b : Nat) (absent : Bool)
  /-- REF_FAULT_CLEARED (R479). The reference has been good for 1 ms, and the lanes return to NO_SIGNAL. -/
  | refFaultCleared (b : Nat)
  /-- PORT_KIND (R331). A change of PORT_KIND returns the kind-bound objects to their defaults and unbinds SAs. -/
  | portKind (sess p v : Nat)
  /-- CT_START (R83). A write sets the class C threshold from the next frame. -/
  | ctStart (sess p v : Nat)
  /-- XOFF_XON_THRESHOLD (R367). A write of XOFF_THRESH or XON_THRESH takes effect at the next change of INGRESS_BYTES. -/
  | xoffXonThreshold (sess p : Nat) (xon : Bool) (v : Nat)
  /-- Q_IDLE_SLOPE (R508). A slope write changes the shaper; writing 0 turns it off and sets the credit to 0. -/
  | qIdleSlope (sess v : Nat)
  /-- MGMT_IN (R582). Writing MGMT_IN = 0 closes the port's in-band sessions. -/
  | mgmtIn (sess p v : Nat)
  /-- T1S_ENABLE (R582). Writing T1S_ENABLE = 0 turns the PHY off and closes field-network sessions. -/
  | t1sEnable (sess v : Nat)
  /-- SILSY_ETYPE (R586). A write changes the Silsy EtherType after its response. -/
  | silsyEtype (sess v : Nat)
  /-- I3C_PRIVATE_WRITE (R565). A private write delivers all or part of a Silsy request on I3C. -/
  | i3cPrivateWrite (w : I3cWrite)
  /-- I3C_PRIVATE_READ (R565). A private read returns all or part of a ready response. -/
  | i3cPrivateRead (r : I3cRead)
  /-- IBI_ACCEPTED (R566). The controller accepts an IBI, and the next notifying record may raise another. -/
  | ibiAccepted
  /-- ENTDAA (R563). The device takes part in dynamic address assignment. -/
  | entdaa (dyn : Nat)
  /-- SETDASA (R563). A dynamic address is set from the static address. -/
  | setdasa (static dyn : Nat)
  /-- RSTDAA (R563). The dynamic address is reset. -/
  | rstdaa
  /-- ENEC (R563). Target events and interrupts are enabled. -/
  | enec (bits : Nat)
  /-- DISEC (R563). Target events, interrupts or Hot-Join are disabled. -/
  | disec (bits : Nat)
  /-- SETMWL (R565). The maximum write length is set. -/
  | setmwl (v : Nat)
  /-- SETMRL (R565). The maximum read length is set. -/
  | setmrl (v : Nat)
  /-- GETMWL (R564). The maximum write length is returned. -/
  | getmwl
  /-- GETMRL (R564). The maximum read length is returned. -/
  | getmrl
  /-- GETPID (R564). The provisional ID is returned. -/
  | getpid
  /-- GETBCR (R564). BCR 0x26 is returned. -/
  | getbcr
  /-- GETDCR (R564). DCR 0x00 is returned. -/
  | getdcr
  /-- GETSTATUS (R563). The target status is returned. -/
  | getstatus
  /-- GETMXDS (R563). The maximum data speed is returned. -/
  | getmxds
  /-- GETCAPS (R564). HDR-DDR is reported as the only HDR mode. -/
  | getcaps
  /-- ENTHDR0 (R563). The bus enters HDR-DDR mode for Silsy transfers. -/
  | enthdr0
  /-- UNSUPPORTED_CCC (R563). Another CCC is NACKed when direct and ignored when broadcast. -/
  | unsupportedCcc (code : Nat) (direct : Bool)
  /-- T1S_FRAME_RECEIVED (R570). A field-network frame is accepted as Silsy, PLAIN or mesh, or discarded. -/
  | t1sFrameReceived (fr : Octets) (fcsOk : Bool)
  /-- T1S_BACKOFF_EXPIRY (R569). A collision backoff ends, and the frame is retried or abandoned after 16 attempts. -/
  | t1sBackoffExpiry (won : Bool)
  /-- INBAND_SILSY_RECEIVED (R571). An in-band Silsy frame is removed from the data path and passed through the rate limit to Hearth. -/
  | inbandSilsyReceived (p : Nat) (fr : Octets) (tagged : Bool)
  /-- HELLO (R578). A HELLO assigns a session and starts the device's handshake jobs, or is refused. -/
  | hello (via : Via) (body : Octets)
  /-- HELLO_REPLY_SENT (R578). The handshake jobs complete, and HELLO_REPLY is sent. -/
  | helloReplySent (s : Nat)
  /-- AUTH (R578). An AUTH message's signatures are verified. -/
  | auth (s : Nat) (via : Via) (body : Octets)
  /-- AUTH_OK_SENT (R578). The AUTH verifies complete; AUTH_OK is sent and the session opens. -/
  | authOkSent (s : Nat)
  /-- AUTH_TIMEOUT (R581). No AUTH arrives within 10 s of HELLO_REPLY, and the session is refused and freed. -/
  | authTimeout (s : Nat)
  /-- DATA_FRAME_RECEIVED (R580). An encrypted DATA frame is checked, decrypted and its Silsy request queued. -/
  | dataFrameReceived (s : Nat) (via : Via) (fr : Octets)
  /-- CLOSE_RECEIVED (R582). The peer's CLOSE ends the session. -/
  | closeReceived (s : Nat) (via : Via) (fr : Octets)
  /-- PLAIN_RECEIVED (R584). A PLAIN message is answered only for the identity objects. -/
  | plainReceived (s : Nat) (via : Via) (broadcast : Bool) (msg : Octets)
  /-- SESSION_IDLE_EXPIRY (R582). No valid frame for SESS_IDLE seconds closes the session. -/
  | sessionIdleExpiry (s : Nat)
  /-- SESS_CLOSE (R582). A command closes session s. -/
  | sessClose (sess s v : Nat)
  /-- MESH_FRAME_RECEIVED (R723). A mesh frame is checked for epoch and MAC, then delivered, recorded as a hello, or forwarded. -/
  | meshFrameReceived (p : Nat) (tagged : Bool) (fr : Octets)
  /-- MESH_HOST_FRAME (R722). A host mesh frame from a clear port or the field network is given a MAC and hop count and entered into the mesh. -/
  | meshHostFrame (via : Via) (fr : Octets)
  /-- MESH_HELLO_SEND (R725). Once per second, a hello is sent on each mesh port. -/
  | meshHelloSend
  /-- MESH_NEIGHBOUR_DEAD (R725). A listed neighbour is silent for MESH_DEAD, and mesh PARTITION is declared. -/
  | meshNeighbourDead (m : Nat)
  /-- MESH_KEY_LOAD (R724). An epoch key is loaded from a blob staging slot. -/
  | meshKeyLoad (sess v : Nat)
  /-- MESH_ADVANCE (R724). The device advances to the next mesh epoch. -/
  | meshAdvance (sess v : Nat)
  /-- MESH_ID (R720). A write sets bits [9:1] of the mesh ID while Twill is stopped. -/
  | meshId (sess v : Nat)
  /-- JOB_GO_SUBMIT (R647). JOB_GO = 1 queues the session's Retort job. -/
  | jobGoSubmit (sess : Nat)
  /-- JOB_GO_ABORT (R645). JOB_GO = 2 removes a queued job or stops a running one. -/
  | jobGoAbort (sess : Nat)
  /-- JOB_START (R628). Retort becomes free and starts the next queued job. -/
  | jobStart
  /-- JOB_COMPLETE (R636). A job's fixed run time ends and its status and results are written. -/
  | jobComplete (disagree : Bool)
  /-- JOB_ABORT_ERASED (R645). 16 µs after an abort, the erasure completes and the status becomes ABORTED. -/
  | jobAbortErased
  /-- LC_REQUEST_TEST_LOCKED (R595). A request for TEST_LOCKED burns the codeword or closes TEST_OPEN. -/
  | lcRequestTestLocked (sess : Nat)
  /-- LC_REQUEST_TEST_OPEN (R595). A request for TEST_OPEN consumes a test token under a Rymin certificate. -/
  | lcRequestTestOpen (sess : Nat)
  /-- LC_REQUEST_FACTORY (R595). A request for FACTORY moves the device out of TEST_OPEN. -/
  | lcRequestFactory (sess : Nat)
  /-- LC_REQUEST_ISSUED (R595). A request for ISSUED moves the device from FACTORY. -/
  | lcRequestIssued (sess : Nat)
  /-- LC_REQUEST_SERVICE (R595). A request for SERVICE ends commissioning if its conditions hold. -/
  | lcRequestService (sess : Nat)
  /-- LC_REQUEST_RETURN (R596). A request for RETURN burns the codeword with zeroisation and Ember erasure. -/
  | lcRequestReturn (sess : Nat)
  /-- LC_REQUEST_END (R596). A request for END scraps the device with erasure. -/
  | lcRequestEnd (sess : Nat)
  /-- LC_RESUME_BURN (R598). In INVALID, a write of LC_RESUME's target completes the interrupted burn. -/
  | lcResumeBurn (sess v : Nat)
  /-- IDC_INSTALL (R605). The identity certificate is checked and installed. -/
  | idcInstall (sess v : Nat)
  /-- STMT_GO (R606). A signed identity statement is produced over the session's nonce. -/
  | stmtGo (sess v : Nat)
  /-- DBG_NONCE_READ (R621). Each read of DBG_NONCE issues a fresh debug nonce. -/
  | dbgNonceRead (sess : Nat)
  /-- DBG_CMD_ACCEPT (R621). DBG_CMD = 1 checks the staged debug certificate and puts it in force. -/
  | dbgCmdAccept (sess : Nat)
  /-- DBG_CMD_END (R622). DBG_CMD = 2 ends the certificate in force. -/
  | dbgCmdEnd (sess : Nat)
  /-- DBG_CERT_EXPIRY (R622). Device time leaves the certificate's validity window, and the certificate ends. -/
  | dbgCertExpiry
  /-- DBG_DATA_READ (R623). A read of DBG_DATA returns 96 bytes of the selected memory and advances DBG_ADDR. -/
  | dbgDataRead (sess : Nat)
  /-- DBG_HEARTH_HALT (R624). DBG_HEARTH = 1 halts the banked core. -/
  | dbgHearthHalt (sess : Nat)
  /-- DBG_HEARTH_RESUME (R624). DBG_HEARTH = 2 resumes the banked core. -/
  | dbgHearthResume (sess : Nat)
  /-- CRED_ENROL_DIRECT (R609). A direct write of CRED_ENROL on session 0 enrols a credential in the permitted cases. -/
  | credEnrolDirect (sess c : Nat) (value : Octets)
  /-- FW_CHUNK (R616). A firmware chunk is written into the non-preferred slot or the staging range. -/
  | fwChunk (sess : Nat) (value : Octets)
  /-- FW_VERIFY (R616). FW_CMD 1 verifies the image in the non-preferred slot. -/
  | fwVerify (sess : Nat) (badLine : Option Nat)
  /-- FW_LOAD_BANKED (R616). FW_CMD 2 restarts the banked core on the verified image. -/
  | fwLoadBanked (sess : Nat)
  /-- FW_SWITCH (R616). FW_CMD 3 switches over to the core running the new image. -/
  | fwSwitch (sess : Nat)
  /-- FW_LOAD_OTHER (R616). FW_CMD 4 restarts the now-banked core on the new image. -/
  | fwLoadOther (sess : Nat)
  /-- FW_REVERT (R616). FW_CMD 5 switches back to the core active before step 2. -/
  | fwRevert (sess : Nat)
  /-- FW_COMMIT (R616). FW_CMD 6 makes the new slot preferred and raises the floor. -/
  | fwCommit (sess : Nat)
  /-- FW_ABANDON (R616). FW_CMD 7 returns both cores to the preferred image. -/
  | fwAbandon (sess : Nat)
  /-- FW_ERASE (R616). FW_CMD 8 empties the non-preferred slot. -/
  | fwErase (sess : Nat)
  /-- SM_CH_ENABLE (R653). A write enables a channel and starts its training, or disables it. -/
  | smChEnable (sess c v : Nat)
  /-- SM_CHANNEL_TRAINED (R653). Training completes, and the channel is READY or FAILED. -/
  | smChannelTrained (c : Nat) (ok : Bool)
  /-- SM_ACC_DATA_WRITE (R666). 192 bytes are stored in a host-accessible range, and the offset advances. -/
  | smAccDataWrite (sess : Nat) (value : Octets) (badLine : Option Nat)
  /-- SM_ACC_DATA_READ (R666). 192 bytes are read from a range, and the offset advances. -/
  | smAccDataRead (sess : Nat) (badLine : Option Nat)
  /-- PC_SEL (R730). A write selects a counter's event and resets the counter to 0. -/
  | pcSel (sess b i v : Nat)
  /-- PC_CLEAR (R734). The masked counters are set to 0 at one instant. -/
  | pcClear (sess b mask : Nat)
  /-- PC_VAL_READ (R735). A counter is sampled at one instant, recorded in PC_SAMPLED. -/
  | pcValRead (sess b i : Nat)
  /-- PAIR_JOIN_SET (R713). PAIR_JOIN = 1 moves a Cold device to Banked. -/
  | pairJoinSet (sess : Nat)
  /-- PAIR_JOIN_CLEAR (R713). PAIR_JOIN = 0 returns the device to Cold, a Lit device relinquishing first. -/
  | pairJoinClear (sess : Nat)
  /-- PAIR_CMD_TAKE (R713). A Banked device takes over as Lit. -/
  | pairCmdTake (sess : Nat)
  /-- PAIR_CMD_GIVE (R715). A Lit device hands over to its partner. -/
  | pairCmdGive (sess : Nat)
  /-- MIRROR_LINK_ATTEMPT (R702). Each second without a link, the mirror link bring-up is attempted. -/
  | mirrorLinkAttempt (ok : Bool)
  /-- MIRROR_LINK_UP (R702). Authentication and key derivation complete; peer memories are returned and a resync starts. -/
  | mirrorLinkUp (peer : PeerHello)
  /-- HEARTBEAT_SEND (R703). Every 1 µs, a heartbeat is sent on each mirror lane. -/
  | heartbeatSend
  /-- HEARTBEAT_RECEIVED (R703). A valid heartbeat updates the partner's role, health and flags. -/
  | heartbeatReceived (hb : Heartbeat)
  /-- HEARTBEAT_LOSS (R703). No valid heartbeat for 10 µs; the link is down and a witness claim or PARTITION follows. -/
  | heartbeatLoss
  /-- WITNESS_CLAIM_DONE (R714). The WITNESS sampling interval ends, and the device drives WITNESS and becomes Lit, or stays Banked. -/
  | witnessClaimDone (stayedHigh : Bool)
  /-- MIRROR_UPDATE_RECEIVED (R705). A mirror update is applied in order, or discarded and a resync started. -/
  | mirrorUpdateReceived (u : MirrorUpdate)
  /-- RESYNC_COMPLETE (R705). A full resync completes, and PAIR_SYNC reads 2. -/
  | resyncComplete
  /-- COUNTER_REPORT (R708). Every 100 µs, a Lit device reports its counters to its partner. -/
  | counterReport
  /-- PAIR_HOLDOFF_EXPIRY (R716). The primary's revert hold-off completes, and the partner hands over to it. -/
  | pairHoldoffExpiry
  /-- PAIR_WATCH_TIMEOUT (R717). A watched bolt's line lanes report LOS or LOL for 10 ms, and the device becomes unhealthy. -/
  | pairWatchTimeout (b : Nat)
  /-- PCS_ALIGNMENT_CHANGE (R337). An interface's PCS gains or loses block lock and alignment, or its RS-FEC gains or loses alignment, and the link may go up or down. -/
  | pcsAlignmentChange (p : Nat) (pcs fec : Bool)
  /-- LINK_FAULT_ORDERED_SETS (R338). Local-fault or remote-fault ordered sets begin or stop arriving on an interface, changing FAULT_RX and what the interface transmits. -/
  | linkFaultOrderedSets (p kind : Nat)
  /-- PATTERN_CHECKER_SYNC (R485). A lane's PRBS checker synchronises to the received sequence, or loses it, and PRBS_SYNC changes. The levels
  received come with the one before the first (R463). -/
  | patternCheckerSync (n : Nat) (sync : Bool) (before : Nat) (levels : List Nat)
  /-- FLUE_DETECTOR_RELEASE (R677). A Flue detector's condition ends and its output is released, so that it can fire again. -/
  | flueDetectorRelease (kind : Nat) (detB : Bool)
  /-- BK_COMPARATOR_RELEASE (R688). A backup-domain comparator output releases past its hysteresis, so that a later trip can be counted. -/
  | bkComparatorRelease (j : Nat)
  /-- SLEW_COMPLETE (R533). A TIME_ADJ slew has applied its whole offset; device time returns to the TIME_FREQ rate and TIME_ADJ_LEFT reads 0. -/
  | slewComplete
  /-- RTC_SECOND_TICK (R687). The backup-domain RTC counts one second from its 32.768 kHz crystal, with or without main power. -/
  | rtcSecondTick
  /-- GENERATOR_RESEED_RETRY (R179). One millisecond after a failed reseed of a pipe's random bit generator, the reseed is tried again. -/
  | generatorReseedRetry (b : Nat) (pipe : Pipe) (ok : Bool)
  /-- T1S_COLLISION (R569). A collision is detected on the field-network segment during transmission; the MAC jams and starts a backoff. -/
  | t1sCollision
  /-- PLAIN_REPLY_DELAY_EXPIRY (R570). The random 0 to 10 ms delay before answering a broadcast PLAIN request ends, and the unicast answer is sent. -/
  | plainReplyDelayExpiry
  /-- TAKEOVER_COMPLETE (R714). Up to 50 µs after detection, the device becomes Lit; line egress stops sending idle or filler and admission begins. -/
  | takeoverComplete
deriving DecidableEq, Repr

end Sys2Proof
end

