-- ==== Sys2Proof/Config.lean ====
section
/-! DEFINITION. Config.lean: what an implementation or a published standard fixes and the spec leaves open. Every
constant here is opaque: it has no body, so nothing can evaluate it and every claim holds whatever it is. -/

namespace Sys2Proof

/-- The free values: draws of the TRNG and every other value the spec leaves open, one for each count of
`State.free` (log entry 4). -/
opaque Config.freeNat : Nat → Nat

/-- ML-DSA-65 with an empty context (R152, R633): public key, message, signature (log entry 6). -/
opaque Config.mlVerify : Octets → Octets → Octets → Bool

/-- ML-DSA-65 signing with an empty context: seed, message, randomness; none where none of the 64 attempts is accepted
(R635, log entry 6). -/
opaque Config.mlSign : Octets → Octets → Octets → Option Octets

/-- The ML-DSA-65 public key of a seed (log entry 6). -/
opaque Config.mlPub : Octets → Octets

/-- ML-KEM-768 encapsulation: public key, randomness; ciphertext and shared secret (log entry 6). -/
opaque Config.kemEncaps : Octets → Octets → Octets × Octets

/-- ML-KEM-768 decapsulation: private seed, ciphertext (log entry 6). -/
opaque Config.kemDecaps : Octets → Octets → Octets

/-- The ML-KEM-768 public key of a seed (log entry 6). -/
opaque Config.kemPub : Octets → Octets

/-- The Rymin public keys held in Kindling (R590): role number, Ed25519 or ML-DSA-65 half (log entry 6). -/
opaque Config.ryminEd : Nat → Octets
opaque Config.ryminMl : Nat → Octets

/-- What a crypto island has counted up to an elapsed instant in ns (R731, R732): pipe number (bolt × 2, plus 1
for D), class (0 clocks, 1 slots retired, 2 wasted, 3 back-starved, 4 clocks that waited for keystream, 5 sector-engine clocks, 6 sector frames waiting).
Free, as no rule fixes how clocks fall (log entry 11). -/
opaque Config.slotCount : Nat → Nat → Nat → Nat

/-- The draw of a pipe's generator for a block's dummy rounds (R176, R178): pipe number, how often the level changed,
block. -/
opaque Config.dummyDraw : Nat → Nat → Nat → Nat

/-- The signal-to-noise ratio that a full acquisition measures on a lane at a peaking (R467, R472): lane, acquisitions begun, peaking.
It varies with noise, so that it is free. -/
opaque Config.ctleSnr : Nat → Nat → Nat → Nat

/-- The bits that the PCS and FEC of IEEE 802.3 put on a lane of an interface for a frame's bytes (R335): LANE_MODE, lane of
the interface, bytes with FCS (log entry 114). -/
opaque Config.pcsBits : Nat → Nat → Octets → List Nat

/-- A 24-bit word of a memory read raw whose row layout the spec does not give: the memory of DBG_MEM, the word's address, and
what the row holds, its keys left out (R617, R623, log entry 7). -/
opaque Config.rawWord : Nat → Nat → Octets → BitVec 24

/-- An X.509, firmware or blob byte layout the spec does not give, as a function of what it holds (log entry 7). -/
opaque Config.layout : Nat → Octets → Octets

end Sys2Proof
end

