-- ==== Sys2Proof/Machine/State.lean ====
section
/-! DEFINITION. Machine/State.lean: the state of the device as plain data, and the state right after reset.
Every numbered object, table row and staging row is an entry of `objs` under the spec's own address; what is not an
object is a typed field of one of the structures below. Nothing here computes but the reset values. -/

namespace Sys2Proof.Machine

/-- The three parts of the family (R1). -/
inductive Part where
  | nz6412
  | nz3206
  | nz1603
deriving DecidableEq, Repr

/-- Where the device is in its start (R756, R760, R614): internal reset, Kindling recovery, or Hearth ready. -/
inductive Phase where
  | reset
  | recovery
  | ready
deriving DecidableEq, Repr

/-- The name of one stored value. `dev` is an object of the device at its 24-bit address (R100); `ses` an object or
staging field that is held per session (R114, R153); `cur` a mark the device keeps beside a cursor (R136, R137: field
0 a role change since the select, 1 lost in a switch-over); `row` a field of a table row, by window index, row address
and sub-index (R115, R116), with fields from 0x100 on for what no sub-index shows (keys, R226). -/
inductive Key where
  | dev (addr : Nat)
  | ses (s addr : Nat)
  | cur (s win field : Nat)
  | row (win row field : Nat)
deriving DecidableEq, Repr

/-- The object types (R103). -/
inductive Ty where
  | bool
  | u8
  | u16
  | u24
  | i24
  | u48
  | u72
  | time96
  | octets (n : Nat)
deriving DecidableEq, Repr

/-- The access codes (R107). -/
inductive Access where
  | ro
  | rw
  | wo
  | rws
  | dc
  | cmd
deriving DecidableEq, Repr

/-- A row of an object table: type, access and default (R20). A default "per part", "per device", "per strap" or a
dash is not stored: the read gives the value. -/
structure Entry where
  ty  : Ty
  acc : Access
  dflt : Val
deriving DecidableEq, Repr

/-- Sparse storage of objects and rows: keys rising, no entry equal to the reset value of its key. -/
abbrev Store := List (Key × Val)

/-- A sparse map by number: keys rising. -/
abbrev FMap (α : Type) := List (Nat × α)

/-- Sparse bytes: addresses rising, no byte 0 listed (an unlisted byte reads 0). -/
abbrev Mem := List Host.Cell

/-- The answer to a host request (R107, R138). -/
inductive Answer where
  | ok
  | abort (code : Nat)
  | value (v : Val)
deriving DecidableEq, Repr

/-- Where a frame in a pipe stands: past the crypto island's gate, waiting for a hot slot (R218), waiting for its first
keystream block (R69), or waiting for the sector engine (R445, R446). -/
inductive Stage where
  | passed
  | waitSlot
  | waitKey
  | waitSector
deriving DecidableEq, Repr

/-- A word of a beat with its parity bit (R38). -/
structure BeatWord where
  data   : BitVec 24
  parity : Bool
deriving DecidableEq, Repr

/-- A frame descriptor of the beat sideband (R37): whether it describes a Twill panel, the frame's serial or the
tributary, the panel's number, the words in which it starts and ends, the valid bytes of the end word, port, forwarding
class and poison flag. -/
structure BeatItem where
  panel  : Bool
  id     : Nat
  seq    : Nat
  start  : Option Nat
  stop   : Option Nat
  valid  : Nat
  port   : Nat
  cls    : Nat
  poison : Bool
deriving DecidableEq, Repr

/-- A beat (R34 to R38): its number at its checking point, its 32 words, its frame descriptors, and the sideband's own
parity bit. -/
structure Beat where
  no     : Nat
  words  : List BeatWord
  items  : List BeatItem
  parity : Bool
deriving DecidableEq, Repr

/-- What a checking point asked to be replayed (R41): a beat it holds, a beat of what is arriving, or a table row. -/
inductive Crossing where
  | beat (no : Nat)
  | passing (no : Nat)
  | row (table row word : Nat)
deriving DecidableEq, Repr

/-- A checking point of a pipe (R39, R40): the last 8 beats and the last 8 rows (table, row) it delivered, the oldest
first, the number of its next beat, the replay not yet followed by a new delivery, and the elapsed instant of its last
delivery. -/
structure PointState where
  beats  : List Beat := []
  rows   : List (Nat × Nat) := []
  next   : Nat := 0
  failed : Option Crossing := none
  at_    : Nat := 0
deriving DecidableEq, Repr

/-- What the beats of a frame that is still arriving have met: a replay (R41), poison (R44), in its first beat (R45), and
a station row that its lookup found faulted (R319). -/
structure Arriving where
  replayed : Bool := false
  poison  : Bool := false
  first   : Bool := false
  station : Bool := false
deriving DecidableEq, Repr

/-- A frame the device holds, from admission to its last bit. `bytes` runs from the destination address to the last
byte before the FCS, as it now is; `bad` asks for the bad FCS of R46; `line` is the line length of R351, FCS included;
`prio` and `iface` are the PCP and the clear interface its bytes count on (R361, R363); `due` is the class D due
instant (R90), `rxTs` the receive timestamp, both in 2^-16 ns; `tc` the residence written in the same unit (R548); `bypass` a frame
with no SecTAG (R352); `started` that its transmission had begun when its end was checked (R357), `ct` the CT_START it
then began with (R83);
`opened` what its SA made of a received frame, the ICV verdict and the clear bytes (R276); `pin` that its SA's hot slot
holds its keystream (R215), `blocks` the keystream blocks of its payload (R172), `sector` the stream whose engine transforms it (R435, R449); `behind` that an earlier frame of its SA was in the pipe when it came (R248); `grown` the bytes its SA added (R370); `trace` its tracer
points in ns after point 0 (R740). -/
structure Frame where
  id     : Nat
  b      : Nat
  pipe   : Pipe
  inPort : Nat
  outPort : Nat
  queue  : Nat
  cls    : Nat
  bytes  : Octets
  bad    : Bool
  poison : Bool
  rxTs   : Nat
  due    : Option Nat
  late   : Bool
  sa     : Option Nat
  pn     : Nat
  inLen  : Nat
  line   : Nat
  prio   : Nat
  iface  : Option Nat
  stage  : Stage
  stream : Option Nat
  sector : Option Nat
  sci    : Octets
  vid    : Nat
  tc     : Option Int
  bypass : Bool
  started : Bool
  ct     : Nat
  replayed : Bool
  opened : Option (Bool × Octets)
  missed : Bool
  pin    : Bool
  blocks : Nat
  behind : Bool
  grown  : Nat
  early  : Bool
  trace  : Option (List Nat)
deriving DecidableEq, Repr

/-- A hot slot (R61): its owner (an SA number, or 65,536 + the SA row of a Twill key), the first counter value whose
keystream it holds, how many counters it holds, and the counter values that are final and keep their keystream in it
(R215). -/
structure HotSlot where
  owner : Nat
  base  : Nat
  count : Nat
  pins  : List Nat
deriving DecidableEq, Repr

/-- What a claim of a hot slot comes to (R64, R69, R218): its keystream is there, it must be computed first, every slot
is pinned, or the round engines give it beside the slot. -/
inductive Claim where
  | hit
  | miss
  | wait
  | engines
deriving DecidableEq, Repr

/-- One pipe of a bolt: the frames in its crypto island in order (R60), in the D-pipe the frames behind the island that
wait for the sector engine or for a frame ahead (R446, R447), its hot slots, the most recently used first (R69), the
slots that tributaries wait for (R218), its
checking points (R39), the blocks issued at the level in force and the dummy rounds computed at earlier levels (R176),
how often the level changed, the blocks since the generator's last reseed, its reseeds, and whether the last one failed
(R178, R179). -/
structure PipeState where
  fifo      : List Frame := []
  after     : List Frame := []
  hot       : List HotSlot := []
  claims    : List HotSlot := []
  points    : FMap PointState := []
  issued    : Nat := 0
  dummy     : Nat := 0
  epoch     : Nat := 0
  sinceReseed : Nat := 0
  reseeds   : Nat := 0
  genFailed : Bool := false
deriving DecidableEq, Repr

/-- A learn request (R309). -/
structure LearnReq where
  vid  : Nat
  mac  : Nat
  port : Nat
  sci  : Octets
deriving DecidableEq, Repr

/-- A bolt's state that is not an object: its pipes, the learn requests waiting for the arbiter in pipe order (R310),
the device seconds of the stations' moves and the windows (start, length) whose flapping event was raised (R313), the flushes
under way, the oldest first, each with its count of removed entries (R316), and the elapsed instant of the last ageing tick
(R314). -/
structure BoltState where
  e          : PipeState := {}
  d          : PipeState := {}
  learn      : List LearnReq := []
  moves      : List Nat := []
  flapTold   : List (Nat × Nat) := []
  flushes    : List Nat := []
  ageAt      : Nat := 0
deriving DecidableEq, Repr

/-- A frame in transmission on a link: the port it leaves on, the frame, the class C threshold it started with (R83), and
the LEN_OVERHEAD it was selected with (R520). -/
structure Sending where
  port  : Nat
  frame : Frame
  ct    : Nat
  extra : Int
deriving DecidableEq, Repr

/-- A port's state that is not an object: PCS and FEC alignment (R337), its eight queues' frames, the frame in
transmission on the link it owns, PAUSE and PFC frames waiting to be sent first (R362), the strict round robin
(R500), the DRR turn of its weighted group and whether that turn's quantum was given (R502), the DRR between the
ports of its link (R504), the priorities in XOFF with the elapsed instant of the last PAUSE (R362), the priorities
paused by the partner with the end of the pause (R364), whether an admin list waits for its takeover (R514), the elapsed
instant up to which the shapers' credits are counted and the gate mask in force since (R507), what a
frame still arriving has met (R44, R45), and the header of the last frame received (R72). -/
structure PortState where
  pcs         : Bool := false
  fec         : Bool := false
  queues      : FMap (List Frame) := []
  sending     : Option Sending := none
  control     : List Octets := []
  strictLast  : Nat := 0
  turn        : Nat := 0
  turnGiven   : Bool := false
  linkTurn    : Nat := 0
  linkGiven   : Bool := false
  linkDeficit : FMap Int := []
  pausedAt    : FMap Nat := []
  peerPause   : FMap Nat := []
  admin       : Bool := false
  creditAt    : Nat := 0
  creditMask  : Nat := 0xFF
  arriving    : Arriving := {}
  lastHead    : Octets := []
deriving DecidableEq, Repr

/-- A Twill tributary's state that is not an object (R267, R269, R399 to R418). Transmit: closed panels waiting and
the panel being assembled (units of 257 bits), whether the limit stopped it (R211), whether a flip has been made, the row
and the phase of the panel begun (R268), the phase to release (R267). Receive: the
pointer disagreements (R408), the counter pieces recovered in SEEKING (R409), the last verified counter, multiframe
boundaries left in HOLD (R269) and whether the other phase's row was released, the last PC_LOW of the pieces, the run of
equal labels (R417), the client frame being received with the timestamp of its first data byte, and its PRBS check
state. `marks` holds the frames in panels not yet sent, each with the number of panels before the one that carries its
first data byte, the panel begun counted, and that byte's unit in it. Panels carry numbers from the tributary's first on:
`sent` is the next to begin, `poisoned` those whose beats
failed (R44), `rxPoison` that a beat of the panel being received failed, `rxNo` the number of the panel being received and
`rxBad` the received panels already counted as poisoned (R44); `armedAt` the elapsed instant of the arm
(R267). `line` holds the 65 units of the panel begun, all filler for one that is withheld, `lineAt` how many of them
have gone, `gap` the filler positions still owed, `credit` the credit of R402 in 1/225 bit. `rxAt` is the place of the next
panel start among the positions, as delineation tracks it, `pointers` the places that pointers not yet compared name (R408).
-/
structure TribState where
  closed    : List (List Nat) := []
  building  : List Nat := []
  stopped   : Bool := false
  flipped   : Bool := false
  begun     : Option (Nat × Nat) := none
  released  : Bool := false
  releasing : Option Nat := none
  prbsTx    : Nat := 0x7FFFFFFF
  pieces    : FMap Nat := []
  tracked   : Option Nat := none
  disagree  : Nat := 0
  verified  : Option Nat := none
  holdLeft  : Nat := 0
  labelLast : Nat := 0xFF
  labelRun  : Nat := 0
  rxFrame   : Option (Nat × Octets) := none
  marks     : List (Nat × Nat × Frame) := []
  prbsRx    : Option Nat := none
  lostSec   : Nat := 0
  authSec   : Nat := 0
  sent      : Nat := 0
  poisoned  : List Nat := []
  rxPoison  : Bool := false
  rxNo      : Nat := 0
  rxBad     : List Nat := []
  armedAt   : Nat := 0
  line      : List Nat := []
  lineAt    : Nat := 0
  gap       : Nat := 0
  credit    : Nat := 0
  rxAt      : Option Nat := none
  pointers  : List Nat := []
deriving DecidableEq, Repr

/-- A Twill group's transmit framer (R376 to R384) and the elapsed instant at which its acquisition hold began (R420):
the multiframe and frame numbers, the codeword phase, the number of the next unit in the frame, the slot of the next
position, the scrambler's last 58 bits, the unit clock in 1/225 ns of its 544 (R377), the units since the rotation's start,
and the rotation's units by calendar row, each with whether it begins a panel (R390). -/
structure GroupState where
  mfc      : Nat := 0
  acqSince : Nat := 0
  fn       : Nat := 0
  cwp      : Nat := 0
  unit     : Nat := 0
  calPos   : Nat := 0
  scram    : Nat := 0x3FFFFFFFFFFFFFF
  clock    : Nat := 0
  since    : Nat := 0
  rotation : FMap (Nat × Bool) := []
deriving DecidableEq, Repr

/-- A Twill lane's receive state (R414 to R419): frame and multiframe alignment with their runs, the last overhead's
counters, the number of the position behind it in the rotation (R379), whether a detected LOM is due to the spread (R432), since when OOF, IF, OOM and IM have lasted without a break, the defects detected and declared (bits as in
TL_STATUS: 4 LOS, 3 LOL, 2 LOF, 1 LOM, 0 DEG), and the DEG judgement of the second. -/
structure TwLane where
  inFrame   : Bool := false
  faGood    : Nat := 0
  faBad     : Nat := 0
  inMulti   : Bool := false
  mfGood    : Nat := 0
  mfBad     : Nat := 0
  lastFn    : Nat := 0
  lastMfc   : Nat := 0
  lastCwp   : Nat := 0
  faSince   : Nat := 0
  mfSince   : Nat := 0
  spreadBad : Bool := false
  spreadSince : Nat := 0
  detected  : Nat := 0
  declared  : Nat := 0
  secDetected : Nat := 0
  corrSec   : Nat := 0
  uncorrSec : Nat := 0
  badRun    : Nat := 0
  goodRun   : Nat := 0
  farBdi    : Bool := false
  base      : Nat := 0
  lomSpread : Bool := false
deriving DecidableEq, Repr

/-- A serial lane's state that is not an object: signal detected (R471), settings kept for a fast wake (R480), the
instant its acquisition or wake began, whether its transmitter is active, whether it is at a rate conflict (R461), the
scrambled units of the codeword it is sending (R375), the last level before inversion, 0 before the first (R463), its
pattern generator with the part of a symbol its clock has reached, and its checker's state once synchronised (R485); how many
full acquisitions have begun and the LN_CTLE of the last (R468, R472), and the instant of a wake that has not ended (R482).
-/
structure LaneState where
  signal   : Bool := false
  kept     : Bool := false
  since    : Nat := 0
  txActive : Bool := false
  conflict : Bool := false
  prbsSync : Bool := false
  txUnits  : List Nat := []
  txLevel  : Nat := 0
  prbs     : Nat := 0x7FFFFFFF
  prbsTime : Nat := 0
  rxPrbs   : Option Nat := none
  acq      : Nat := 0
  ctle     : Nat := 16
  wake     : Option Nat := none
deriving DecidableEq, Repr

/-- A handshake under way (R578): its credential, the HELLO body, the HELLO_REPLY body without its signatures, the two
shared secrets, the elapsed instant HELLO_REPLY was sent, and the signatures of AUTH. -/
structure Handshake where
  cred    : Nat
  body    : Octets
  reply   : Octets
  shared  : Octets
  sentAt  : Option Nat
  authSig : Option (Octets × Octets)
deriving DecidableEq, Repr

/-- A session's state that is not an object: its transport, the last answer given, the tag and stored response of its
last completed request (R560), the requests waiting with where each came from (R561), a partial message with the next
fragment index (R565, R577), what of the response is still to be read on I3C (R565), its keys and sequence numbers
(R579), the elapsed instant of the peer's last valid frame (R582), a handshake, and a close that follows the response
(R582: the reason). -/
structure Session where
  via      : Option Via := none
  answer   : Option Answer := none
  lastTag  : Option Nat := none
  stored   : Octets := []
  waiting  : List (Option Via × Octets) := []
  partialMsg : Octets := []
  nextFrag : Nat := 0
  unread   : Octets := []
  keyIn    : Octets := []
  keyOut   : Octets := []
  seqIn    : Nat := 0
  seqOut   : Nat := 1
  lastValid : Nat := 0
  hs       : Option Handshake := none
  closing  : Option Nat := none
deriving DecidableEq, Repr

/-- An outstanding proposal (R154): its target, value, proposer, digest and window, whether a captured role
generation has changed since the submission (R136, R160). -/
structure Proposal where
  target   : Nat
  value    : Octets
  proposer : Nat
  digest   : Octets
  opened   : Nat
  closes   : Nat
  changed  : Bool
deriving DecidableEq, Repr

/-- An event record (R142) with its sequence number (R148). -/
structure Record where
  seq    : Nat
  code   : Nat
  time   : Nat
  source : Nat
  detail : Nat
deriving DecidableEq, Repr

/-- The event queue (R144) with the next sequence number and the records dropped since one was last queued (R146),
the events raised that are limited to one a second, with their second (code, source, second), the events held until
the queue starts (code, source, detail; R760), the records (class, sequence number) still to be announced on the network
sessions (R148, R556), and the lines (range, number) that refused a log record and are still to be reported (R661). -/
structure Events where
  queue   : List Record := []
  nextSeq : Nat := 0
  dropped : Nat := 0
  limited : List (Nat × Nat × Nat) := []
  early   : List (Nat × Nat × Nat) := []
  notes   : List (Nat × Nat) := []
  badLog  : List (Nat × Nat) := []
deriving DecidableEq, Repr

/-- The time unit (R527 to R541). `elapsed` is UPTIME in ns; `dev` device time in units of 2^-16 · 10^-6 ns; `slew` the
offset not yet applied, in the same units, signed; `rtcCopy` a copy into the RTC due at the next whole second (R529);
`stepped` that the second under way is not measured whole (R779), `irregular` that the interval being latched is not one
plain second (R430), `latched` the last whole second at which a boundary was taken, `ran` what device time ran in its last
ns, 0 after a step and once PPS_OUT has risen in it (R541);
`ppsHigh` the pin and `ppsEnd` the elapsed instant it falls. -/
structure TimeUnit where
  elapsed  : Nat := 0
  dev      : Nat := 0
  slew     : Int := 0
  rtcCopy  : Bool := false
  stepped  : Bool := true
  irregular : Bool := false
  latched  : Nat := 0
  ran      : Nat := 0
  ppsHigh  : Bool := false
  ppsEnd   : Nat := 0
deriving DecidableEq, Repr

/-- A timestamp input (R538, R539): queued timestamps (sequence, rising, TIME96, half), the next sequence number, the
elapsed instant of the last accepted edge, and the polarity of the edge that began a pulse ignored as shorter than 2 ns,
whose end is ignored with it. -/
structure TsInput where
  queue   : List (Nat × Bool × Nat × Bool) := []
  nextSeq : Nat := 0
  last    : Option Nat := none
  glitch  : Option Bool := none
deriving DecidableEq, Repr

/-- The OTP array (R591), kept through everything. -/
structure Otp where
  codeword : BitVec 32
  tokens   : BitVec 32
  floor    : BitVec 64
  marker0  : BitVec 8
  marker1  : BitVec 8
  ember0   : BitVec 256
  ember1   : BitVec 256
  revoked  : BitVec 12
  dieId    : BitVec 64
  deviceId : BitVec 256
  mgmtMac  : BitVec 48
  evidence : BitVec 256
deriving DecidableEq, Repr

/-- A boot-store image slot (R612): its bytes and what verification found (SLOT_STATE as far as it is not derived:
0 empty, 1 written, 2 verified). -/
structure ImageSlot where
  bytes  : Mem := []
  state  : Nat := 0
deriving DecidableEq, Repr

/-- A copy of the configuration record (R112, R603): the retained values, and its tag. -/
structure CfgCopy where
  content : Store := []
  tag     : Octets := []
deriving DecidableEq, Repr

/-- The on-package boot store (R612, R603): two image slots, the preferred one, and the two copies of the
configuration record with the newest named. -/
structure BootStore where
  slot0     : ImageSlot
  slot1     : ImageSlot
  preferred : Nat
  copy0     : CfgCopy
  copy1     : CfgCopy
  newest    : Nat
deriving DecidableEq, Repr

/-- The Hearth pair (R696 to R699) and the firmware steps (R616): the active core, a switch-over gap or Kindling
restart under way, the slot each core runs, whether the banked core is halted (R624), whether the identity keys were
made at this start (R644), what the outside supplied to it, the SHA-512 of the image each core runs, as verified (R606), and
that of the image whose Retort microcode is in use (R632). -/
structure Hearth where
  active     : Nat := 0
  gap        : Bool := false
  restarting : Bool := false
  slotA      : Nat := 0
  slotB      : Nat := 0
  halted     : Bool := false
  idKeys     : Bool := false
  start      : Option StartInput := none
  imageA     : Octets := []
  imageB     : Octets := []
  ucode      : Octets := []
deriving DecidableEq, Repr

/-- An alarm raised in a period of the alarm unit, to be entered as record 0x08_0001 (R670, R676, R695). -/
structure AlarmRec where
  period   : Nat
  alarm    : Nat
  burned   : Bool
  full     : Bool
  deferred : Bool
  kind     : Nat
  selfTest : Bool
deriving DecidableEq, Repr

/-- The alarm unit (R676): its elapsed count since main power-up in ns, the period of the alarms in `raised` with
their TIME96, alarms deferred to the start (R683), the strongest response applied since reset (R717), and whether the
key-derivation unit is stopped (R673). -/
structure AlarmUnit where
  clock    : Nat := 0
  period   : Nat := 0
  time     : Nat := 0
  raised   : List AlarmRec := []
  deferred : List AlarmRec := []
  worst    : Nat := 0
  kduStopped : Bool := false
deriving DecidableEq, Repr

/-- A Flue monitor kind (R679 to R681): the outputs asserted, the first firings that still wait for agreement (instant
in ns of the alarm unit's count, detector B?), and the instants in its own and its lone filter. -/
structure FlueKind where
  outA    : Bool := false
  outB    : Bool := false
  waiting : List (Nat × Bool) := []
  window  : List Nat := []
  lone    : List Nat := []
deriving DecidableEq, Repr

/-- One latching comparator of the backup domain (R688, R689). -/
structure Comparator where
  out       : Bool := false
  latched   : Bool := false
  first     : Nat := 0
  trips     : Nat := 0
  onBattery : Bool := false
deriving DecidableEq, Repr

/-- The backup domain (R687 to R692): RTC seconds, the ns since the RTC's last second (R529), the comparators VBAT_LOW, TEMP_HIGH and SENSE_IN, MAIN_PRESENT,
the main-power record, whether the contents were lost, and whether a return of main power is still to be reported. -/
structure Backup where
  rtc     : Nat := 0
  phase   : Nat := 0
  vbatLow : Comparator := {}
  tempHigh : Comparator := {}
  senseIn : Comparator := {}
  mainPresent : Bool := true
  tl      : Nat := 0
  tr      : Nat := 0
  lost    : Bool := false
  bkState : Nat := 0
  report  : Bool := false
deriving DecidableEq, Repr

/-- Who submitted a Retort job: a session's host job, the handshake or the AUTH check of a session; the host job of a
session that has closed, with its JOB_SEQ (R646); or a handshake that is no more (R646). -/
inductive JobOwner where
  | host (s : Nat)
  | hello (s : Nat)
  | auth (s : Nat)
  | closed (s seq : Nat)
  | dropped
deriving DecidableEq, Repr

/-- A Retort job (R628, R633). -/
structure Job where
  owner : JobOwner
  op    : Nat
  a     : Octets
  b     : Octets
  c     : Octets
deriving DecidableEq, Repr

/-- Retort (R627 to R646): jobs waiting in order, the one running, an abort under erasure, the elapsed instant at which the
one or the other began (R636, R645), and whether the two computations of the next request's own job will disagree (R643, log
entry 79). -/
structure Retort where
  queue    : List Job := []
  running  : Option Job := none
  clearing : Option Job := none
  since    : Nat := 0
  disagree : Bool := false
deriving DecidableEq, Repr

/-- The keys of a running side-memory range (R656), by the draw they came from, its data bytes and the lines that no longer
match their tag (R660). -/
structure SmRange where
  draw : Nat := 0
  data : Mem := []
  bad  : List Nat := []
deriving DecidableEq, Repr

/-- The pair unit and the mirror link (R700 to R719). `staleItems` are the items, by kind and number, whose peer memory stays
stale until the partner reports them again (R710); `linesBad` holds since when every line lane of a bolt has reported LOS or
LOL (R717); `txCount` is the frame count of the next mirror frame sent (R703). On the elapsed count: `heardAt` is when a valid
heartbeat last arrived, `beatAt` and `reportAt` when heartbeats (R703) and reports (R708) were last sent at their intervals,
`attemptAt` when the next attempt at the link is due (R702). -/
structure PairUnit where
  peerRole     : Nat := 0
  peerGen      : Nat := 0
  peerHealthy  : Bool := false
  peerSync     : Nat := 0
  witnessDrive : Bool := false
  witnessHigh  : Bool := true
  claiming     : Option Nat := none
  claimCause   : Nat := 0
  becoming     : Option (Nat × Nat) := none
  memory       : List Report := []
  memoryValid  : Bool := false
  staleItems   : List (Nat × Nat) := []
  relinquished : Bool := false
  keyOut       : Octets := []
  keyIn        : Octets := []
  wrapKey      : Octets := []
  txCount      : Nat := 1
  holdoff      : Option Nat := none
  watchBad     : List Nat := []
  linesBad     : FMap Nat := []
  partition    : Bool := false
  requested    : Bool := false
  heardAt      : Nat := 0
  beatAt       : Nat := 0
  reportAt     : Nat := 0
  attemptAt    : Nat := 0
deriving DecidableEq, Repr

/-- The mesh (R720 to R725): the current and next epoch keys, the elapsed instant each neighbour was last heard, the
neighbours declared silent, and the host addresses recorded by (destination, inner session) (R722). -/
structure Mesh where
  cur   : Option Octets := none
  next  : Option Octets := none
  heard : FMap Nat := []
  dead  : List Nat := []
  hosts : List (Nat × Nat × Via) := []
deriving DecidableEq, Repr

/-- A debug certificate in force (R621, R622). -/
structure Cert where
  sess      : Nat
  notBefore : Nat
  notAfter  : Nat
  rights    : Nat
  kind      : Nat
  index     : Nat
  digest    : Octets
deriving DecidableEq, Repr

/-- Debug and dual-control nonces: the certificate in force, the last debug nonce with the elapsed instant of its
issue (R621), and the unused proposal nonces, the newest first (R155). -/
structure Trust where
  cert     : Option Cert := none
  dbgNonce : Option (Octets × Nat) := none
  dcNonces : List Nat := []
  rejected : Bool := false
  testOpen : Bool := false
deriving DecidableEq, Repr

/-- The I3C target (R563 to R566). -/
structure I3c where
  hotJoin  : Bool := true
  joinSent : Bool := false
  intEnabled : Bool := false
  mwl      : Nat := 3328
  mrl      : Nat := 3328
  ibi      : Option (List Nat) := none
  respIbi  : Option (List Nat) := none
  hdr      : Bool := false
deriving DecidableEq, Repr

/-- The field-network MAC (R569, R570): frames to send in order, attempts of the first, its backoff in slots, whether
it is on the wire, unicast PLAIN answers that wait for their random delay, and whether the write that turned the port off
still sends its response and CLOSE frames (R562, R582). -/
structure T1s where
  queue    : List Octets := []
  attempts : Nat := 0
  backoff  : Option Nat := none
  plain    : List Octets := []
  ending   : Bool := false
deriving DecidableEq, Repr

/-- The in-band token bucket (R573): tokens in 1/10^9, and the elapsed instant of the last refill. -/
structure Bucket where
  level : Nat := 64000000000
  at_   : Nat := 0
deriving DecidableEq, Repr

/-- The tracer (R738 to R742): the on-chip ring and the tagged frames in flight. -/
structure Tracer where
  ring     : FMap Octets := []
  inFlight : Nat := 0
deriving DecidableEq, Repr

/-- What left the device, newest first: a model's own record of its outputs. -/
inductive Wire where
  /-- A frame on a port's link: bytes without FCS, whether the FCS was good. -/
  | frame (p : Nat) (bytes : Octets) (fcsGood : Bool)
  /-- A PAUSE or PFC frame (R362, R363). -/
  | control (p : Nat) (bytes : Octets)
  /-- A Twill panel: tributary, 64 data units and the tag unit (R404). -/
  | panel (p : Nat) (units : List Nat) (tag : Nat)
  /-- A codeword on a Twill lane, by its number of R457: the 2,720 levels sent (R375, R462 to R465). -/
  | line (n : Nat) (levels : List Nat)
  /-- Bytes read on I3C, or the answer of a CCC (R564, R565). -/
  | i3c (bytes : List Nat)
  /-- An in-band interrupt: mandatory byte and payload (R566). -/
  | ibi (bytes : List Nat)
  /-- A Hot-Join request (R563). -/
  | hotJoin
  /-- Remote-fault ordered sets on an interface, whose receive link went down (R338). -/
  | remoteFault (p : Nat)
  /-- A NACK on I3C (R563, R565). -/
  | nack
  /-- A frame on the field network (R569). -/
  | t1s (bytes : Octets)
  /-- An in-band or mesh frame toward a port, before its queue (R574, R722). -/
  | mgmt (p : Nat) (bytes : Octets) (secured : Bool)
  /-- A mirror-link item (R704) with the two role generations it carries, under its IV (R703). -/
  | mirror (iv : Nat) (u : MirrorUpdate)
  /-- The peer memory returned at a link-up (R709), under its IV: whether it is valid, and its items. -/
  | peerMemory (iv : Nat) (valid : Bool) (memory : List Report)
  /-- A heartbeat under its IV: role, generation, healthy, sync, relinquish, handover, request (R703). -/
  | heartbeat (iv role gen : Nat) (healthy : Bool) (sync : Nat) (relinquish handover request : Bool)
deriving DecidableEq, Repr

/-- No Nisuzan rule stops the machine: a refused request is answered with an abort code and the device goes on
(R110), so there is no fault. -/
inductive Fault where
deriving DecidableEq, Repr

/-- Why a command has no meaning. -/
inductive Refusal where
  /-- The command is not modelled yet: raised only by an arm of Machine/Dispatch.lean. Safe: nothing follows. -/
  | notModelled (mnemonic : String)
deriving DecidableEq, Repr

/-- The state of the device. `part`, `step` and the pins' straps are the device's own; `free` counts the free values
drawn so far and `serial` the frames numbered so far (both the model's own); `wire` is the model's record of what left; `hearthIn` holds frames removed from the data path and handed to Hearth
(R355): port, bytes, whether a verified SecTAG or panel carried them;
`arrivals` names the sessions of the requests that wait, in the order in which Hearth received them (R109);
`pending` is the queue of commands that wait. -/
structure State where
  part     : Part
  siliconStep : Nat
  mainPower : Bool
  powerGood : Bool
  rstLow   : Bool
  phase    : Phase
  addrSel  : Nat
  pairId   : Nat
  objs     : Store
  time     : TimeUnit
  tsIn     : FMap TsInput
  otp      : Otp
  boot     : BootStore
  hearth   : Hearth
  sessions : FMap Session
  arrivals : List Nat
  proposals : FMap Proposal
  events   : Events
  drains   : List (Fn × Nat)
  bolts    : FMap BoltState
  ports    : FMap PortState
  tribs    : FMap TribState
  groups   : FMap GroupState
  twLanes  : FMap TwLane
  lanes    : FMap LaneState
  alarm    : AlarmUnit
  flue     : FMap FlueKind
  backup   : Backup
  retort   : Retort
  sm       : FMap SmRange
  pair     : PairUnit
  mesh     : Mesh
  trust    : Trust
  i3c      : I3c
  t1s      : T1s
  bucket   : Bucket
  tracer   : Tracer
  hearthIn : List (Nat × Octets × Bool)
  tjWarned : Bool
  free     : Nat
  serial   : Nat
  wire     : List Wire
  pending  : List Instr
deriving DecidableEq, Repr

/-- The OTP of the device of State.reset (DESIGN CHOICE, log entry 3): in ISSUED before its first start there, so that
Ember and the device identity are still to be made (R599, R602); nothing else is burned. -/
def Otp.delivered : Otp where
  codeword := 0x00007FFF#32
  tokens   := 0#32
  floor    := 0#64
  marker0  := 0#8
  marker1  := 0#8
  ember0   := 0#256
  ember1   := 0#256
  revoked  := 0#12
  dieId    := 0#64
  deviceId := 0#256
  mgmtMac  := 0#48
  evidence := 0#256

/-- The boot store of the device of State.reset (DESIGN CHOICE, log entry 3): a verified image in slot 0, preferred;
slot 1 empty; no retained value changed. -/
def BootStore.delivered : BootStore where
  slot0     := { state := 2 }
  slot1     := {}
  preferred := 0
  copy0     := {}
  copy1     := {}
  newest    := 0

/-- The device right after reset (R111, R126, R758): internal reset has begun with main power good, every object
holds its documented default, every function is STOPPED, no SA row, session, record or frame exists. INTERNAL_RESET_END
then runs start-up (R760). The part and what no reset changes are log entry 3. -/
def State.reset : State where
  part     := .nz6412
  siliconStep := 1
  mainPower := true
  powerGood := true
  rstLow   := false
  phase    := .reset
  addrSel  := 0
  pairId   := 0
  objs     := []
  time     := {}
  tsIn     := []
  otp      := Otp.delivered
  boot     := BootStore.delivered
  hearth   := {}
  sessions := []
  arrivals := []
  proposals := []
  events   := {}
  drains   := []
  bolts    := []
  ports    := []
  tribs    := []
  groups   := []
  twLanes  := []
  lanes    := []
  alarm    := {}
  flue     := []
  backup   := {}
  retort   := {}
  sm       := []
  pair     := {}
  mesh     := {}
  trust    := {}
  i3c      := {}
  t1s      := {}
  bucket   := {}
  tracer   := {}
  hearthIn := []
  tjWarned := false
  free     := 0
  serial   := 0
  wire     := []
  pending  := []

end Sys2Proof.Machine
end

