-- ==== Sys2Proof/Machine/Operands.lean ====
section
/-! DEFINITION. Machine/Operands.lean: the object dictionary of the spec (R100 to R116): the name of every object as a
storage key, the object tables with type, access and default, which object an address names, and the word encoding of
values (R103 to R105). The tables are those of the chapters; a name with an argument stands for every instance. -/

namespace Sys2Proof.Machine

/-- Object `off:sub` of bolt b (R100); a bolt's number has three bits (R17). -/
abbrev boltKey (b off sub : Nat) : Key := .dev ((0x2000 + 0x100 * (b % 8) + off) * 256 + sub)

/-- Object `k:sub` of port p, k = 0 configuration, 1 status, 2 counters, 3 security and scheduler (R100). -/
abbrev portKey (p k sub : Nat) : Key := .dev ((0x3000 + 4 * p + k) * 256 + sub)

/-- Object `sub` of the performance counters of bolt b (R100, R744). -/
abbrev pcKey (b sub : Nat) : Key := .dev ((0x1810 + b % 8) * 256 + sub)

/-! Names -/

/-- VENDOR_CODE (0x1000:01, R6). -/
abbrev Reg.vendorCode : Key := .dev 0x100001
/-- PART_CODE (0x1000:02, R6). -/
abbrev Reg.partCode : Key := .dev 0x100002
/-- SILICON_STEP (0x1000:03, R6). -/
abbrev Reg.siliconStep : Key := .dev 0x100003
/-- PRESENCE_MAP (0x1000:04, R6). -/
abbrev Reg.presenceMap : Key := .dev 0x100004
/-- CLK_HEARTH_A (0x1001:01, R33). -/
abbrev Reg.clkHearthA : Key := .dev 0x100101
/-- CLK_HEARTH_B (0x1001:02, R33). -/
abbrev Reg.clkHearthB : Key := .dev 0x100102
/-- CLK_RETORT (0x1001:03, R33). -/
abbrev Reg.clkRetort : Key := .dev 0x100103
/-- CLK_SIDE0 (0x1001:04, R33). -/
abbrev Reg.clkSide0 : Key := .dev 0x100104
/-- CLK_SIDE1 (0x1001:05, R33). -/
abbrev Reg.clkSide1 : Key := .dev 0x100105
/-- CLK_E_MAC (0x2000+0x100b:01, R33). -/
abbrev Reg.bClkEMac (b : Nat) : Key := boltKey b 0x00 0x01
/-- CLK_E_PARSE (0x2000+0x100b:02, R33). -/
abbrev Reg.bClkEParse (b : Nat) : Key := boltKey b 0x00 0x02
/-- CLK_E_CRYPTO (0x2000+0x100b:03, R33). -/
abbrev Reg.bClkECrypto (b : Nat) : Key := boltKey b 0x00 0x03
/-- CLK_E_SCHED (0x2000+0x100b:04, R33). -/
abbrev Reg.bClkESched (b : Nat) : Key := boltKey b 0x00 0x04
/-- CLK_E_FRAMER (0x2000+0x100b:05, R33). -/
abbrev Reg.bClkEFramer (b : Nat) : Key := boltKey b 0x00 0x05
/-- CLK_D_MAC (0x2000+0x100b:06, R33). -/
abbrev Reg.bClkDMac (b : Nat) : Key := boltKey b 0x00 0x06
/-- CLK_D_PARSE (0x2000+0x100b:07, R33). -/
abbrev Reg.bClkDParse (b : Nat) : Key := boltKey b 0x00 0x07
/-- CLK_D_CRYPTO (0x2000+0x100b:08, R33). -/
abbrev Reg.bClkDCrypto (b : Nat) : Key := boltKey b 0x00 0x08
/-- CLK_D_SCHED (0x2000+0x100b:09, R33). -/
abbrev Reg.bClkDSched (b : Nat) : Key := boltKey b 0x00 0x09
/-- CLK_D_FRAMER (0x2000+0x100b:0A, R33). -/
abbrev Reg.bClkDFramer (b : Nat) : Key := boltKey b 0x00 0x0A
/-- REPLAYS (0x2000+0x100b+0x02:01, R52). -/
abbrev Reg.bReplays (b : Nat) : Key := boltKey b 0x02 0x01
/-- PERSISTENT (0x2000+0x100b+0x02:02, R52). -/
abbrev Reg.bPersistent (b : Nat) : Key := boltKey b 0x02 0x02
/-- POISON_FRAMES (0x2000+0x100b+0x02:03, R52). -/
abbrev Reg.bPoisonFrames (b : Nat) : Key := boltKey b 0x02 0x03
/-- POISON_PANELS (0x2000+0x100b+0x02:04, R52). -/
abbrev Reg.bPoisonPanels (b : Nat) : Key := boltKey b 0x02 0x04
/-- ROWS_FAULTED (0x2000+0x100b+0x02:05, R52). -/
abbrev Reg.bRowsFaulted (b : Nat) : Key := boltKey b 0x02 0x05
/-- E_HOT_USED (0x2000+0x100b+0x03:01, R79). -/
abbrev Reg.bEHotUsed (b : Nat) : Key := boltKey b 0x03 0x01
/-- D_HOT_USED (0x2000+0x100b+0x03:02, R79). -/
abbrev Reg.bDHotUsed (b : Nat) : Key := boltKey b 0x03 0x02
/-- E_EVICT (0x2000+0x100b+0x03:03, R79). -/
abbrev Reg.bEEvict (b : Nat) : Key := boltKey b 0x03 0x03
/-- D_EVICT (0x2000+0x100b+0x03:04, R79). -/
abbrev Reg.bDEvict (b : Nat) : Key := boltKey b 0x03 0x04
/-- E_BLOCKS_DISCARDED (0x2000+0x100b+0x03:05, R79). -/
abbrev Reg.bEBlocksDiscarded (b : Nat) : Key := boltKey b 0x03 0x05
/-- D_BLOCKS_DISCARDED (0x2000+0x100b+0x03:06, R79). -/
abbrev Reg.bDBlocksDiscarded (b : Nat) : Key := boltKey b 0x03 0x06
/-- COUNTERS_RETURNED (0x2000+0x100b+0x03:07, R79). -/
abbrev Reg.bCountersReturned (b : Nat) : Key := boltKey b 0x03 0x07
/-- RECLASSIFIED (0x2000+0x100b+0x03:08, R79). -/
abbrev Reg.bReclassified (b : Nat) : Key := boltKey b 0x03 0x08
/-- RBV_TAILS (0x2000+0x100b+0x03:09, R79). -/
abbrev Reg.bRbvTails (b : Nat) : Key := boltKey b 0x03 0x09
/-- FWD_CLASS (0x3000+4p:20, R81). -/
abbrev Reg.pFwdClass (p : Nat) : Key := portKey p 0 0x20
/-- CT_START (0x3000+4p:21, R81). -/
abbrev Reg.pCtStart (p : Nat) : Key := portKey p 0 0x21
/-- DET_DELAY (0x3000+4p:22, R81). -/
abbrev Reg.pDetDelay (p : Nat) : Key := portKey p 0 0x22
/-- RBV_ARM (0x3000+4p:23, R81). -/
abbrev Reg.pRbvArm (p : Nat) : Key := portKey p 0 0x23
/-- C_UNDERRUNS (0x2000+0x100b+0x04:01, R96). -/
abbrev Reg.bCUnderruns (b : Nat) : Key := boltKey b 0x04 0x01
/-- D_LATE (0x2000+0x100b+0x04:02, R96). -/
abbrev Reg.bDLate (b : Nat) : Key := boltKey b 0x04 0x02
/-- D_GUARD_DISCARDS (0x2000+0x100b+0x04:03, R96). -/
abbrev Reg.bDGuardDiscards (b : Nat) : Key := boltKey b 0x04 0x03
/-- D_UNDERRUNS (0x2000+0x100b+0x04:04, R96). -/
abbrev Reg.bDUnderruns (b : Nat) : Key := boltKey b 0x04 0x04
/-- PN_SKIPPED (0x2000+0x100b+0x04:05, R96). -/
abbrev Reg.bPnSkipped (b : Nat) : Key := boltKey b 0x04 0x05
/-- PORT_ROLE_GEN (0x3000+4p+1:3F, R133). -/
abbrev Reg.pPortRoleGen (p : Nat) : Key := portKey p 1 0x3F
/-- BOLT_ROLE_GEN (0x2000+0x100b:10, R133). -/
abbrev Reg.bBoltRoleGen (b : Nat) : Key := boltKey b 0x00 0x10
/-- EVT_COUNT (0x1400:01, R148). -/
abbrev Reg.evtCount : Key := .dev 0x140001
/-- EVT_HEAD (0x1400:02, R148). -/
abbrev Reg.evtHead : Key := .dev 0x140002
/-- EVT_HEAD_SEQ (0x1400:03, R148). -/
abbrev Reg.evtHeadSeq : Key := .dev 0x140003
/-- EVT_POP (0x1400:04, R148). -/
abbrev Reg.evtPop : Key := .dev 0x140004
/-- EVT_LOST (0x1400:05, R148). -/
abbrev Reg.evtLost : Key := .dev 0x140005
/-- EVT_NOTIFY (0x1400:06, R148). -/
abbrev Reg.evtNotify : Key := .dev 0x140006
/-- DC_NONCE (0x1310:01, R153). -/
abbrev Reg.dcNonce : Key := .dev 0x131001
/-- DC_WINDOW (0x1310:02, R153). -/
abbrev Reg.dcWindow : Key := .dev 0x131002
/-- DC_OUTSTANDING (0x1310:03, R153). -/
abbrev Reg.dcOutstanding : Key := .dev 0x131003
/-- P_TARGET (0x1311:01, R153). -/
abbrev Reg.pTarget (s : Nat) : Key := .ses s 0x131101
/-- P_VALUE (0x1311:02, R153). -/
abbrev Reg.pValue (s : Nat) : Key := .ses s 0x131102
/-- P_NONCE (0x1311:03, R153). -/
abbrev Reg.pNonce (s : Nat) : Key := .ses s 0x131103
/-- P_CRED (0x1311:04, R153). -/
abbrev Reg.pCred (s : Nat) : Key := .ses s 0x131104
/-- P_SIG_ED (0x1311:05, R153). -/
abbrev Reg.pSigEd (s : Nat) : Key := .ses s 0x131105
/-- P_SIG_ML (0x1311:06, R153). -/
abbrev Reg.pSigMl (s : Nat) : Key := .ses s 0x131106
/-- P_SLOT (0x1311:07, R153). -/
abbrev Reg.pSlot (s : Nat) : Key := .ses s 0x131107
/-- P_ACTION (0x1311:08, R153). -/
abbrev Reg.pAction (s : Nat) : Key := .ses s 0x131108
/-- SLOT_STATE (0x1318+s:01, R153). -/
abbrev Reg.slotState (n : Nat) : Key := .dev ((0x1318 + n) * 256 + 0x01)
/-- SLOT_TARGET (0x1318+s:02, R153). -/
abbrev Reg.slotTarget (n : Nat) : Key := .dev ((0x1318 + n) * 256 + 0x02)
/-- SLOT_DIGEST (0x1318+s:03, R153). -/
abbrev Reg.slotDigest (n : Nat) : Key := .dev ((0x1318 + n) * 256 + 0x03)
/-- SLOT_PROPOSER (0x1318+s:04, R153). -/
abbrev Reg.slotProposer (n : Nat) : Key := .dev ((0x1318 + n) * 256 + 0x04)
/-- SLOT_OPENED (0x1318+s:05, R153). -/
abbrev Reg.slotOpened (n : Nat) : Key := .dev ((0x1318 + n) * 256 + 0x05)
/-- SLOT_CLOSES (0x1318+s:06, R153). -/
abbrev Reg.slotCloses (n : Nat) : Key := .dev ((0x1318 + n) * 256 + 0x06)
/-- CM_LEVEL (0x2000+0x100b+0x05:01, R220). -/
abbrev Reg.bCmLevel (b : Nat) : Key := boltKey b 0x05 0x01
/-- PN_WARN_XPN (0x2000+0x100b+0x05:02, R220). -/
abbrev Reg.bPnWarnXpn (b : Nat) : Key := boltKey b 0x05 0x02
/-- PN_WARN_32 (0x2000+0x100b+0x05:03, R220). -/
abbrev Reg.bPnWarn32 (b : Nat) : Key := boltKey b 0x05 0x03
/-- TW_PANEL_LIMIT (0x2000+0x100b+0x05:04, R220). -/
abbrev Reg.bTwPanelLimit (b : Nat) : Key := boltKey b 0x05 0x04
/-- TW_PANEL_WARN (0x2000+0x100b+0x05:05, R220). -/
abbrev Reg.bTwPanelWarn (b : Nat) : Key := boltKey b 0x05 0x05
/-- E_KS_STALLS (0x2000+0x100b+0x06:01, R223). -/
abbrev Reg.bEKsStalls (b : Nat) : Key := boltKey b 0x06 0x01
/-- D_KS_STALLS (0x2000+0x100b+0x06:02, R223). -/
abbrev Reg.bDKsStalls (b : Nat) : Key := boltKey b 0x06 0x02
/-- D_KS_OVERRUNS (0x2000+0x100b+0x06:03, R223). -/
abbrev Reg.bDKsOverruns (b : Nat) : Key := boltKey b 0x06 0x03
/-- LEN_DISCARDS (0x2000+0x100b+0x06:04, R223). -/
abbrev Reg.bLenDiscards (b : Nat) : Key := boltKey b 0x06 0x04
/-- PN_EXHAUST_DISCARDS (0x2000+0x100b+0x06:05, R223). -/
abbrev Reg.bPnExhaustDiscards (b : Nat) : Key := boltKey b 0x06 0x05
/-- PANELS_WITHHELD (0x2000+0x100b+0x06:06, R223). -/
abbrev Reg.bPanelsWithheld (b : Nat) : Key := boltKey b 0x06 0x06
/-- INVALID_PN (0x2000+0x100b+0x06:07, R223). -/
abbrev Reg.bInvalidPn (b : Nat) : Key := boltKey b 0x06 0x07
/-- EC_MISMATCH (0x2000+0x100b+0x06:08, R223). -/
abbrev Reg.bEcMismatch (b : Nat) : Key := boltKey b 0x06 0x08
/-- DUMMY_ROUNDS (0x2000+0x100b+0x06:09, R223). -/
abbrev Reg.bDummyRounds (b : Nat) : Key := boltKey b 0x06 0x09
/-- SA_DIR (0x4000:10, R225). -/
abbrev Reg.saDir (row : Nat) : Key := .row 0x4000 row 0x10
/-- SA_SUITE (0x4000:11, R225). -/
abbrev Reg.saSuite (row : Nat) : Key := .row 0x4000 row 0x11
/-- SA_CONF (0x4000:12, R225). -/
abbrev Reg.saConf (row : Nat) : Key := .row 0x4000 row 0x12
/-- SA_PORT (0x4000:13, R225). -/
abbrev Reg.saPort (row : Nat) : Key := .row 0x4000 row 0x13
/-- SA_SCI (0x4000:14, R225). -/
abbrev Reg.saSci (row : Nat) : Key := .row 0x4000 row 0x14
/-- SA_AN (0x4000:15, R225). -/
abbrev Reg.saAn (row : Nat) : Key := .row 0x4000 row 0x15
/-- SA_SSCI (0x4000:16, R225). -/
abbrev Reg.saSsci (row : Nat) : Key := .row 0x4000 row 0x16
/-- SA_SALT (0x4000:17, R225). -/
abbrev Reg.saSalt (row : Nat) : Key := .row 0x4000 row 0x17
/-- SA_PN (0x4000:18, R225). -/
abbrev Reg.saPn (row : Nat) : Key := .row 0x4000 row 0x18
/-- SA_REPLAY_WIN (0x4000:19, R225). -/
abbrev Reg.saReplayWin (row : Nat) : Key := .row 0x4000 row 0x19
/-- SA_ENABLE (0x4000:1A, R225). -/
abbrev Reg.saEnable (row : Nat) : Key := .row 0x4000 row 0x1A
/-- SA_KEY_SRC (0x4000:1B, R225). -/
abbrev Reg.saKeySrc (row : Nat) : Key := .row 0x4000 row 0x1B
/-- SA_KEY_REF (0x4000:1C, R225). -/
abbrev Reg.saKeyRef (row : Nat) : Key := .row 0x4000 row 0x1C
/-- SA_TW_SOURCE (0x4000:1D, R225). -/
abbrev Reg.saTwSource (row : Nat) : Key := .row 0x4000 row 0x1D
/-- SA_KEY_ID (0x4000:1E, R225). -/
abbrev Reg.saKeyId (row : Nat) : Key := .row 0x4000 row 0x1E
/-- SA_BLOB_GEN (0x4000:1F, R225). -/
abbrev Reg.saBlobGen (row : Nat) : Key := .row 0x4000 row 0x1F
/-- SA_OK (0x4000:30, R225). -/
abbrev Reg.saOk (row : Nat) : Key := .row 0x4000 row 0x30
/-- SA_ICV_FAIL (0x4000:31, R225). -/
abbrev Reg.saIcvFail (row : Nat) : Key := .row 0x4000 row 0x31
/-- SA_LATE (0x4000:32, R225). -/
abbrev Reg.saLate (row : Nat) : Key := .row 0x4000 row 0x32
/-- SA_DISCARDS (0x4000:33, R225). -/
abbrev Reg.saDiscards (row : Nat) : Key := .row 0x4000 row 0x33
/-- SA_HIGHEST_PN (0x4000:34, R225). -/
abbrev Reg.saHighestPn (row : Nat) : Key := .row 0x4000 row 0x34
/-- SA_FIRST_USE (0x4000:35, R225). -/
abbrev Reg.saFirstUse (row : Nat) : Key := .row 0x4000 row 0x35
/-- SA_LAST_USE (0x4000:36, R225). -/
abbrev Reg.saLastUse (row : Nat) : Key := .row 0x4000 row 0x36
/-- TX_SCI (0x3000+4p+3:10, R238). -/
abbrev Reg.pTxSci (p : Nat) : Key := portKey p 3 0x10
/-- TX_SA_AN0 (0x3000+4p+3:11, R238). -/
abbrev Reg.pTxSaAn0 (p : Nat) : Key := portKey p 3 0x11
/-- TX_SA_AN1 (0x3000+4p+3:12, R238). -/
abbrev Reg.pTxSaAn1 (p : Nat) : Key := portKey p 3 0x12
/-- TX_SA_AN2 (0x3000+4p+3:13, R238). -/
abbrev Reg.pTxSaAn2 (p : Nat) : Key := portKey p 3 0x13
/-- TX_SA_AN3 (0x3000+4p+3:14, R238). -/
abbrev Reg.pTxSaAn3 (p : Nat) : Key := portKey p 3 0x14
/-- TX_AN (0x3000+4p+3:15, R238). -/
abbrev Reg.pTxAn (p : Nat) : Key := portKey p 3 0x15
/-- TX_AN_IN_FORCE (0x3000+4p+3:16, R238). -/
abbrev Reg.pTxAnInForce (p : Nat) : Key := portKey p 3 0x16
/-- TX_SWITCHED (0x3000+4p+3:17, R238). -/
abbrev Reg.pTxSwitched (p : Nat) : Key := portKey p 3 0x17
/-- TW_SA_PH0 (0x3000+4p+3:20, R238). -/
abbrev Reg.pTwSaPh0 (p : Nat) : Key := portKey p 3 0x20
/-- TW_SA_PH1 (0x3000+4p+3:21, R238). -/
abbrev Reg.pTwSaPh1 (p : Nat) : Key := portKey p 3 0x21
/-- TW_RX_PH0 (0x3000+4p+3:22, R238). -/
abbrev Reg.pTwRxPh0 (p : Nat) : Key := portKey p 3 0x22
/-- TW_RX_PH1 (0x3000+4p+3:23, R238). -/
abbrev Reg.pTwRxPh1 (p : Nat) : Key := portKey p 3 0x23
/-- TW_ARM (0x3000+4p+3:24, R238). -/
abbrev Reg.pTwArm (p : Nat) : Key := portKey p 3 0x24
/-- TW_TX_PHASE (0x3000+4p+3:25, R238). -/
abbrev Reg.pTwTxPhase (p : Nat) : Key := portKey p 3 0x25
/-- TW_TX_STATE (0x3000+4p+3:26, R238). -/
abbrev Reg.pTwTxState (p : Nat) : Key := portKey p 3 0x26
/-- TW_TX_FLIP_MF (0x3000+4p+3:27, R238). -/
abbrev Reg.pTwTxFlipMf (p : Nat) : Key := portKey p 3 0x27
/-- TW_RX_PHASE (0x3000+4p+3:28, R238). -/
abbrev Reg.pTwRxPhase (p : Nat) : Key := portKey p 3 0x28
/-- TW_RX_STATE (0x3000+4p+3:29, R238). -/
abbrev Reg.pTwRxState (p : Nat) : Key := portKey p 3 0x29
/-- BLOB_GEN (0x2000+0x100b+0x07:01, R253). -/
abbrev Reg.bBlobGen (b : Nat) : Key := boltKey b 0x07 0x01
/-- BLOB_GEN_DEV (0x1331:01, R253). -/
abbrev Reg.blobGenDev : Key := .dev 0x133101
/-- UNWRAP_FAILS_DEV (0x1331:02, R253). -/
abbrev Reg.unwrapFailsDev : Key := .dev 0x133102
/-- BLOB (0x4800:10, R256). -/
abbrev Reg.blob (row : Nat) : Key := .row 0x4800 row 0x10
/-- WRAP_KEY (0x4800:11, R256). -/
abbrev Reg.wrapKey (row : Nat) : Key := .row 0x4800 row 0x11
/-- WRAP_BOLT (0x4800:12, R256). -/
abbrev Reg.wrapBolt (row : Nat) : Key := .row 0x4800 row 0x12
/-- WRAP_TYPE (0x4800:13, R256). -/
abbrev Reg.wrapType (row : Nat) : Key := .row 0x4800 row 0x13
/-- WRAP_KEY_ID (0x4800:14, R256). -/
abbrev Reg.wrapKeyId (row : Nat) : Key := .row 0x4800 row 0x14
/-- WRAP (0x4800:15, R256). -/
abbrev Reg.wrap (row : Nat) : Key := .row 0x4800 row 0x15
/-- LEGACY_ENABLE (0x1330:01, R273). -/
abbrev Reg.legacyEnable : Key := .dev 0x133001
/-- LEGACY_KEY (0x1330:02, R273). -/
abbrev Reg.legacyKey (s : Nat) : Key := .ses s 0x133002
/-- LEGACY_SA (0x1330:03, R273). -/
abbrev Reg.legacySa : Key := .dev 0x133003
/-- LEGACY_GO (0x1330:04, R273). -/
abbrev Reg.legacyGo : Key := .dev 0x133004
/-- LEGACY_USES (0x1330:05, R273). -/
abbrev Reg.legacyUses : Key := .dev 0x133005
/-- NOT_USING_SA (0x2000+0x100b+0x08:01, R281). -/
abbrev Reg.bNotUsingSa (b : Nat) : Key := boltKey b 0x08 0x01
/-- TX_NO_SA (0x2000+0x100b+0x08:02, R281). -/
abbrev Reg.bTxNoSa (b : Nat) : Key := boltKey b 0x08 0x02
/-- TW_NO_KEY (0x2000+0x100b+0x08:03, R281). -/
abbrev Reg.bTwNoKey (b : Nat) : Key := boltKey b 0x08 0x03
/-- TW_OLD_PHASE_LATE (0x2000+0x100b+0x08:04, R281). -/
abbrev Reg.bTwOldPhaseLate (b : Nat) : Key := boltKey b 0x08 0x04
/-- UNWRAP_FAILS (0x2000+0x100b+0x08:05, R281). -/
abbrev Reg.bUnwrapFails (b : Nat) : Key := boltKey b 0x08 0x05
/-- EM_SCI (0x4100:10, R290). -/
abbrev Reg.emSci (row : Nat) : Key := .row 0x4100 row 0x10
/-- EM_AN (0x4100:11, R290). -/
abbrev Reg.emAn (row : Nat) : Key := .row 0x4100 row 0x11
/-- EM_SA (0x4100:12, R290). -/
abbrev Reg.emSa (row : Nat) : Key := .row 0x4100 row 0x12
/-- EM_BUCKET (0x4100:13, R290). -/
abbrev Reg.emBucket (row : Nat) : Key := .row 0x4100 row 0x13
/-- EM_HITS (0x4100:14, R290). -/
abbrev Reg.emHits (row : Nat) : Key := .row 0x4100 row 0x14
/-- PK_KEY (0x4200:10, R298). -/
abbrev Reg.pkKey (row : Nat) : Key := .row 0x4200 row 0x10
/-- PK_MASK (0x4200:11, R298). -/
abbrev Reg.pkMask (row : Nat) : Key := .row 0x4200 row 0x11
/-- PK_PREFIX_LEN (0x4200:12, R298). -/
abbrev Reg.pkPrefixLen (row : Nat) : Key := .row 0x4200 row 0x12
/-- PK_ACTION (0x4200:13, R298). -/
abbrev Reg.pkAction (row : Nat) : Key := .row 0x4200 row 0x13
/-- PK_QUEUE (0x4200:14, R298). -/
abbrev Reg.pkQueue (row : Nat) : Key := .row 0x4200 row 0x14
/-- PK_STREAM (0x4200:15, R298). -/
abbrev Reg.pkStream (row : Nat) : Key := .row 0x4200 row 0x15
/-- PK_HITS (0x4200:16, R298). -/
abbrev Reg.pkHits (row : Nat) : Key := .row 0x4200 row 0x16
/-- STN_VID (0x4300:10, R307). -/
abbrev Reg.stnVid (row : Nat) : Key := .row 0x4300 row 0x10
/-- STN_MAC (0x4300:11, R307). -/
abbrev Reg.stnMac (row : Nat) : Key := .row 0x4300 row 0x11
/-- STN_PORT (0x4300:12, R307). -/
abbrev Reg.stnPort (row : Nat) : Key := .row 0x4300 row 0x12
/-- STN_SCI (0x4300:13, R307). -/
abbrev Reg.stnSci (row : Nat) : Key := .row 0x4300 row 0x13
/-- STN_STATIC (0x4300:14, R307). -/
abbrev Reg.stnStatic (row : Nat) : Key := .row 0x4300 row 0x14
/-- STN_AGE (0x4300:15, R307). -/
abbrev Reg.stnAge (row : Nat) : Key := .row 0x4300 row 0x15
/-- STN_BUCKET (0x4300:16, R307). -/
abbrev Reg.stnBucket (row : Nat) : Key := .row 0x4300 row 0x16
/-- STN_LEARN (0x3000+4p:24, R320). -/
abbrev Reg.pStnLearn (p : Nat) : Key := portKey p 0 0x24
/-- STN_UNKNOWN (0x3000+4p:25, R320). -/
abbrev Reg.pStnUnknown (p : Nat) : Key := portKey p 0 0x25
/-- POLICY_ACTIVE (0x2000+0x100b+0x09:01, R325). -/
abbrev Reg.bPolicyActive (b : Nat) : Key := boltKey b 0x09 0x01
/-- AGE_TIME (0x2000+0x100b+0x09:02, R325). -/
abbrev Reg.bAgeTime (b : Nat) : Key := boltKey b 0x09 0x02
/-- FLAP_MOVES (0x2000+0x100b+0x09:03, R325). -/
abbrev Reg.bFlapMoves (b : Nat) : Key := boltKey b 0x09 0x03
/-- FLAP_WINDOW (0x2000+0x100b+0x09:04, R325). -/
abbrev Reg.bFlapWindow (b : Nat) : Key := boltKey b 0x09 0x04
/-- STN_FLUSH (0x2000+0x100b+0x09:05, R325). -/
abbrev Reg.bStnFlush (b : Nat) : Key := boltKey b 0x09 0x05
/-- STN_ENTRIES (0x2000+0x100b+0x09:06, R325). -/
abbrev Reg.bStnEntries (b : Nat) : Key := boltKey b 0x09 0x06
/-- EM_MISS (0x2000+0x100b+0x0B:01, R326). -/
abbrev Reg.bEmMiss (b : Nat) : Key := boltKey b 0x0B 0x01
/-- STN_LEARNED (0x2000+0x100b+0x0B:02, R326). -/
abbrev Reg.bStnLearned (b : Nat) : Key := boltKey b 0x0B 0x02
/-- STN_MOVES (0x2000+0x100b+0x0B:03, R326). -/
abbrev Reg.bStnMoves (b : Nat) : Key := boltKey b 0x0B 0x03
/-- STN_AGED (0x2000+0x100b+0x0B:04, R326). -/
abbrev Reg.bStnAged (b : Nat) : Key := boltKey b 0x0B 0x04
/-- STN_LEARN_REFUSED (0x2000+0x100b+0x0B:05, R326). -/
abbrev Reg.bStnLearnRefused (b : Nat) : Key := boltKey b 0x0B 0x05
/-- STN_STATIC_CONFLICT (0x2000+0x100b+0x0B:06, R326). -/
abbrev Reg.bStnStaticConflict (b : Nat) : Key := boltKey b 0x0B 0x06
/-- STN_UNKNOWN_DISCARDS (0x2000+0x100b+0x0B:07, R326). -/
abbrev Reg.bStnUnknownDiscards (b : Nat) : Key := boltKey b 0x0B 0x07
/-- GROUP_FILTERED (0x2000+0x100b+0x0B:08, R326). -/
abbrev Reg.bGroupFiltered (b : Nat) : Key := boltKey b 0x0B 0x08
/-- PORT_KIND (0x3000+4p:10, R330). -/
abbrev Reg.pPortKind (p : Nat) : Key := portKey p 0 0x10
/-- LANE_BASE (0x3000+4p:11, R330). -/
abbrev Reg.pLaneBase (p : Nat) : Key := portKey p 0 0x11
/-- LANE_MODE (0x3000+4p:12, R330). -/
abbrev Reg.pLaneMode (p : Nat) : Key := portKey p 0 0x12
/-- PARENT (0x3000+4p:13, R330). -/
abbrev Reg.pParent (p : Nat) : Key := portKey p 0 0x13
/-- SUB_VID (0x3000+4p:14, R330). -/
abbrev Reg.pSubVid (p : Nat) : Key := portKey p 0 0x14
/-- XCONNECT (0x3000+4p:15, R330). -/
abbrev Reg.pXconnect (p : Nat) : Key := portKey p 0 0x15
/-- MAX_FRAME (0x3000+4p:16, R330). -/
abbrev Reg.pMaxFrame (p : Nat) : Key := portKey p 0 0x16
/-- NO_MATCH (0x3000+4p:17, R330). -/
abbrev Reg.pNoMatch (p : Nat) : Key := portKey p 0 0x17
/-- OVERLOAD (0x3000+4p:18, R330). -/
abbrev Reg.pOverload (p : Nat) : Key := portKey p 0 0x18
/-- INGRESS_LIMIT (0x3000+4p:19, R330). -/
abbrev Reg.pIngressLimit (p : Nat) : Key := portKey p 0 0x19
/-- XOFF_THRESH (0x3000+4p:1A, R330). -/
abbrev Reg.pXoffThresh (p : Nat) : Key := portKey p 0 0x1A
/-- XON_THRESH (0x3000+4p:1B, R330). -/
abbrev Reg.pXonThresh (p : Nat) : Key := portKey p 0 0x1B
/-- PFC_ENABLE (0x3000+4p:1C, R330). -/
abbrev Reg.pPfcEnable (p : Nat) : Key := portKey p 0 0x1C
/-- PAUSE_QUANTA (0x3000+4p:1D, R330). -/
abbrev Reg.pPauseQuanta (p : Nat) : Key := portKey p 0 0x1D
/-- RX_PAUSE (0x3000+4p:1E, R330). -/
abbrev Reg.pRxPause (p : Nat) : Key := portKey p 0 0x1E
/-- TX_SCI_MODE (0x3000+4p:1F, R330). -/
abbrev Reg.pTxSciMode (p : Nat) : Key := portKey p 0 0x1F
/-- ETYPE_KNOWN_0 (0x2000+0x100b+0x0C:01, R354). -/
abbrev Reg.bEtypeKnown0 (b : Nat) : Key := boltKey b 0x0C 0x01
/-- ETYPE_KNOWN_1 (0x2000+0x100b+0x0C:02, R354). -/
abbrev Reg.bEtypeKnown1 (b : Nat) : Key := boltKey b 0x0C 0x02
/-- ETYPE_KNOWN_2 (0x2000+0x100b+0x0C:03, R354). -/
abbrev Reg.bEtypeKnown2 (b : Nat) : Key := boltKey b 0x0C 0x03
/-- ETYPE_KNOWN_3 (0x2000+0x100b+0x0C:04, R354). -/
abbrev Reg.bEtypeKnown3 (b : Nat) : Key := boltKey b 0x0C 0x04
/-- ETYPE_KNOWN_4 (0x2000+0x100b+0x0C:05, R354). -/
abbrev Reg.bEtypeKnown4 (b : Nat) : Key := boltKey b 0x0C 0x05
/-- ETYPE_KNOWN_5 (0x2000+0x100b+0x0C:06, R354). -/
abbrev Reg.bEtypeKnown5 (b : Nat) : Key := boltKey b 0x0C 0x06
/-- ETYPE_KNOWN_6 (0x2000+0x100b+0x0C:07, R354). -/
abbrev Reg.bEtypeKnown6 (b : Nat) : Key := boltKey b 0x0C 0x07
/-- ETYPE_KNOWN_7 (0x2000+0x100b+0x0C:08, R354). -/
abbrev Reg.bEtypeKnown7 (b : Nat) : Key := boltKey b 0x0C 0x08
/-- ETYPE_KNOWN_8 (0x2000+0x100b+0x0C:09, R354). -/
abbrev Reg.bEtypeKnown8 (b : Nat) : Key := boltKey b 0x0C 0x09
/-- ETYPE_KNOWN_9 (0x2000+0x100b+0x0C:0A, R354). -/
abbrev Reg.bEtypeKnown9 (b : Nat) : Key := boltKey b 0x0C 0x0A
/-- ETYPE_KNOWN_10 (0x2000+0x100b+0x0C:0B, R354). -/
abbrev Reg.bEtypeKnown10 (b : Nat) : Key := boltKey b 0x0C 0x0B
/-- ETYPE_KNOWN_11 (0x2000+0x100b+0x0C:0C, R354). -/
abbrev Reg.bEtypeKnown11 (b : Nat) : Key := boltKey b 0x0C 0x0C
/-- ETYPE_KNOWN_12 (0x2000+0x100b+0x0C:0D, R354). -/
abbrev Reg.bEtypeKnown12 (b : Nat) : Key := boltKey b 0x0C 0x0D
/-- ETYPE_KNOWN_13 (0x2000+0x100b+0x0C:0E, R354). -/
abbrev Reg.bEtypeKnown13 (b : Nat) : Key := boltKey b 0x0C 0x0E
/-- ETYPE_KNOWN_14 (0x2000+0x100b+0x0C:0F, R354). -/
abbrev Reg.bEtypeKnown14 (b : Nat) : Key := boltKey b 0x0C 0x0F
/-- ETYPE_KNOWN_15 (0x2000+0x100b+0x0C:10, R354). -/
abbrev Reg.bEtypeKnown15 (b : Nat) : Key := boltKey b 0x0C 0x10
/-- LINK_UP (0x3000+4p+1:10, R369). -/
abbrev Reg.pLinkUp (p : Nat) : Key := portKey p 1 0x10
/-- LINK_CHANGES (0x3000+4p+1:11, R369). -/
abbrev Reg.pLinkChanges (p : Nat) : Key := portKey p 1 0x11
/-- FAULT_RX (0x3000+4p+1:12, R369). -/
abbrev Reg.pFaultRx (p : Nat) : Key := portKey p 1 0x12
/-- INGRESS_BYTES (0x3000+4p+1:13, R369). -/
abbrev Reg.pIngressBytes (p : Nat) : Key := portKey p 1 0x13
/-- XOFF_STATE (0x3000+4p+1:14, R369). -/
abbrev Reg.pXoffState (p : Nat) : Key := portKey p 1 0x14
/-- PAUSED_BY_PEER (0x3000+4p+1:15, R369). -/
abbrev Reg.pPausedByPeer (p : Nat) : Key := portKey p 1 0x15
/-- RX_FRAMES (0x3000+4p+2:01, R370). -/
abbrev Reg.pRxFrames (p : Nat) : Key := portKey p 2 0x01
/-- RX_OCTETS (0x3000+4p+2:02, R370). -/
abbrev Reg.pRxOctets (p : Nat) : Key := portKey p 2 0x02
/-- TX_FRAMES (0x3000+4p+2:03, R370). -/
abbrev Reg.pTxFrames (p : Nat) : Key := portKey p 2 0x03
/-- TX_OCTETS (0x3000+4p+2:04, R370). -/
abbrev Reg.pTxOctets (p : Nat) : Key := portKey p 2 0x04
/-- RUNTS (0x3000+4p+2:05, R370). -/
abbrev Reg.pRunts (p : Nat) : Key := portKey p 2 0x05
/-- FCS_ERRORS (0x3000+4p+2:06, R370). -/
abbrev Reg.pFcsErrors (p : Nat) : Key := portKey p 2 0x06
/-- OVERSIZE (0x3000+4p+2:07, R370). -/
abbrev Reg.pOversize (p : Nat) : Key := portKey p 2 0x07
/-- GROUP_FILTERED (0x3000+4p+2:08, R370). -/
abbrev Reg.pGroupFiltered (p : Nat) : Key := portKey p 2 0x08
/-- MAC_CONTROL (0x3000+4p+2:09, R370). -/
abbrev Reg.pMacControl (p : Nat) : Key := portKey p 2 0x09
/-- NO_XCONNECT (0x3000+4p+2:0A, R370). -/
abbrev Reg.pNoXconnect (p : Nat) : Key := portKey p 2 0x0A
/-- UNKNOWN_ETYPE (0x3000+4p+2:0B, R370). -/
abbrev Reg.pUnknownEtype (p : Nat) : Key := portKey p 2 0x0B
/-- NO_MATCH_DISCARDS (0x3000+4p+2:0C, R370). -/
abbrev Reg.pNoMatchDiscards (p : Nat) : Key := portKey p 2 0x0C
/-- POLICY_DISCARDS (0x3000+4p+2:0D, R370). -/
abbrev Reg.pPolicyDiscards (p : Nat) : Key := portKey p 2 0x0D
/-- UNTAGGED_DISCARDS (0x3000+4p+2:0E, R370). -/
abbrev Reg.pUntaggedDiscards (p : Nat) : Key := portKey p 2 0x0E
/-- BAD_TAG (0x3000+4p+2:0F, R370). -/
abbrev Reg.pBadTag (p : Nat) : Key := portKey p 2 0x0F
/-- WRONG_CARRIER (0x3000+4p+2:10, R370). -/
abbrev Reg.pWrongCarrier (p : Nat) : Key := portKey p 2 0x10
/-- VID_MISMATCH (0x3000+4p+2:11, R370). -/
abbrev Reg.pVidMismatch (p : Nat) : Key := portKey p 2 0x11
/-- OVERLOAD_DROPS (0x3000+4p+2:12, R370). -/
abbrev Reg.pOverloadDrops (p : Nat) : Key := portKey p 2 0x12
/-- LINK_DOWN_DISCARDS (0x3000+4p+2:13, R370). -/
abbrev Reg.pLinkDownDiscards (p : Nat) : Key := portKey p 2 0x13
/-- STOPPED_DISCARDS (0x3000+4p+2:14, R370). -/
abbrev Reg.pStoppedDiscards (p : Nat) : Key := portKey p 2 0x14
/-- PAUSE_TX (0x3000+4p+2:15, R370). -/
abbrev Reg.pPauseTx (p : Nat) : Key := portKey p 2 0x15
/-- PAUSE_RX (0x3000+4p+2:16, R370). -/
abbrev Reg.pPauseRx (p : Nat) : Key := portKey p 2 0x16
/-- POISONED_TX (0x3000+4p+2:17, R370). -/
abbrev Reg.pPoisonedTx (p : Nat) : Key := portKey p 2 0x17
/-- LEN_DISCARDS (0x3000+4p+2:18, R370). -/
abbrev Reg.pLenDiscards (p : Nat) : Key := portKey p 2 0x18
/-- C_UNDERRUNS (0x3000+4p+2:19, R370). -/
abbrev Reg.pCUnderruns (p : Nat) : Key := portKey p 2 0x19
/-- D_LATE (0x3000+4p+2:1A, R370). -/
abbrev Reg.pDLate (p : Nat) : Key := portKey p 2 0x1A
/-- D_GUARD_DISCARDS (0x3000+4p+2:1B, R370). -/
abbrev Reg.pDGuardDiscards (p : Nat) : Key := portKey p 2 0x1B
/-- D_UNDERRUNS (0x3000+4p+2:1C, R370). -/
abbrev Reg.pDUnderruns (p : Nat) : Key := portKey p 2 0x1C
/-- EXPANSION_OCTETS (0x3000+4p+2:1D, R370). -/
abbrev Reg.pExpansionOctets (p : Nat) : Key := portKey p 2 0x1D
/-- TG_LANES (0x4400:10, R386). -/
abbrev Reg.tgLanes (row : Nat) : Key := .row 0x4400 row 0x10
/-- TG_DEG_THRESH (0x4400:11, R386). -/
abbrev Reg.tgDegThresh (row : Nat) : Key := .row 0x4400 row 0x11
/-- TG_DEG_N (0x4400:12, R386). -/
abbrev Reg.tgDegN (row : Nat) : Key := .row 0x4400 row 0x12
/-- TG_DEG_M (0x4400:13, R386). -/
abbrev Reg.tgDegM (row : Nat) : Key := .row 0x4400 row 0x13
/-- TG_ACQ_HOLD (0x4400:14, R386). -/
abbrev Reg.tgAcqHold (row : Nat) : Key := .row 0x4400 row 0x14
/-- TG_FORCE_ACQ (0x4400:15, R386). -/
abbrev Reg.tgForceAcq (row : Nat) : Key := .row 0x4400 row 0x15
/-- TG_REGIME (0x4400:16, R386). -/
abbrev Reg.tgRegime (row : Nat) : Key := .row 0x4400 row 0x16
/-- TG_SKEW_NS (0x4400:17, R386). -/
abbrev Reg.tgSkewNs (row : Nat) : Key := .row 0x4400 row 0x17
/-- CAL_TRIB (0x4400:20, R387). -/
abbrev Reg.calTrib (row : Nat) : Key := .row 0x4400 row 0x20
/-- CAL_FAR_PORT (0x4400:21, R387). -/
abbrev Reg.calFarPort (row : Nat) : Key := .row 0x4400 row 0x21
/-- TRIB_GROUP (0x3000+4p:30, R396). -/
abbrev Reg.pTribGroup (p : Nat) : Key := portKey p 0 0x30
/-- TRIB_PAYLOAD (0x3000+4p:31, R396). -/
abbrev Reg.pTribPayload (p : Nat) : Key := portKey p 0 0x31
/-- TRIB_LABEL_EXP (0x3000+4p:32, R396). -/
abbrev Reg.pTribLabelExp (p : Nat) : Key := portKey p 0 0x32
/-- TRIB_VERIFY_HOLD (0x3000+4p:33, R396). -/
abbrev Reg.pTribVerifyHold (p : Nat) : Key := portKey p 0 0x33
/-- TRIB_TIMING (0x3000+4p:34, R396). -/
abbrev Reg.pTribTiming (p : Nat) : Key := portKey p 0 0x34
/-- TRIB_PC_START (0x3000+4p:35, R396). -/
abbrev Reg.pTribPcStart (p : Nat) : Key := portKey p 0 0x35
/-- TRIB_BACKLOG_LIMIT (0x3000+4p:36, R396). -/
abbrev Reg.pTribBacklogLimit (p : Nat) : Key := portKey p 0 0x36
/-- TL_STATUS (0x2000+0x100b+0x20+l:01, R426). -/
abbrev Reg.tlStatus (b l : Nat) : Key := boltKey b (0x20 + l) 0x01
/-- TL_FEC_CORR_SYM (0x2000+0x100b+0x20+l:02, R426). -/
abbrev Reg.tlFecCorrSym (b l : Nat) : Key := boltKey b (0x20 + l) 0x02
/-- TL_FEC_UNCORR_CW (0x2000+0x100b+0x20+l:03, R426). -/
abbrev Reg.tlFecUncorrCw (b l : Nat) : Key := boltKey b (0x20 + l) 0x03
/-- TL_FAS_ERRORS (0x2000+0x100b+0x20+l:04, R426). -/
abbrev Reg.tlFasErrors (b l : Nat) : Key := boltKey b (0x20 + l) 0x04
/-- TL_OH_CRC_ERRORS (0x2000+0x100b+0x20+l:05, R426). -/
abbrev Reg.tlOhCrcErrors (b l : Nat) : Key := boltKey b (0x20 + l) 0x05
/-- TL_FAR_ID (0x2000+0x100b+0x20+l:06, R426). -/
abbrev Reg.tlFarId (b l : Nat) : Key := boltKey b (0x20 + l) 0x06
/-- LS_CORR_SYM (0x2000+0x100b+0x20+l:10, R426). -/
abbrev Reg.lsCorrSym (b l : Nat) : Key := boltKey b (0x20 + l) 0x10
/-- LS_UNCORR_CW (0x2000+0x100b+0x20+l:11, R426). -/
abbrev Reg.lsUncorrCw (b l : Nat) : Key := boltKey b (0x20 + l) 0x11
/-- LS_DEFECT_SEC (0x2000+0x100b+0x20+l:12, R426). -/
abbrev Reg.lsDefectSec (b l : Nat) : Key := boltKey b (0x20 + l) 0x12
/-- TRIB_SLOTS (0x3000+4p+1:30, R428). -/
abbrev Reg.pTribSlots (p : Nat) : Key := portKey p 1 0x30
/-- TRIB_PC_NEXT (0x3000+4p+1:31, R428). -/
abbrev Reg.pTribPcNext (p : Nat) : Key := portKey p 1 0x31
/-- TRIB_KEY_COUNT (0x3000+4p+1:32, R428). -/
abbrev Reg.pTribKeyCount (p : Nat) : Key := portKey p 1 0x32
/-- TRIB_LABEL_RX (0x3000+4p+1:33, R428). -/
abbrev Reg.pTribLabelRx (p : Nat) : Key := portKey p 1 0x33
/-- TRIB_PLM (0x3000+4p+1:34, R428). -/
abbrev Reg.pTribPlm (p : Nat) : Key := portKey p 1 0x34
/-- TRIB_DELINEATED (0x3000+4p+1:35, R428). -/
abbrev Reg.pTribDelineated (p : Nat) : Key := portKey p 1 0x35
/-- PANELS_TX (0x3000+4p+2:30, R428). -/
abbrev Reg.pPanelsTx (p : Nat) : Key := portKey p 2 0x30
/-- PANELS_OK (0x3000+4p+2:31, R428). -/
abbrev Reg.pPanelsOk (p : Nat) : Key := portKey p 2 0x31
/-- AUTH (0x3000+4p+2:32, R428). -/
abbrev Reg.pAuth (p : Nat) : Key := portKey p 2 0x32
/-- PANELS_FEC_LOST (0x3000+4p+2:33, R428). -/
abbrev Reg.pPanelsFecLost (p : Nat) : Key := portKey p 2 0x33
/-- PANELS_STALE (0x3000+4p+2:34, R428). -/
abbrev Reg.pPanelsStale (p : Nat) : Key := portKey p 2 0x34
/-- DELINEATION_LOSSES (0x3000+4p+2:35, R428). -/
abbrev Reg.pDelineationLosses (p : Nat) : Key := portKey p 2 0x35
/-- PLM_DISCARDS (0x3000+4p+2:36, R428). -/
abbrev Reg.pPlmDiscards (p : Nat) : Key := portKey p 2 0x36
/-- PRBS_ERRORS (0x3000+4p+2:37, R428). -/
abbrev Reg.pPrbsErrors (p : Nat) : Key := portKey p 2 0x37
/-- LS_PANELS_TX (0x3000+4p+2:40, R428). -/
abbrev Reg.pLsPanelsTx (p : Nat) : Key := portKey p 2 0x40
/-- LS_PANELS_OK (0x3000+4p+2:41, R428). -/
abbrev Reg.pLsPanelsOk (p : Nat) : Key := portKey p 2 0x41
/-- LS_AUTH (0x3000+4p+2:42, R428). -/
abbrev Reg.pLsAuth (p : Nat) : Key := portKey p 2 0x42
/-- LS_PANELS_FEC_LOST (0x3000+4p+2:43, R428). -/
abbrev Reg.pLsPanelsFecLost (p : Nat) : Key := portKey p 2 0x43
/-- LS_PANELS_STALE (0x3000+4p+2:44, R428). -/
abbrev Reg.pLsPanelsStale (p : Nat) : Key := portKey p 2 0x44
/-- LS_DELINEATION_LOSSES (0x3000+4p+2:45, R428). -/
abbrev Reg.pLsDelineationLosses (p : Nat) : Key := portKey p 2 0x45
/-- LS_PLM_DISCARDS (0x3000+4p+2:46, R428). -/
abbrev Reg.pLsPlmDiscards (p : Nat) : Key := portKey p 2 0x46
/-- LS_PRBS_ERRORS (0x3000+4p+2:47, R428). -/
abbrev Reg.pLsPrbsErrors (p : Nat) : Key := portKey p 2 0x47
/-- LS_SECOND (0x2000+0x100b+0x1F:01, R429). -/
abbrev Reg.bLsSecond (b : Nat) : Key := boltKey b 0x1F 0x01
/-- LS_SEQ (0x2000+0x100b+0x1F:02, R429). -/
abbrev Reg.bLsSeq (b : Nat) : Key := boltKey b 0x1F 0x02
/-- LS_IRREGULAR (0x2000+0x100b+0x1F:03, R429). -/
abbrev Reg.bLsIrregular (b : Nat) : Key := boltKey b 0x1F 0x03
/-- SS_SUITE (0x4700:10, R435). -/
abbrev Reg.ssSuite (row : Nat) : Key := .row 0x4700 row 0x10
/-- SS_SECTOR_SIZE (0x4700:11, R435). -/
abbrev Reg.ssSectorSize (row : Nat) : Key := .row 0x4700 row 0x11
/-- SS_LBA_OFFSET (0x4700:12, R435). -/
abbrev Reg.ssLbaOffset (row : Nat) : Key := .row 0x4700 row 0x12
/-- SS_LBA_WIDTH (0x4700:13, R435). -/
abbrev Reg.ssLbaWidth (row : Nat) : Key := .row 0x4700 row 0x13
/-- SS_LBA_ORDER (0x4700:14, R435). -/
abbrev Reg.ssLbaOrder (row : Nat) : Key := .row 0x4700 row 0x14
/-- SS_DATA_OFFSET (0x4700:15, R435). -/
abbrev Reg.ssDataOffset (row : Nat) : Key := .row 0x4700 row 0x15
/-- SS_TRAILER (0x4700:16, R435). -/
abbrev Reg.ssTrailer (row : Nat) : Key := .row 0x4700 row 0x16
/-- SS_KEY_SRC (0x4700:17, R435). -/
abbrev Reg.ssKeySrc (row : Nat) : Key := .row 0x4700 row 0x17
/-- SS_KEY_REF (0x4700:18, R435). -/
abbrev Reg.ssKeyRef (row : Nat) : Key := .row 0x4700 row 0x18
/-- SS_KEY_ID (0x4700:19, R435). -/
abbrev Reg.ssKeyId (row : Nat) : Key := .row 0x4700 row 0x19
/-- SS_BLOB_GEN (0x4700:1A, R435). -/
abbrev Reg.ssBlobGen (row : Nat) : Key := .row 0x4700 row 0x1A
/-- SS_FRAMES_ENC (0x4700:30, R435). -/
abbrev Reg.ssFramesEnc (row : Nat) : Key := .row 0x4700 row 0x30
/-- SS_FRAMES_DEC (0x4700:31, R435). -/
abbrev Reg.ssFramesDec (row : Nat) : Key := .row 0x4700 row 0x31
/-- SS_SECTORS (0x4700:32, R435). -/
abbrev Reg.ssSectors (row : Nat) : Key := .row 0x4700 row 0x32
/-- SS_NO_SECTOR (0x4700:33, R435). -/
abbrev Reg.ssNoSector (row : Nat) : Key := .row 0x4700 row 0x33
/-- SS_DISCARDS (0x4700:34, R435). -/
abbrev Reg.ssDiscards (row : Nat) : Key := .row 0x4700 row 0x34
/-- SECTOR_E_STALLS (0x2000+0x100b+0x0D:01, R454). -/
abbrev Reg.bSectorEStalls (b : Nat) : Key := boltKey b 0x0D 0x01
/-- SECTOR_D_STALLS (0x2000+0x100b+0x0D:02, R454). -/
abbrev Reg.bSectorDStalls (b : Nat) : Key := boltKey b 0x0D 0x02
/-- SECTOR_NOT_RUNNING (0x2000+0x100b+0x0D:03, R454). -/
abbrev Reg.bSectorNotRunning (b : Nat) : Key := boltKey b 0x0D 0x03
/-- LN_RATE (0x1900+n:10, R488). -/
abbrev Reg.lnRate (n : Nat) : Key := .dev ((0x1900 + n) * 256 + 0x10)
/-- LN_PRECODE (0x1900+n:11, R488). -/
abbrev Reg.lnPrecode (n : Nat) : Key := .dev ((0x1900 + n) * 256 + 0x11)
/-- LN_INVERT (0x1900+n:12, R488). -/
abbrev Reg.lnInvert (n : Nat) : Key := .dev ((0x1900 + n) * 256 + 0x12)
/-- LN_FFE (0x1900+n:13, R488). -/
abbrev Reg.lnFfe (n : Nat) : Key := .dev ((0x1900 + n) * 256 + 0x13)
/-- LN_CTLE (0x1900+n:14, R488). -/
abbrev Reg.lnCtle (n : Nat) : Key := .dev ((0x1900 + n) * 256 + 0x14)
/-- LN_SLEEP (0x1900+n:15, R488). -/
abbrev Reg.lnSleep (n : Nat) : Key := .dev ((0x1900 + n) * 256 + 0x15)
/-- LN_PATTERN (0x1900+n:16, R488). -/
abbrev Reg.lnPattern (n : Nat) : Key := .dev ((0x1900 + n) * 256 + 0x16)
/-- LN_LOOPBACK (0x1900+n:17, R488). -/
abbrev Reg.lnLoopback (n : Nat) : Key := .dev ((0x1900 + n) * 256 + 0x17)
/-- LN_STATE (0x1900+n:20, R488). -/
abbrev Reg.lnState (n : Nat) : Key := .dev ((0x1900 + n) * 256 + 0x20)
/-- LN_STATUS (0x1900+n:21, R488). -/
abbrev Reg.lnStatus (n : Nat) : Key := .dev ((0x1900 + n) * 256 + 0x21)
/-- LN_OWNER (0x1900+n:22, R488). -/
abbrev Reg.lnOwner (n : Nat) : Key := .dev ((0x1900 + n) * 256 + 0x22)
/-- LN_RX_PPM (0x1900+n:23, R488). -/
abbrev Reg.lnRxPpm (n : Nat) : Key := .dev ((0x1900 + n) * 256 + 0x23)
/-- LN_SNR (0x1900+n:24, R488). -/
abbrev Reg.lnSnr (n : Nat) : Key := .dev ((0x1900 + n) * 256 + 0x24)
/-- LN_CTLE_USED (0x1900+n:25, R488). -/
abbrev Reg.lnCtleUsed (n : Nat) : Key := .dev ((0x1900 + n) * 256 + 0x25)
/-- LN_LOCK_LOSSES (0x1900+n:30, R488). -/
abbrev Reg.lnLockLosses (n : Nat) : Key := .dev ((0x1900 + n) * 256 + 0x30)
/-- LN_LOS_COUNT (0x1900+n:31, R488). -/
abbrev Reg.lnLosCount (n : Nat) : Key := .dev ((0x1900 + n) * 256 + 0x31)
/-- LN_ACQ_RETRIES (0x1900+n:32, R488). -/
abbrev Reg.lnAcqRetries (n : Nat) : Key := .dev ((0x1900 + n) * 256 + 0x32)
/-- LN_WAKE_SLOW (0x1900+n:33, R488). -/
abbrev Reg.lnWakeSlow (n : Nat) : Key := .dev ((0x1900 + n) * 256 + 0x33)
/-- LN_PRBS_BITS (0x1900+n:34, R488). -/
abbrev Reg.lnPrbsBits (n : Nat) : Key := .dev ((0x1900 + n) * 256 + 0x34)
/-- LN_PRBS_ERRORS (0x1900+n:35, R488). -/
abbrev Reg.lnPrbsErrors (n : Nat) : Key := .dev ((0x1900 + n) * 256 + 0x35)
/-- REF_STATE (0x2000+0x100b+0x0E:01, R491). -/
abbrev Reg.bRefState (b : Nat) : Key := boltKey b 0x0E 0x01
/-- REF_PPM (0x2000+0x100b+0x0E:02, R491). -/
abbrev Reg.bRefPpm (b : Nat) : Key := boltKey b 0x0E 0x02
/-- REF_FAULTS (0x2000+0x100b+0x0E:03, R491). -/
abbrev Reg.bRefFaults (b : Nat) : Key := boltKey b 0x0E 0x03
/-- GE_MASK (0x4600:10, R509). -/
abbrev Reg.geMask (row : Nat) : Key := .row 0x4600 row 0x10
/-- GE_INTERVAL (0x4600:11, R509). -/
abbrev Reg.geInterval (row : Nat) : Key := .row 0x4600 row 0x11
/-- Q_STRICT (0x3000+4p+3:40, R520). -/
abbrev Reg.pQStrict (p : Nat) : Key := portKey p 3 0x40
/-- LEN_OVERHEAD (0x3000+4p+3:41, R520). -/
abbrev Reg.pLenOverhead (p : Nat) : Key := portKey p 3 0x41
/-- PORT_WEIGHT (0x3000+4p+3:42, R520). -/
abbrev Reg.pPortWeight (p : Nat) : Key := portKey p 3 0x42
/-- GATE_ENABLE (0x3000+4p+3:43, R520). -/
abbrev Reg.pGateEnable (p : Nat) : Key := portKey p 3 0x43
/-- ADMIN_BASE (0x3000+4p+3:44, R520). -/
abbrev Reg.pAdminBase (p : Nat) : Key := portKey p 3 0x44
/-- ADMIN_CYCLE (0x3000+4p+3:45, R520). -/
abbrev Reg.pAdminCycle (p : Nat) : Key := portKey p 3 0x45
/-- ADMIN_LEN (0x3000+4p+3:46, R520). -/
abbrev Reg.pAdminLen (p : Nat) : Key := portKey p 3 0x46
/-- OPER_BASE (0x3000+4p+3:47, R520). -/
abbrev Reg.pOperBase (p : Nat) : Key := portKey p 3 0x47
/-- OPER_CYCLE (0x3000+4p+3:48, R520). -/
abbrev Reg.pOperCycle (p : Nat) : Key := portKey p 3 0x48
/-- OPER_LEN (0x3000+4p+3:49, R520). -/
abbrev Reg.pOperLen (p : Nat) : Key := portKey p 3 0x49
/-- TAKEOVER_TIME (0x3000+4p+3:4A, R520). -/
abbrev Reg.pTakeoverTime (p : Nat) : Key := portKey p 3 0x4A
/-- GATE_NOW (0x3000+4p+3:4B, R520). -/
abbrev Reg.pGateNow (p : Nat) : Key := portKey p 3 0x4B
/-- OPER_ENTRY (0x3000+4p+3:4C, R520). -/
abbrev Reg.pOperEntry (p : Nat) : Key := portKey p 3 0x4C
/-- GATE_OVERSIZE (0x3000+4p+2:50, R520). -/
abbrev Reg.pGateOversize (p : Nat) : Key := portKey p 2 0x50
/-- Q_CLASS (0x4500:10, R521). -/
abbrev Reg.qClass (row : Nat) : Key := .row 0x4500 row 0x10
/-- Q_WEIGHT (0x4500:11, R521). -/
abbrev Reg.qWeight (row : Nat) : Key := .row 0x4500 row 0x11
/-- Q_IDLE_SLOPE (0x4500:12, R521). -/
abbrev Reg.qIdleSlope (row : Nat) : Key := .row 0x4500 row 0x12
/-- Q_SEND_SLOPE (0x4500:13, R521). -/
abbrev Reg.qSendSlope (row : Nat) : Key := .row 0x4500 row 0x13
/-- Q_LIMIT (0x4500:14, R521). -/
abbrev Reg.qLimit (row : Nat) : Key := .row 0x4500 row 0x14
/-- Q_DEPTH (0x4500:20, R521). -/
abbrev Reg.qDepth (row : Nat) : Key := .row 0x4500 row 0x20
/-- Q_CREDIT (0x4500:21, R521). -/
abbrev Reg.qCredit (row : Nat) : Key := .row 0x4500 row 0x21
/-- Q_DEFICIT (0x4500:22, R521). -/
abbrev Reg.qDeficit (row : Nat) : Key := .row 0x4500 row 0x22
/-- Q_TX_FRAMES (0x4500:30, R521). -/
abbrev Reg.qTxFrames (row : Nat) : Key := .row 0x4500 row 0x30
/-- Q_TX_OCTETS (0x4500:31, R521). -/
abbrev Reg.qTxOctets (row : Nat) : Key := .row 0x4500 row 0x31
/-- Q_ADMIT_DROPS (0x4500:32, R521). -/
abbrev Reg.qAdmitDrops (row : Nat) : Key := .row 0x4500 row 0x32
/-- Q_FAULT_DISCARDS (0x4500:33, R521). -/
abbrev Reg.qFaultDiscards (row : Nat) : Key := .row 0x4500 row 0x33
/-- UPTIME (0x1002:01, R551). -/
abbrev Reg.uptime : Key := .dev 0x100201
/-- TIME_NOW (0x1200:01, R551). -/
abbrev Reg.timeNow : Key := .dev 0x120001
/-- TIME_SET (0x1200:02, R551). -/
abbrev Reg.timeSet : Key := .dev 0x120002
/-- TIME_ADJ (0x1200:03, R551). -/
abbrev Reg.timeAdj : Key := .dev 0x120003
/-- TIME_FREQ (0x1200:04, R551). -/
abbrev Reg.timeFreq : Key := .dev 0x120004
/-- TIME_VALID (0x1200:05, R551). -/
abbrev Reg.timeValid : Key := .dev 0x120005
/-- TIME_STEPS (0x1200:06, R551). -/
abbrev Reg.timeSteps : Key := .dev 0x120006
/-- TIME_ADJ_LEFT (0x1200:07, R551). -/
abbrev Reg.timeAdjLeft : Key := .dev 0x120007
/-- TSI_EDGE (0x1210+i:01, R551). -/
abbrev Reg.tsiEdge (n : Nat) : Key := .dev ((0x1210 + n) * 256 + 0x01)
/-- TSI_COUNT (0x1210+i:02, R551). -/
abbrev Reg.tsiCount (n : Nat) : Key := .dev ((0x1210 + n) * 256 + 0x02)
/-- TSI_HEAD (0x1210+i:03, R551). -/
abbrev Reg.tsiHead (n : Nat) : Key := .dev ((0x1210 + n) * 256 + 0x03)
/-- TSI_HEAD_FRAC (0x1210+i:04, R551). -/
abbrev Reg.tsiHeadFrac (n : Nat) : Key := .dev ((0x1210 + n) * 256 + 0x04)
/-- TSI_HEAD_INFO (0x1210+i:05, R551). -/
abbrev Reg.tsiHeadInfo (n : Nat) : Key := .dev ((0x1210 + n) * 256 + 0x05)
/-- TSI_POP (0x1210+i:06, R551). -/
abbrev Reg.tsiPop (n : Nat) : Key := .dev ((0x1210 + n) * 256 + 0x06)
/-- TSI_LOST (0x1210+i:07, R551). -/
abbrev Reg.tsiLost (n : Nat) : Key := .dev ((0x1210 + n) * 256 + 0x07)
/-- PPS_ENABLE (0x1220:01, R551). -/
abbrev Reg.ppsEnable : Key := .dev 0x122001
/-- PPS_WIDTH (0x1220:02, R551). -/
abbrev Reg.ppsWidth : Key := .dev 0x122002
/-- PPS_OFFSET (0x1220:03, R551). -/
abbrev Reg.ppsOffset : Key := .dev 0x122003
/-- TC_ENABLE (0x3000+4p:26, R552). -/
abbrev Reg.pTcEnable (p : Nat) : Key := portKey p 0 0x26
/-- TC_TX_ALLOW (0x3000+4p:27, R552). -/
abbrev Reg.pTcTxAllow (p : Nat) : Key := portKey p 0 0x27
/-- TS_RX_ADJ (0x3000+4p:28, R552). -/
abbrev Reg.pTsRxAdj (p : Nat) : Key := portKey p 0 0x28
/-- TS_TX_ADJ (0x3000+4p:29, R552). -/
abbrev Reg.pTsTxAdj (p : Nat) : Key := portKey p 0 0x29
/-- TC_ERR_LIMIT (0x3000+4p:2A, R552). -/
abbrev Reg.pTcErrLimit (p : Nat) : Key := portKey p 0 0x2A
/-- TC_ERR_MAX (0x3000+4p+1:40, R552). -/
abbrev Reg.pTcErrMax (p : Nat) : Key := portKey p 1 0x40
/-- TC_CORRECTED (0x3000+4p+2:60, R552). -/
abbrev Reg.pTcCorrected (p : Nat) : Key := portKey p 2 0x60
/-- TC_OVER_LIMIT (0x3000+4p+2:61, R552). -/
abbrev Reg.pTcOverLimit (p : Nat) : Key := portKey p 2 0x61
/-- TC_SATURATED (0x3000+4p+2:62, R552). -/
abbrev Reg.pTcSaturated (p : Nat) : Key := portKey p 2 0x62
/-- I3C_STATIC_ADDR (0x1100:01, R586). -/
abbrev Reg.i3cStaticAddr : Key := .dev 0x110001
/-- I3C_DYN_ADDR (0x1100:02, R586). -/
abbrev Reg.i3cDynAddr : Key := .dev 0x110002
/-- I3C_ACCESS (0x1100:03, R586). -/
abbrev Reg.i3cAccess : Key := .dev 0x110003
/-- I3C_RESP_IBI (0x1100:04, R586). -/
abbrev Reg.i3cRespIbi : Key := .dev 0x110004
/-- I3C_CRC_ERRORS (0x1100:05, R586). -/
abbrev Reg.i3cCrcErrors : Key := .dev 0x110005
/-- I3C_RESP_DISCARDED (0x1100:06, R586). -/
abbrev Reg.i3cRespDiscarded : Key := .dev 0x110006
/-- MGMT_MAC (0x1101:01, R586). -/
abbrev Reg.mgmtMac : Key := .dev 0x110101
/-- SILSY_ETYPE (0x1101:02, R586). -/
abbrev Reg.silsyEtype : Key := .dev 0x110102
/-- T1S_ENABLE (0x1101:03, R586). -/
abbrev Reg.t1sEnable : Key := .dev 0x110103
/-- T1S_TERM (0x1101:04, R586). -/
abbrev Reg.t1sTerm : Key := .dev 0x110104
/-- SESS_IDLE (0x1101:05, R586). -/
abbrev Reg.sessIdle : Key := .dev 0x110105
/-- T1S_COLLISIONS (0x1101:06, R586). -/
abbrev Reg.t1sCollisions : Key := .dev 0x110106
/-- T1S_EXCESS_COLL (0x1101:07, R586). -/
abbrev Reg.t1sExcessColl : Key := .dev 0x110107
/-- IB_DISCARDS (0x1101:08, R586). -/
abbrev Reg.ibDiscards : Key := .dev 0x110108
/-- AUTH_FAILS (0x1101:09, R586). -/
abbrev Reg.authFails : Key := .dev 0x110109
/-- HANDSHAKE_FAILS (0x1101:0A, R586). -/
abbrev Reg.handshakeFails : Key := .dev 0x11010A
/-- SESS_SELF (0x1102:01, R586). -/
abbrev Reg.sessSelf : Key := .dev 0x110201
/-- SESS_STATE (0x1110+s:01, R586). -/
abbrev Reg.sessState (n : Nat) : Key := .dev ((0x1110 + n) * 256 + 0x01)
/-- SESS_CRED (0x1110+s:02, R586). -/
abbrev Reg.sessCred (n : Nat) : Key := .dev ((0x1110 + n) * 256 + 0x02)
/-- SESS_PEER (0x1110+s:03, R586). -/
abbrev Reg.sessPeer (n : Nat) : Key := .dev ((0x1110 + n) * 256 + 0x03)
/-- SESS_PORT (0x1110+s:04, R586). -/
abbrev Reg.sessPort (n : Nat) : Key := .dev ((0x1110 + n) * 256 + 0x04)
/-- SESS_OPENED (0x1110+s:05, R586). -/
abbrev Reg.sessOpened (n : Nat) : Key := .dev ((0x1110 + n) * 256 + 0x05)
/-- SESS_CLOSE (0x1110+s:06, R586). -/
abbrev Reg.sessClose (n : Nat) : Key := .dev ((0x1110 + n) * 256 + 0x06)
/-- SESS_REQUESTS (0x1110+s:07, R586). -/
abbrev Reg.sessRequests (n : Nat) : Key := .dev ((0x1110 + n) * 256 + 0x07)
/-- MGMT_IN (0x3000+4p:2B, R587). -/
abbrev Reg.pMgmtIn (p : Nat) : Key := portKey p 0 0x2B
/-- LC_STATE (0x1003:01, R624). -/
abbrev Reg.lcState : Key := .dev 0x100301
/-- LC_CODEWORD (0x1003:02, R624). -/
abbrev Reg.lcCodeword : Key := .dev 0x100302
/-- TEST_TOKENS_USED (0x1003:03, R624). -/
abbrev Reg.testTokensUsed : Key := .dev 0x100303
/-- DIE_ID (0x1003:04, R624). -/
abbrev Reg.dieId : Key := .dev 0x100304
/-- DEVICE_ID (0x1003:05, R624). -/
abbrev Reg.deviceId : Key := .dev 0x100305
/-- LC_REQUEST (0x1300:01, R624). -/
abbrev Reg.lcRequest : Key := .dev 0x130001
/-- LC_RESUME (0x1300:02, R624). -/
abbrev Reg.lcResume : Key := .dev 0x130002
/-- ID_PUB_ED (0x1320:01, R624). -/
abbrev Reg.idPubEd : Key := .dev 0x132001
/-- ID_PUB_ML (0x1320:02, R624). -/
abbrev Reg.idPubMl : Key := .dev 0x132002
/-- IDC_INFO (0x1320:03, R624). -/
abbrev Reg.idcInfo : Key := .dev 0x132003
/-- IDC_SIG_ED (0x1320:04, R624). -/
abbrev Reg.idcSigEd : Key := .dev 0x132004
/-- IDC_SIG_ML (0x1320:05, R624). -/
abbrev Reg.idcSigMl : Key := .dev 0x132005
/-- IDC_INSTALL (0x1320:06, R624). -/
abbrev Reg.idcInstall : Key := .dev 0x132006
/-- IDC_STATE (0x1320:07, R624). -/
abbrev Reg.idcState : Key := .dev 0x132007
/-- STMT_NONCE (0x1321:01, R624). -/
abbrev Reg.stmtNonce (s : Nat) : Key := .ses s 0x132101
/-- STMT_GO (0x1321:02, R624). -/
abbrev Reg.stmtGo : Key := .dev 0x132102
/-- STMT_BODY (0x1321:03, R624). -/
abbrev Reg.stmtBody (s : Nat) : Key := .ses s 0x132103
/-- STMT_SIG_ED (0x1321:04, R624). -/
abbrev Reg.stmtSigEd (s : Nat) : Key := .ses s 0x132104
/-- STMT_SIG_ML (0x1321:05, R624). -/
abbrev Reg.stmtSigMl (s : Nat) : Key := .ses s 0x132105
/-- DBG_NONCE (0x1340:01, R624). -/
abbrev Reg.dbgNonce : Key := .dev 0x134001
/-- DBG_POLICY (0x1340:02, R624). -/
abbrev Reg.dbgPolicy : Key := .dev 0x134002
/-- DBG_BODY (0x1340:03, R624). -/
abbrev Reg.dbgBody (s : Nat) : Key := .ses s 0x134003
/-- DBG_SIG_ED (0x1340:04, R624). -/
abbrev Reg.dbgSigEd (s : Nat) : Key := .ses s 0x134004
/-- DBG_SIG_ML (0x1340:05, R624). -/
abbrev Reg.dbgSigMl (s : Nat) : Key := .ses s 0x134005
/-- DBG_CMD (0x1340:06, R624). -/
abbrev Reg.dbgCmd : Key := .dev 0x134006
/-- DBG_RIGHTS (0x1340:07, R624). -/
abbrev Reg.dbgRights : Key := .dev 0x134007
/-- DBG_UNTIL (0x1340:08, R624). -/
abbrev Reg.dbgUntil : Key := .dev 0x134008
/-- DBG_MEM (0x1341:01, R624). -/
abbrev Reg.dbgMem : Key := .dev 0x134101
/-- DBG_ADDR (0x1341:02, R624). -/
abbrev Reg.dbgAddr : Key := .dev 0x134102
/-- DBG_DATA (0x1341:03, R624). -/
abbrev Reg.dbgData : Key := .dev 0x134103
/-- DBG_PAR (0x1341:04, R624). -/
abbrev Reg.dbgPar : Key := .dev 0x134104
/-- DBG_HEARTH (0x1341:05, R624). -/
abbrev Reg.dbgHearth : Key := .dev 0x134105
/-- FW_ACTIVE_CORE (0x1360:01, R624). -/
abbrev Reg.fwActiveCore : Key := .dev 0x136001
/-- FW_FLOOR (0x1360:02, R624). -/
abbrev Reg.fwFloor : Key := .dev 0x136002
/-- FW_FLOOR_SAT (0x1360:03, R624). -/
abbrev Reg.fwFloorSat : Key := .dev 0x136003
/-- FW_CHUNK_OFF (0x1360:04, R624). -/
abbrev Reg.fwChunkOff : Key := .dev 0x136004
/-- FW_CHUNK (0x1360:05, R624). -/
abbrev Reg.fwChunk : Key := .dev 0x136005
/-- FW_CMD (0x1360:06, R624). -/
abbrev Reg.fwCmd : Key := .dev 0x136006
/-- FW_STEP (0x1360:07, R624). -/
abbrev Reg.fwStep : Key := .dev 0x136007
/-- SLOT_STATE (0x1361+k:01, R624). -/
abbrev Reg.imageSlotState (n : Nat) : Key := .dev ((0x1361 + n) * 256 + 0x01)
/-- SLOT_VERSION (0x1361+k:02, R624). -/
abbrev Reg.imageSlotVersion (n : Nat) : Key := .dev ((0x1361 + n) * 256 + 0x02)
/-- SLOT_SV (0x1361+k:03, R624). -/
abbrev Reg.imageSlotSv (n : Nat) : Key := .dev ((0x1361 + n) * 256 + 0x03)
/-- SLOT_DIGEST (0x1361+k:04, R624). -/
abbrev Reg.imageSlotDigest (n : Nat) : Key := .dev ((0x1361 + n) * 256 + 0x04)
/-- CRED_ENROL (0x1380+c:01, R624). -/
abbrev Reg.credEnrol (n : Nat) : Key := .dev ((0x1380 + n) * 256 + 0x01)
/-- CRED_ROLES (0x1380+c:02, R624). -/
abbrev Reg.credRoles (n : Nat) : Key := .dev ((0x1380 + n) * 256 + 0x02)
/-- CRED_DIGEST (0x1380+c:03, R624). -/
abbrev Reg.credDigest (n : Nat) : Key := .dev ((0x1380 + n) * 256 + 0x03)
/-- RT_UCODE_VERSION (0x1700:01, R650). -/
abbrev Reg.rtUcodeVersion : Key := .dev 0x170001
/-- RT_UCODE_DIGEST (0x1700:02, R650). -/
abbrev Reg.rtUcodeDigest : Key := .dev 0x170002
/-- RT_QUEUED (0x1700:03, R650). -/
abbrev Reg.rtQueued : Key := .dev 0x170003
/-- RT_JOBS (0x1700:04, R650). -/
abbrev Reg.rtJobs : Key := .dev 0x170004
/-- RT_FAULTS (0x1700:05, R650). -/
abbrev Reg.rtFaults : Key := .dev 0x170005
/-- RT_ABORTS (0x1700:06, R650). -/
abbrev Reg.rtAborts : Key := .dev 0x170006
/-- JOB_OP (0x1701:01, R650). -/
abbrev Reg.jobOp (s : Nat) : Key := .ses s 0x170101
/-- JOB_IN_A (0x1701:02, R650). -/
abbrev Reg.jobInA (s : Nat) : Key := .ses s 0x170102
/-- JOB_IN_B (0x1701:03, R650). -/
abbrev Reg.jobInB (s : Nat) : Key := .ses s 0x170103
/-- JOB_IN_C (0x1701:04, R650). -/
abbrev Reg.jobInC (s : Nat) : Key := .ses s 0x170104
/-- JOB_GO (0x1701:05, R650). -/
abbrev Reg.jobGo (s : Nat) : Key := .ses s 0x170105
/-- JOB_STATE (0x1701:06, R650). -/
abbrev Reg.jobState (s : Nat) : Key := .ses s 0x170106
/-- JOB_STATUS (0x1701:07, R650). -/
abbrev Reg.jobStatus (s : Nat) : Key := .ses s 0x170107
/-- JOB_OUT_A (0x1701:08, R650). -/
abbrev Reg.jobOutA (s : Nat) : Key := .ses s 0x170108
/-- JOB_OUT_B (0x1701:09, R650). -/
abbrev Reg.jobOutB (s : Nat) : Key := .ses s 0x170109
/-- JOB_STARTED (0x1701:0A, R650). -/
abbrev Reg.jobStarted (s : Nat) : Key := .ses s 0x17010A
/-- JOB_SEQ (0x1701:0B, R650). -/
abbrev Reg.jobSeq (s : Nat) : Key := .ses s 0x17010B
/-- SM_CH_ENABLE (0x1600+c:01, R667). -/
abbrev Reg.smChEnable (n : Nat) : Key := .dev ((0x1600 + n) * 256 + 0x01)
/-- SM_CH_SIZE (0x1600+c:02, R667). -/
abbrev Reg.smChSize (n : Nat) : Key := .dev ((0x1600 + n) * 256 + 0x02)
/-- SM_CH_STATE (0x1600+c:03, R667). -/
abbrev Reg.smChState (n : Nat) : Key := .dev ((0x1600 + n) * 256 + 0x03)
/-- RNG_USE (0x1610+r:10, R667). -/
abbrev Reg.rngUse (n : Nat) : Key := .dev ((0x1610 + n) * 256 + 0x10)
/-- RNG_CHANNEL (0x1610+r:11, R667). -/
abbrev Reg.rngChannel (n : Nat) : Key := .dev ((0x1610 + n) * 256 + 0x11)
/-- RNG_BASE (0x1610+r:12, R667). -/
abbrev Reg.rngBase (n : Nat) : Key := .dev ((0x1610 + n) * 256 + 0x12)
/-- RNG_SIZE (0x1610+r:13, R667). -/
abbrev Reg.rngSize (n : Nat) : Key := .dev ((0x1610 + n) * 256 + 0x13)
/-- SM_ACC_RANGE (0x1620:01, R667). -/
abbrev Reg.smAccRange (s : Nat) : Key := .ses s 0x162001
/-- SM_ACC_OFF (0x1620:02, R667). -/
abbrev Reg.smAccOff (s : Nat) : Key := .ses s 0x162002
/-- SM_ACC_DATA (0x1620:03, R667). -/
abbrev Reg.smAccData : Key := .dev 0x162003
/-- SM_LOG_NEXT (0x1621:01, R667). -/
abbrev Reg.smLogNext : Key := .dev 0x162101
/-- SM_TAG_FAILS (0x1621:02, R667). -/
abbrev Reg.smTagFails : Key := .dev 0x162102
/-- SM_STOPPED_ERRORS (0x1621:03, R667). -/
abbrev Reg.smStoppedErrors : Key := .dev 0x162103
/-- SM_LOG_LOST (0x1621:04, R667). -/
abbrev Reg.smLogLost : Key := .dev 0x162104
/-- SM_RING_LOST (0x1621:05, R667). -/
abbrev Reg.smRingLost : Key := .dev 0x162105
/-- ALM_PENDING (0x1410:01, R693). -/
abbrev Reg.almPending : Key := .dev 0x141001
/-- ALM_ACK (0x1410:02, R693). -/
abbrev Reg.almAck : Key := .dev 0x141002
/-- ALM_HOLD (0x1410:03, R693). -/
abbrev Reg.almHold : Key := .dev 0x141003
/-- ALM_HOLD_CLEAR (0x1410:04, R693). -/
abbrev Reg.almHoldClear : Key := .dev 0x141004
/-- EVIDENCE_COUNT (0x1410:05, R693). -/
abbrev Reg.evidenceCount : Key := .dev 0x141005
/-- EVIDENCE_FULL (0x1410:06, R693). -/
abbrev Reg.evidenceFull : Key := .dev 0x141006
/-- ALM_RESP (0x1420+a:01, R693). -/
abbrev Reg.almResp (n : Nat) : Key := .dev ((0x1420 + n) * 256 + 0x01)
/-- ALM_BOLTS (0x1420+a:02, R693). -/
abbrev Reg.almBolts (n : Nat) : Key := .dev ((0x1420 + n) * 256 + 0x02)
/-- ALM_COUNT (0x1420+a:03, R693). -/
abbrev Reg.almCount (n : Nat) : Key := .dev ((0x1420 + n) * 256 + 0x03)
/-- ALM_LAST (0x1420+a:04, R693). -/
abbrev Reg.almLast (n : Nat) : Key := .dev ((0x1420 + n) * 256 + 0x04)
/-- FLUE_N (0x1430+k:01, R693). -/
abbrev Reg.flueN (n : Nat) : Key := .dev ((0x1430 + n) * 256 + 0x01)
/-- FLUE_W (0x1430+k:02, R693). -/
abbrev Reg.flueW (n : Nat) : Key := .dev ((0x1430 + n) * 256 + 0x02)
/-- FLUE_EVENTS (0x1430+k:03, R693). -/
abbrev Reg.flueEvents (n : Nat) : Key := .dev ((0x1430 + n) * 256 + 0x03)
/-- FLUE_LONE_A (0x1430+k:04, R693). -/
abbrev Reg.flueLoneA (n : Nat) : Key := .dev ((0x1430 + n) * 256 + 0x04)
/-- FLUE_LONE_B (0x1430+k:05, R693). -/
abbrev Reg.flueLoneB (n : Nat) : Key := .dev ((0x1430 + n) * 256 + 0x05)
/-- FLUE_NOW (0x1430+k:06, R693). -/
abbrev Reg.flueNow (n : Nat) : Key := .dev ((0x1430 + n) * 256 + 0x06)
/-- BK_RTC (0x1440:01, R694). -/
abbrev Reg.bkRtc : Key := .dev 0x144001
/-- BK_STATE (0x1440:02, R694). -/
abbrev Reg.bkState : Key := .dev 0x144002
/-- BK_VBAT_MV (0x1440:03, R694). -/
abbrev Reg.bkVbatMv : Key := .dev 0x144003
/-- BK_COMP (0x1440:04, R694). -/
abbrev Reg.bkComp : Key := .dev 0x144004
/-- BK_LATCHED (0x1440:05, R694). -/
abbrev Reg.bkLatched : Key := .dev 0x144005
/-- BK_UNMON_START (0x1440:06, R694). -/
abbrev Reg.bkUnmonStart : Key := .dev 0x144006
/-- BK_UNMON_SECONDS (0x1440:07, R694). -/
abbrev Reg.bkUnmonSeconds : Key := .dev 0x144007
/-- BK_CLEAR (0x1440:08, R694). -/
abbrev Reg.bkClear : Key := .dev 0x144008
/-- BK_FIRST (0x1441+j:01, R694). -/
abbrev Reg.bkFirst (n : Nat) : Key := .dev ((0x1441 + n) * 256 + 0x01)
/-- BK_TRIPS (0x1441+j:02, R694). -/
abbrev Reg.bkTrips (n : Nat) : Key := .dev ((0x1441 + n) * 256 + 0x02)
/-- HEARTH_BANKED (0x1500:01, R726). -/
abbrev Reg.hearthBanked : Key := .dev 0x150001
/-- HEARTH_CMD (0x1500:02, R726). -/
abbrev Reg.hearthCmd : Key := .dev 0x150002
/-- HEARTH_SWITCHES (0x1500:03, R726). -/
abbrev Reg.hearthSwitches : Key := .dev 0x150003
/-- HEARTH_LAST (0x1500:04, R726). -/
abbrev Reg.hearthLast : Key := .dev 0x150004
/-- PAIR_JOIN (0x1510:01, R726). -/
abbrev Reg.pairJoin : Key := .dev 0x151001
/-- PAIR_PEER_DEVID (0x1510:02, R726). -/
abbrev Reg.pairPeerDevid : Key := .dev 0x151002
/-- PAIR_WITNESS_WIRED (0x1510:03, R726). -/
abbrev Reg.pairWitnessWired : Key := .dev 0x151003
/-- PAIR_HOLDOFF (0x1510:04, R726). -/
abbrev Reg.pairHoldoff : Key := .dev 0x151004
/-- PAIR_WATCH (0x1510:05, R726). -/
abbrev Reg.pairWatch : Key := .dev 0x151005
/-- PAIR_CMD (0x1510:06, R726). -/
abbrev Reg.pairCmd : Key := .dev 0x151006
/-- PAIR_ROLE (0x1510:07, R726). -/
abbrev Reg.pairRole : Key := .dev 0x151007
/-- PAIR_ROLE_GEN (0x1510:08, R726). -/
abbrev Reg.pairRoleGen : Key := .dev 0x151008
/-- PAIR_ID (0x1510:09, R726). -/
abbrev Reg.pairId : Key := .dev 0x151009
/-- PAIR_LINK (0x1510:0A, R726). -/
abbrev Reg.pairLink : Key := .dev 0x15100A
/-- PAIR_SYNC (0x1510:0B, R726). -/
abbrev Reg.pairSync : Key := .dev 0x15100B
/-- PAIR_STATUS (0x1510:0C, R726). -/
abbrev Reg.pairStatus : Key := .dev 0x15100C
/-- PAIR_TAKEOVERS (0x1511:01, R726). -/
abbrev Reg.pairTakeovers : Key := .dev 0x151101
/-- MIRROR_UPDATES (0x1511:02, R726). -/
abbrev Reg.mirrorUpdates : Key := .dev 0x151102
/-- MIRROR_ROLE_DISCARDS (0x1511:03, R726). -/
abbrev Reg.mirrorRoleDiscards : Key := .dev 0x151103
/-- MIRROR_REFUSED (0x1511:04, R726). -/
abbrev Reg.mirrorRefused : Key := .dev 0x151104
/-- STANDBY_DISCARDS (0x1511:05, R726). -/
abbrev Reg.standbyDiscards : Key := .dev 0x151105
/-- TX_SSCI (0x3000+4p+3:18, R726). -/
abbrev Reg.pTxSsci (p : Nat) : Key := portKey p 3 0x18
/-- MESH_ID (0x1520:01, R726). -/
abbrev Reg.meshId : Key := .dev 0x152001
/-- MESH_EPOCH (0x1520:02, R726). -/
abbrev Reg.meshEpoch : Key := .dev 0x152002
/-- MESH_KEY_LOAD (0x1520:03, R726). -/
abbrev Reg.meshKeyLoad : Key := .dev 0x152003
/-- MESH_KEY_STATE (0x1520:04, R726). -/
abbrev Reg.meshKeyState : Key := .dev 0x152004
/-- MESH_ADVANCE (0x1520:05, R726). -/
abbrev Reg.meshAdvance : Key := .dev 0x152005
/-- MESH_HOPS (0x1520:06, R726). -/
abbrev Reg.meshHops : Key := .dev 0x152006
/-- MESH_DEAD (0x1520:07, R726). -/
abbrev Reg.meshDead : Key := .dev 0x152007
/-- MESH_NEIGHBOURS (0x1521:01, R726). -/
abbrev Reg.meshNeighbours : Key := .dev 0x152101
/-- MESH_HEARD (0x1521:02, R726). -/
abbrev Reg.meshHeard : Key := .dev 0x152102
/-- MESH_FORWARDED (0x1522:01, R726). -/
abbrev Reg.meshForwarded : Key := .dev 0x152201
/-- MESH_STALE_EPOCH (0x1522:02, R726). -/
abbrev Reg.meshStaleEpoch : Key := .dev 0x152202
/-- MESH_JUMPS (0x1522:03, R726). -/
abbrev Reg.meshJumps : Key := .dev 0x152203
/-- MESH_AUTH_FAILS (0x1522:04, R726). -/
abbrev Reg.meshAuthFails : Key := .dev 0x152204
/-- MESH_NO_ROUTE (0x1522:05, R726). -/
abbrev Reg.meshNoRoute : Key := .dev 0x152205
/-- MESH_HOP_EXPIRED (0x1522:06, R726). -/
abbrev Reg.meshHopExpired : Key := .dev 0x152206
/-- MESH_ROUTE (0x1580+⌊m/16⌋:(1 + m mod 16), R726). -/
abbrev Reg.meshRoute (m : Nat) : Key := .dev ((0x1580 + m / 16) * 256 + 1 + m % 16)
/-- TR_ENABLE (0x1800:01, R744). -/
abbrev Reg.trEnable : Key := .dev 0x180001
/-- TR_K (0x1800:02, R744). -/
abbrev Reg.trK : Key := .dev 0x180002
/-- TR_BOLTS (0x1800:03, R744). -/
abbrev Reg.trBolts : Key := .dev 0x180003
/-- TR_PIPES (0x1800:04, R744). -/
abbrev Reg.trPipes : Key := .dev 0x180004
/-- TR_NEXT_SEQ (0x1800:05, R744). -/
abbrev Reg.trNextSeq : Key := .dev 0x180005
/-- TR_MISSED (0x1800:06, R744). -/
abbrev Reg.trMissed : Key := .dev 0x180006
/-- TR_SEL_SEQ (0x1801:01, R744). -/
abbrev Reg.trSelSeq (s : Nat) : Key := .ses s 0x180101
/-- TR_RECORD (0x1801:02, R744). -/
abbrev Reg.trRecord (s : Nat) : Key := .ses s 0x180102
/-- PC_SAMPLED (0x1802:01, R744). -/
abbrev Reg.pcSampled (s : Nat) : Key := .ses s 0x180201
/-- PC_SEL_0 (0x1810+b:01, R744). -/
abbrev Reg.pcSel0 (n : Nat) : Key := .dev ((0x1810 + n) * 256 + 0x01)
/-- PC_SEL_1 (0x1810+b:02, R744). -/
abbrev Reg.pcSel1 (n : Nat) : Key := .dev ((0x1810 + n) * 256 + 0x02)
/-- PC_SEL_2 (0x1810+b:03, R744). -/
abbrev Reg.pcSel2 (n : Nat) : Key := .dev ((0x1810 + n) * 256 + 0x03)
/-- PC_SEL_3 (0x1810+b:04, R744). -/
abbrev Reg.pcSel3 (n : Nat) : Key := .dev ((0x1810 + n) * 256 + 0x04)
/-- PC_SEL_4 (0x1810+b:05, R744). -/
abbrev Reg.pcSel4 (n : Nat) : Key := .dev ((0x1810 + n) * 256 + 0x05)
/-- PC_SEL_5 (0x1810+b:06, R744). -/
abbrev Reg.pcSel5 (n : Nat) : Key := .dev ((0x1810 + n) * 256 + 0x06)
/-- PC_SEL_6 (0x1810+b:07, R744). -/
abbrev Reg.pcSel6 (n : Nat) : Key := .dev ((0x1810 + n) * 256 + 0x07)
/-- PC_SEL_7 (0x1810+b:08, R744). -/
abbrev Reg.pcSel7 (n : Nat) : Key := .dev ((0x1810 + n) * 256 + 0x08)
/-- PC_SEL_8 (0x1810+b:09, R744). -/
abbrev Reg.pcSel8 (n : Nat) : Key := .dev ((0x1810 + n) * 256 + 0x09)
/-- PC_SEL_9 (0x1810+b:0A, R744). -/
abbrev Reg.pcSel9 (n : Nat) : Key := .dev ((0x1810 + n) * 256 + 0x0A)
/-- PC_SEL_10 (0x1810+b:0B, R744). -/
abbrev Reg.pcSel10 (n : Nat) : Key := .dev ((0x1810 + n) * 256 + 0x0B)
/-- PC_SEL_11 (0x1810+b:0C, R744). -/
abbrev Reg.pcSel11 (n : Nat) : Key := .dev ((0x1810 + n) * 256 + 0x0C)
/-- PC_SEL_12 (0x1810+b:0D, R744). -/
abbrev Reg.pcSel12 (n : Nat) : Key := .dev ((0x1810 + n) * 256 + 0x0D)
/-- PC_SEL_13 (0x1810+b:0E, R744). -/
abbrev Reg.pcSel13 (n : Nat) : Key := .dev ((0x1810 + n) * 256 + 0x0E)
/-- PC_SEL_14 (0x1810+b:0F, R744). -/
abbrev Reg.pcSel14 (n : Nat) : Key := .dev ((0x1810 + n) * 256 + 0x0F)
/-- PC_SEL_15 (0x1810+b:10, R744). -/
abbrev Reg.pcSel15 (n : Nat) : Key := .dev ((0x1810 + n) * 256 + 0x10)
/-- PC_VAL_0 (0x1810+b:11, R744). -/
abbrev Reg.pcVal0 (n : Nat) : Key := .dev ((0x1810 + n) * 256 + 0x11)
/-- PC_VAL_1 (0x1810+b:12, R744). -/
abbrev Reg.pcVal1 (n : Nat) : Key := .dev ((0x1810 + n) * 256 + 0x12)
/-- PC_VAL_2 (0x1810+b:13, R744). -/
abbrev Reg.pcVal2 (n : Nat) : Key := .dev ((0x1810 + n) * 256 + 0x13)
/-- PC_VAL_3 (0x1810+b:14, R744). -/
abbrev Reg.pcVal3 (n : Nat) : Key := .dev ((0x1810 + n) * 256 + 0x14)
/-- PC_VAL_4 (0x1810+b:15, R744). -/
abbrev Reg.pcVal4 (n : Nat) : Key := .dev ((0x1810 + n) * 256 + 0x15)
/-- PC_VAL_5 (0x1810+b:16, R744). -/
abbrev Reg.pcVal5 (n : Nat) : Key := .dev ((0x1810 + n) * 256 + 0x16)
/-- PC_VAL_6 (0x1810+b:17, R744). -/
abbrev Reg.pcVal6 (n : Nat) : Key := .dev ((0x1810 + n) * 256 + 0x17)
/-- PC_VAL_7 (0x1810+b:18, R744). -/
abbrev Reg.pcVal7 (n : Nat) : Key := .dev ((0x1810 + n) * 256 + 0x18)
/-- PC_VAL_8 (0x1810+b:19, R744). -/
abbrev Reg.pcVal8 (n : Nat) : Key := .dev ((0x1810 + n) * 256 + 0x19)
/-- PC_VAL_9 (0x1810+b:1A, R744). -/
abbrev Reg.pcVal9 (n : Nat) : Key := .dev ((0x1810 + n) * 256 + 0x1A)
/-- PC_VAL_10 (0x1810+b:1B, R744). -/
abbrev Reg.pcVal10 (n : Nat) : Key := .dev ((0x1810 + n) * 256 + 0x1B)
/-- PC_VAL_11 (0x1810+b:1C, R744). -/
abbrev Reg.pcVal11 (n : Nat) : Key := .dev ((0x1810 + n) * 256 + 0x1C)
/-- PC_VAL_12 (0x1810+b:1D, R744). -/
abbrev Reg.pcVal12 (n : Nat) : Key := .dev ((0x1810 + n) * 256 + 0x1D)
/-- PC_VAL_13 (0x1810+b:1E, R744). -/
abbrev Reg.pcVal13 (n : Nat) : Key := .dev ((0x1810 + n) * 256 + 0x1E)
/-- PC_VAL_14 (0x1810+b:1F, R744). -/
abbrev Reg.pcVal14 (n : Nat) : Key := .dev ((0x1810 + n) * 256 + 0x1F)
/-- PC_VAL_15 (0x1810+b:20, R744). -/
abbrev Reg.pcVal15 (n : Nat) : Key := .dev ((0x1810 + n) * 256 + 0x20)
/-- PC_CLEAR (0x1810+b:21, R744). -/
abbrev Reg.pcClear (n : Nat) : Key := .dev ((0x1810 + n) * 256 + 0x21)
/-- TJ_NOW (0x1004:01, R753). -/
abbrev Reg.tjNow : Key := .dev 0x100401
/-- TJ_PEAK (0x1004:02, R753). -/
abbrev Reg.tjPeak : Key := .dev 0x100402
/-- TJ_WARN (0x1004:03, R753). -/
abbrev Reg.tjWarn : Key := .dev 0x100403
/-- MV_CORE (0x1004:04, R753). -/
abbrev Reg.mvCore : Key := .dev 0x100404
/-- MV_SRAM (0x1004:05, R753). -/
abbrev Reg.mvSram : Key := .dev 0x100405
/-- MV_SER_A (0x1004:06, R753). -/
abbrev Reg.mvSerA : Key := .dev 0x100406
/-- MV_SER_H (0x1004:07, R753). -/
abbrev Reg.mvSerH : Key := .dev 0x100407
/-- MV_DDR (0x1004:08, R753). -/
abbrev Reg.mvDdr : Key := .dev 0x100408
/-- MV_IO (0x1004:09, R753). -/
abbrev Reg.mvIo : Key := .dev 0x100409

/-! Tables -/

def Dict.devTable0 : List (Nat × Entry) :=
  [(0x100001, ⟨.u24, .ro, (.num 5396813)⟩),
   (0x100002, ⟨.u24, .ro, (.num 0)⟩),
   (0x100003, ⟨.u8, .ro, (.num 0)⟩),
   (0x100004, ⟨.u24, .ro, (.num 0)⟩),
   (0x100101, ⟨.u24, .ro, (.num 800000)⟩),
   (0x100102, ⟨.u24, .ro, (.num 800000)⟩),
   (0x100103, ⟨.u24, .ro, (.num 1000000)⟩),
   (0x100104, ⟨.u24, .ro, (.num 1600000)⟩),
   (0x100105, ⟨.u24, .ro, (.num 1600000)⟩),
   (0x100201, ⟨.u72, .ro, (.num 0)⟩),
   (0x100301, ⟨.u8, .ro, (.num 0)⟩),
   (0x100302, ⟨.u48, .ro, (.num 0)⟩),
   (0x100303, ⟨.u8, .ro, (.num 0)⟩),
   (0x100304, ⟨.u72, .ro, (.num 0)⟩),
   (0x100305, ⟨.octets 32, .ro, (.oct [])⟩),
   (0x100401, ⟨.i24, .ro, (.num 0)⟩),
   (0x100402, ⟨.i24, .rw, (.num 0)⟩),
   (0x100403, ⟨.i24, .rw, (.num 1400)⟩),
   (0x100404, ⟨.u16, .ro, (.num 0)⟩),
   (0x100405, ⟨.u16, .ro, (.num 0)⟩),
   (0x100406, ⟨.u16, .ro, (.num 0)⟩),
   (0x100407, ⟨.u16, .ro, (.num 0)⟩),
   (0x100408, ⟨.u16, .ro, (.num 0)⟩),
   (0x100409, ⟨.u16, .ro, (.num 0)⟩),
   (0x110001, ⟨.u8, .ro, (.num 0)⟩),
   (0x110002, ⟨.u8, .ro, (.num 0)⟩),
   (0x110003, ⟨.u8, .dc, (.num 0)⟩),
   (0x110004, ⟨.bool, .rw, (.num 0)⟩),
   (0x110005, ⟨.u48, .ro, (.num 0)⟩),
   (0x110006, ⟨.u48, .ro, (.num 0)⟩),
   (0x110101, ⟨.octets 6, .ro, (.oct [])⟩),
   (0x110102, ⟨.u16, .rw, (.num 34997)⟩),
   (0x110103, ⟨.bool, .rw, (.num 1)⟩),
   (0x110104, ⟨.bool, .rw, (.num 0)⟩),
   (0x110105, ⟨.u16, .rw, (.num 600)⟩),
   (0x110106, ⟨.u48, .ro, (.num 0)⟩),
   (0x110107, ⟨.u48, .ro, (.num 0)⟩),
   (0x110108, ⟨.u48, .ro, (.num 0)⟩),
   (0x110109, ⟨.u48, .ro, (.num 0)⟩),
   (0x11010A, ⟨.u48, .ro, (.num 0)⟩),
   (0x110201, ⟨.u8, .ro, (.num 0)⟩),
   (0x120001, ⟨.time96, .ro, (.num 0)⟩),
   (0x120002, ⟨.time96, .wo, (.num 0)⟩),
   (0x120003, ⟨.i24, .wo, (.num 0)⟩),
   (0x120004, ⟨.i24, .rw, (.num 0)⟩),
   (0x120005, ⟨.bool, .ro, (.num 0)⟩),
   (0x120006, ⟨.u24, .ro, (.num 0)⟩),
   (0x120007, ⟨.i24, .ro, (.num 0)⟩),
   (0x122001, ⟨.bool, .rw, (.num 0)⟩),
   (0x122002, ⟨.u24, .rw, (.num 100000)⟩),
   (0x122003, ⟨.i24, .rw, (.num 0)⟩),
   (0x130001, ⟨.u8, .cmd, (.num 0)⟩),
   (0x130002, ⟨.u8, .ro, (.num 255)⟩),
   (0x131001, ⟨.u48, .ro, (.num 0)⟩),
   (0x131002, ⟨.u16, .dc, (.num 300)⟩),
   (0x131003, ⟨.u8, .ro, (.num 0)⟩),
   (0x131101, ⟨.u24, .rw, (.num 0)⟩),
   (0x131102, ⟨.octets 2304, .rw, (.oct [])⟩),
   (0x131103, ⟨.u48, .rw, (.num 0)⟩),
   (0x131104, ⟨.u8, .rw, (.num 0)⟩)]

def Dict.devTable1 : List (Nat × Entry) :=
  [(0x131105, ⟨.octets 64, .rw, (.oct (List.replicate 64 0))⟩),
   (0x131106, ⟨.octets 3309, .rw, (.oct (List.replicate 3309 0))⟩),
   (0x131107, ⟨.u8, .rw, (.num 0)⟩),
   (0x131108, ⟨.u8, .cmd, (.num 0)⟩),
   (0x132001, ⟨.octets 32, .ro, (.oct (List.replicate 32 0))⟩),
   (0x132002, ⟨.octets 1952, .ro, (.oct (List.replicate 1952 0))⟩),
   (0x132003, ⟨.octets 67, .rw, (.oct [])⟩),
   (0x132004, ⟨.octets 64, .rw, (.oct [])⟩),
   (0x132005, ⟨.octets 3309, .rw, (.oct [])⟩),
   (0x132006, ⟨.u8, .cmd, (.num 0)⟩),
   (0x132007, ⟨.u8, .ro, (.num 0)⟩),
   (0x132101, ⟨.octets 32, .rw, (.oct (List.replicate 32 0))⟩),
   (0x132102, ⟨.u8, .cmd, (.num 0)⟩),
   (0x132103, ⟨.octets 398, .ro, (.oct [])⟩),
   (0x132104, ⟨.octets 64, .ro, (.oct [])⟩),
   (0x132105, ⟨.octets 3309, .ro, (.oct [])⟩),
   (0x133001, ⟨.bool, .dc, (.num 0)⟩),
   (0x133002, ⟨.octets 32, .wo, (.oct [])⟩),
   (0x133003, ⟨.u24, .rw, (.num 16777215)⟩),
   (0x133004, ⟨.u8, .cmd, (.num 0)⟩),
   (0x133005, ⟨.u24, .ro, (.num 0)⟩),
   (0x133101, ⟨.u24, .dc, (.num 0)⟩),
   (0x133102, ⟨.u48, .ro, (.num 0)⟩),
   (0x134001, ⟨.octets 16, .ro, (.oct [])⟩),
   (0x134002, ⟨.u8, .dc, (.num 0)⟩),
   (0x134003, ⟨.octets 85, .rw, (.oct [])⟩),
   (0x134004, ⟨.octets 64, .rw, (.oct [])⟩),
   (0x134005, ⟨.octets 3309, .rw, (.oct [])⟩),
   (0x134006, ⟨.u8, .cmd, (.num 0)⟩),
   (0x134007, ⟨.u24, .ro, (.num 0)⟩),
   (0x134008, ⟨.time96, .ro, (.num 0)⟩),
   (0x134101, ⟨.u8, .rw, (.num 0)⟩),
   (0x134102, ⟨.u48, .rw, (.num 0)⟩),
   (0x134103, ⟨.octets 96, .ro, (.oct [])⟩),
   (0x134104, ⟨.u48, .ro, (.num 0)⟩),
   (0x134105, ⟨.u8, .cmd, (.num 0)⟩),
   (0x136001, ⟨.u8, .ro, (.num 0)⟩),
   (0x136002, ⟨.u8, .ro, (.num 0)⟩),
   (0x136003, ⟨.bool, .ro, (.num 0)⟩),
   (0x136004, ⟨.u48, .rw, (.num 0)⟩),
   (0x136005, ⟨.octets 3072, .wo, (.oct [])⟩),
   (0x136006, ⟨.u8, .cmd, (.num 0)⟩),
   (0x136007, ⟨.u8, .ro, (.num 0)⟩),
   (0x140001, ⟨.u16, .ro, (.num 0)⟩),
   (0x140002, ⟨.octets 21, .ro, (.oct (List.replicate 21 0))⟩),
   (0x140003, ⟨.u24, .ro, (.num 0)⟩),
   (0x140004, ⟨.u24, .cmd, (.num 0)⟩),
   (0x140005, ⟨.u48, .ro, (.num 0)⟩),
   (0x140006, ⟨.u16, .rw, (.num 4094)⟩),
   (0x141001, ⟨.u24, .ro, (.num 0)⟩),
   (0x141002, ⟨.u24, .cmd, (.num 0)⟩),
   (0x141003, ⟨.bool, .ro, (.num 0)⟩),
   (0x141004, ⟨.u8, .cmd, (.num 0)⟩),
   (0x141005, ⟨.u16, .ro, (.num 0)⟩),
   (0x141006, ⟨.bool, .ro, (.num 0)⟩),
   (0x144001, ⟨.u72, .ro, (.num 0)⟩),
   (0x144002, ⟨.u8, .ro, (.num 0)⟩),
   (0x144003, ⟨.u16, .ro, (.num 0)⟩),
   (0x144004, ⟨.u8, .ro, (.num 0)⟩),
   (0x144005, ⟨.u8, .ro, (.num 0)⟩)]

def Dict.devTable2 : List (Nat × Entry) :=
  [(0x144006, ⟨.u72, .ro, (.num 0)⟩),
   (0x144007, ⟨.u72, .ro, (.num 0)⟩),
   (0x144008, ⟨.u8, .cmd, (.num 0)⟩),
   (0x150001, ⟨.u8, .ro, (.num 0)⟩),
   (0x150002, ⟨.u8, .cmd, (.num 0)⟩),
   (0x150003, ⟨.u24, .ro, (.num 0)⟩),
   (0x150004, ⟨.time96, .ro, (.num 0)⟩),
   (0x151001, ⟨.bool, .rw, (.num 0)⟩),
   (0x151002, ⟨.octets 32, .dc, (.oct (List.replicate 32 0))⟩),
   (0x151003, ⟨.bool, .rw, (.num 0)⟩),
   (0x151004, ⟨.u16, .rw, (.num 60)⟩),
   (0x151005, ⟨.u8, .rw, (.num 0)⟩),
   (0x151006, ⟨.u8, .cmd, (.num 0)⟩),
   (0x151007, ⟨.u8, .ro, (.num 0)⟩),
   (0x151008, ⟨.u8, .ro, (.num 0)⟩),
   (0x151009, ⟨.u8, .ro, (.num 0)⟩),
   (0x15100A, ⟨.u8, .ro, (.num 0)⟩),
   (0x15100B, ⟨.u8, .ro, (.num 0)⟩),
   (0x15100C, ⟨.u24, .ro, (.num 0)⟩),
   (0x151101, ⟨.u48, .ro, (.num 0)⟩),
   (0x151102, ⟨.u48, .ro, (.num 0)⟩),
   (0x151103, ⟨.u48, .ro, (.num 0)⟩),
   (0x151104, ⟨.u48, .ro, (.num 0)⟩),
   (0x151105, ⟨.u48, .ro, (.num 0)⟩),
   (0x152001, ⟨.u16, .rw, (.num 0)⟩),
   (0x152002, ⟨.u24, .ro, (.num 0)⟩),
   (0x152003, ⟨.u8, .cmd, (.num 0)⟩),
   (0x152004, ⟨.u8, .ro, (.num 0)⟩),
   (0x152005, ⟨.u8, .cmd, (.num 0)⟩),
   (0x152006, ⟨.u8, .rw, (.num 16)⟩),
   (0x152007, ⟨.u16, .rw, (.num 3)⟩),
   (0x152101, ⟨.octets 128, .rw, (.oct (List.replicate 128 0))⟩),
   (0x152102, ⟨.octets 128, .ro, (.oct (List.replicate 128 0))⟩),
   (0x152201, ⟨.u48, .ro, (.num 0)⟩),
   (0x152202, ⟨.u48, .ro, (.num 0)⟩),
   (0x152203, ⟨.u48, .ro, (.num 0)⟩),
   (0x152204, ⟨.u48, .ro, (.num 0)⟩),
   (0x152205, ⟨.u48, .ro, (.num 0)⟩),
   (0x152206, ⟨.u48, .ro, (.num 0)⟩),
   (0x162001, ⟨.u8, .rw, (.num 0)⟩),
   (0x162002, ⟨.u48, .rw, (.num 0)⟩),
   (0x162003, ⟨.octets 192, .rw, (.oct [])⟩),
   (0x162101, ⟨.u24, .ro, (.num 0)⟩),
   (0x162102, ⟨.u48, .ro, (.num 0)⟩),
   (0x162103, ⟨.u48, .ro, (.num 0)⟩),
   (0x162104, ⟨.u48, .ro, (.num 0)⟩),
   (0x162105, ⟨.u48, .ro, (.num 0)⟩),
   (0x170001, ⟨.u24, .ro, (.num 0)⟩),
   (0x170002, ⟨.octets 64, .ro, (.oct [])⟩),
   (0x170003, ⟨.u8, .ro, (.num 0)⟩),
   (0x170004, ⟨.u48, .ro, (.num 0)⟩),
   (0x170005, ⟨.u48, .ro, (.num 0)⟩),
   (0x170006, ⟨.u48, .ro, (.num 0)⟩),
   (0x170101, ⟨.u8, .rw, (.num 0)⟩),
   (0x170102, ⟨.octets 1952, .rw, (.oct [])⟩),
   (0x170103, ⟨.octets 3072, .rw, (.oct [])⟩),
   (0x170104, ⟨.octets 3309, .rw, (.oct [])⟩),
   (0x170105, ⟨.u8, .cmd, (.num 0)⟩),
   (0x170106, ⟨.u8, .ro, (.num 0)⟩),
   (0x170107, ⟨.u8, .ro, (.num 0)⟩)]

def Dict.devTable3 : List (Nat × Entry) :=
  [(0x170108, ⟨.octets 3309, .ro, (.oct [])⟩),
   (0x170109, ⟨.octets 64, .ro, (.oct [])⟩),
   (0x17010A, ⟨.time96, .ro, (.num 0)⟩),
   (0x17010B, ⟨.u24, .ro, (.num 0)⟩),
   (0x180001, ⟨.bool, .rw, (.num 0)⟩),
   (0x180002, ⟨.u8, .rw, (.num 10)⟩),
   (0x180003, ⟨.u8, .rw, (.num 255)⟩),
   (0x180004, ⟨.u8, .rw, (.num 3)⟩),
   (0x180005, ⟨.u24, .ro, (.num 0)⟩),
   (0x180006, ⟨.u48, .ro, (.num 0)⟩),
   (0x180101, ⟨.u24, .rw, (.num 0)⟩),
   (0x180102, ⟨.octets 48, .ro, (.oct [])⟩),
   (0x180201, ⟨.time96, .ro, (.num 0)⟩)]

def Dict.devTable : List (Nat × Entry) :=
  Dict.devTable0 ++ Dict.devTable1 ++ Dict.devTable2 ++ Dict.devTable3

def Dict.boltTable0 : List (Nat × Entry) :=
  [(0x1, ⟨.u24, .ro, (.num 1250000)⟩),
   (0x2, ⟨.u24, .ro, (.num 1250000)⟩),
   (0x3, ⟨.u24, .ro, (.num 1250000)⟩),
   (0x4, ⟨.u24, .ro, (.num 1250000)⟩),
   (0x5, ⟨.u24, .ro, (.num 1250000)⟩),
   (0x6, ⟨.u24, .ro, (.num 1250000)⟩),
   (0x7, ⟨.u24, .ro, (.num 1250000)⟩),
   (0x8, ⟨.u24, .ro, (.num 1250000)⟩),
   (0x9, ⟨.u24, .ro, (.num 1250000)⟩),
   (0xA, ⟨.u24, .ro, (.num 1250000)⟩),
   (0x10, ⟨.u8, .ro, (.num 0)⟩),
   (0x201, ⟨.u48, .ro, (.num 0)⟩),
   (0x202, ⟨.u48, .ro, (.num 0)⟩),
   (0x203, ⟨.u48, .ro, (.num 0)⟩),
   (0x204, ⟨.u48, .ro, (.num 0)⟩),
   (0x205, ⟨.u24, .ro, (.num 0)⟩),
   (0x301, ⟨.u16, .ro, (.num 0)⟩),
   (0x302, ⟨.u16, .ro, (.num 0)⟩),
   (0x303, ⟨.u48, .ro, (.num 0)⟩),
   (0x304, ⟨.u48, .ro, (.num 0)⟩),
   (0x305, ⟨.u48, .ro, (.num 0)⟩),
   (0x306, ⟨.u48, .ro, (.num 0)⟩),
   (0x307, ⟨.u48, .ro, (.num 0)⟩),
   (0x308, ⟨.u48, .ro, (.num 0)⟩),
   (0x309, ⟨.u48, .ro, (.num 0)⟩),
   (0x401, ⟨.u48, .ro, (.num 0)⟩),
   (0x402, ⟨.u48, .ro, (.num 0)⟩),
   (0x403, ⟨.u48, .ro, (.num 0)⟩),
   (0x404, ⟨.u48, .ro, (.num 0)⟩),
   (0x405, ⟨.u48, .ro, (.num 0)⟩),
   (0x501, ⟨.u8, .rw, (.num 2)⟩),
   (0x502, ⟨.u72, .rw, (.num (2 ^ 62))⟩),
   (0x503, ⟨.u48, .rw, (.num 3221225472)⟩),
   (0x504, ⟨.u72, .rw, (.num (2 ^ 48))⟩),
   (0x505, ⟨.u72, .rw, (.num (2 ^ 47))⟩),
   (0x601, ⟨.u48, .ro, (.num 0)⟩),
   (0x602, ⟨.u48, .ro, (.num 0)⟩),
   (0x603, ⟨.u48, .ro, (.num 0)⟩),
   (0x604, ⟨.u48, .ro, (.num 0)⟩),
   (0x605, ⟨.u48, .ro, (.num 0)⟩),
   (0x606, ⟨.u48, .ro, (.num 0)⟩),
   (0x607, ⟨.u48, .ro, (.num 0)⟩),
   (0x608, ⟨.u48, .ro, (.num 0)⟩),
   (0x609, ⟨.u48, .ro, (.num 0)⟩),
   (0x701, ⟨.u24, .dc, (.num 0)⟩),
   (0x801, ⟨.u48, .ro, (.num 0)⟩),
   (0x802, ⟨.u48, .ro, (.num 0)⟩),
   (0x803, ⟨.u48, .ro, (.num 0)⟩),
   (0x804, ⟨.u48, .ro, (.num 0)⟩),
   (0x805, ⟨.u48, .ro, (.num 0)⟩),
   (0x901, ⟨.u8, .rw, (.num 0)⟩),
   (0x902, ⟨.u24, .rw, (.num 300)⟩),
   (0x903, ⟨.u16, .rw, (.num 32)⟩),
   (0x904, ⟨.u16, .rw, (.num 10)⟩),
   (0x905, ⟨.u16, .cmd, (.num 0)⟩),
   (0x906, ⟨.u24, .ro, (.num 0)⟩),
   (0xB01, ⟨.u48, .ro, (.num 0)⟩),
   (0xB02, ⟨.u48, .ro, (.num 0)⟩),
   (0xB03, ⟨.u48, .ro, (.num 0)⟩),
   (0xB04, ⟨.u48, .ro, (.num 0)⟩)]

def Dict.boltTable1 : List (Nat × Entry) :=
  [(0xB05, ⟨.u48, .ro, (.num 0)⟩),
   (0xB06, ⟨.u48, .ro, (.num 0)⟩),
   (0xB07, ⟨.u48, .ro, (.num 0)⟩),
   (0xB08, ⟨.u48, .ro, (.num 0)⟩),
   (0xC01, ⟨.u16, .rw, (.num 2048)⟩),
   (0xC02, ⟨.u16, .rw, (.num 2054)⟩),
   (0xC03, ⟨.u16, .rw, (.num 34525)⟩),
   (0xC04, ⟨.u16, .rw, (.num 35063)⟩),
   (0xC05, ⟨.u16, .rw, (.num 0)⟩),
   (0xC06, ⟨.u16, .rw, (.num 0)⟩),
   (0xC07, ⟨.u16, .rw, (.num 0)⟩),
   (0xC08, ⟨.u16, .rw, (.num 0)⟩),
   (0xC09, ⟨.u16, .rw, (.num 0)⟩),
   (0xC0A, ⟨.u16, .rw, (.num 0)⟩),
   (0xC0B, ⟨.u16, .rw, (.num 0)⟩),
   (0xC0C, ⟨.u16, .rw, (.num 0)⟩),
   (0xC0D, ⟨.u16, .rw, (.num 0)⟩),
   (0xC0E, ⟨.u16, .rw, (.num 0)⟩),
   (0xC0F, ⟨.u16, .rw, (.num 0)⟩),
   (0xC10, ⟨.u16, .rw, (.num 0)⟩),
   (0xD01, ⟨.u48, .ro, (.num 0)⟩),
   (0xD02, ⟨.u48, .ro, (.num 0)⟩),
   (0xD03, ⟨.u48, .ro, (.num 0)⟩),
   (0xE01, ⟨.u8, .ro, (.num 0)⟩),
   (0xE02, ⟨.i24, .ro, (.num 0)⟩),
   (0xE03, ⟨.u48, .ro, (.num 0)⟩),
   (0x1001, ⟨.u8, .cmd, (.num 0)⟩),
   (0x1002, ⟨.u8, .ro, (.num 2)⟩),
   (0x1101, ⟨.u8, .cmd, (.num 0)⟩),
   (0x1102, ⟨.u8, .ro, (.num 0)⟩),
   (0x1F01, ⟨.time96, .ro, (.num 0)⟩),
   (0x1F02, ⟨.u24, .ro, (.num 0)⟩),
   (0x1F03, ⟨.bool, .ro, (.num 0)⟩)]

def Dict.boltTable : List (Nat × Entry) :=
  Dict.boltTable0 ++ Dict.boltTable1

def Dict.portTable0 : List (Nat × Entry) :=
  [(0x1, ⟨.u8, .cmd, (.num 0)⟩),
   (0x2, ⟨.u8, .ro, (.num 0)⟩),
   (0x10, ⟨.u8, .rws, (.num 0)⟩),
   (0x11, ⟨.u8, .rws, (.num 0)⟩),
   (0x12, ⟨.u8, .rws, (.num 9)⟩),
   (0x13, ⟨.u16, .rws, (.num 65535)⟩),
   (0x14, ⟨.u16, .rws, (.num 0)⟩),
   (0x15, ⟨.u16, .rws, (.num 65535)⟩),
   (0x16, ⟨.u16, .rws, (.num 1522)⟩),
   (0x17, ⟨.u8, .rw, (.num 0)⟩),
   (0x18, ⟨.u8, .rws, (.num 0)⟩),
   (0x19, ⟨.u16, .rw, (.num 2048)⟩),
   (0x1A, ⟨.u16, .rw, (.num 1536)⟩),
   (0x1B, ⟨.u16, .rw, (.num 1024)⟩),
   (0x1C, ⟨.u8, .rw, (.num 0)⟩),
   (0x1D, ⟨.u16, .rw, (.num 65535)⟩),
   (0x1E, ⟨.bool, .rw, (.num 1)⟩),
   (0x1F, ⟨.u8, .rws, (.num 0)⟩),
   (0x20, ⟨.u8, .rws, (.num 1)⟩),
   (0x21, ⟨.u8, .rw, (.num 2)⟩),
   (0x22, ⟨.u24, .rws, (.num 2000)⟩),
   (0x23, ⟨.bool, .dc, (.num 0)⟩),
   (0x24, ⟨.bool, .rws, (.num 0)⟩),
   (0x25, ⟨.u8, .rw, (.num 0)⟩),
   (0x26, ⟨.bool, .rw, (.num 0)⟩),
   (0x27, ⟨.u24, .rw, (.num 500)⟩),
   (0x28, ⟨.i24, .rw, (.num 0)⟩),
   (0x29, ⟨.i24, .rw, (.num 0)⟩),
   (0x2A, ⟨.u16, .rw, (.num 50)⟩),
   (0x2B, ⟨.bool, .rw, (.num 1)⟩),
   (0x30, ⟨.u8, .rws, (.num 0)⟩),
   (0x31, ⟨.u8, .rws, (.num 1)⟩),
   (0x32, ⟨.u8, .rw, (.num 1)⟩),
   (0x33, ⟨.bool, .rw, (.num 1)⟩),
   (0x34, ⟨.bool, .rws, (.num 0)⟩),
   (0x35, ⟨.octets 10, .rws, (.oct (List.replicate 10 0))⟩),
   (0x36, ⟨.u16, .rw, (.num 512)⟩),
   (0x110, ⟨.bool, .ro, (.num 0)⟩),
   (0x111, ⟨.u24, .ro, (.num 0)⟩),
   (0x112, ⟨.u8, .ro, (.num 0)⟩),
   (0x113, ⟨.u24, .ro, (.num 0)⟩),
   (0x114, ⟨.u8, .ro, (.num 0)⟩),
   (0x115, ⟨.u8, .ro, (.num 0)⟩),
   (0x130, ⟨.u8, .ro, (.num 0)⟩),
   (0x131, ⟨.octets 10, .ro, (.oct (List.replicate 10 0))⟩),
   (0x132, ⟨.u72, .ro, (.num 0)⟩),
   (0x133, ⟨.u8, .ro, (.num 255)⟩),
   (0x134, ⟨.u8, .ro, (.num 0)⟩),
   (0x135, ⟨.bool, .ro, (.num 0)⟩),
   (0x13F, ⟨.u8, .ro, (.num 0)⟩),
   (0x140, ⟨.u24, .rw, (.num 0)⟩),
   (0x201, ⟨.u48, .ro, (.num 0)⟩),
   (0x202, ⟨.u48, .ro, (.num 0)⟩),
   (0x203, ⟨.u48, .ro, (.num 0)⟩),
   (0x204, ⟨.u48, .ro, (.num 0)⟩),
   (0x205, ⟨.u48, .ro, (.num 0)⟩),
   (0x206, ⟨.u48, .ro, (.num 0)⟩),
   (0x207, ⟨.u48, .ro, (.num 0)⟩),
   (0x208, ⟨.u48, .ro, (.num 0)⟩),
   (0x209, ⟨.u48, .ro, (.num 0)⟩)]

def Dict.portTable1 : List (Nat × Entry) :=
  [(0x20A, ⟨.u48, .ro, (.num 0)⟩),
   (0x20B, ⟨.u48, .ro, (.num 0)⟩),
   (0x20C, ⟨.u48, .ro, (.num 0)⟩),
   (0x20D, ⟨.u48, .ro, (.num 0)⟩),
   (0x20E, ⟨.u48, .ro, (.num 0)⟩),
   (0x20F, ⟨.u48, .ro, (.num 0)⟩),
   (0x210, ⟨.u48, .ro, (.num 0)⟩),
   (0x211, ⟨.u48, .ro, (.num 0)⟩),
   (0x212, ⟨.u48, .ro, (.num 0)⟩),
   (0x213, ⟨.u48, .ro, (.num 0)⟩),
   (0x214, ⟨.u48, .ro, (.num 0)⟩),
   (0x215, ⟨.u48, .ro, (.num 0)⟩),
   (0x216, ⟨.u48, .ro, (.num 0)⟩),
   (0x217, ⟨.u48, .ro, (.num 0)⟩),
   (0x218, ⟨.u48, .ro, (.num 0)⟩),
   (0x219, ⟨.u48, .ro, (.num 0)⟩),
   (0x21A, ⟨.u48, .ro, (.num 0)⟩),
   (0x21B, ⟨.u48, .ro, (.num 0)⟩),
   (0x21C, ⟨.u48, .ro, (.num 0)⟩),
   (0x21D, ⟨.u48, .ro, (.num 0)⟩),
   (0x230, ⟨.u48, .ro, (.num 0)⟩),
   (0x231, ⟨.u48, .ro, (.num 0)⟩),
   (0x232, ⟨.u48, .ro, (.num 0)⟩),
   (0x233, ⟨.u48, .ro, (.num 0)⟩),
   (0x234, ⟨.u48, .ro, (.num 0)⟩),
   (0x235, ⟨.u48, .ro, (.num 0)⟩),
   (0x236, ⟨.u48, .ro, (.num 0)⟩),
   (0x237, ⟨.u48, .ro, (.num 0)⟩),
   (0x240, ⟨.u48, .ro, (.num 0)⟩),
   (0x241, ⟨.u48, .ro, (.num 0)⟩),
   (0x242, ⟨.u48, .ro, (.num 0)⟩),
   (0x243, ⟨.u48, .ro, (.num 0)⟩),
   (0x244, ⟨.u48, .ro, (.num 0)⟩),
   (0x245, ⟨.u48, .ro, (.num 0)⟩),
   (0x246, ⟨.u48, .ro, (.num 0)⟩),
   (0x247, ⟨.u48, .ro, (.num 0)⟩),
   (0x250, ⟨.u48, .ro, (.num 0)⟩),
   (0x260, ⟨.u48, .ro, (.num 0)⟩),
   (0x261, ⟨.u48, .ro, (.num 0)⟩),
   (0x262, ⟨.u48, .ro, (.num 0)⟩),
   (0x301, ⟨.u8, .cmd, (.num 0)⟩),
   (0x302, ⟨.u8, .ro, (.num 0)⟩),
   (0x310, ⟨.octets 8, .rws, (.oct (List.replicate 8 0))⟩),
   (0x311, ⟨.u24, .rw, (.num 16777215)⟩),
   (0x312, ⟨.u24, .rw, (.num 16777215)⟩),
   (0x313, ⟨.u24, .rw, (.num 16777215)⟩),
   (0x314, ⟨.u24, .rw, (.num 16777215)⟩),
   (0x315, ⟨.u8, .rw, (.num 0)⟩),
   (0x316, ⟨.u8, .ro, (.num 0)⟩),
   (0x317, ⟨.time96, .ro, (.num 0)⟩),
   (0x318, ⟨.u48, .rws, (.num 0)⟩),
   (0x320, ⟨.u24, .rws, (.num 16777215)⟩),
   (0x321, ⟨.u24, .rws, (.num 16777215)⟩),
   (0x322, ⟨.u24, .rws, (.num 16777215)⟩),
   (0x323, ⟨.u24, .rws, (.num 16777215)⟩),
   (0x324, ⟨.u8, .cmd, (.num 0)⟩),
   (0x325, ⟨.u8, .ro, (.num 0)⟩),
   (0x326, ⟨.u8, .ro, (.num 0)⟩),
   (0x327, ⟨.u48, .ro, (.num 0)⟩),
   (0x328, ⟨.u8, .ro, (.num 0)⟩)]

def Dict.portTable2 : List (Nat × Entry) :=
  [(0x329, ⟨.u8, .ro, (.num 0)⟩),
   (0x340, ⟨.u8, .rws, (.num 0)⟩),
   (0x341, ⟨.i24, .rw, (.num 20)⟩),
   (0x342, ⟨.u8, .rw, (.num 1)⟩),
   (0x343, ⟨.bool, .rws, (.num 0)⟩),
   (0x344, ⟨.time96, .rws, (.num 0)⟩),
   (0x345, ⟨.u48, .rws, (.num 1000000)⟩),
   (0x346, ⟨.u8, .rws, (.num 1)⟩),
   (0x347, ⟨.time96, .ro, (.num 0)⟩),
   (0x348, ⟨.u48, .ro, (.num 0)⟩),
   (0x349, ⟨.u8, .ro, (.num 0)⟩),
   (0x34A, ⟨.time96, .ro, (.num 0)⟩),
   (0x34B, ⟨.u8, .ro, (.num 255)⟩),
   (0x34C, ⟨.u8, .ro, (.num 0)⟩)]

def Dict.portTable : List (Nat × Entry) :=
  Dict.portTable0 ++ Dict.portTable1 ++ Dict.portTable2

def Dict.winCommon : List (Nat × Entry) :=
  [(0x1, ⟨.u24, .rw, (.num 16777215)⟩),
   (0x2, ⟨.u8, .ro, (.num 0)⟩),
   (0x3, ⟨.u24, .ro, (.num 0)⟩),
   (0x4, ⟨.u24, .ro, (.num 0)⟩),
   (0x5, ⟨.u8, .cmd, (.num 0)⟩),
   (0x6, ⟨.u16, .ro, (.num 0)⟩),
   (0x8, ⟨.u8, .cmd, (.num 0)⟩),
   (0x9, ⟨.u8, .ro, (.num 0)⟩)]

def Dict.slotTable : List (Nat × Entry) :=
  [(0x1, ⟨.u8, .ro, (.num 0)⟩),
   (0x2, ⟨.u24, .ro, (.num 0)⟩),
   (0x3, ⟨.octets 64, .ro, (.oct (List.replicate 64 0))⟩),
   (0x4, ⟨.u8, .ro, (.num 0)⟩),
   (0x5, ⟨.time96, .ro, (.num 0)⟩),
   (0x6, ⟨.time96, .ro, (.num 0)⟩)]

def Dict.win4000 : List (Nat × Entry) :=
  [(0x10, ⟨.u8, .rw, (.num 0)⟩),
   (0x11, ⟨.u8, .rw, (.num 3)⟩),
   (0x12, ⟨.u8, .rw, (.num 0)⟩),
   (0x13, ⟨.u16, .rw, (.num 0)⟩),
   (0x14, ⟨.octets 8, .rw, (.oct (List.replicate 8 0))⟩),
   (0x15, ⟨.u8, .rw, (.num 0)⟩),
   (0x16, ⟨.u48, .rw, (.num 0)⟩),
   (0x17, ⟨.octets 12, .rw, (.oct (List.replicate 12 0))⟩),
   (0x18, ⟨.u72, .rw, (.num 1)⟩),
   (0x19, ⟨.u48, .rw, (.num 0)⟩),
   (0x1A, ⟨.bool, .rw, (.num 0)⟩),
   (0x1B, ⟨.u8, .rw, (.num 0)⟩),
   (0x1C, ⟨.u24, .rw, (.num 0)⟩),
   (0x1D, ⟨.u24, .rw, (.num 0)⟩),
   (0x1E, ⟨.u48, .ro, (.num 0)⟩),
   (0x1F, ⟨.u24, .ro, (.num 0)⟩),
   (0x30, ⟨.u48, .ro, (.num 0)⟩),
   (0x31, ⟨.u48, .ro, (.num 0)⟩),
   (0x32, ⟨.u48, .ro, (.num 0)⟩),
   (0x33, ⟨.u48, .ro, (.num 0)⟩),
   (0x34, ⟨.u72, .ro, (.num 0)⟩),
   (0x35, ⟨.time96, .ro, (.num 0)⟩),
   (0x36, ⟨.time96, .ro, (.num 0)⟩)]

def Dict.win4800 : List (Nat × Entry) :=
  [(0x10, ⟨.octets 104, .rw, (.oct [])⟩),
   (0x11, ⟨.octets 64, .wo, (.oct [])⟩),
   (0x12, ⟨.u8, .rw, (.num 0)⟩),
   (0x13, ⟨.u8, .rw, (.num 2)⟩),
   (0x14, ⟨.u48, .rw, (.num 0)⟩),
   (0x15, ⟨.u8, .cmd, (.num 0)⟩)]

def Dict.win4100 : List (Nat × Entry) :=
  [(0x10, ⟨.octets 8, .rw, (.oct (List.replicate 8 0))⟩),
   (0x11, ⟨.u8, .rw, (.num 0)⟩),
   (0x12, ⟨.u24, .rw, (.num 16777215)⟩),
   (0x13, ⟨.u16, .ro, (.num 0)⟩),
   (0x14, ⟨.u48, .ro, (.num 0)⟩)]

def Dict.win4200 : List (Nat × Entry) :=
  [(0x10, ⟨.octets 20, .rw, (.oct (List.replicate 20 0))⟩),
   (0x11, ⟨.octets 20, .rw, (.oct (List.replicate 20 0))⟩),
   (0x12, ⟨.u8, .rw, (.num 0)⟩),
   (0x13, ⟨.u8, .rw, (.num 0)⟩),
   (0x14, ⟨.u8, .rw, (.num 0)⟩),
   (0x15, ⟨.u16, .rw, (.num 65535)⟩),
   (0x16, ⟨.u48, .ro, (.num 0)⟩)]

def Dict.win4300 : List (Nat × Entry) :=
  [(0x10, ⟨.u16, .rw, (.num 0)⟩),
   (0x11, ⟨.octets 6, .rw, (.oct (List.replicate 6 0))⟩),
   (0x12, ⟨.u16, .rw, (.num 0)⟩),
   (0x13, ⟨.octets 8, .rw, (.oct (List.replicate 8 0))⟩),
   (0x14, ⟨.bool, .rw, (.num 0)⟩),
   (0x15, ⟨.u24, .ro, (.num 0)⟩),
   (0x16, ⟨.u16, .ro, (.num 0)⟩)]

def Dict.win4400 : List (Nat × Entry) :=
  [(0x10, ⟨.u8, .rw, (.num 0)⟩),
   (0x11, ⟨.u24, .rw, (.num 5000000)⟩),
   (0x12, ⟨.u8, .rw, (.num 7)⟩),
   (0x13, ⟨.u8, .rw, (.num 7)⟩),
   (0x14, ⟨.u16, .rw, (.num 1000)⟩),
   (0x15, ⟨.bool, .rw, (.num 0)⟩),
   (0x16, ⟨.u8, .ro, (.num 1)⟩),
   (0x17, ⟨.u16, .ro, (.num 0)⟩),
   (0x20, ⟨.u16, .rw, (.num 65535)⟩),
   (0x21, ⟨.u16, .ro, (.num 65535)⟩)]

def Dict.lineLaneTable : List (Nat × Entry) :=
  [(0x1, ⟨.u24, .ro, (.num 0)⟩),
   (0x2, ⟨.u48, .ro, (.num 0)⟩),
   (0x3, ⟨.u48, .ro, (.num 0)⟩),
   (0x4, ⟨.u48, .ro, (.num 0)⟩),
   (0x5, ⟨.u48, .ro, (.num 0)⟩),
   (0x6, ⟨.u24, .ro, (.num 0)⟩),
   (0x10, ⟨.u48, .ro, (.num 0)⟩),
   (0x11, ⟨.u48, .ro, (.num 0)⟩),
   (0x12, ⟨.u8, .ro, (.num 0)⟩)]

def Dict.win4700 : List (Nat × Entry) :=
  [(0x10, ⟨.u8, .rw, (.num 17)⟩),
   (0x11, ⟨.u8, .rw, (.num 0)⟩),
   (0x12, ⟨.u16, .rw, (.num 0)⟩),
   (0x13, ⟨.u8, .rw, (.num 8)⟩),
   (0x14, ⟨.u8, .rw, (.num 0)⟩),
   (0x15, ⟨.u16, .rw, (.num 0)⟩),
   (0x16, ⟨.u8, .rw, (.num 0)⟩),
   (0x17, ⟨.u8, .rw, (.num 0)⟩),
   (0x18, ⟨.u24, .rw, (.num 0)⟩),
   (0x19, ⟨.u48, .ro, (.num 0)⟩),
   (0x1A, ⟨.u24, .ro, (.num 0)⟩),
   (0x30, ⟨.u48, .ro, (.num 0)⟩),
   (0x31, ⟨.u48, .ro, (.num 0)⟩),
   (0x32, ⟨.u48, .ro, (.num 0)⟩),
   (0x33, ⟨.u48, .ro, (.num 0)⟩),
   (0x34, ⟨.u48, .ro, (.num 0)⟩)]

def Dict.laneTable : List (Nat × Entry) :=
  [(0x1, ⟨.u8, .cmd, (.num 0)⟩),
   (0x2, ⟨.u8, .ro, (.num 0)⟩),
   (0x10, ⟨.u8, .rws, (.num 5)⟩),
   (0x11, ⟨.u8, .rws, (.num 0)⟩),
   (0x12, ⟨.u8, .rws, (.num 0)⟩),
   (0x13, ⟨.u24, .rw, (.num 264244)⟩),
   (0x14, ⟨.u8, .rw, (.num 16)⟩),
   (0x15, ⟨.bool, .rw, (.num 0)⟩),
   (0x16, ⟨.u8, .rws, (.num 0)⟩),
   (0x17, ⟨.u8, .rws, (.num 0)⟩),
   (0x20, ⟨.u8, .ro, (.num 0)⟩),
   (0x21, ⟨.u24, .ro, (.num 0)⟩),
   (0x22, ⟨.u24, .ro, (.num 0)⟩),
   (0x23, ⟨.i24, .ro, (.num 0)⟩),
   (0x24, ⟨.u16, .ro, (.num 0)⟩),
   (0x25, ⟨.u8, .ro, (.num 0)⟩),
   (0x30, ⟨.u48, .ro, (.num 0)⟩),
   (0x31, ⟨.u48, .ro, (.num 0)⟩),
   (0x32, ⟨.u48, .ro, (.num 0)⟩),
   (0x33, ⟨.u48, .ro, (.num 0)⟩),
   (0x34, ⟨.u48, .ro, (.num 0)⟩),
   (0x35, ⟨.u48, .ro, (.num 0)⟩)]

def Dict.win4600 : List (Nat × Entry) :=
  [(0x10, ⟨.u8, .rw, (.num 255)⟩),
   (0x11, ⟨.u48, .rw, (.num 1000)⟩)]

def Dict.win4500 : List (Nat × Entry) :=
  [(0x10, ⟨.u8, .rw, (.num 255)⟩),
   (0x11, ⟨.u8, .rw, (.num 1)⟩),
   (0x12, ⟨.u24, .rw, (.num 0)⟩),
   (0x13, ⟨.u24, .rw, (.num 0)⟩),
   (0x14, ⟨.u16, .rw, (.num 2048)⟩),
   (0x20, ⟨.u24, .ro, (.num 0)⟩),
   (0x21, ⟨.i24, .ro, (.num 0)⟩),
   (0x22, ⟨.i24, .ro, (.num 0)⟩),
   (0x30, ⟨.u48, .ro, (.num 0)⟩),
   (0x31, ⟨.u48, .ro, (.num 0)⟩),
   (0x32, ⟨.u48, .ro, (.num 0)⟩),
   (0x33, ⟨.u48, .ro, (.num 0)⟩)]

def Dict.tsiTable : List (Nat × Entry) :=
  [(0x1, ⟨.u8, .rw, (.num 0)⟩),
   (0x2, ⟨.u8, .ro, (.num 0)⟩),
   (0x3, ⟨.time96, .ro, (.num 0)⟩),
   (0x4, ⟨.u16, .ro, (.num 0)⟩),
   (0x5, ⟨.u24, .ro, (.num 0)⟩),
   (0x6, ⟨.u24, .cmd, (.num 0)⟩),
   (0x7, ⟨.u48, .ro, (.num 0)⟩)]

def Dict.sessTable : List (Nat × Entry) :=
  [(0x1, ⟨.u8, .ro, (.num 0)⟩),
   (0x2, ⟨.u8, .ro, (.num 255)⟩),
   (0x3, ⟨.octets 6, .ro, (.oct (List.replicate 6 0))⟩),
   (0x4, ⟨.u16, .ro, (.num 65535)⟩),
   (0x5, ⟨.time96, .ro, (.num 0)⟩),
   (0x6, ⟨.u8, .cmd, (.num 0)⟩),
   (0x7, ⟨.u48, .ro, (.num 0)⟩)]

def Dict.imageTable : List (Nat × Entry) :=
  [(0x1, ⟨.u8, .ro, (.num 0)⟩),
   (0x2, ⟨.u24, .ro, (.num 0)⟩),
   (0x3, ⟨.u16, .ro, (.num 0)⟩),
   (0x4, ⟨.octets 64, .ro, (.oct [])⟩)]

def Dict.credTable : List (Nat × Entry) :=
  [(0x1, ⟨.octets 2000, .dc, (.oct [])⟩),
   (0x2, ⟨.u8, .ro, (.num 0)⟩),
   (0x3, ⟨.octets 32, .ro, (.oct (List.replicate 32 0))⟩)]

def Dict.smChTable : List (Nat × Entry) :=
  [(0x1, ⟨.bool, .rw, (.num 0)⟩),
   (0x2, ⟨.u16, .rw, (.num 0)⟩),
   (0x3, ⟨.u8, .ro, (.num 0)⟩)]

def Dict.rngTable : List (Nat × Entry) :=
  [(0x1, ⟨.u8, .cmd, (.num 0)⟩),
   (0x2, ⟨.u8, .ro, (.num 0)⟩),
   (0x10, ⟨.u8, .rws, (.num 0)⟩),
   (0x11, ⟨.u8, .rws, (.num 0)⟩),
   (0x12, ⟨.u16, .rws, (.num 0)⟩),
   (0x13, ⟨.u16, .rws, (.num 0)⟩)]

def Dict.almTable : List (Nat × Entry) :=
  [(0x1, ⟨.u8, .dc, (.num 0)⟩),
   (0x2, ⟨.u8, .dc, (.num 255)⟩),
   (0x3, ⟨.u48, .ro, (.num 0)⟩),
   (0x4, ⟨.time96, .ro, (.num 0)⟩)]

def Dict.flueTable : List (Nat × Entry) :=
  [(0x1, ⟨.u8, .dc, (.num 2)⟩),
   (0x2, ⟨.u24, .dc, (.num 1000)⟩),
   (0x3, ⟨.u48, .ro, (.num 0)⟩),
   (0x4, ⟨.u48, .ro, (.num 0)⟩),
   (0x5, ⟨.u48, .ro, (.num 0)⟩),
   (0x6, ⟨.u8, .ro, (.num 0)⟩)]

def Dict.bkTable : List (Nat × Entry) :=
  [(0x1, ⟨.u72, .ro, (.num 0)⟩),
   (0x2, ⟨.u8, .ro, (.num 0)⟩)]

def Dict.routeTable : List (Nat × Entry) :=
  [(0x0, ⟨.u16, .rw, (.num 65535)⟩)]

def Dict.pcTable : List (Nat × Entry) :=
  [(0x1, ⟨.u16, .rw, (.num 0)⟩),
   (0x2, ⟨.u16, .rw, (.num 0)⟩),
   (0x3, ⟨.u16, .rw, (.num 0)⟩),
   (0x4, ⟨.u16, .rw, (.num 0)⟩),
   (0x5, ⟨.u16, .rw, (.num 0)⟩),
   (0x6, ⟨.u16, .rw, (.num 0)⟩),
   (0x7, ⟨.u16, .rw, (.num 0)⟩),
   (0x8, ⟨.u16, .rw, (.num 0)⟩),
   (0x9, ⟨.u16, .rw, (.num 0)⟩),
   (0xA, ⟨.u16, .rw, (.num 0)⟩),
   (0xB, ⟨.u16, .rw, (.num 0)⟩),
   (0xC, ⟨.u16, .rw, (.num 0)⟩),
   (0xD, ⟨.u16, .rw, (.num 0)⟩),
   (0xE, ⟨.u16, .rw, (.num 0)⟩),
   (0xF, ⟨.u16, .rw, (.num 0)⟩),
   (0x10, ⟨.u16, .rw, (.num 0)⟩),
   (0x11, ⟨.u48, .ro, (.num 0)⟩),
   (0x12, ⟨.u48, .ro, (.num 0)⟩),
   (0x13, ⟨.u48, .ro, (.num 0)⟩),
   (0x14, ⟨.u48, .ro, (.num 0)⟩),
   (0x15, ⟨.u48, .ro, (.num 0)⟩),
   (0x16, ⟨.u48, .ro, (.num 0)⟩),
   (0x17, ⟨.u48, .ro, (.num 0)⟩),
   (0x18, ⟨.u48, .ro, (.num 0)⟩),
   (0x19, ⟨.u48, .ro, (.num 0)⟩),
   (0x1A, ⟨.u48, .ro, (.num 0)⟩),
   (0x1B, ⟨.u48, .ro, (.num 0)⟩),
   (0x1C, ⟨.u48, .ro, (.num 0)⟩),
   (0x1D, ⟨.u48, .ro, (.num 0)⟩),
   (0x1E, ⟨.u48, .ro, (.num 0)⟩),
   (0x1F, ⟨.u48, .ro, (.num 0)⟩),
   (0x20, ⟨.u48, .ro, (.num 0)⟩),
   (0x21, ⟨.u16, .cmd, (.num 0)⟩)]

/-- The entry of a table at a sub-index. -/
def Dict.find : List (Nat × Entry) → Nat → Option Entry
  | [], _ => none
  | (a, e) :: rest, x => if a = x then some e else Dict.find rest x

/-- The staging-field tables of the windows (R116). -/
def Dict.window (win : Nat) : List (Nat × Entry) :=
  if win = 0x4000 then Dict.win4000 else if win = 0x4100 then Dict.win4100 else if win = 0x4200 then Dict.win4200
  else if win = 0x4300 then Dict.win4300 else if win = 0x4400 then Dict.win4400 else if win = 0x4500 then Dict.win4500
  else if win = 0x4600 then Dict.win4600 else if win = 0x4700 then Dict.win4700 else if win = 0x4800 then Dict.win4800
  else []

/-- The object an address names on the largest part (R100, R101); presence is `State.present`. -/
def Dict.entry (addr : Nat) : Option Entry :=
  let idx := addr / 256
  let sub := addr % 256
  if 0x3000 ≤ idx && idx < 0x4000 then Dict.find Dict.portTable ((idx - 0x3000) % 4 * 256 + sub)
  else if 0x2000 ≤ idx && idx < 0x2800 then
    let off := idx % 256
    if 0x20 ≤ off && off < 0x28 then Dict.find Dict.lineLaneTable sub
    else if off = 0x0A then
      if 1 ≤ sub && sub ≤ 0xAB then some ⟨.u24, .rw, .num (if sub = 0xAB then 0xFFFF00 else 0xFFFFFF)⟩ else none
    else Dict.find Dict.boltTable (off * 256 + sub)
  else if 0x4000 ≤ idx && idx < 0x4900 then
    if idx % 256 ≠ 0 then none
    else if sub < 0x10 then
      if (sub = 8 || sub = 9) && !(idx = 0x4400 || idx = 0x4600 || idx = 0x4700) then none
      else Dict.find Dict.winCommon sub
    else Dict.find (Dict.window idx) sub
  else if 0x1900 ≤ idx && idx < 0x1A00 then Dict.find Dict.laneTable sub
  else if 0x1318 ≤ idx && idx < 0x1320 then Dict.find Dict.slotTable sub
  else if 0x1110 ≤ idx && idx < 0x1119 then Dict.find Dict.sessTable sub
  else if 0x1210 ≤ idx && idx < 0x1214 then Dict.find Dict.tsiTable sub
  else if 0x1361 ≤ idx && idx < 0x1363 then Dict.find Dict.imageTable sub
  else if 0x1380 ≤ idx && idx < 0x1390 then Dict.find Dict.credTable sub
  else if 0x1600 ≤ idx && idx < 0x1602 then Dict.find Dict.smChTable sub
  else if 0x1610 ≤ idx && idx < 0x1618 then Dict.find Dict.rngTable sub
  else if 0x1420 ≤ idx && idx < 0x1429 then Dict.find Dict.almTable sub
  else if 0x1430 ≤ idx && idx < 0x1435 then Dict.find Dict.flueTable sub
  else if 0x1441 ≤ idx && idx < 0x1444 then Dict.find Dict.bkTable sub
  else if 0x1580 ≤ idx && idx < 0x15C0 then
    if 1 ≤ sub && sub ≤ 16 then some ⟨.u16, .rw, .num 0xFFFF⟩ else none
  else if 0x1810 ≤ idx && idx < 0x1818 then Dict.find Dict.pcTable sub
  else Dict.find Dict.devTable addr

/-- The value a field holds when nothing is stored for it (R111): the documented default. LN_RATE of the mirror lanes
is 2 (R486). Fields beyond the tables (0x100 on) and marks are 0. -/
def resetVal : Key → Val
  | .dev addr =>
    if addr = 0x198010 || addr = 0x198110 then .num 2
    else match Dict.entry addr with
      | some e => e.dflt
      | none => .num 0
  | .ses _ addr =>
    match Dict.entry addr with
    | some e => e.dflt
    | none => .num 0
  | .cur _ _ _ => .num 0
  | .row win _ f =>
    match Dict.find (Dict.window win) f with
    | some e => e.dflt
    | none => .num 0

/-- The number of 24-bit words of a type (R103). -/
def Ty.words : Ty → Nat
  | .bool => 1
  | .u8 => 1
  | .u16 => 1
  | .u24 => 1
  | .i24 => 1
  | .u48 => 2
  | .u72 => 3
  | .time96 => 4
  | .octets n => (n + 2) / 3

/-- Words as one number, the most significant first (R19). -/
def wordsToNat (ws : List Nat) : Nat := ws.foldl (fun a w => a * 16777216 + w % 16777216) 0

/-- A number as `n` words, the most significant first (R19). -/
def natToWords : Nat → Nat → List Nat
  | 0, _ => []
  | n + 1, v => v / 16777216 ^ n % 16777216 :: natToWords n v

/-- A number as `n` bytes, the most significant first. -/
def natToBytes : Nat → Nat → Octets
  | 0, _ => []
  | n + 1, v => BitVec.ofNat 8 (v / 256 ^ n) :: natToBytes n v

/-- Bytes as one number, the most significant first. -/
def bytesToNat (bs : Octets) : Nat := bs.foldl (fun a b => a * 256 + b.toNat) 0

/-- Words as bytes, three per word (R103). -/
def wordsToBytes (ws : List Nat) : Octets := ws.flatMap (natToBytes 3)

/-- Bytes as words, three per word, the last filled with 0 (R103). -/
def bytesToWords : Octets → List Nat
  | a :: b :: c :: rest => bytesToNat [a, b, c] :: bytesToWords rest
  | [a, b] => [bytesToNat [a, b, 0]]
  | [a] => [bytesToNat [a, 0, 0]]
  | [] => []

/-- Two's complement of a 24-bit word (I24, R103). -/
def i24 (n : Nat) : Int := if n < 8388608 then (n : Int) else (n : Int) - 16777216

/-- An integer as a 24-bit two's complement word. -/
def toI24 (i : Int) : Nat := (i % 16777216).toNat

/-- The abort a number meets against a type (R104), none where it fits. -/
def Ty.misfit (t : Ty) (n : Nat) : Option Nat :=
  match t with
  | .bool => if n < 2 then none else some 0x130002
  | .u8 => if n < 256 then none else some 0x130002
  | .u16 => if n < 65536 then none else some 0x130002
  | .time96 => if n % 4294967296 < 1000000000 then none else some 0x130002
  | _ => none

/-- The byte lengths an OCTETS object accepts (R105). -/
def octetsLengthOk (addr n len : Nat) : Bool :=
  if addr = 0x131102 || addr = 0x480010 || addr = 0x480011 || addr = 0x133002
      || addr = 0x170102 || addr = 0x170103 || addr = 0x170104 then len ≤ n
  else if 0x1380 ≤ addr / 256 && addr / 256 < 0x1390 then len = 0 || len = 2000
  else if addr = 0x136005 then 1 ≤ len && len ≤ n
  else len = n

/-- A value sent as words with `pad` unused bytes in the last word, read under a type (R103 to R105, R777): the value
as far as it can be read, and the abort of its form. -/
def Ty.decode (t : Ty) (addr : Nat) (ws : List Nat) (pad : Nat) : Val × Option Nat :=
  match t with
  | .octets n =>
    let bytes := wordsToBytes ws
    let len := bytes.length - pad
    (.oct (bytes.take len), if octetsLengthOk addr n len then none else some 0x130003)
  | _ =>
    if ws.length = t.words then
      let v := wordsToNat ws
      (.num v, t.misfit v)
    else (.num (wordsToNat ws), some 0x130003)

/-- A value as words, with the unused bytes of the last word (R103). -/
def Ty.encode (t : Ty) (v : Val) : List Nat × Nat :=
  match v with
  | .num n => (natToWords t.words n, 0)
  | .oct bs => (bytesToWords bs, (3 - bs.length % 3) % 3)

/-- Address of object `k:sub` of a port; a number that is no port names no object. -/
def portAddr (p k sub : Nat) : Nat := if p < 1024 then (0x3000 + 4 * p + k) * 256 + sub else 0

/-- Address of object `off:sub` of a bolt; a number that is no bolt names no object. -/
def boltAddr (b off sub : Nat) : Nat := if b < 8 then (0x2000 + 0x100 * b + off) * 256 + sub else 0

/-- Address of an object of the n-th of `count` like blocks at an index; any other number names no object. -/
def blockAddr (idx count n sub : Nat) : Nat := if n < count then (idx + n) * 256 + sub else 0

/-- A number operand of a command that writes an object of a number type: the abort of its form. A number that needs
more words than the type has is a wrong length (R105). -/
def Ty.numFit (t : Ty) (n : Nat) : Option Nat :=
  if n < 16777216 ^ t.words then t.misfit n else some 0x130003

end Sys2Proof.Machine
end

