-- ==== Sys2Proof/Machine/Ops.lean ====
section
/-! DEFINITION. Machine/Ops.lean: the named operations over the state: reading and writing objects, rows and sparse
maps, what the part holds, time, events, and the abort order. -/

namespace Sys2Proof.Machine

/-! Storage -/

/-- A key as numbers, for its place in the order. -/
def Key.toList : Key → List Nat
  | .dev a => [0, a]
  | .ses s a => [1, s, a]
  | .cur s w f => [2, s, w, f]
  | .row w r f => [3, w, r, f]

/-- Lexicographic order of number lists. -/
def listLt : List Nat → List Nat → Bool
  | [], [] => false
  | [], _ :: _ => true
  | _ :: _, [] => false
  | a :: as, b :: bs => if a < b then true else if b < a then false else listLt as bs

/-- The order of keys in storage. -/
def Key.lt (a b : Key) : Bool := listLt a.toList b.toList

/-- The stored value of a key, if one is listed. -/
def Store.get? : Store → Key → Option Val
  | [], _ => none
  | (k, v) :: rest, x => if k = x then some v else Store.get? rest x

/-- Reading a key: the listed value, or the reset value. -/
def Store.rd (st : Store) (k : Key) : Val :=
  match Store.get? st k with
  | some v => v
  | none => resetVal k

/-- Storage without a key. -/
def Store.erase (st : Store) (k : Key) : Store := st.filter (fun e => decide (e.1 ≠ k))

/-- Storage with an entry put at its place. -/
def Store.insert : Store → Key → Val → Store
  | [], k, v => [(k, v)]
  | (k', v') :: rest, k, v =>
    if Key.lt k k' then (k, v) :: (k', v') :: rest else (k', v') :: Store.insert rest k v

/-- Writing a key: a value equal to the reset value is not listed. -/
def Store.wr (st : Store) (k : Key) (v : Val) : Store :=
  if v = resetVal k then Store.erase st k else Store.insert (Store.erase st k) k v

/-- The canonical form: keys strictly rising. -/
def Store.sorted : Store → Bool
  | [] => true
  | [_] => true
  | (k, _) :: (k', v') :: rest => Key.lt k k' && Store.sorted ((k', v') :: rest)

/-- The canonical form of storage: keys strictly rising and no entry equal to its reset value. -/
def Store.wf (st : Store) : Bool := Store.sorted st && st.all (fun e => decide (e.2 ≠ resetVal e.1))

/-- An object's value. -/
def State.rd (s : State) (k : Key) : Val := Store.rd s.objs k

/-- The state with an object's value written. -/
def State.put (s : State) (k : Key) (v : Val) : State := { s with objs := Store.wr s.objs k v }

/-- A number object's value; 0 for an OCTETS value. -/
def State.num (s : State) (k : Key) : Nat :=
  match s.rd k with
  | .num n => n
  | .oct _ => 0

/-- An OCTETS object's value; empty for a number. -/
def State.oct (s : State) (k : Key) : Octets :=
  match s.rd k with
  | .num _ => []
  | .oct bs => bs

/-- A number written. -/
def State.putN (s : State) (k : Key) (n : Nat) : State := s.put k (.num n)

/-- Bytes written. -/
def State.putO (s : State) (k : Key) (bs : Octets) : State := s.put k (.oct bs)

/-- A key back at its reset value. -/
def State.clear (s : State) (k : Key) : State := { s with objs := Store.erase s.objs k }

/-- Every key that a test names back at its reset value. -/
def State.clearWhere (s : State) (p : Key → Bool) : State := { s with objs := s.objs.filter (fun e => !p e.1) }

/-- Several writes. -/
def State.putAll (s : State) (kvs : List (Key × Val)) : State := kvs.foldl (fun s kv => s.put kv.1 kv.2) s

/-- The type of what a key holds. -/
def Key.ty : Key → Ty
  | .dev a => match Dict.entry a with | some e => e.ty | none => .u48
  | .ses _ a => match Dict.entry a with | some e => e.ty | none => .u48
  | .cur _ _ _ => .u8
  | .row w _ f => match Dict.find (Dict.window w) f with | some e => e.ty | none => .u48

/-- The largest value of a number type. -/
def Ty.max : Ty → Nat
  | .bool => 1
  | .u8 => 255
  | .u16 => 65535
  | .u24 => 16777215
  | .i24 => 16777215
  | .u48 => 281474976710655
  | .u72 => 4722366482869645213695
  | .time96 => 79228162514264337593543950335
  | .octets _ => 0

/-- A counter raised by n, saturating at its maximum value (R53). -/
def State.countBy (s : State) (k : Key) (n : Nat) : State := s.putN k (min (s.num k + n) k.ty.max)

/-- A counter raised by 1, saturating (R53). -/
def State.count (s : State) (k : Key) : State := s.countBy k 1

/-! Sparse maps by number -/

/-- The entry of a number. -/
def FMap.get? {α : Type} : FMap α → Nat → Option α
  | [], _ => none
  | (k, v) :: rest, x => if k = x then some v else FMap.get? rest x

/-- The entry of a number, or a default. -/
def FMap.getD {α : Type} (m : FMap α) (k : Nat) (d : α) : α :=
  match FMap.get? m k with
  | some v => v
  | none => d

/-- The map with an entry put or replaced, numbers rising. -/
def FMap.put {α : Type} : FMap α → Nat → α → FMap α
  | [], k, v => [(k, v)]
  | (k', v') :: rest, k, v =>
    if k = k' then (k, v) :: rest else if k < k' then (k, v) :: (k', v') :: rest else (k', v') :: FMap.put rest k v

/-- The map without an entry. -/
def FMap.del {α : Type} (m : FMap α) (k : Nat) : FMap α := m.filter (fun e => decide (e.1 ≠ k))

/-- The byte at an address; an unlisted byte is 0. -/
def Mem.rd (m : Mem) (a : Nat) : Byte := FMap.getD (α := Byte) m a 0

/-- A byte written; the value 0 is not listed. -/
def Mem.wr (m : Mem) (a : Nat) (b : Byte) : Mem :=
  if b = 0 then FMap.del (α := Byte) m a else FMap.put (α := Byte) m a b

/-- `n` bytes from an address. -/
def Mem.readN (m : Mem) (a n : Nat) : Octets := (List.range n).map (fun i => Mem.rd m (a + i))

/-- Bytes written from an address on. -/
def Mem.writeAll : Mem → Nat → Octets → Mem
  | m, _, [] => m
  | m, a, b :: bs => Mem.writeAll (Mem.wr m a b) (a + 1) bs

/-- The canonical form of bytes: addresses strictly rising, no 0 listed. -/
def Mem.wf : Mem → Bool
  | [] => true
  | [(_, b)] => b != 0
  | (a, b) :: (a', b') :: rest => b != 0 && decide (a < a') && Mem.wf ((a', b') :: rest)

def State.port (s : State) (p : Nat) : PortState := s.ports.getD p {}
def State.setPort (s : State) (p : Nat) (x : PortState) : State := { s with ports := s.ports.put p x }
def State.bolt (s : State) (b : Nat) : BoltState := s.bolts.getD b {}
def State.setBolt (s : State) (b : Nat) (x : BoltState) : State := { s with bolts := s.bolts.put b x }
def State.trib (s : State) (p : Nat) : TribState := s.tribs.getD p {}
def State.setTrib (s : State) (p : Nat) (x : TribState) : State := { s with tribs := s.tribs.put p x }
def State.grp (s : State) (g : Nat) : GroupState := s.groups.getD g {}
def State.setGrp (s : State) (g : Nat) (x : GroupState) : State := { s with groups := s.groups.put g x }
def State.twLane (s : State) (n : Nat) : TwLane := s.twLanes.getD n {}
def State.setTwLane (s : State) (n : Nat) (x : TwLane) : State := { s with twLanes := s.twLanes.put n x }
def State.lane (s : State) (n : Nat) : LaneState := s.lanes.getD n {}
def State.setLane (s : State) (n : Nat) (x : LaneState) : State := { s with lanes := s.lanes.put n x }
def State.session (s : State) (n : Nat) : Session := s.sessions.getD n {}
def State.setSession (s : State) (n : Nat) (x : Session) : State := { s with sessions := s.sessions.put n x }
def State.pipe (s : State) (b : Nat) (pi : Pipe) : PipeState :=
  match pi with
  | .e => (s.bolt b).e
  | .d => (s.bolt b).d
def State.setPipe (s : State) (b : Nat) (pi : Pipe) (x : PipeState) : State :=
  match pi with
  | .e => s.setBolt b { s.bolt b with e := x }
  | .d => s.setBolt b { s.bolt b with d := x }

/-! What the part holds (R1, R3, R7, R8, R17) -/

/-- The number of bolts of a part (R1). -/
def Part.bolts : Part → Nat
  | .nz6412 => 8
  | .nz3206 => 4
  | .nz1603 => 2

/-- Side-memory channels of a part (R1). -/
def Part.sideChannels : Part → Nat
  | .nz6412 => 2
  | .nz3206 => 1
  | .nz1603 => 0

/-- The part number in BCD (R6). -/
def Part.code : Part → Nat
  | .nz6412 => 0x006412
  | .nz3206 => 0x003206
  | .nz1603 => 0x001603

/-- PRESENCE_MAP (R8). -/
def Part.presence : Part → Nat
  | .nz6412 => 0xFFFFC0
  | .nz3206 => 0x0F3DC0
  | .nz1603 => 0x0305C0

def State.nBolts (s : State) : Nat := s.part.bolts
def State.nPorts (s : State) : Nat := 128 * s.part.bolts
def State.nSas (s : State) : Nat := 8192 * s.part.bolts
def State.hasSector (s : State) : Bool := s.part == .nz6412
def State.hasTwill (s : State) : Bool := s.part != .nz1603
def State.hasGingham (s : State) : Bool := s.part != .nz1603
def State.hasCtle (s : State) : Bool := s.part == .nz6412

/-- The bolt of a port and of an SA number (R17). -/
def boltOfPort (p : Nat) : Nat := p / 128
def boltOfSa (sa : Nat) : Nat := sa / 8192

/-- Whether a lane number of R457 exists: clear lanes 0 to 63, line lanes 64 to 127, mirror lanes 128 and 129. -/
def State.lanePresent (s : State) (n : Nat) : Bool :=
  if n < 64 then n < 8 * s.nBolts else if n < 128 then n - 64 < 8 * s.nBolts else n < 130

/-! Time (R527 to R531). Device time is held in units of 2^-16 · 10^-6 ns. -/

/-- Device time in ns. -/
def State.nowNs (s : State) : Nat := s.time.dev / 65536000000

/-- Device time in 2^-16 ns, the unit of frame timestamps (R535). -/
def State.nowFine (s : State) : Nat := s.time.dev / 1000000

/-- ns of device time as a TIME96 number: seconds in the upper 64 bits, nanoseconds in the lower 32 (R103). -/
def time96 (ns : Nat) : Nat := ns / 1000000000 * 4294967296 + ns % 1000000000

/-- A TIME96 number in ns. -/
def time96Ns (t : Nat) : Nat := t / 4294967296 * 1000000000 + t % 4294967296

/-- Device time as TIME96. -/
def State.now96 (s : State) : Nat := time96 s.nowNs

/-- The second of device time (R95). -/
def State.nowSec (s : State) : Nat := s.nowNs / 1000000000

/-! Free values -/

/-- The next free value and the state that has drawn it (log entry 4). -/
def State.draw (s : State) : Nat × State := (Config.freeNat s.free, { s with free := s.free + 1 })

/-- `n` free bytes (log entry 4). -/
def State.drawBytes (s : State) (n : Nat) : Octets × State :=
  (natToBytes n (Config.freeNat s.free % 256 ^ n), { s with free := s.free + 1 })

/-! Functions (R124): where the state and the failing code of a function are kept. -/

/-- The object that holds FN_STATE: sub-index 02 of the home, or field 09 of the window row (R124). -/
def fnStateKey : Fn → Key
  | .port p => portKey p 0 2
  | .sched p => portKey p 3 2
  | .bank b k => boltKey b (0x10 + k) 2
  | .lane n => .dev ((0x1900 + n) * 256 + 2)
  | .range r => .dev ((0x1610 + r) * 256 + 2)
  | .group b g => .row 0x4400 (b * 1024 + g) 9
  | .gate p => .row 0x4600 (p / 128 * 32768 + p % 128 * 256) 9
  | .stream n => .row 0x4700 n 9

/-- The object that holds what a read of FN_CTRL returns (R777). -/
def fnCodeKey : Fn → Key
  | .port p => portKey p 0 1
  | .sched p => portKey p 3 1
  | .bank b k => boltKey b (0x10 + k) 1
  | .lane n => .dev ((0x1900 + n) * 256 + 1)
  | .range r => .dev ((0x1610 + r) * 256 + 1)
  | .group b g => .row 0x4400 (b * 1024 + g) 8
  | .gate p => .row 0x4600 (p / 128 * 32768 + p % 128 * 256) 8
  | .stream n => .row 0x4700 n 8

/-- FN_STATE of a function: 0 STOPPED, 1 STARTING, 2 RUNNING, 3 STOPPING, 4 START_PENDING, 5 STOP_PENDING (R125). -/
def State.fnState (s : State) (f : Fn) : Nat := s.num (fnStateKey f)
def State.running (s : State) (f : Fn) : Bool := s.fnState f == 2
def State.stopped (s : State) (f : Fn) : Bool := s.fnState f == 0

/-- The function kind of event details (R149). -/
def fnKind : Fn → Nat
  | .port _ => 0
  | .group _ _ => 1
  | .bank _ _ => 2
  | .sched _ => 3
  | .gate _ => 4
  | .stream _ => 5
  | .range _ => 6
  | .lane _ => 7

/-- The instance number of event details (R149): a group or bank counts 8 or 2 a bolt (log entry 10). -/
def fnInstance : Fn → Nat
  | .port p => p
  | .group b g => b * 8 + g
  | .bank b k => b * 2 + k
  | .sched p => p
  | .gate p => p
  | .stream n => n
  | .range r => r
  | .lane n => n

/-- The failing code of a start under way, 0 where its check passed (R127). -/
def startCode (f : Fn) : Key := .row (0x8000 + fnKind f) (fnInstance f) 0x100

/-- The mark of a start that a drain has led to, so that its function was not STOPPED before it (R127). -/
def startHeld (f : Fn) : Key := .row (0x8000 + fnKind f) (fnInstance f) 0x102

/-- The source object of a function's events (R149). -/
def fnSource : Fn → Nat
  | .port p => (0x3000 + 4 * p) * 256
  | .sched p => (0x3000 + 4 * p + 3) * 256
  | .bank b k => (0x2000 + 0x100 * b + 0x10 + k) * 256
  | .lane n => (0x1900 + n) * 256
  | .range r => (0x1610 + r) * 256
  | .group _ _ => 0x440000
  | .gate _ => 0x460000
  | .stream _ => 0x470000

/-! Events (R142 to R149) -/

/-- Bit i of a number. -/
def bit (n i : Nat) : Bool := n / 2 ^ i % 2 == 1

/-- The side-memory range RUNNING in a use, or the first configured one that is not (R655, R657). -/
def State.rangeOf (s : State) (use : Nat) : Option (Nat × Bool) :=
  match (List.range 8).find? (fun r => s.num (Reg.rngUse r) == use && s.running (.range r)) with
  | some r => some (r, true)
  | none =>
    match (List.range 8).find? (fun r => s.num (Reg.rngUse r) == use) with
    | some r => some (r, false)
    | none => none

/-- Bytes written into a RUNNING range (R658); a line written whole matches its tag again (R661). -/
def State.smWrite (s : State) (r off : Nat) (bytes : Octets) : State :=
  let x := s.sm.getD r {}
  let bad := x.bad.filter (fun k => !decide (off ≤ 64 * k ∧ 64 * k + 64 ≤ off + bytes.length))
  { s with sm := s.sm.put r { x with data := Mem.writeAll x.data off bytes, bad := bad } }

/-- The line, if one, of `n` from `first` on that fails its tag twice as it is read (R660): `badLine` now, or one that has
failed before (log entry 103). -/
def State.lineFails (s : State) (r first n : Nat) (badLine : Option Nat) : Option Nat :=
  (badLine.toList ++ (s.sm.getD r {}).bad).find? (fun k => decide (first ≤ k ∧ k < first + n))

/-- Bytes read from a RUNNING range. -/
def State.smRead (s : State) (r off n : Nat) : Octets := Mem.readN (s.sm.getD r {}).data off n

/-- A record's 7 words (R142). -/
def Record.bytes (r : Record) : Octets :=
  natToBytes 3 r.code ++ natToBytes 12 r.time ++ natToBytes 3 r.source ++ natToBytes 3 r.detail

/-- The record's slot in the side-memory event log (R147, R663): stored in a RUNNING log range, counted as lost where
the log's range is not RUNNING or the slot's line fails its tag (R661, R662). -/
def State.logRecord (s : State) (r : Record) : State :=
  let s := s.putN Reg.smLogNext ((r.seq + 1) % 16777216)
  match s.rangeOf 2 with
  | some (k, true) =>
    let slots := s.num (Reg.rngSize k) * 1048576 / 32
    match s.lineFails k (r.seq % slots / 2) 1 none with
      | some n => ({ s with events := { s.events with badLog := s.events.badLog ++ [(k, n)] } } : State).count Reg.smLogLost
      | none => s.smWrite k (r.seq % slots * 32) (r.bytes ++ natToBytes 3 r.seq ++ natToBytes 8 0)
  | some (_, false) => (s.count Reg.smStoppedErrors).count Reg.smLogLost
  | none => s

/-- The notification of a queued record (R148): an IBI on I3C with the class as mandatory byte and the sequence number
as payload (R566), and a message on the network sessions (R556). -/
def State.notify (s : State) (r : Record) : State :=
  let c := r.code / 65536
  if bit (s.num Reg.evtNotify) c then
    let s : State := { s with events := { s.events with notes := s.events.notes ++ [(c, r.seq)] } }
    if s.i3c.intEnabled && s.i3c.ibi.isNone then
      { s with i3c := { s.i3c with ibi := some [c, r.seq / 65536 % 256, r.seq / 256 % 256, r.seq % 256] } }
    else s
  else s

/-- A record reaches Hearth: it takes the next sequence number and is queued, or dropped and counted, and is written
to the side-memory log (R144, R146, R147). -/
def State.enter (s : State) (code time source detail : Nat) : State :=
  let r : Record := ⟨s.events.nextSeq, code, time, source, detail % 16777216⟩
  let e := { s.events with nextSeq := (s.events.nextSeq + 1) % 16777216 }
  if s.events.queue.length < 1024 then
    (({ s with events := { e with queue := e.queue ++ [r] } } : State).notify r).logRecord r
  else
    (({ s with events := { e with dropped := e.dropped + 1 } } : State).count Reg.evtLost).logRecord r

/-- An event of the present instant. Before the event queue starts (R760) nothing is entered. -/
def State.raise (s : State) (code source detail : Nat) : State :=
  if s.phase = .ready then s.enter code s.now96 source detail else s

/-- An event that is entered when the event queue starts, where it has not started yet (R760). -/
def State.raiseEarly (s : State) (code source detail : Nat) : State :=
  if s.phase = .ready then s.raise code source detail
  else { s with events := { s.events with early := s.events.early ++ [(code, source, detail)] } }

/-- An event raised at most once for a key and a second `sec` of device time. -/
def State.raiseIn (s : State) (sec code key source detail : Nat) : State :=
  if s.events.limited.contains (code, key, sec) then s
  else
    ({ s with events := { s.events with limited := (code, key, sec) :: s.events.limited } } : State).raise code source detail

/-- An event raised at most once for a key in each second of device time (R95, R147). -/
def State.raiseKeyed (s : State) (code key source detail : Nat) : State := s.raiseIn s.nowSec code key source detail

/-- An event raised at most once for a source in each second of device time. -/
def State.raiseOnce (s : State) (code source detail : Nat) : State := s.raiseKeyed code source source detail

/-! Aborts (R138, R139) -/

/-- The place of an abort's kind in the order of R139. Codes outside its table come with their class. -/
def abortRank (c : Nat) : Nat :=
  if c = 0x170001 || c = 0x170002 then 0
  else if c = 0x150002 then 1
  else if c / 65536 = 0x10 then 2
  else if c / 65536 = 0x11 then 3
  else if c / 65536 = 0x14 then 4
  else if c / 65536 = 0x12 || c = 0x150001 || c = 0x150003 then 5
  else if c / 65536 = 0x16 then 6
  else if c = 0x150004 then 7
  else if c / 65536 = 0x13 then 8
  else 9

/-- The abort that comes first under R139; of one kind, the one listed first. -/
def firstAbort : List (Option Nat) → Option Nat
  | [] => none
  | none :: rest => firstAbort rest
  | some c :: rest =>
    match firstAbort rest with
    | none => some c
    | some d => if abortRank d < abortRank c then some d else some c

/-- An abort that applies when a condition holds. -/
def abortIf (b : Bool) (c : Nat) : Option Nat := if b then some c else none

/-- A result that is refused by the first abort of a list under R139. -/
def guarded {α : Type} (cs : List (Option Nat)) (r : α) : Except Nat α :=
  match firstAbort cs with
  | some c => .error c
  | none => .ok r

/-- The first abort of a list in the list's own order (rules that list their checks, R139). -/
def inOrder : List (Option Nat) → Option Nat
  | [] => none
  | some c :: _ => some c
  | none :: rest => inOrder rest

/-- What a host access comes to: the state after it and the answer. A refusal leaves the state as it was, but for the
effects a rule gives a refused access (R251, R275). -/
abbrev Eff := State × Answer

def okay (s : State) : Eff := (s, .ok)
def refuse (s : State) (c : Nat) : Eff := (s, .abort c)

/-- An access refused by the first abort of a list under R139, or done. -/
def check (s : State) (cs : List (Option Nat)) (r : Eff) : Eff :=
  match firstAbort cs with
  | some c => refuse s c
  | none => r

/-- An access refused by the first abort in a rule's own order, or done. -/
def checkInOrder (s : State) (cs : List (Option Nat)) (r : Eff) : Eff :=
  match inOrder cs with
  | some c => refuse s c
  | none => r

/-- An access under aborts that do not come from its own effect: the first of all under R139. -/
def underAborts (s : State) (cs : List (Option Nat)) (r : Eff) : Eff :=
  match firstAbort cs with
  | none => r
  | some c =>
    match r.2 with
    | .abort d => if abortRank d < abortRank c then r else refuse s c
    | _ => refuse s c

/-- A number with bit i set or cleared. -/
def setBit (n i : Nat) (b : Bool) : Nat := if bit n i == b then n else if b then n + 2 ^ i else n - 2 ^ i

/-- A sum over a list. -/
def sumOf {α : Type} (f : α → Nat) (l : List α) : Nat := l.foldl (fun a x => a + f x) 0

/-- A state carried through a list. -/
def forEach {α : Type} (l : List α) (f : State → α → State) (s : State) : State := l.foldl f s

/-- Counters raised by 1. -/
def State.counts (s : State) (ks : List Key) : State := forEach ks State.count s

/-- A list of n items from a number on. -/
def rangeFrom (a n : Nat) : List Nat := (List.range n).map (a + ·)

/-- The ports of a bolt, in order (R17). -/
def boltPorts (b : Nat) : List Nat := rangeFrom (128 * b) 128

/-! Performance counter events (R729 to R731) -/

/-- An event's amount added to every counter of a bolt that selects it (R729). -/
def State.pc (s : State) (b ev n : Nat) : State :=
  forEach (List.range 16) (fun s i =>
    if s.num (pcKey b (1 + i)) = ev then s.countBy (pcKey b (0x11 + i)) n else s) s

/-- The row addresses that storage lists in a window, each once. -/
def State.rowsListed (s : State) (win : Nat) : List Nat :=
  (s.objs.filterMap (fun e => match e.1 with | .row w r _ => if w = win then some r else none | _ => none)).dedup

/-- A row's version advances by 1 modulo 2^24 (R121). -/
def State.bumpVersion (s : State) (win row : Nat) : State :=
  s.putN (.row win row 3) ((s.num (.row win row 3) + 1) % 16777216)

/-- ROW_STATE of a row as stored. -/
def State.rowState (s : State) (win row : Nat) : Nat := s.num (.row win row 2)

/-- A row's state written, its version advancing (R121). -/
def State.setRowState (s : State) (win row st : Nat) : State := (s.putN (.row win row 2) st).bumpVersion win row

/-! Role generations (R133 to R136) -/

/-- The bolt a cursor's row lies in, and the port that governs it (R115, R135). -/
def rowBolt (win row : Nat) : Option Nat :=
  if win = 0x4000 then some (row / 8192) else if win = 0x4100 then some (row / 32768)
  else if win = 0x4200 then some (row / 8192) else if win = 0x4300 then some (row / 65536)
  else if win = 0x4400 then some (row / 1024) else if win = 0x4500 then some (row / 1024)
  else if win = 0x4600 then some (row / 32768) else none

/-- The port that governs a queue or gate row (R115). -/
def rowPort (win row : Nat) : Option Nat :=
  if win = 0x4500 then some (row / 1024 * 128 + row % 1024 / 8)
  else if win = 0x4600 then some (row / 32768 * 128 + row % 32768 / 256)
  else none

/-- Marks every cursor and proposal that a test on its captured bolt and port names as changed (R136, R160). -/
def State.markRoles (s : State) (hit : Option Nat → Option Nat → Bool) : State :=
  let wins := [0x4000, 0x4100, 0x4200, 0x4300, 0x4400, 0x4500, 0x4600]
  let s := forEach (List.range 9) (fun s n => forEach wins (fun s w =>
    let sel := s.num (.ses n (w * 256 + 1))
    if sel ≠ 0xFFFFFF ∧ hit (rowBolt w sel) (if s.num (.cur n w 2) = 0 then none else some (s.num (.cur n w 2) - 1)) = true
    then s.putN (.cur n w 0) 1 else s) s) s
  { s with proposals := s.proposals.map (fun e =>
      let t := e.2.target / 256
      let b := if 0x2000 ≤ t ∧ t < 0x2800 then some ((t - 0x2000) / 256)
        else if 0x3000 ≤ t ∧ t < 0x4000 then some ((t - 0x3000) / 512) else none
      let p := if 0x3000 ≤ t ∧ t < 0x4000 then some ((t - 0x3000) / 4) else none
      if hit b p then (e.1, { e.2 with changed := true }) else e) }

/-- A role change of a port (R133, R134). -/
def State.portRoleChange (s : State) (p : Nat) : State :=
  (s.putN (Reg.pPortRoleGen p) ((s.num (Reg.pPortRoleGen p) + 1) % 256)).markRoles (fun _ q => q == some p)

/-- A role change of a bolt (R133, R134). -/
def State.boltRoleChange (s : State) (b : Nat) : State :=
  (s.putN (Reg.bBoltRoleGen b) ((s.num (Reg.bBoltRoleGen b) + 1) % 256)).markRoles (fun c _ => c == some b)

/-- Every bolt's and port's role changes (R134). -/
def State.allRolesChange (s : State) : State :=
  let s := forEach (List.range s.nBolts) (fun s b =>
    s.putN (Reg.bBoltRoleGen b) ((s.num (Reg.bBoltRoleGen b) + 1) % 256)) s
  let s := forEach (List.range s.nPorts) (fun s p =>
    s.putN (Reg.pPortRoleGen p) ((s.num (Reg.pPortRoleGen p) + 1) % 256)) s
  s.markRoles (fun b p => b.isSome || p.isSome)

end Sys2Proof.Machine
end

