-- ==== Sys2Proof/Machine/Crypto.lean ====
section
/-! DEFINITION. Machine/Crypto.lean: the published algorithms the spec names: AES (FIPS 197), GCM and GMAC (NIST
SP 800-38D), XTS-AES (IEEE 1619), KWP (NIST SP 800-38F), SHA-512 (FIPS 180-4), HMAC, the counter-mode KDF of NIST
SP 800-108, and the CRCs. PRESUMED from those standards (log entry 5); the spec names them and gives their parameters. -/

namespace Sys2Proof.Machine

/-- The AES S-box, byte x at bits 8x (FIPS 197). -/
def sboxTable : Nat := 0x16BB54B00F2D99416842E6BF0D89A18CDF2855CEE9871E9B948ED9691198F8E19E1DC186B95735610EF6034866B53E708A8BBD4B1F74DDE8C6B4A61C2E2578BA08AE7A65EAF4566CA94ED58D6D37C8E779E4959162ACD3C25C2406490A3A32E0DB0B5EDE14B8EE4688902A22DC4F816073195D643D7EA7C41744975FEC130CCDD2F3FF1021DAB6BCF5389D928F40A351A89F3C507F02F94585334D43FBAAEFD0CF584C4A39BECB6A5BB1FC20ED00D153842FE329B3D63B52A05A6E1B1A2C830975B227EBE28012079A059618C323C7041531D871F1E5A534CCF73F362693FDB7C072A49CAFA2D4ADF04759FA7DC982CA76ABD7FE2B670130C56F6BF27B777C63

/-- The inverse AES S-box. -/
def invSboxTable : Nat := 0x7D0C2155631469E126D677BA7E042B17619953833CBBEBC8B0F52AAE4D3BE0A0EF9CC9939F7AE52D0D4AB519A97F51605FEC8027591012B131C7078833A8DD1FF45ACD78FEC0DB9A2079D2C64B3E56FC1BBE18AA0E62B76F89C5291D711AF1476EDF751CE837F9E28535ADE72274AC9673E6B4F0CECFF297EADC674F4111913A6B8A130103BDAFC1020F3FCA8F1E2CD00645B3B80558E4F70AD3BC8C00ABD890849D8DA75746155EDAB9EDFD5048706C92B6655DCC5CA4D41698688664F6F87225D18B6D49A25B76B224D92866A12E084EC3FA420B954CEE3D23C2A632947B54CBE9DEC444438E3487FF2F9B8239E37CFBD7F3819EA340BF38A53630D56A0952

def sbox (x : Nat) : Nat := sboxTable / 2 ^ (8 * x) % 256
def invSbox (x : Nat) : Nat := invSboxTable / 2 ^ (8 * x) % 256

/-- Multiplication by x in GF(2^8). -/
def xtime (b : Nat) : Nat := if b < 128 then 2 * b else (2 * b) ^^^ 0x11B

/-- Multiplication in GF(2^8) by 9, 11, 13 and 14 (InvMixColumns). -/
def gmul9 (b : Nat) : Nat := xtime (xtime (xtime b)) ^^^ b
def gmul11 (b : Nat) : Nat := xtime (xtime (xtime b)) ^^^ xtime b ^^^ b
def gmul13 (b : Nat) : Nat := xtime (xtime (xtime b)) ^^^ xtime (xtime b) ^^^ b
def gmul14 (b : Nat) : Nat := xtime (xtime (xtime b)) ^^^ xtime (xtime b) ^^^ xtime b

/-- SubWord of a 32-bit word. -/
def subWord (w : Nat) : Nat :=
  sbox (w / 16777216) * 16777216 + sbox (w / 65536 % 256) * 65536 + sbox (w / 256 % 256) * 256 + sbox (w % 256)

/-- RotWord of a 32-bit word. -/
def rotWord (w : Nat) : Nat := w % 16777216 * 256 + w / 16777216

/-- Key expansion: `n` further words after a list held latest first; `i` is the number of the next word. -/
def expandMore (nk : Nat) : Nat → Nat → Nat → List Nat → List Nat
  | 0, _, _, ws => ws
  | n + 1, i, rcon, ws =>
    let prev := ws.headD 0
    let back := ws.getD (nk - 1) 0
    let t := if i % nk = 0 then subWord (rotWord prev) ^^^ (rcon * 16777216)
      else if 6 < nk ∧ i % nk = 4 then subWord prev else prev
    expandMore nk n (i + 1) (if i % nk = 0 then xtime rcon else rcon) ((back ^^^ t) :: ws)

/-- A list of numbers cut into fours. -/
def chunk4 : List Nat → List (List Nat)
  | a :: b :: c :: d :: rest => [a, b, c, d] :: chunk4 rest
  | [] => []
  | l => [l]

/-- The 32-bit words of bytes. -/
def toWords32 (bs : List Nat) : List Nat :=
  (chunk4 bs).map (fun l => l.foldl (fun a b => a * 256 + b) 0)

/-- The bytes of 32-bit words. -/
def fromWords32 (ws : List Nat) : List Nat :=
  ws.flatMap (fun w => [w / 16777216, w / 65536 % 256, w / 256 % 256, w % 256])

/-- The round keys of an AES key of 16 or 32 bytes, as 16-byte lists in order. -/
def roundKeys (key : List Nat) : List (List Nat) :=
  let nk := key.length / 4
  let total := 4 * (nk + 7)
  let ws := (expandMore nk (total - nk) nk 1 (toWords32 key).reverse).reverse
  (chunk4 ws).map fromWords32

def xorLists (a b : List Nat) : List Nat := List.zipWith (fun x y => x ^^^ y) a b

/-- ShiftRows and its inverse on a state in column order. -/
def shiftRows (s : List Nat) : List Nat := (List.range 16).map (fun i => s.getD (i % 4 + 4 * ((i / 4 + i % 4) % 4)) 0)
def invShiftRows (s : List Nat) : List Nat :=
  (List.range 16).map (fun i => s.getD (i % 4 + 4 * ((i / 4 + 4 - i % 4) % 4)) 0)

def mixColumn : List Nat → List Nat
  | [a, b, c, d] =>
    [xtime a ^^^ (xtime b ^^^ b) ^^^ c ^^^ d, a ^^^ xtime b ^^^ (xtime c ^^^ c) ^^^ d,
     a ^^^ b ^^^ xtime c ^^^ (xtime d ^^^ d), (xtime a ^^^ a) ^^^ b ^^^ c ^^^ xtime d]
  | l => l

def invMixColumn : List Nat → List Nat
  | [a, b, c, d] =>
    [gmul14 a ^^^ gmul11 b ^^^ gmul13 c ^^^ gmul9 d, gmul9 a ^^^ gmul14 b ^^^ gmul11 c ^^^ gmul13 d,
     gmul13 a ^^^ gmul9 b ^^^ gmul14 c ^^^ gmul11 d, gmul11 a ^^^ gmul13 b ^^^ gmul9 c ^^^ gmul14 d]
  | l => l

def mixColumns (s : List Nat) : List Nat := (chunk4 s).flatMap mixColumn
def invMixColumns (s : List Nat) : List Nat := (chunk4 s).flatMap invMixColumn

/-- The AES rounds after the first key addition, one per round key. -/
def aesRounds : List (List Nat) → List Nat → List Nat
  | [], s => s
  | [k], s => xorLists (shiftRows (s.map sbox)) k
  | k :: ks, s => aesRounds ks (xorLists (mixColumns (shiftRows (s.map sbox))) k)

/-- The inverse AES rounds, round keys in reverse order. -/
def aesInvRounds : List (List Nat) → List Nat → List Nat
  | [], s => s
  | [k], s => xorLists ((invShiftRows s).map invSbox) k
  | k :: ks, s => aesInvRounds ks (invMixColumns (xorLists ((invShiftRows s).map invSbox) k))

/-- AES of one block given the round keys. -/
def aesWith (rks : List (List Nat)) (block : List Nat) : List Nat :=
  match rks with
  | [] => block
  | k :: ks => aesRounds ks (xorLists block k)

/-- Inverse AES of one block given the round keys. -/
def aesInvWith (rks : List (List Nat)) (block : List Nat) : List Nat :=
  match rks.reverse with
  | [] => block
  | k :: ks => aesInvRounds ks (xorLists block k)

/-- Bytes as numbers, and back. -/
def nats (bs : Octets) : List Nat := bs.map BitVec.toNat
def octs (ns : List Nat) : Octets := ns.map (BitVec.ofNat 8)

/-- AES of one 16-byte block. -/
def aes (key block : Octets) : Octets := octs (aesWith (roundKeys (nats key)) (nats block))

/-- A 128-bit number as 16 byte numbers, and back. -/
def blockNats (n : Nat) : List Nat := (natToBytes 16 n).map BitVec.toNat
def natsToNat (l : List Nat) : Nat := l.foldl (fun a b => a * 256 + b) 0

/-- AES as a function of 128-bit numbers, given the round keys. -/
def aesNum (rks : List (List Nat)) (n : Nat) : Nat := natsToNat (aesWith rks (blockNats n))

/-- The multiplication of GHASH in GF(2^128), bit by bit (SP 800-38D). -/
def gfMul : Nat → Nat → Nat → Nat → Nat
  | 0, _, _, z => z
  | n + 1, x, v, z =>
    gfMul n x (if v % 2 = 1 then (v / 2) ^^^ 0xE1000000000000000000000000000000 else v / 2)
      (if x / 2 ^ n % 2 = 1 then z ^^^ v else z)

/-- Bytes as 16-byte blocks, the last filled with zeros, each a 128-bit number. -/
def blocksOf : Nat → Octets → List Nat
  | 0, _ => []
  | n + 1, bs =>
    if bs.isEmpty then []
    else
      let b := bs.take 16
      bytesToNat (b ++ List.replicate (16 - b.length) 0) :: blocksOf n (bs.drop 16)

/-- GHASH over blocks (R165, R166). -/
def ghash (h : Nat) (blocks : List Nat) : Nat := blocks.foldl (fun y x => gfMul 128 (y ^^^ x) h 0) 0

/-- The keystream blocks after J0, the counter in its low 32 bits (R195). -/
def gcmStream (rks : List (List Nat)) (j0 : Nat) : Nat → Nat → List Nat
  | 0, _ => []
  | n + 1, i =>
    aesNum rks (j0 / 4294967296 * 4294967296 + (j0 + i) % 4294967296) :: gcmStream rks j0 n (i + 1)

/-- Bytes XORed with keystream blocks. -/
def xorStream (bs : Octets) (ks : List Nat) : Octets :=
  List.zipWith (fun a b => a ^^^ b) bs (ks.flatMap (natToBytes 16))

/-- The hash key H of a key (R166). -/
def gcmHash (key : Octets) : Octets := natToBytes 16 (aesNum (roundKeys (nats key)) 0)

/-- The GCM tag of additional data and ciphertext under a 96-bit IV (R168). -/
def gcmTag (key : Octets) (iv : Nat) (aad ct : Octets) : Octets :=
  let rks := roundKeys (nats key)
  let j0 := iv * 4294967296 + 1
  let h := aesNum rks 0
  let blocks := blocksOf (aad.length + 1) aad ++ blocksOf (ct.length + 1) ct
    ++ [aad.length * 8 * 2 ^ 64 + ct.length * 8]
  natToBytes 16 (ghash h blocks ^^^ aesNum rks j0)

/-- GCM encryption or decryption of the payload: the payload starts at J0 + 1 (R195). -/
def gcmCrypt (key : Octets) (iv : Nat) (bs : Octets) : Octets :=
  let rks := roundKeys (nats key)
  xorStream bs (gcmStream rks (iv * 4294967296 + 1) ((bs.length + 15) / 16) 1)

/-- Multiplication of an XTS tweak by alpha; the tweak is a little-endian number. -/
def xtsDouble (t : Nat) : Nat :=
  let d := 2 * t
  if d < 2 ^ 128 then d else (d - 2 ^ 128) ^^^ 0x87

/-- Little-endian number of bytes and back. -/
def leToNat (l : List Nat) : Nat := natsToNat l.reverse
def natToLe (n k : Nat) : List Nat := ((natToBytes k n).map BitVec.toNat).reverse

/-- The XTS blocks of a data unit. -/
def xtsBlocks (f : List Nat → List Nat) : Nat → Nat → List Nat → List Nat
  | 0, _, _ => []
  | n + 1, t, bs =>
    let tw := natToLe t 16
    xorLists (f (xorLists (bs.take 16) tw)) tw ++ xtsBlocks f n (xtsDouble t) (bs.drop 16)

/-- XTS-AES of one data unit of whole blocks; the key is the data key followed by the tweak key (IEEE 1619). -/
def xts (enc : Bool) (key : Octets) (tweak : List Nat) (bs : Octets) : Octets :=
  let half := key.length / 2
  let k1 := roundKeys (nats (key.take half))
  let k2 := roundKeys (nats (key.drop half))
  let t := leToNat (aesWith k2 tweak)
  octs (xtsBlocks (if enc then aesWith k1 else aesInvWith k1) (bs.length / 16) t (nats bs))

/-- The 64-bit semiblocks of bytes. -/
def semiblocks : Nat → Octets → List Nat
  | 0, _ => []
  | n + 1, bs => bytesToNat (bs.take 8) :: semiblocks n (bs.drop 8)

/-- One pass of the key-wrap function W over the semiblocks: A, the step count, the blocks (SP 800-38F). -/
def wrapPass (rks : List (List Nat)) : Nat → Nat → List Nat → Nat × List Nat
  | a, _, [] => (a, [])
  | a, t, r :: rs =>
    let b := aesNum rks (a * 2 ^ 64 + r)
    let (a', rs') := wrapPass rks ((b / 2 ^ 64) ^^^ t) (t + 1) rs
    (a', b % 2 ^ 64 :: rs')

/-- `n` passes of W, the step count rising. -/
def wrapPasses (rks : List (List Nat)) : Nat → Nat → Nat → List Nat → Nat × List Nat
  | 0, _, a, rs => (a, rs)
  | n + 1, t, a, rs =>
    let (a', rs') := wrapPass rks a t rs
    wrapPasses rks n (t + rs.length) a' rs'

/-- KWP wrapping of bytes whose length is a multiple of 8 and at least 16. -/
def kwpWrap (key bs : Octets) : Octets :=
  let rks := roundKeys (nats key)
  let (a, rs) := wrapPasses rks 6 1 (0xA65959A6 * 2 ^ 32 + bs.length) (semiblocks (bs.length / 8) bs)
  natToBytes 8 a ++ rs.flatMap (natToBytes 8)

/-- One inverse pass, over the blocks last first. -/
def unwrapPass (rks : List (List Nat)) : Nat → Nat → List Nat → Nat × List Nat
  | a, _, [] => (a, [])
  | a, t, r :: rs =>
    let b := natsToNat (aesInvWith rks (blockNats ((a ^^^ t) * 2 ^ 64 + r)))
    let (a', rs') := unwrapPass rks (b / 2 ^ 64) (t - 1) rs
    (a', b % 2 ^ 64 :: rs')

def unwrapPasses (rks : List (List Nat)) : Nat → Nat → Nat → List Nat → Nat × List Nat
  | 0, _, a, rs => (a, rs)
  | n + 1, t, a, rs =>
    let (a', rs') := unwrapPass rks a t rs
    unwrapPasses rks n (t - rs.length) a' rs'

/-- KWP unwrapping: the plaintext where the integrity check holds. -/
def kwpUnwrap (key ct : Octets) : Option Octets :=
  let rks := roundKeys (nats key)
  let n := ct.length / 8 - 1
  let (a, rs) := unwrapPasses rks 6 (6 * n) (bytesToNat (ct.take 8)) (semiblocks n (ct.drop 8)).reverse
  if a = 0xA65959A6 * 2 ^ 32 + 8 * n then some (rs.reverse.flatMap (natToBytes 8)) else none

/-! SHA-512 (FIPS 180-4) -/

def sha512K : List Nat :=
  [
   0x428A2F98D728AE22, 0x7137449123EF65CD, 0xB5C0FBCFEC4D3B2F, 0xE9B5DBA58189DBBC,
   0x3956C25BF348B538, 0x59F111F1B605D019, 0x923F82A4AF194F9B, 0xAB1C5ED5DA6D8118,
   0xD807AA98A3030242, 0x12835B0145706FBE, 0x243185BE4EE4B28C, 0x550C7DC3D5FFB4E2,
   0x72BE5D74F27B896F, 0x80DEB1FE3B1696B1, 0x9BDC06A725C71235, 0xC19BF174CF692694,
   0xE49B69C19EF14AD2, 0xEFBE4786384F25E3, 0x0FC19DC68B8CD5B5, 0x240CA1CC77AC9C65,
   0x2DE92C6F592B0275, 0x4A7484AA6EA6E483, 0x5CB0A9DCBD41FBD4, 0x76F988DA831153B5,
   0x983E5152EE66DFAB, 0xA831C66D2DB43210, 0xB00327C898FB213F, 0xBF597FC7BEEF0EE4,
   0xC6E00BF33DA88FC2, 0xD5A79147930AA725, 0x06CA6351E003826F, 0x142929670A0E6E70,
   0x27B70A8546D22FFC, 0x2E1B21385C26C926, 0x4D2C6DFC5AC42AED, 0x53380D139D95B3DF,
   0x650A73548BAF63DE, 0x766A0ABB3C77B2A8, 0x81C2C92E47EDAEE6, 0x92722C851482353B,
   0xA2BFE8A14CF10364, 0xA81A664BBC423001, 0xC24B8B70D0F89791, 0xC76C51A30654BE30,
   0xD192E819D6EF5218, 0xD69906245565A910, 0xF40E35855771202A, 0x106AA07032BBD1B8,
   0x19A4C116B8D2D0C8, 0x1E376C085141AB53, 0x2748774CDF8EEB99, 0x34B0BCB5E19B48A8,
   0x391C0CB3C5C95A63, 0x4ED8AA4AE3418ACB, 0x5B9CCA4F7763E373, 0x682E6FF3D6B2B8A3,
   0x748F82EE5DEFB2FC, 0x78A5636F43172F60, 0x84C87814A1F0AB72, 0x8CC702081A6439EC,
   0x90BEFFFA23631E28, 0xA4506CEBDE82BDE9, 0xBEF9A3F7B2C67915, 0xC67178F2E372532B,
   0xCA273ECEEA26619C, 0xD186B8C721C0C207, 0xEADA7DD6CDE0EB1E, 0xF57D4F7FEE6ED178,
   0x06F067AA72176FBA, 0x0A637DC5A2C898A6, 0x113F9804BEF90DAE, 0x1B710B35131C471B,
   0x28DB77F523047D84, 0x32CAAB7B40C72493, 0x3C9EBE0A15C9BEBC, 0x431D67C49C100D4C,
   0x4CC5D4BECB3E42B6, 0x597F299CFC657E2A, 0x5FCB6FAB3AD6FAEC, 0x6C44198C4A475817]

def sha512H : List Nat :=
  [
   0x6A09E667F3BCC908, 0xBB67AE8584CAA73B, 0x3C6EF372FE94F82B, 0xA54FF53A5F1D36F1,
   0x510E527FADE682D1, 0x9B05688C2B3E6C1F, 0x1F83D9ABFB41BD6B, 0x5BE0CD19137E2179]

def rotr64 (x n : Nat) : Nat := x / 2 ^ n + x % 2 ^ n * 2 ^ (64 - n)

/-- `n` further message-schedule words after a list held latest first. -/
def shaSchedule : Nat → List Nat → List Nat
  | 0, ws => ws
  | n + 1, ws =>
    let w2 := ws.getD 1 0
    let w7 := ws.getD 6 0
    let w15 := ws.getD 14 0
    let w16 := ws.getD 15 0
    let s0 := rotr64 w15 1 ^^^ rotr64 w15 8 ^^^ (w15 / 128)
    let s1 := rotr64 w2 19 ^^^ rotr64 w2 61 ^^^ (w2 / 64)
    shaSchedule n (((w16 + s0 + w7 + s1) % 2 ^ 64) :: ws)

/-- One round on the eight working variables. -/
def shaRound : List Nat → Nat × Nat → List Nat
  | [a, b, c, d, e, f, g, h], (k, w) =>
    let s1 := rotr64 e 14 ^^^ rotr64 e 18 ^^^ rotr64 e 41
    let ch := (e &&& f) ^^^ ((2 ^ 64 - 1 - e) &&& g)
    let t1 := h + s1 + ch + k + w
    let s0 := rotr64 a 28 ^^^ rotr64 a 34 ^^^ rotr64 a 39
    let maj := (a &&& b) ^^^ (a &&& c) ^^^ (b &&& c)
    [(t1 + s0 + maj) % 2 ^ 64, a, b, c, (d + t1) % 2 ^ 64, e, f, g]
  | l, _ => l

/-- One 128-byte block. -/
def shaBlock (hs : List Nat) (block : Octets) : List Nat :=
  let ws := (shaSchedule 64 (semiblocks 16 block).reverse).reverse
  let out := (sha512K.zip ws).foldl shaRound hs
  List.zipWith (fun x y => (x + y) % 2 ^ 64) hs out

def shaBlocks : Nat → List Nat → Octets → List Nat
  | 0, hs, _ => hs
  | n + 1, hs, bs => shaBlocks n (shaBlock hs (bs.take 128)) (bs.drop 128)

/-- SHA-512. -/
def sha512 (msg : Octets) : Octets :=
  let n := msg.length
  let zeros := (239 - n % 128) % 128
  let padded := msg ++ [0x80#8] ++ List.replicate zeros 0 ++ natToBytes 16 (8 * n)
  (shaBlocks (padded.length / 128) sha512H padded).flatMap (natToBytes 8)

/-- HMAC-SHA-512. -/
def hmac512 (key msg : Octets) : Octets :=
  let k0 := if 128 < key.length then sha512 key else key
  let k := k0 ++ List.replicate (128 - k0.length) 0
  sha512 (k.map (fun b => b ^^^ 0x5C#8) ++ sha512 (k.map (fun b => b ^^^ 0x36#8) ++ msg))

/-- The counter-mode KDF of SP 800-108 with HMAC-SHA-512: a 32-bit counter, the label, a zero byte, the context and
the 32-bit output length in bits (R250, R600). `n` is the length in bytes, at most 128. -/
def kdf (key label context : Octets) (n : Nat) : Octets :=
  let block := fun i => hmac512 key (natToBytes 4 i ++ label ++ [0#8] ++ context ++ natToBytes 4 (8 * n))
  ((List.range ((n + 63) / 64)).flatMap (fun i => block (i + 1))).take n

/-- The blocks of HKDF-SHA-512's expansion: the pseudorandom key, the info, blocks left, the index, the block before. -/
def hkdfBlocks (prk info : Octets) : Nat → Nat → Octets → Octets
  | 0, _, _ => []
  | n + 1, i, prev =>
    let t := hmac512 prk (prev ++ info ++ natToBytes 1 i)
    t ++ hkdfBlocks prk info n (i + 1) t

/-- HKDF-SHA-512 of RFC 5869 (R579, R702). -/
def hkdf512 (salt ikm info : Octets) (n : Nat) : Octets := (hkdfBlocks (hmac512 salt ikm) info ((n + 63) / 64) 1 []).take n

/-- ASCII bytes. -/
def ascii (s : String) : Octets := s.toList.map (fun c => BitVec.ofNat 8 c.toNat)

/-! CRCs -/

/-- One bit step of a reflected CRC. -/
def crcBitR (poly : Nat) (c : Nat) : Nat := if c % 2 = 1 then (c / 2) ^^^ poly else c / 2

/-- One byte of a reflected CRC. -/
def crcByteR (poly c b : Nat) : Nat := (List.range 8).foldl (fun c _ => crcBitR poly c) (c ^^^ b)

/-- One bit step of a CRC of width w, most significant bit first. -/
def crcBit (w poly : Nat) (c : Nat) (b : Bool) : Nat :=
  let top := (c / 2 ^ (w - 1) % 2 == 1) != b
  let d := c * 2 % 2 ^ w
  if top then d ^^^ poly else d

/-- A CRC over bits, most significant bit first. -/
def crcBits (w poly init : Nat) (bits : List Bool) : Nat := bits.foldl (crcBit w poly) init

/-- The bits of bytes, most significant first. -/
def bitsOf (bs : Octets) : List Bool :=
  bs.flatMap (fun b => (List.range 8).map (fun i => bit b.toNat (7 - i)))

/-- CRC-32 of IEEE 802.3. -/
def crc32 (bs : Octets) : Nat :=
  (bs.foldl (fun c b => crcByteR 0xEDB88320 c b.toNat) 0xFFFFFFFF) ^^^ 0xFFFFFFFF

end Sys2Proof.Machine
end

