-- ==== Sys2Proof/Machine/Curve.lean ====
section
/-! DEFINITION. Machine/Curve.lean: Ed25519 (RFC 8032) and X25519 (RFC 7748) as R634 names them, and the input checks
that R640 states for Retort's operations. The standards' own text is not in the spec: PRESUMED (log entry 5). -/

namespace Sys2Proof.Machine

/-- The field prime 2^255 - 19 and the group order L. -/
def edP : Nat := 2 ^ 255 - 19
def edL : Nat := 2 ^ 252 + 27742317777372353535851937790883648493

/-- The curve constant d. -/
def edD : Nat := 37095705934669439343138083508754565189542113879843219016388785533085940283555

/-- b to the power e modulo m, for an exponent below 2^fuel. -/
def powMod (m : Nat) : Nat → Nat → Nat → Nat → Nat
  | 0, _, _, acc => acc
  | fuel + 1, b, e, acc => powMod m fuel (b * b % m) (e / 2) (if e % 2 = 1 then acc * b % m else acc)

def edPow (b e : Nat) : Nat := powMod edP 256 (b % edP) e 1
def edInv (a : Nat) : Nat := edPow a (edP - 2)
def edSub (a b : Nat) : Nat := (a + (edP - b % edP)) % edP

/-- A point of Ed25519 in extended coordinates X, Y, Z, T. -/
structure EdPoint where
  x : Nat
  y : Nat
  z : Nat
  t : Nat
deriving DecidableEq, Repr

def edZero : EdPoint := ⟨0, 1, 1, 0⟩

/-- Addition of points (RFC 8032, section 5.1.4). -/
def edAdd (p q : EdPoint) : EdPoint :=
  let a := edSub p.y p.x * edSub q.y q.x % edP
  let b := (p.y + p.x) * (q.y + q.x) % edP
  let c := p.t * 2 * edD % edP * q.t % edP
  let d := p.z * 2 * q.z % edP
  let e := edSub b a
  let f := edSub d c
  let g := (d + c) % edP
  let h := (b + a) % edP
  ⟨e * f % edP, g * h % edP, f * g % edP, e * h % edP⟩

/-- A multiple of a point, for a scalar below 2^fuel. -/
def edMulGo : Nat → Nat → EdPoint → EdPoint → EdPoint
  | 0, _, _, acc => acc
  | fuel + 1, k, p, acc => edMulGo fuel (k / 2) (edAdd p p) (if k % 2 = 1 then edAdd acc p else acc)

def edMul (k : Nat) (p : EdPoint) : EdPoint := edMulGo 256 k p edZero

/-- Whether two points are equal. -/
def edSame (p q : EdPoint) : Bool := p.x * q.z % edP == q.x * p.z % edP && p.y * q.z % edP == q.y * p.z % edP

/-- The base point. -/
def edBase : EdPoint :=
  let x := 15112221349535400772501151409588531511454012693041857206046113283949847762202
  let y := 46316835694926478169428394003475163141307993866256225615783033603165251855960
  ⟨x, y, 1, x * y % edP⟩

/-- Bytes as a number, the least significant first, and back. -/
def leNat (bs : Octets) : Nat := bytesToNat bs.reverse
def leBytes (n v : Nat) : Octets := (natToBytes n v).reverse

/-- A point's encoding. -/
def edEncode (p : EdPoint) : Octets :=
  let zi := edInv p.z
  let x := p.x * zi % edP
  let y := p.y * zi % edP
  leBytes 32 (y + x % 2 * 2 ^ 255)

/-- The y coordinate and the sign bit of an encoding. -/
def edY (bs : Octets) : Nat := leNat bs % 2 ^ 255
def edSign (bs : Octets) : Nat := leNat bs / 2 ^ 255 % 2

/-- A square root of u in the field, if there is one. -/
def edSqrt (u : Nat) : Option Nat :=
  let r := edPow u ((edP + 3) / 8)
  if r * r % edP = u % edP then some r
  else
    let r := r * edPow 2 ((edP - 1) / 4) % edP
    if r * r % edP = u % edP then some r else none

/-- The point of an encoding, none where it is not on the curve. -/
def edDecode (bs : Octets) : Option EdPoint :=
  let y := edY bs % edP
  match edSqrt (edSub (y * y) 1 * edInv (edD * y % edP * y + 1) % edP) with
  | none => none
  | some r =>
    let x := if r % 2 = edSign bs then r else (edP - r) % edP
    some ⟨x, y, 1, x * y % edP⟩

/-- An encoding that is not the unique one of its value (R640): y at or above p, or x = 0 with the sign bit set. -/
def edNonCanonical (bs : Octets) : Bool := decide (edP ≤ edY bs) || (edSign bs == 1 && (edY bs == 1 || edY bs == edP - 1))

/-- The clamped scalar of a 32-byte string. -/
def clamp (bs : Octets) : Nat := leNat bs / 8 * 8 % 2 ^ 254 + 2 ^ 254

/-- The public key of a seed. -/
def edPublic (seed : Octets) : Octets := edEncode (edMul (clamp ((sha512 seed).take 32)) edBase)

/-- An Ed25519 signature. -/
def edSignature (seed msg : Octets) : Octets :=
  let h := sha512 seed
  let a := clamp (h.take 32)
  let pub := edEncode (edMul a edBase)
  let r := leNat (sha512 (h.drop 32 ++ msg)) % edL
  let rb := edEncode (edMul r edBase)
  let k := leNat (sha512 (rb ++ pub ++ msg)) % edL
  rb ++ leBytes 32 ((r + k * a) % edL)

/-- The status of a verification (R638 to R640): ZERO_INPUT, NON_CANONICAL, OUT_OF_RANGE, BAD_POINT, INVALID or OK. -/
def edVerifyStatus (pub msg sig : Octets) : Nat :=
  let r := sig.take 32
  let sc := leNat (sig.drop 32)
  if pub.all (fun b => b == 0) then 3
  else if edNonCanonical pub || edNonCanonical r then 4
  else if edL ≤ sc then 5
  else
    match edDecode pub, edDecode r with
    | some a, some rp =>
      if edSame (edMul 8 a) edZero then 6
      else
        let k := leNat (sha512 (r ++ pub ++ msg)) % edL
        if edSame (edMul sc edBase) (edAdd rp (edMul k a)) then 0 else 1
    | _, _ => 6

/-- Whether a signature verifies (R152, R634). -/
def edVerify (pub msg sig : Octets) : Bool := pub.length == 32 && sig.length == 64 && edVerifyStatus pub msg sig == 0

/-- The Montgomery ladder of RFC 7748 over bits 254 down to 0 of a scalar. -/
def xLadder (u k : Nat) : Nat → Nat × Nat × Nat × Nat → Nat × Nat × Nat × Nat
  | 0, st => st
  | i + 1, (x2, z2, x3, z3) =>
    let b := bit k i
    let (x2, z2, x3, z3) := if b then (x3, z3, x2, z2) else (x2, z2, x3, z3)
    let a := (x2 + z2) % edP
    let aa := a * a % edP
    let bb0 := edSub x2 z2
    let bb := bb0 * bb0 % edP
    let e := edSub aa bb
    let c := (x3 + z3) % edP
    let d := edSub x3 z3
    let da := d * a % edP
    let cb := c * bb0 % edP
    let x3' := (da + cb) % edP * ((da + cb) % edP) % edP
    let z3' := u * (edSub da cb * edSub da cb % edP) % edP
    let x2' := aa * bb % edP
    let z2' := e * (aa + 121665 * e) % edP
    xLadder u k i (if b then (x3', z3', x2', z2') else (x2', z2', x3', z3'))

/-- X25519 of a scalar and a u-coordinate. -/
def x25519 (scalar u : Octets) : Octets :=
  let un := edY u
  let (x, z, _, _) := xLadder un (clamp scalar) 255 (1, 0, un, 1)
  leBytes 32 (x * edInv z % edP)

/-- The base point u = 9. -/
def xBase : Octets := leBytes 32 9

/-- The status of an X25519 (R640). -/
def x25519Status (scalar u : Octets) : Nat :=
  let un := edY u
  if scalar.all (fun b => b == 0) || u.all (fun b => b == 0) then 3
  else if edSign u = 1 then 4
  else if edP ≤ un then 5
  else if edPow (un * (un * un + 486662 * un + 1)) ((edP - 1) / 2) = edP - 1 then 6
  else if (x25519 scalar u).all (fun b => b == 0) then 7
  else 0

/-- The hint encoding of an ML-DSA-65 signature is well formed (FIPS 204 HintBitUnpack, R640): the last 61 bytes are
55 positions and 6 running counts. -/
def mlHintOk (sig : Octets) : Bool :=
  let h := (sig.drop 3248).map BitVec.toNat
  let pos := h.take 55
  let cnt := h.drop 55
  let starts := 0 :: cnt.take 5
  (List.zip starts cnt).all (fun e => decide (e.1 ≤ e.2) && decide (e.2 ≤ 55)
      && (List.range (e.2 - e.1 - 1)).all (fun i => decide (pos.getD (e.1 + i) 0 < pos.getD (e.1 + i + 1) 0)))
    && (pos.drop (cnt.getD 5 0)).all (fun x => x == 0)

/-- Coefficients of an ML-KEM-768 key, 12 bits each, two in three bytes; all must be below 3,329 (R640). -/
def kemCoeffsOk : Nat → Octets → Bool
  | 0, _ => true
  | n + 1, a :: b :: c :: rest =>
    decide (a.toNat + b.toNat % 16 * 256 < 3329) && decide (b.toNat / 16 + c.toNat * 16 < 3329) && kemCoeffsOk n rest
  | _ + 1, _ => true

def kemKeyOk (key : Octets) : Bool := kemCoeffsOk 384 key

/-- An ML-DSA-65 verification's status (R640). -/
def mlVerifyStatus (pub msg sig : Octets) : Nat :=
  if pub.all (fun b => b == 0) then 3
  else if mlHintOk sig = false then 4
  else if Config.mlVerify pub msg sig then 0 else 1

/-- Whether an ML-DSA-65 signature verifies (R152). -/
def mlVerify (pub msg sig : Octets) : Bool :=
  pub.length == 1952 && sig.length == 3309 && mlVerifyStatus pub msg sig == 0

end Sys2Proof.Machine
end

