-- ==== Sys2Proof/Machine/Flags.lean ====
section
/-! DEFINITION. Machine/Flags.lean: the values the device computes from its state: the life-cycle state, the keys the
key-derivation unit derives, status words, link states, lane owners and the output pins. -/

namespace Sys2Proof.Machine

/-! Life cycle (R592, R598) -/

/-- The codeword of a life-cycle state (R592). -/
def lcCodeword (st : Nat) : Nat :=
  if st = 0 then 0 else if st = 1 then 0x1F else if st = 2 then 0x1F else if st = 3 then 0x3FF
  else if st = 4 then 0x7FFF else if st = 5 then 0xFFFFF else if st = 6 then 0x1FFFFFF else 0xFFFFFFFF

/-- The life-cycle state of a codeword, 15 INVALID (R592). -/
def lcOfCodeword (w : Nat) : Nat :=
  if w = 0 then 0 else if w = 0x1F then 1 else if w = 0x3FF then 3 else if w = 0x7FFF then 4
  else if w = 0xFFFFF then 5 else if w = 0x1FFFFFF then 6 else if w = 0xFFFFFFFF then 7 else 15

/-- LC_STATE (R592, R594). -/
def State.lc (s : State) : Nat :=
  let st := lcOfCodeword s.otp.codeword.toNat
  if st = 1 ∧ s.trust.testOpen = true then 2 else st

/-- The transitions whose burn can be interrupted (R595). -/
def lcBurns : List (Nat × Nat) := [(0, 1), (1, 3), (3, 4), (4, 5), (5, 6), (4, 6), (1, 7), (3, 7), (4, 7), (6, 7)]

/-- The two conditions of R598 on an interrupted burn from codeword P to codeword T. -/
def burnFits (w p t : Nat) : Bool :=
  w &&& p == p && w &&& t == w && w != p && w != t
    && (List.range 32).all (fun i => !(bit t i && !bit w i)
        || (List.range 32).all (fun j => !(bit w j && !bit p j) || decide (i < j)))

/-- LC_RESUME (R598). -/
def State.lcResume (s : State) : Nat :=
  if s.lc = 15 then
    match lcBurns.find? (fun e => burnFits s.otp.codeword.toNat (lcCodeword e.1) (lcCodeword e.2)) with
    | some e => e.2
    | none => 0xFF
  else 0xFF

/-! Ember and derived keys (R599 to R601) -/

/-- Ember of the lowest valid slot (R599). -/
def State.ember (s : State) : Option Octets :=
  if s.otp.marker0 = 0xA5#8 then some (natToBytes 32 s.otp.ember0.toNat)
  else if s.otp.marker1 = 0xA5#8 then some (natToBytes 32 s.otp.ember1.toNat)
  else none

/-- Whether the key-derivation unit can derive (R251, R599, R673). -/
def State.kduReady (s : State) : Bool := s.ember.isSome && !s.alarm.kduStopped

/-- A key derived from Ember (R601); all zeros where nothing can be derived (callers check kduReady). -/
def State.derive (s : State) (label : String) (context : Octets) (n : Nat) : Octets :=
  match s.ember with
  | some e => kdf e (ascii label) context n
  | none => List.replicate n 0

/-- The blob key-encryption key of a bolt byte and generation (R250). -/
def State.kek (s : State) (boltByte gen : Nat) : Octets :=
  s.derive "NZ-MASKO-KEK" (natToBytes 1 boltByte ++ natToBytes 3 gen) 32

/-- Whether the device holds identity keys: made at this start from a valid Ember (R581, R599, R644). -/
def State.hasIdentity (s : State) : Bool := s.hearth.idKeys && s.ember.isSome

/-- The public identity keys (R601). -/
def State.idPubEd (s : State) : Octets := edPublic (s.derive "NZ-ID-ED25519" [] 32)
def State.idPubMl (s : State) : Octets := Config.mlPub (s.derive "NZ-ID-MLDSA65" [] 32)

/-- The device identity of R151: burned in ISSUED, before that the die ID and 24 zero bytes (R602). -/
def State.deviceId (s : State) : Octets :=
  if s.lc < 4 then natToBytes 8 s.otp.dieId.toNat ++ List.replicate 24 0 else natToBytes 32 s.otp.deviceId.toNat

/-- The number of burned evidence bits (R685). -/
def State.evidenceCount (s : State) : Nat := ((List.range 256).filter (fun i => bit s.otp.evidence.toNat i)).length

/-! Ports (R329, R336, R343) -/

def State.kind (s : State) (p : Nat) : Nat := s.num (Reg.pPortKind p)

/-- Whether a port owns lanes: kind 1, or kind 3 with no carrier (R329, R343). -/
def State.ownsLanes (s : State) (p : Nat) : Bool :=
  s.kind p == 1 || (s.kind p == 3 && s.num (Reg.pParent p) == 0xFFFF)

/-- The port whose interface a port uses: its parent, its carrier, or itself (R340, R343). -/
def State.interfaceOf (s : State) (p : Nat) : Nat :=
  if s.kind p = 2 then s.num (Reg.pParent p)
  else if s.kind p = 3 ∧ s.num (Reg.pParent p) ≠ 0xFFFF then s.num (Reg.pParent p)
  else p

/-- Lane count of a LANE_MODE (R334); 0 for no mode. -/
def modeLanes (m : Nat) : Nat := [0, 1, 1, 1, 2, 1, 4, 4, 2, 1, 4, 2, 8, 4, 8].getD m 0

/-- Rate of a LANE_MODE in Mb/s (R334). -/
def modeRate (m : Nat) : Nat :=
  [0, 10000, 25000, 25000, 50000, 50000, 100000, 100000, 100000, 100000, 200000, 200000, 400000, 400000, 800000].getD m 0

/-- Whether a LANE_MODE uses RS-FEC (R334). -/
def modeFec (m : Nat) : Bool := m ≠ 1 && m ≠ 3

/-- The device lane numbers of a port that owns lanes (R336, R457). -/
def State.portLanes (s : State) (p : Nat) : List Nat :=
  let base := (if s.kind p = 1 then 0 else 64) + 8 * (p / 128)
  rangeFrom (base + s.num (Reg.pLaneBase p)) (modeLanes (s.num (Reg.pLaneMode p)))

/-- The rate in Mb/s of a port's interface. -/
def State.portRate (s : State) (p : Nat) : Nat := modeRate (s.num (Reg.pLaneMode (s.interfaceOf p)))

/-- The AN in force and the SA bound to it (R238, R243): none where no binding counts. -/
def State.anBinding (s : State) (p : Nat) : Nat := s.num (portKey p 3 (0x11 + s.num (Reg.pTxAnInForce p)))

/-- Whether the binding of a port to an SA row counts (R243): the row is FAULTED, or holds a transmit SA of the port
with its SCI. -/
def State.bindingCounts (s : State) (p sa : Nat) : Bool :=
  sa != 0xFFFFFF && (s.rowState 0x4000 sa == 2 ||
    (s.rowState 0x4000 sa != 0 && s.num (Reg.saDir sa) == 0 && s.num (Reg.saPort sa) == p
      && s.num (Reg.saSuite sa) < 4 && s.oct (Reg.saSci sa) == s.oct (Reg.pTxSci p)))

/-- The exhaustion value E of a suite (R201). -/
def suiteE (suite : Nat) : Nat := if suite = 2 ∨ suite = 3 then 2 ^ 64 - 1 else 2 ^ 32 - 1

/-- Octets of a confidentiality offset (R171). -/
def confOffset (c : Nat) : Nat := if c = 1 then 30 else if c = 2 then 50 else 0

/-- Whether an alarm response holds changes (R672). -/
def State.hold (s : State) : Bool := s.num Reg.almHold == 1

/-! Lane owners (R461, R470, R490) -/

/-- The lane rate code that a LANE_MODE needs (R334, R460). -/
def modeLaneRate (m : Nat) : Nat := [0, 1, 2, 2, 2, 4, 2, 3, 4, 5, 4, 5, 4, 5, 5].getD m 0

/-- Whether the start under way of a function that was STOPPED will fail, so that it owns nothing (R127, R347). -/
def State.startFails (s : State) (f : Fn) : Bool := s.num (startCode f) != 0 && s.num (startHeld f) == 0

/-- The port that owns a lane: its interface's lanes, while it is not STOPPED (R490). One whose start will fail owns none
(R347), unless it was not STOPPED before. -/
def State.lanePort (s : State) (n : Nat) : Option Nat :=
  if 128 ≤ n then none
  else (boltPorts (n % 64 / 8)).find? (fun p =>
    s.ownsLanes p && s.fnState (.port p) != 0 && !s.startFails (.port p) && (s.portLanes p).contains n)

/-- The Twill group that owns a line lane, while it is not STOPPED (R490): its number in the bolt. -/
def State.laneGroup (s : State) (n : Nat) : Option Nat :=
  if n < 64 ∨ 128 ≤ n then none
  else (List.range 8).find? (fun g => s.fnState (.group (n % 64 / 8) g) != 0
    && !s.startFails (.group (n % 64 / 8) g)
    && bit (s.num (Reg.tgLanes (n % 64 / 8 * 1024 + g))) (n % 8))

/-- Whether a lane is a mirror lane in use (R702). -/
def State.mirrorLane (s : State) (n : Nat) : Bool := decide (128 ≤ n) && s.num Reg.pairJoin == 1

/-- The lane rate its owner needs; none without an owner (R461). -/
def State.ownerRate (s : State) (n : Nat) : Option Nat :=
  match s.lanePort n with
  | some p => some (modeLaneRate (s.num (Reg.pLaneMode p)))
  | none =>
    match s.laneGroup n with
    | some _ => some 6
    | none => if s.mirrorLane n then some 2 else none

/-- A rate conflict (R461). -/
def State.rateConflict (s : State) (n : Nat) : Bool :=
  match s.ownerRate n with
  | some r => decide (r ≠ s.num (Reg.lnRate n))
  | none => false

/-- What a lane reports to its owner (R470, R487): 0 locked, 1 LOL, 2 LOS. -/
def State.laneReport (s : State) (n : Nat) : Nat :=
  let st := s.num (Reg.lnState n)
  if st = 3 then
    (if s.rateConflict n || s.num (Reg.lnPattern n) != 0 || s.num (Reg.lnLoopback n) != 0 then 1 else 0)
  else if st = 2 ∨ st = 5 then 1 else 2

/-- Whether every line lane of a bolt's RUNNING ports and groups reports LOS or LOL (R717); a bolt with none does not
(log entry 51). -/
def State.boltLinesBad (s : State) (b : Nat) : Bool :=
  let used := (rangeFrom (64 + 8 * b) 8).filter (fun n =>
    match s.lanePort n with
    | some p => s.running (.port p)
    | none => match s.laneGroup n with | some g => s.running (.group b g) | none => false)
  !used.isEmpty && used.all (fun n => s.laneReport n != 0)

/-! Pins (R671, R763, R714, R540): driven low or high, none where they are at high impedance -/

/-- FAULT_N: low while an alarm is pending, HOLD_CHANGES is in force, or in Kindling recovery; else released. -/
def State.faultLow (s : State) : Bool :=
  s.phase != .reset && (s.num Reg.almPending != 0 || s.hold || s.phase == .recovery)

/-- WITNESS driven low. -/
def State.witnessLow (s : State) : Bool := s.phase == .ready && s.pair.witnessDrive

/-- PPS_OUT high. -/
def State.ppsPin (s : State) : Bool := s.phase != .reset && s.time.ppsHigh

end Sys2Proof.Machine
end

