-- ==== Sys2Proof/Machine/Sa.lean ====
section
/-! DEFINITION. Machine/Sa.lean: operations on SA rows shared by the families: use of a row (R231), its state changes
(R232), keystream run-ahead and its discard (R61 to R67, R215), Masko blobs (R249 to R252). -/

namespace Sys2Proof.Machine

/-! Hot slots (R61 to R71, R215 to R218) -/

/-- The name under which the Twill key of an SA row owns a hot slot; an 802.1AE SA owns one under its number (R61). -/
def keyOwner (row : Nat) : Nat := 65536 + row

/-- The counter values that a slot holds ahead and that are not final (R65, R215). -/
def HotSlot.unpinned (h : HotSlot) : Nat :=
  ((List.range h.count).filter (fun i => !h.pins.contains (h.base + i))).length

/-- Keystream blocks that a slot holds unpinned: for an SA 8 blocks a counter value (R62, R64), for a tributary one (R63). -/
def HotSlot.blocks (h : HotSlot) : Nat := if h.owner < 65536 then 8 * h.unpinned else h.count

/-- Counter values whose unpinned blocks a slot holds: PNs of an SA, the one panel of a tributary (R65, R67). -/
def HotSlot.values (h : HotSlot) : Nat := if h.owner < 65536 then h.unpinned else min h.count 1

/-- Whether a slot holds any keystream (R79). -/
def HotSlot.held (h : HotSlot) : Bool := h.count != 0 || !h.pins.isEmpty

/-- The slot of an owner. -/
def PipeState.slot (ps : PipeState) (owner : Nat) : Option HotSlot := ps.hot.find? (fun h => h.owner == owner)

/-- The slots of every other owner. -/
def PipeState.others (ps : PipeState) (owner : Nat) : List HotSlot := ps.hot.filter (fun h => h.owner != owner)

/-- The unpinned keystream of an owner in a pipe is discarded (R66, R67, R71): its blocks are counted, and in the
E-pipe its counter values are returned. Pinned blocks stay (R215); a slot still waited for is wanted no more. -/
def State.discardKeystream (s : State) (b : Nat) (pi : Pipe) (owner : Nat) : State :=
  let ps := s.pipe b pi
  let claims := ps.claims.filter (fun h => h.owner != owner)
  match ps.slot owner with
  | none => s.setPipe b pi { ps with claims := claims }
  | some h =>
    let s := s.setPipe b pi { ps with
      hot := if h.pins.isEmpty then ps.others owner else { h with count := 0 } :: ps.others owner
      claims := claims }
    match pi with
    | .e => ((s.countBy (Reg.bEBlocksDiscarded b) h.blocks).countBy (Reg.bCountersReturned b) h.values).pc b 0x051 h.blocks
    | .d => (s.countBy (Reg.bDBlocksDiscarded b) h.blocks).pc b 0x052 h.blocks

/-- Every owner's unpinned keystream in a pipe is discarded (R188). -/
def State.discardAllKeystream (s : State) (b : Nat) (pi : Pipe) : State :=
  forEach ((s.pipe b pi).hot.map HotSlot.owner) (fun s o => s.discardKeystream b pi o) s

/-- A hot slot lost to an eviction: counted, its unpinned keystream discarded (R66, R69). -/
def State.evict (s : State) (b : Nat) (pi : Pipe) (owner : Nat) : State :=
  (s.discardKeystream b pi owner).count (match pi with | .e => Reg.bEEvict b | .d => Reg.bDEvict b)

/-- The pipe in which a row's keystream is used: E for transmit rows, D for receive rows. -/
def State.saPipe (s : State) (sa : Nat) : Pipe := if s.num (Reg.saDir sa) = 0 then .e else .d

/-- The name under which a row owns its hot slot. -/
def State.saOwner (s : State) (sa : Nat) : Nat := if s.num (Reg.saSuite sa) = 8 then keyOwner sa else sa

/-- A row's unpinned keystream is discarded (R66). -/
def State.saDiscard (s : State) (sa : Nat) : State := s.discardKeystream (boltOfSa sa) (s.saPipe sa) (s.saOwner sa)

/-- The least recently used slot without pinned blocks (R69, R218), the hot list running from the most recently used. -/
def lruVictim (hot : List HotSlot) : Option Nat :=
  match hot.reverse.find? (fun h => h.pins.isEmpty) with
  | some h => some h.owner
  | none => none

/-- A slot claimed for an owner that has none (R69, R218): a free one, or the one an eviction frees; none while every
slot of the pipe is pinned. -/
def State.freshSlot (s : State) (b : Nat) (pi : Pipe) (h : HotSlot) : Claim × State :=
  let put := fun (s : State) => s.setPipe b pi { s.pipe b pi with hot := h :: (s.pipe b pi).hot }
  if (s.pipe b pi).hot.length < 512 then (.miss, put s)
  else match lruVictim (s.pipe b pi).hot with
    | none => (.wait, s)
    | some v => (.miss, put (s.evict b pi v))

/-- A frame or panel takes the first counter value of its owner's slot (R69, R70): the slot then holds `count` values
from `base`, at the front of the use order, with the values `pin` pinned besides. -/
def State.claimSlot (s : State) (b : Nat) (pi : Pipe) (owner base count : Nat) (pin : List Nat) : Claim × State :=
  let ps := s.pipe b pi
  match ps.slot owner with
  | some h =>
    (if h.count = 0 then .miss else .hit,
      s.setPipe b pi { ps with hot := { h with base := base, count := count, pins := h.pins ++ pin } :: ps.others owner })
  | none => s.freshSlot b pi ⟨owner, base, count, pin⟩

/-- The counter values from `base` on whose keystream is computed ahead for an SA: at most 4, none from E on (R62, R64,
R214). -/
def State.aheadOf (s : State) (sa base : Nat) : Nat := min 4 (suiteE (s.num (Reg.saSuite sa)) - base)

/-- A received frame of an SA asks for the keystream of its PN (R64, R69): from the slot, from the round engines where
the slot holds other PNs, or from a slot claimed for the PNs after the highest accepted, `base`. -/
def State.claimRx (s : State) (b sa pn base : Nat) : Claim × State :=
  let ps := s.pipe b .d
  match ps.slot sa with
  | some h =>
    if h.count = 0 then s.claimSlot b .d sa base (s.aheadOf sa base) [pn]
    else if h.base ≤ pn ∧ pn < h.base + h.count then
      (.hit, s.setPipe b .d { ps with hot := { h with pins := h.pins ++ [pn] } :: ps.others sa })
    else (.engines, s)
  | none => s.freshSlot b .d ⟨sa, base, s.aheadOf sa base, [pn]⟩

/-- A slot follows the highest PN accepted (R64). -/
def State.slotFollow (s : State) (b sa base : Nat) : State :=
  let ps := s.pipe b .d
  s.setPipe b .d { ps with hot := ps.hot.map (fun h =>
    if h.owner = sa ∧ h.count ≠ 0 then { h with base := base, count := s.aheadOf sa base } else h) }

/-- The slot of an owner that may compute nothing more ahead (R214); what is pinned stays (R215). -/
def State.slotEnd (s : State) (b : Nat) (pi : Pipe) (owner : Nat) : State :=
  let ps := s.pipe b pi
  let hot := ps.hot.map (fun h => if h.owner = owner then { h with count := 0 } else h)
  s.setPipe b pi { ps with hot := hot.filter HotSlot.held }

/-- A frame or panel that held the pinned keystream of a counter value has passed (R215). -/
def State.unpin (s : State) (b : Nat) (pi : Pipe) (owner value : Nat) : State :=
  let ps := s.pipe b pi
  let hot := ps.hot.map (fun h => if h.owner = owner then { h with pins := h.pins.erase value } else h)
  s.setPipe b pi { ps with hot := hot.filter HotSlot.held }

/-- A tributary's claim that no slot could meet waits until one is released (R218). -/
def State.waitSlot (s : State) (b : Nat) (pi : Pipe) (h : HotSlot) : State :=
  let ps := s.pipe b pi
  s.setPipe b pi { ps with claims := ps.claims.filter (fun x => x.owner != h.owner) ++ [h] }

/-! Use and state of a row (R230 to R235) -/

/-- The Twill group function of a tributary. -/
def State.tribFn (s : State) (p : Nat) : Fn := .group (p / 128) (s.num (Reg.pTribGroup p))

/-- Whether a function runs, or completes what it has (R127). -/
def State.fnLive (s : State) (f : Fn) : Bool := s.fnState f == 2 || s.fnState f == 3 || s.fnState f == 4

/-- Whether a tributary and its group run, or complete what they have (R266, R394). -/
def State.tribLive (s : State) (p : Nat) : Bool := s.kind p == 4 && s.fnLive (.port p) && s.fnLive (s.tribFn p)

/-- The transmit and receive phase rows of a tributary (R238). -/
def State.txPhaseRow (s : State) (p ph : Nat) : Nat := s.num (portKey p 3 (0x20 + ph))
def State.rxPhaseRow (s : State) (p ph : Nat) : Nat := s.num (portKey p 3 (0x22 + ph))

/-- Whether an INSTALLED or IN_USE row is in use (R231, R266, R269). -/
def State.saUsed (s : State) (sa : Nat) : Bool :=
  let p := s.num (Reg.saPort sa)
  if s.num (Reg.saSuite sa) = 8 then
    s.tribLive p &&
      (if s.num (Reg.saDir sa) = 0 then s.txPhaseRow p (s.num (Reg.pTwTxPhase p)) == sa
       else
        (s.num (Reg.pTwRxState p) == 1 && s.rxPhaseRow p (s.num (Reg.pTwRxPhase p)) == sa)
          || (s.num (Reg.pTwRxState p) == 2 && (s.rxPhaseRow p 0 == sa || s.rxPhaseRow p 1 == sa)))
  else if s.num (Reg.saDir sa) = 0 then s.kind p == 3 && s.anBinding p == sa && s.bindingCounts p sa
  else s.num (Reg.saEnable sa) == 1

/-- An armed flip is cancelled when the row of the other phase leaves INSTALLED (R267). -/
def State.cancelArmIf (s : State) (sa : Nat) : State :=
  let p := s.num (Reg.saPort sa)
  let other := 1 - s.num (Reg.pTwTxPhase p)
  if s.num (Reg.saSuite sa) = 8 ∧ s.num (Reg.saDir sa) = 0 ∧ s.kind p = 4 ∧ s.num (Reg.pTwTxState p) = 1
      ∧ s.txPhaseRow p other = sa then
    (s.putN (Reg.pTwTxState p) 0).raise 0x020014 ((0x3000 + 4 * p + 3) * 256)
      (p * 16384 + other * 8192 + 2048)
  else s

/-- A row's state written, its version advancing; leaving INSTALLED cancels an arm that named it (R121, R267). -/
def State.saSet (s : State) (sa st : Nat) : State :=
  let old := s.rowState 0x4000 sa
  let s := s.setRowState 0x4000 sa st
  if old = 1 ∧ st ≠ 1 ∧ st ≠ 3 then s.cancelArmIf sa else s

/-- R231 applied to one row: INSTALLED and IN_USE follow its use; a row that ceases to be used loses its unpinned
keystream (R232). -/
def State.saRefresh (s : State) (sa : Nat) : State :=
  let st := s.rowState 0x4000 sa
  if st = 1 ∧ s.saUsed sa = true then s.saSet sa 3
  else if st = 3 ∧ s.saUsed sa = false then (s.saSet sa 1).saDiscard sa
  else s

/-- R231 applied to every row owned by a port. -/
def State.saRefreshPort (s : State) (p : Nat) : State :=
  forEach (s.rowsListed 0x4000) (fun s sa => if s.num (Reg.saPort sa) = p then s.saRefresh sa else s) s

/-- What a tributary's transmit row keeps about its key (R209, R210): that the panel warning has been given, the panels sent under
it, and a digest by which the same key is known again. -/
def panelWarned (row : Nat) : Key := .row 0x4000 row 0x105
def panelsUnder (row : Nat) : Key := .row 0x4000 row 0x106
def keyMark (row : Nat) : Key := .row 0x4000 row 0x107

/-- A key in a Twill row: one that is not the row's last begins its count and its warning anew (R209, R210). -/
def State.keyMarked (s : State) (row : Nat) (key : Octets) : State :=
  if s.num (Reg.saSuite row) ≠ 8 ∨ s.oct (keyMark row) = sha512 key then s
  else ((s.clear (panelWarned row)).clear (panelsUnder row)).putO (keyMark row) (sha512 key)

/-- Every field of a row back at its default, but its version, the FN_CTRL and FN_STATE of the function whose home it is (R121,
R124, R777), and what it keeps about a key that may return (R209). -/
def State.clearRow (s : State) (win row : Nat) : State :=
  s.clearWhere (fun k => match k with
    | .row w r f => w == win && r == row && f != 3 && f != 8 && f != 9 && (f < 0x105 || 0x107 < f)
    | _ => false)

/-- A row becomes EMPTY: key and H erased with every other field, its unpinned keystream discarded (R232, R66). -/
def State.saEmpty (s : State) (sa : Nat) : State :=
  let s := s.saDiscard sa
  let s := if s.rowState 0x4000 sa = 1 then s.cancelArmIf sa else s
  (s.clearRow 0x4000 sa).bumpVersion 0x4000 sa

/-- A row becomes EMPTY by deletion (reason 0) or release (reason 1), with event 0x02_0011 (R232, R284). -/
def State.saEmptied (s : State) (sa reason : Nat) : State :=
  (s.saEmpty sa).raise 0x020011 0x400000 (reason * 1048576 + sa % 65536)

/-- A row is faulted: key and H erased, keystream discarded, a transmit counter lost (R49, R232, R277). -/
def State.saFault (s : State) (sa : Nat) : State :=
  let tx := decide (s.num (Reg.saDir sa) = 0)
  let s := s.saDiscard sa
  let s := (s.saSet sa 2).clear (.row 0x4000 sa 0x100)
  if tx then s.clear (Reg.saPn sa) else s

/-- SUSPEND_KEYS on one row (R232, R672). -/
def State.saSuspend (s : State) (sa : Nat) : State :=
  let st := s.rowState 0x4000 sa
  if st = 1 ∨ st = 3 ∨ st = 4 ∨ st = 5 then
    ((s.saDiscard sa).saSet sa 6).raise 0x020016 0x400000 (sa % 65536)
  else s

/-- Whether the crypto island still holds frames of a row (R233), or a panel begun under it before a flip (R268). -/
def State.saBusy (s : State) (sa : Nat) : Bool :=
  let b := boltOfSa sa
  let p := s.num (Reg.saPort sa)
  let t := s.trib p
  (s.pipe b .e).fifo.any (fun f => f.sa == some sa) || (s.pipe b .d).fifo.any (fun f => f.sa == some sa)
    || (match t.begun with | some (row, _) => s.num (Reg.saSuite sa) == 8 && s.num (Reg.saDir sa) == 0 && row == sa | none => false)

/-! Masko blobs (R249 to R252) -/

/-- Key length of a key type (R249); 0 for no type. -/
def keyTypeLength (t : Nat) : Nat := if t = 1 then 16 else if t = 2 then 32 else if t = 3 then 32 else if t = 4 then 64 else 0

/-- The key length class of a suite, as a key type (R170). -/
def suiteKeyType (suite : Nat) : Nat :=
  if suite = 0 ∨ suite = 2 then 1 else if suite = 1 ∨ suite = 3 ∨ suite = 8 then 2
  else if suite = 0x10 then 3 else if suite = 0x11 then 4 else 0

/-- Step 1 of R251: magic, version, and a length that fits the key type. -/
def blobWellFormed (blob : Octets) : Bool :=
  blob.take 4 == ascii "MSKO" && (blob.getD 4 0).toNat == 1
    && keyTypeLength (blob.getD 9 0).toNat != 0
    && blob.length == 16 + keyTypeLength (blob.getD 9 0).toNat + 24

/-- What a blob holds: key type, key identifier, generation, key. -/
abbrev BlobKey := Nat × Nat × Nat × Octets

/-- Unwrapping a blob for a bolt byte and the generation in force: the key, or the failing step of R251. -/
def State.unwrapBlob (s : State) (blob : Octets) (boltByte gen : Nat) : Except Nat BlobKey :=
  if blobWellFormed blob = false then .error 1
  else if (blob.getD 5 0).toNat ≠ boltByte then .error 2
  else if bytesToNat ((blob.drop 6).take 3) ≠ gen then .error 3
  else if s.kduReady = false then .error 4
  else match kwpUnwrap (s.kek boltByte gen) (blob.drop 16) with
    | none => .error 4
    | some plain =>
      if plain.take 16 ≠ blob.take 16 then .error 5
      else .ok ((blob.getD 9 0).toNat, bytesToNat ((blob.drop 10).take 6), gen, plain.drop 16)

/-- A failed unwrap: the count and event 0x02_0015 (R251, R253, R283). `ref` is the SA number, stream or slot. -/
def State.unwrapFailed (s : State) (bolt : Option Nat) (step source ref : Nat) : State :=
  match bolt with
  | some b => (s.count (Reg.bUnwrapFails b)).raise 0x020015 source (b * 2097152 + step * 131072 + ref % 65536)
  | none => (s.count Reg.unwrapFailsDev).raise 0x020015 source (7 * 2097152 + 1048576 + step * 131072 + ref % 65536)

/-- The header of a blob (R249). -/
def blobHeader (boltByte gen kt keyId : Nat) : Octets :=
  ascii "MSKO" ++ [1#8] ++ natToBytes 1 boltByte ++ natToBytes 3 gen ++ natToBytes 1 kt ++ natToBytes 6 keyId

/-- Wrapping a key into a blob under the generation in force (R249, R259). -/
def State.wrapBlob (s : State) (boltByte kt keyId : Nat) (key : Octets) : Octets :=
  let gen := if boltByte = 0xFF then s.num Reg.blobGenDev else s.num (Reg.bBlobGen boltByte)
  let h := blobHeader boltByte gen kt keyId
  h ++ kwpWrap (s.kek boltByte gen) (h ++ key)

/-- The key of an installed row (R226: no object reads it). -/
def State.saKey (s : State) (sa : Nat) : Octets := s.oct (.row 0x4000 sa 0x100)

/-- The 96-bit IV of a row for a counter value: SCI and PN, or (SSCI and PN) XOR salt (R195). -/
def State.saIv (s : State) (sa pn : Nat) (sci : Octets) : Nat :=
  if s.num (Reg.saSuite sa) = 2 ∨ s.num (Reg.saSuite sa) = 3 then
    (s.num (Reg.saSsci sa) % 2 ^ 32 * 2 ^ 64 + pn % 2 ^ 64) ^^^ bytesToNat (s.oct (Reg.saSalt sa))
  else bytesToNat sci * 2 ^ 32 + pn % 2 ^ 32

/-- The IV of a Twill panel: mesh ID, tributary port number, panel counter (R195). -/
def panelIv (mesh p counter : Nat) : Nat := mesh % 1024 * 2 ^ 86 + p % 1024 * 2 ^ 76 + counter % 2 ^ 76

/-- The first and latest use of a row at the present instant (R225). -/
def State.saTouch (s : State) (sa : Nat) : State :=
  let s := if s.num (Reg.saFirstUse sa) = 0 then s.putN (Reg.saFirstUse sa) s.now96 else s
  s.putN (Reg.saLastUse sa) s.now96

/-- MESH_ID as it reads: bit 0 is PAIR_ID while the device is joined (R720). -/
def State.meshIdNow (s : State) : Nat :=
  if s.num Reg.pairJoin = 1 then s.num Reg.meshId / 2 * 2 + s.pairId else s.num Reg.meshId

end Sys2Proof.Machine
end

