-- ==== Sys2Proof/Machine/Beats.lean ====
section
/-! DEFINITION. Machine/Beats.lean: the beats of a pipe (R34 to R38): frame bytes packed into 24-bit words with parity
and a sideband, and the checking points with the last 8 beats and rows each delivered (R39 to R43). -/

namespace Sys2Proof.Machine

/-! Words (R34, R38) -/

/-- Whether a number of bits holds an odd number of 1s. -/
def oddOnes (bs : List Bool) : Bool := bs.foldl (fun a b => a != b) false

/-- The parity bit that makes the 1s of a 24-bit word and its parity bit odd (R38). -/
def wordParity (w : BitVec 24) : Bool := !oddOnes ((List.range 24).map (fun i => w.getLsbD i))

/-- A word with its parity bit. -/
def mkWord (w : BitVec 24) : BeatWord := ⟨w, wordParity w⟩

/-- Whether a word passes its parity check (R38). -/
def BeatWord.ok (w : BeatWord) : Bool := w.parity == wordParity w.data

/-- Three bytes as a word, the earliest in bits [23:16] (R34); a byte that is missing is 0. -/
def packWord (bs : Octets) : BitVec 24 := bs.getD 0 0#8 ++ bs.getD 1 0#8 ++ bs.getD 2 0#8

/-- A frame's bytes as words in frame order. -/
def packWords : Nat → Octets → List BeatWord
  | 0, _ => []
  | n + 1, bs => if bs.isEmpty then [] else mkWord (packWord (bs.take 3)) :: packWords n (bs.drop 3)

/-- The valid bytes in a frame's end word (R37). -/
def endValid (n : Nat) : Nat := (n + 2) % 3 + 1

/-! Beats (R35, R37) -/

/-- The bits of a frame descriptor: presence and index of its start and end word, valid bytes, port, class, poison. -/
def BeatItem.bits (x : BeatItem) : List Bool :=
  let index := fun (o : Option Nat) => o.isSome :: (List.range 5).map (fun i => bit (o.getD 0) i)
  index x.start ++ index x.stop ++ (List.range 2).map (fun i => bit x.valid i)
    ++ (List.range 10).map (fun i => bit x.port i) ++ (List.range 2).map (fun i => bit x.cls i) ++ [x.poison]

/-- The odd-parity bit of a sideband (R37). -/
def sideParity (items : List BeatItem) : Bool := !oddOnes (items.flatMap BeatItem.bits)

/-- A beat of words from word 0 on, filled up with words of zeros. -/
def mkBeat (no : Nat) (words : List BeatWord) (items : List BeatItem) : Beat :=
  ⟨no, words ++ List.replicate (32 - words.length) (mkWord 0#24), items, sideParity items⟩

/-- Whether every parity check of a beat passes (R37, R38). -/
def Beat.ok (x : Beat) : Bool := x.words.all BeatWord.ok && x.parity == sideParity x.items

/-- The word after the last used word of a beat. -/
def Beat.used (x : Beat) : Nat :=
  match x.items.getLast? with
  | some it => match it.stop with | some w => w + 1 | none => 32
  | none => 0

/-- What a frame puts into a beat from word `at_` on, and the words that are left for the next beat: the descriptor names
the start word where `first`, and the end word where nothing is left. -/
def beatPart (it : BeatItem) (bytes at_ : Nat) (first : Bool) (words : List BeatWord) : BeatItem × List BeatWord × List BeatWord :=
  let now := words.take (32 - at_)
  let left := words.drop (32 - at_)
  ({ it with start := if first then some at_ else none
             stop := if left.isEmpty then some (at_ + now.length - 1) else none
             valid := if left.isEmpty then endValid bytes else 3 }, now, left)

/-- Whole beats from word 0 on, numbered from `no`. -/
def beatsOf (it : BeatItem) (bytes : Nat) : Nat → Nat → Bool → List BeatWord → List Beat
  | 0, _, _, _ => []
  | n + 1, no, first, words =>
    if words.isEmpty then []
    else
      let (x, now, left) := beatPart it bytes 0 first words
      mkBeat no now [x] :: beatsOf it bytes n (no + 1) false left

/-- The last 8 of a list. -/
def last8 {α : Type} (l : List α) : List α := l.drop (l.length - 8)

/-! Checking points (R39 to R43) -/

/-- A checking point of a pipe. -/
def PipeState.point (ps : PipeState) (pt : Nat) : PointState := ps.points.getD pt {}

/-- The word at which a frame that crosses now starts (R35): behind the last frame's in the same beat where that one was
delivered at the same instant and its beat has room and one descriptor, else word 0 of a new beat (log entry 2). -/
def PointState.startWord (x : PointState) (now : Nat) : Nat :=
  match x.beats.getLast? with
  | some b => if x.at_ = now ∧ b.items.length = 1 ∧ b.used < 32 then b.used else 0
  | none => 0

/-- The bytes of a frame that its first beat shows when it crosses now (R72). -/
def PointState.seen (x : PointState) (now : Nat) : Nat := 3 * (32 - x.startWord now)

/-- A frame or panel crosses a checking point (R35, R40). A delivery ends the replay that was awaited (R41). -/
def PointState.take (x : PointState) (now : Nat) (it : BeatItem) (bytes : Octets) : PointState :=
  let words := packWords (bytes.length + 1) bytes
  let fresh := fun (beats : List Beat) (first : Bool) (ws : List BeatWord) =>
    let new := beatsOf it bytes.length (ws.length + 1) x.next first ws
    { x with beats := last8 (beats ++ new), next := x.next + new.length, failed := none, at_ := now }
  let w := x.startWord now
  match x.beats.getLast? with
  | some b =>
    if w = 0 then fresh x.beats true words
    else
      let (y, mine, left) := beatPart it bytes.length w true words
      fresh (x.beats.dropLast ++ [mkBeat b.no (b.words.take w ++ mine) (b.items ++ [y])]) false left
  | none => fresh [] true words

/-- A table row read at a checking point (R40). -/
def PointState.read (x : PointState) (now table row : Nat) : PointState :=
  { x with rows := last8 (x.rows ++ [(table, row)]), failed := none, at_ := now }

/-- A frame or panel crosses checking point `pt` of a pipe. -/
def State.deliver (s : State) (b : Nat) (pi : Pipe) (pt : Nat) (it : BeatItem) (bytes : Octets) : State :=
  let ps := s.pipe b pi
  s.setPipe b pi { ps with points := ps.points.put pt ((ps.point pt).take s.time.elapsed it bytes) }

/-- A row read at checking point `pt` of a pipe: tables as in event 0x01_0002. -/
def State.readRow (s : State) (b : Nat) (pi : Pipe) (pt table row : Nat) : State :=
  let ps := s.pipe b pi
  s.setPipe b pi { ps with points := ps.points.put pt ((ps.point pt).read s.time.elapsed table row) }

/-- The sideband's account of a frame: the port is that on which it came in (log entry 2). -/
def Frame.item (f : Frame) : BeatItem := ⟨false, f.id, 0, none, none, 3, f.inPort, f.cls, f.poison⟩

/-- The sideband's account of panel number `seq` of a tributary. -/
def panelItem (p seq : Nat) (poison : Bool) : BeatItem := ⟨true, p, seq, none, none, 3, p, 1, poison⟩

/-- A claim of an owner counted as a hit or a miss (R731); a hit reads the slot at point 9 (R39, R40). -/
def State.countClaim (s : State) (b : Nat) (pi : Pipe) (owner : Nat) : Claim → State
  | .hit => (s.readRow b pi 9 9 (owner % 65536)).pc b (match pi with | .e => 0x040 | .d => 0x042) 1
  | .miss => s.pc b (match pi with | .e => 0x041 | .d => 0x043) 1
  | _ => s

/-- A frame crosses a checking point of its pipe, with its FCS where one stands at that crossing. -/
def State.crosses (s : State) (f : Frame) (pt : Nat) (fcs : Octets) : State := s.deliver f.b f.pipe pt f.item (f.bytes ++ fcs)

/-- A replay from beat number `no` on (R41): the receiver drops the failed beat and every later one, and the sender sends
them again in order. -/
def PointState.resend (x : PointState) (no : Nat) : PointState :=
  { x with beats := x.beats.filter (fun b => decide (b.no < no)) ++ x.beats.filter (fun b => decide (no ≤ b.no)) }

/-- How a reported failure is met: the crossing that failed, and the items that have a word in it. -/
def PointState.crossing (x : PointState) : BeatRef → Option Crossing
  | .held n => match x.beats.reverse.drop n with | b :: _ => some (.beat b.no) | [] => none
  | .passing no items => if items.isEmpty then none else some (.passing no)
  | .row t r w _ => some (.row t r w)

/-- The failure of a crossing (R41, R43): whether it is the replayed one failing again, and the point after it. -/
def PointState.fail (x : PointState) (c : Crossing) : Bool × PointState :=
  if x.failed = some c then (true, { x with failed := none })
  else
    (false, match c with
      | .beat no => { x.resend no with failed := some c }
      | _ => { x with failed := some c })

/-! Blocks, dummy rounds and the generator (R163, R176, R178, R180) -/

/-- The mean dummy rounds of a block at a countermeasure level (R180). -/
def cmMean (level : Nat) : Nat := [0, 1, 4, 8].getD level 8

/-- The dummy rounds of the first `i` blocks of a group of 16 from which `left` are still to be drawn (R176): each block
takes at most 2m, and as many as leave the rest what they can still take; the draw itself is free (log entry 11). -/
def groupDummies (m : Nat) (draw : Nat → Nat) : Nat → Nat → Nat → Nat
  | 0, _, _ => 0
  | i + 1, k, left =>
    let lo := left - 2 * m * (15 - k)
    let hi := min (2 * m) left
    let d := lo + draw k % (hi - lo + 1)
    d + groupDummies m draw i (k + 1) (left - d)

/-- The dummy rounds of `n` blocks at one level (R164, R176): block k goes to engine k mod 112 (log entry 11), and every
16 blocks of an engine carry exactly 16·m. -/
def levelDummies (pipe epoch m n : Nat) : Nat :=
  sumOf (fun e =>
    let k := (n + 111 - e) / 112
    16 * m * (k / 16) + groupDummies m (fun j => Config.dummyDraw pipe epoch (e * 2 ^ 64 + k / 16 * 16 + j)) (k % 16) 0 (16 * m))
    (List.range 112)

/-- The dummy rounds a pipe has computed since reset (R223). -/
def State.dummyRounds (s : State) (b : Nat) (pi : Pipe) : Nat :=
  let ps := s.pipe b pi
  let pipe := 2 * b + (match pi with | .e => 0 | .d => 1)
  ps.dummy + levelDummies pipe ps.epoch (cmMean (s.num (Reg.bCmLevel b))) ps.issued

/-- `n` blocks issued to a pipe's engines, their dummy rounds counted for R731; the generator is reseeded once it has served
2^20 blocks, and goes on from its present state while reseeds fail (R178, R179). -/
def State.issue (s : State) (b : Nat) (pi : Pipe) (n : Nat) : State :=
  let ps := s.pipe b pi
  let k := ps.sinceReseed + n
  let due := decide (1048576 ≤ k) && !ps.genFailed
  let t := s.setPipe b pi { ps with issued := ps.issued + n, sinceReseed := if due then k % 1048576 else k,
                                    reseeds := if due then ps.reseeds + k / 1048576 else ps.reseeds }
  t.pc b (match pi with | .e => 0x060 | .d => 0x061) (t.dummyRounds b pi - s.dummyRounds b pi)

/-- The countermeasure level of a pipe changes (R188): the blocks issued so far keep their dummy rounds, and the groups
begin anew. -/
def State.newEpoch (s : State) (b : Nat) (pi : Pipe) : State :=
  let d := s.dummyRounds b pi
  s.setPipe b pi { s.pipe b pi with dummy := d, issued := 0, epoch := (s.pipe b pi).epoch + 1 }

end Sys2Proof.Machine
end

