-- ==== Sys2Proof/Machine/Frames.lean ====
section
/-! DEFINITION. Machine/Frames.lean: frames the device holds: what they occupy, overload handling (R361 to R367),
performance counter events (R729 to R731), the tracer (R738 to R743), gate lists (R509 to R516) and shaper credit
(R506, R507). -/

namespace Sys2Proof.Machine

/-! Frames held -/

/-- Length of a frame's bytes with its FCS. -/
def Frame.len (f : Frame) : Nat := f.bytes.length + 4

/-- The frames waiting in a port's queues. -/
def PortState.queued (ps : PortState) : List Frame := ps.queues.flatMap (fun e => e.2)

/-- The frames of a queue, the head first. -/
def PortState.queue (ps : PortState) (q : Nat) : List Frame := ps.queues.getD q []

/-- The frames in a pipe, in its order: those behind the D-pipe's crypto island first (R60). -/
def State.piped (s : State) (b : Nat) (pi : Pipe) : List Frame := (s.pipe b pi).after ++ (s.pipe b pi).fifo

/-- Every frame a bolt holds. -/
def State.boltFrames (s : State) (b : Nat) : List Frame :=
  s.piped b .e ++ s.piped b .d
    ++ (s.ports.filter (fun e => e.1 / 128 == b)).flatMap (fun e =>
        e.2.queued ++ (match e.2.sending with | some x => [x.frame] | none => []))

/-- INGRESS_BYTES: bytes admitted from a clear interface that are still in the E-pipe half (R361). -/
def State.ingressBytes (s : State) (p : Nat) : Nat :=
  sumOf (fun f => if f.iface = some p ∧ f.pipe = .e then f.inLen else 0) (s.boltFrames (p / 128))

/-- The bytes of one priority (R363). -/
def State.ingressPrio (s : State) (p q : Nat) : Nat :=
  sumOf (fun f => if f.iface = some p ∧ f.pipe = .e ∧ f.prio = q then f.inLen else 0) (s.boltFrames (p / 128))

/-- Bytes in a pipe's buffer half (R29), a frame with the SecTAG and ICV it takes there. -/
def State.halfUsed (s : State) (b : Nat) (pi : Pipe) : Nat :=
  sumOf (fun f => if f.pipe = pi then max f.inLen f.line else 0) (s.boltFrames b)

/-- Q_DEPTH: bytes queued, counted as line length (R521). -/
def State.queueDepth (s : State) (p q : Nat) : Nat := sumOf (fun f => f.line) ((s.port p).queue q)

/-! Overload (R361 to R367) -/

/-- A PAUSE frame without FCS (R362): the source address is MGMT_MAC (log entry 13). -/
def State.pauseFrame (s : State) (quanta : Nat) : Octets :=
  natToBytes 6 0x0180C2000001 ++ natToBytes 6 s.otp.mgmtMac.toNat ++ natToBytes 2 0x8808 ++ natToBytes 2 1
    ++ natToBytes 2 quanta ++ natToBytes 42 0

/-- A PFC frame for one priority (R363). -/
def State.pfcFrame (s : State) (q quanta : Nat) : Octets :=
  natToBytes 6 0x0180C2000001 ++ natToBytes 6 s.otp.mgmtMac.toNat ++ natToBytes 2 0x8808 ++ natToBytes 2 0x0101
    ++ natToBytes 2 (2 ^ q)
    ++ (List.range 8).flatMap (fun i => natToBytes 2 (if i = q then quanta else 0)) ++ natToBytes 26 0

/-- A PAUSE or PFC frame put ahead of other frames of an interface (R362); it counts when it is sent (R370). -/
def State.sendPause (s : State) (p q quanta : Nat) : State :=
  let frame := if s.num (Reg.pOverload p) = 2 then s.pfcFrame q quanta else s.pauseFrame quanta
  let x := s.port p
  s.setPort p { x with control := x.control ++ [frame] }

/-- XOFF and XON of one priority judged against its bytes (R362, R363). -/
def State.pauseOne (s : State) (p q bytes : Nat) : State :=
  let on := bit (s.num (Reg.pXoffState p)) q
  if !on && decide (s.num (Reg.pXoffThresh p) * 256 ≤ bytes) then
    let s := s.putN (Reg.pXoffState p) (setBit (s.num (Reg.pXoffState p)) q true)
    let s := s.sendPause p q (s.num (Reg.pPauseQuanta p))
    s.setPort p { s.port p with pausedAt := (s.port p).pausedAt.put q s.time.elapsed }
  else if on && decide (bytes < s.num (Reg.pXonThresh p) * 256) then
    let s := s.putN (Reg.pXoffState p) (setBit (s.num (Reg.pXoffState p)) q false)
    let s := s.sendPause p q 0
    s.setPort p { s.port p with pausedAt := (s.port p).pausedAt.del q }
  else s

/-- The overload handling of a RUNNING clear interface at a change of INGRESS_BYTES (R362, R363, R366, R367). -/
def State.pauseUpdate (s : State) (p : Nat) : State :=
  if s.kind p = 1 ∧ s.running (.port p) = true then
    if s.num (Reg.pOverload p) = 1 then s.pauseOne p 0 (s.ingressBytes p)
    else if s.num (Reg.pOverload p) = 2 then
      forEach (List.range 8) (fun s q =>
        if bit (s.num (Reg.pPfcEnable p)) q then s.pauseOne p q (s.ingressPrio p q) else s) s
    else s
  else s

/-- The overload handling after a frame has left the E-pipe half. -/
def State.pauseAfter (s : State) (f : Frame) : State :=
  match f.iface with
  | some p => s.pauseUpdate p
  | none => s

/-- The pipe's number in events and details: 0 E, 1 D. -/
def pipeNo (pi : Pipe) : Nat := match pi with | .e => 0 | .d => 1

/-! Tracer (R738 to R743) -/

/-- The tagged frames in flight (R739). -/
def State.inFlight (s : State) : Nat := s.tracer.inFlight

/-- The choice whether a frame is tagged (R738, R739): a free value decides with probability 2^-TR_K. -/
def State.traceChoice (s : State) (b : Nat) (pi : Pipe) : Bool × State :=
  if s.num Reg.trEnable = 1 && bit (s.num Reg.trBolts) b && bit (s.num Reg.trPipes) (1 - pipeNo pi) then
    let (v, s) := s.draw
    if v % 2 ^ s.num Reg.trK = 0 then
      if s.tracer.inFlight < 16 then
        (true, ({ s with tracer := { s.tracer with inFlight := s.tracer.inFlight + 1 } } : State).pc b 0x0B0 1)
      else (false, s.count Reg.trMissed)
    else (false, s)
  else (false, s)

/-- ns between the receive timestamp of a frame and now, saturating (R741). -/
def State.sinceRx (s : State) (f : Frame) : Nat := min ((s.nowFine - f.rxTs) / 65536) 0xFFFFFE

/-- A frame's tracer points set from point i on to point j at the present instant (R740). -/
def State.tracePoints (s : State) (f : Frame) (i j : Nat) : Frame :=
  match f.trace with
  | none => f
  | some pts => { f with trace := some ((List.range 7).map (fun k =>
      if i ≤ k + 1 ∧ k + 1 ≤ j then s.sinceRx f else pts.getD k 0xFFFFFF)) }

/-- The 16 words of a tracer record (R741). -/
def Frame.traceWords (f : Frame) (discarded : Bool) (pts : List Nat) : List Nat :=
  let b2n := fun (x : Bool) => if x then 1 else 0
  let port := decide (f.outPort < 1024)
  let w0 := f.b * 2097152 + pipeNo f.pipe * 1048576 + f.inPort % 1024 * 1024 + (if port then f.outPort else 0)
  let w1 := b2n f.poison * 8388608 + b2n discarded * 4194304 + b2n f.late * 2097152 + b2n f.early * 1048576
    + b2n f.replayed * 524288 + b2n f.missed * 262144 + b2n port * 131072 + (match f.sa with | some sa => 65536 + sa % 65536 | none => 0)
  let w2 := f.cls * 4194304 + f.queue * 524288 + f.inLen % 16384
  [w0, w1, w2] ++ natToWords 4 (time96 (f.rxTs / 65536)) ++ pts ++ [0, 0]

/-- A tagged frame with point 7, its egress lane timestamp in 2^-16 ns (R740, R741). -/
def Frame.leaves (f : Frame) (stamp : Int) : Frame :=
  { f with trace := f.trace.map (fun pts => pts.take 6 ++ [min ((stamp - f.rxTs).toNat / 65536) 0xFFFFFE]) }

/-- A tagged frame's record is written when it has left or is discarded (R741 to R743). -/
def State.traceEnd (s : State) (f : Frame) (discarded : Bool) : State :=
  match f.trace with
  | none => s
  | some pts =>
    let n := s.num Reg.trNextSeq
    let bytes := wordsToBytes (f.traceWords discarded pts)
    let s := { s with tracer := { s.tracer with
      ring := s.tracer.ring.put (n % 1024) bytes, inFlight := s.tracer.inFlight - 1 } }
    let s := s.putN Reg.trNextSeq ((n + 1) % 16777216)
    match s.rangeOf 4 with
    | some (r, true) =>
      s.smWrite r (n % (s.num (Reg.rngSize r) * 1048576 / 64) * 64) (bytes ++ natToBytes 3 n ++ natToBytes 13 0)
    | some (_, false) => (s.count Reg.smStoppedErrors).count Reg.smRingLost
    | none => s

/-! Gate lists (R509 to R516) -/

/-- Entry i of a port's list: 0 admin, 1 operating (R115). -/
def gateRow (p list i : Nat) : Nat := p / 128 * 32768 + p % 128 * 256 + list * 128 + i

/-- Mask and interval of an entry (R509); a faulted row opens no gate (R49, log entry 19). -/
def State.gateEntry (s : State) (p list i : Nat) : Nat × Nat :=
  (if s.rowState 0x4600 (gateRow p list i) = 2 then 0 else s.num (Reg.geMask (gateRow p list i)),
    s.num (Reg.geInterval (gateRow p list i)))

/-- The entry of a list at an offset into its cycle (R511): its number, and when it ends within the cycle. -/
def gateWalk (entries : List (Nat × Nat)) (cycle off : Nat) : Nat → Nat → Nat × Nat
  | i, start =>
    match entries with
    | [] => (0, cycle)
    | [_] => (i, cycle)
    | e :: rest => if off < start + e.2 then (i, min (start + e.2) cycle) else gateWalk rest cycle off (i + 1) (start + e.2)

/-- A list's base, cycle and entries: the admin list (0) or the operating list (1). -/
def State.gateList (s : State) (p list : Nat) : Nat × Nat × List (Nat × Nat) :=
  if list = 0 then
    (time96Ns (s.num (Reg.pAdminBase p)), s.num (Reg.pAdminCycle p),
      (List.range (s.num (Reg.pAdminLen p))).map (s.gateEntry p 0))
  else
    (time96Ns (s.num (Reg.pOperBase p)), s.num (Reg.pOperCycle p),
      (List.range (s.num (Reg.pOperLen p))).map (s.gateEntry p 1))

/-- The offset of an instant in its cycle (R511), for every integer k. -/
def cycleOffset (base cycle t : Nat) : Nat :=
  if cycle = 0 then 0 else (((t : Int) - (base : Int)) % (cycle : Int)).toNat

/-- The list position at an instant in ns of device time: entry, its mask, and the ns left in it (R511). -/
def State.gateAt (s : State) (p list t : Nat) : Nat × Nat × Nat :=
  let (base, cycle, es) := s.gateList p list
  match es with
  | [] => (0, 0xFF, 0)
  | _ =>
    let off := cycleOffset base cycle t
    let (i, stop) := gateWalk es cycle off 0 0
    (i, (es.getD i (0xFF, 0)).1, stop - off)

/-- Whether the gates of a port apply (R512, R509). -/
def State.gated (s : State) (p : Nat) : Bool :=
  s.hasGingham && s.num (Reg.pGateEnable p) == 1 && s.num (Reg.pOperLen p) != 0

/-- Whether the entry in force of a port's operating list is a faulted row: the frames it rules are discarded (R50). -/
def State.gateFaulted (s : State) (p : Nat) : Bool :=
  s.gated p && s.rowState 0x4600 (gateRow p 1 (s.gateAt p 1 s.nowNs).1) == 2

/-- The gate mask in force (R512). -/
def State.gateMask (s : State) (p : Nat) : Nat := if s.gated p then (s.gateAt p 1 s.nowNs).2.1 else 0xFF

/-- The list in force at an instant: the operating list up to a pending T, the admin list from T on (R516). -/
def State.listAt (s : State) (p t : Nat) : Nat :=
  if (s.port p).admin && decide (time96Ns (s.num (Reg.pTakeoverTime p)) ≤ t) then 0 else 1

/-- Whether gates hold a port's frames now or from a pending takeover on (R512, R516). -/
def State.gatesHold (s : State) (p : Nat) : Bool :=
  s.hasGingham && s.num (Reg.pGateEnable p) == 1 && (s.num (Reg.pOperLen p) != 0 || (s.port p).admin)

/-- Whether a queue's gate stays open for the `need` ns from device time t on (R516), in at most `fuel` entries. While no list
operates every gate is open (R512); a pending takeover cuts an entry at T. -/
def State.openFor (s : State) (p q : Nat) : Nat → Nat → Nat → Bool
  | 0, _, _ => false
  | n + 1, t, need =>
    let list := s.listAt p t
    let (_, mask, left) := s.gateAt p list t
    let cut := if list = 1 ∧ (s.port p).admin = true then some (time96Ns (s.num (Reg.pTakeoverTime p)) - t) else none
    if bit mask q = false then false
    else if list = 1 ∧ s.num (Reg.pOperLen p) = 0 then
      match cut with
      | none => true
      | some c => decide (need ≤ c) || s.openFor p q n (t + c) (need - c)
    else
      let left := match cut with | none => left | some c => min left c
      decide (need ≤ left) || s.openFor p q n (t + left) (need - left)

/-- The longest unbroken open period of a queue in a list, over two cycles; none where it is open throughout (R517). -/
def longestOpen (entries : List (Nat × Nat)) (cycle q : Nat) : Option Nat :=
  let n := entries.length
  let spans := (List.range n).map (fun i =>
    let start := sumOf (fun e => e.2) (entries.take i)
    let stop := if i + 1 = n then cycle else min (start + (entries.getD i (0, 0)).2) cycle
    (bit (entries.getD i (0, 0)).1 q, stop - min start cycle))
  if spans.all (fun x => x.1 || x.2 == 0) then none
  else
    some ((spans ++ spans).foldl (fun (m : Nat × Nat) x =>
      if x.1 then (max m.1 (m.2 + x.2), m.2 + x.2) else if x.2 = 0 then m else (m.1, 0)) (0, 0)).1

/-! Lengths, queues and credit (R495, R496, R506, R507) -/

/-- The row of a queue (R115). -/
def queueRow (p q : Nat) : Nat := p / 128 * 1024 + p % 128 * 8 + q

/-- The port that owns a port's link (R495). -/
def State.linkOf (s : State) (p : Nat) : Nat := s.interfaceOf p

/-- The ports of a link, in order (R495). -/
def State.linkPorts (s : State) (l : Nat) : List Nat :=
  (boltPorts (l / 128)).filter (fun p => p == l || ((s.kind p == 2 || s.kind p == 3) && s.num (Reg.pParent p) == l))

/-- The class that an egress queue or its port gives: 0 C, 1 S, 2 D (R80). -/
def State.classGiven (s : State) (p q : Nat) : Nat :=
  if s.num (Reg.qClass (queueRow p q)) = 0xFF then s.num (Reg.pFwdClass p) else s.num (Reg.qClass (queueRow p q))

/-- Whether a port carries class D traffic: one of its queues is of class D (R92, log entry 22). -/
def State.hasClassD (s : State) (p : Nat) : Bool := (List.range 8).any (fun q => s.classGiven p q == 2)

/-- The shortest DET_DELAY of the class D ports of a link in ns, none where it carries no class D traffic (R92). -/
def State.linkD (s : State) (l : Nat) : Option Nat :=
  ((s.linkPorts l).filter s.hasClassD).foldl (fun m p =>
    match m with
    | none => some (s.num (Reg.pDetDelay p))
    | some d => some (min d (s.num (Reg.pDetDelay p)))) none

/-- The class frames of an egress queue are handled in (R80): class C goes as S under gates (R498) and on a link with
class D traffic (R92). -/
def State.classOf (s : State) (p q : Nat) : Nat :=
  let c := s.classGiven p q
  if c = 0 ∧ (s.num (Reg.pGateEnable p) = 1 ∨ (s.linkD (s.linkOf p)).isSome = true) then 1 else c

/-- The rate of a link in Mb/s (R495). -/
def State.linkRate (s : State) (l : Nat) : Nat := modeRate (s.num (Reg.pLaneMode l))

/-- A frame's counted length: line length plus LEN_OVERHEAD of its egress port (R496). -/
def State.countedLen (s : State) (f : Frame) : Int := (f.line : Int) + i24 (s.num (Reg.pLenOverhead f.outPort))

/-- A frame's wire time on a link in ns, rounded up (R496). -/
def State.wireNs (s : State) (f : Frame) : Nat :=
  let r := s.linkRate (s.linkOf f.outPort)
  if r = 0 then 0 else ((f.line + 20) * 8000 + r - 1) / r

/-- The credit of a queue in 1/8000 byte; the row keeps it offset by 2^50, 0 standing for no credit (log entry 14). -/
def State.creditFine (s : State) (row : Nat) : Int :=
  let n := s.num (.row 0x4500 row 0x100)
  if n = 0 then 0 else (n : Int) - 2 ^ 50

/-- Credit stored, saturating at -8,388,608 and 8,388,607 bytes (R507). -/
def State.setCredit (s : State) (row : Nat) (c : Int) : State :=
  let c := max (-8388608 * 8000) (min (8388607 * 8000) c)
  s.putN (.row 0x4500 row 0x100) (if c = 0 then 0 else (c + 2 ^ 50).toNat)

/-- Q_CREDIT in bytes, rounded down (R521). -/
def State.creditBytes (s : State) (row : Nat) : Int := s.creditFine row / 8000

/-- The credit of a port's queues brought up to the present instant (R507): a queue that holds a frame, is not sending
and is open gains at its idle slope; an empty queue below 0 gains up to 0. The mask is that in force since credits were last
settled, which a gate edge ends. -/
def State.settleCredit (s : State) (p : Nat) : State :=
  let x := s.port p
  let dt := s.time.elapsed - x.creditAt
  let mask := x.creditMask
  let link := s.linkOf p
  let sending := match (s.port link).sending with
    | some y => if y.port = p then some y.frame.queue else none
    | none => none
  let s := forEach (List.range 8) (fun s q =>
    let row := queueRow p q
    let idle := s.num (Reg.qIdleSlope row)
    if idle = 0 ∨ bit mask q = false then s
    else
      let c := s.creditFine row
      if (x.queue q).isEmpty then
        if c < 0 ∧ sending ≠ some q then s.setCredit row (min 0 (c + idle * dt)) else s
      else if sending = some q then s
      else s.setCredit row (c + idle * dt)) s
  s.setPort p { s.port p with creditAt := s.time.elapsed, creditMask := s.gateMask p }

/-- Whether no frame waits in a port's weighted group: its deficit on the link is 0 (R503, R504). -/
def State.weightedEmpty (s : State) (p : Nat) : Bool :=
  (List.range (8 - s.num (Reg.pQStrict p))).all (fun q => ((s.port p).queue q).isEmpty)

/-- A queue that becomes empty: its deficit is 0, and a positive credit is 0 (R503, R507); where the weighted group is empty with
it, so is the port's deficit on its link (R504). -/
def State.queueEmptied (s : State) (p q : Nat) : State :=
  if ((s.port p).queue q).isEmpty then
    let row := queueRow p q
    let l := s.linkOf p
    let s := s.putN (Reg.qDeficit row) 0
    let s := if s.weightedEmpty p then s.setPort l { s.port l with linkDeficit := (s.port l).linkDeficit.del p } else s
    if 0 < s.creditFine row then s.setCredit row 0 else s
  else s

/-- A frame discarded: its PN, if it took one, is skipped (R59, R96), and a SECTOR frame counts on its stream (R435). -/
def State.dropFinal (s : State) (f : Frame) : State :=
  let s := if f.sa.isSome && f.pipe == .e then s.count (Reg.bPnSkipped f.b) else s
  let s := match f.sector with | some n => s.count (Reg.ssDiscards n) | none => s
  (s.traceEnd f true).pauseAfter f

/-- A queue without its head. -/
def State.dequeueOne (s : State) (p q : Nat) : State :=
  let s := s.settleCredit p
  let x := s.port p
  (s.setPort p { x with queues := x.queues.put q ((x.queue q).drop 1) }).queueEmptied p q

/-! Discards at the head of a queue (R93, R517, R525) -/

/-- Transmission time of a frame on its link in ns, rounded up (R92). -/
def State.txNs (s : State) (f : Frame) : Nat :=
  let r := s.linkRate (s.linkOf f.outPort)
  if r = 0 then 0 else (f.line * 8000 + r - 1) / r

/-- Whether the head of a queue is discarded, and how; a frame ruled by a faulted gate row counts as one of a faulted
queue row (R50, log entry 19). -/
def State.headDiscard (s : State) (l p q : Nat) (f : Frame) : Option (State → State) :=
  let row := queueRow p q
  let b := boltOfPort p
  if s.rowState 0x4500 row = 2 ∨ s.gateFaulted p = true then some (fun s => s.count (Reg.qFaultDiscards row))
  else if s.gated p && (match longestOpen (s.gateList p 1).2.2 (s.gateList p 1).2.1 q with
      | some m => decide (m < s.wireNs f) | none => false) then
    some (fun s => (s.count (Reg.pGateOversize p)).raiseOnce 0x010005 ((0x3000 + 4 * p + 2) * 256) (p * 16384 + q * 2048))
  else match s.linkD l with
    | some d =>
      if f.cls ≠ 2 ∧ d < s.txNs f then
        some (fun s => ((s.count (Reg.bDGuardDiscards b)).count (Reg.pDGuardDiscards p)).raiseKeyed 0x010004 (p * 4 + 1)
          ((0x3000 + 4 * p + 2) * 256) (p * 16384 + 4096))
      else none
    | none => none

/-- The heads of one queue discarded while they meet a discard. -/
def State.purgeQueue (s : State) (l p q : Nat) : Nat → State
  | 0 => s
  | n + 1 =>
    match (s.port p).queue q with
    | [] => s
    | f :: _ =>
      match s.headDiscard l p q f with
      | none => s
      | some count => ((count (s.dequeueOne p q)).dropFinal f).purgeQueue l p q n

/-- A queue whose head is new: it is judged as it gets there (R517). -/
def State.newHead (s : State) (p q : Nat) : State := s.purgeQueue (s.linkOf p) p q (((s.port p).queue q).length + 1)

/-- A frame put at the end of its queue (R494), or discarded where the queue's row is faulted (R525) or the device has become
Banked while the frame was in its pipe (R700, R715). -/
def State.enqueue (s : State) (f : Frame) : State :=
  let row := queueRow f.outPort f.queue
  if s.rowState 0x4500 row = 2 then (s.count (Reg.qFaultDiscards row)).dropFinal f
  else if s.num Reg.pairRole = 1 then (s.count Reg.standbyDiscards).dropFinal f
  else
    let s := s.settleCredit f.outPort
    let x := s.port f.outPort
    let s := s.setPort f.outPort { x with queues := x.queues.put f.queue (x.queue f.queue ++ [f]) }
    if (x.queue f.queue).isEmpty then s.newHead f.outPort f.queue else s

/-- A queue without its head; the next one is judged. -/
def State.dequeue (s : State) (p q : Nat) : State := (s.dequeueOne p q).newHead p q

/-- Every frame waiting in a port's queues is discarded; `per` counts each. -/
def State.flushQueues (s : State) (p : Nat) (per : State → Frame → State) : State :=
  let s := s.settleCredit p
  let fs := (s.port p).queued
  let s := s.setPort p { s.port p with queues := [] }
  let s := forEach (List.range 8) (fun s q => s.queueEmptied p q) s
  forEach fs (fun s f => (per s f).dropFinal f) s

end Sys2Proof.Machine
end

