-- ==== Sys2Proof/Machine/PairOps.lean ====
section
/-! DEFINITION. Machine/PairOps.lean: the pair unit's shared operations: health, role changes, mirroring, reports and
handover (R700 to R719). -/

namespace Sys2Proof.Machine

/-- Something leaves the device. -/
def State.emit (s : State) (w : Wire) : State := { s with wire := w :: s.wire }

def State.role (s : State) : Nat := s.num Reg.pairRole
def State.linked (s : State) : Bool := s.num Reg.pairLink == 2

/-- Whether the device is healthy (R717). -/
def State.healthy (s : State) : Bool :=
  !(decide (2 ≤ s.alarm.worst) || s.phase == .recovery || s.hearth.restarting || s.lc == 6 || s.lc == 7 || s.lc == 15
    || s.pair.watchBad.any (fun b => bit (s.num Reg.pairWatch) b))

/-- The IV of the next mirror frame (R703): 32 zero bits, then the frame count of the direction. -/
def State.mirrorIv (s : State) : Nat := s.pair.txCount % 2 ^ 64

/-- A frame sent on the mirror link takes one frame count (R703). -/
def State.pairSend (s : State) (w : Wire) : State :=
  ({ s with pair := { s.pair with txCount := s.pair.txCount + 1 } } : State).emit w

/-- Line egress sends idle or filler: a Banked device, or one that is becoming Lit (R700, R714). -/
def State.lineIdle (s : State) : Bool := s.role == 1 || s.pair.becoming.isSome

/-! Reports and peer memory (R708 to R711) -/

/-- The mark of an item held only while Banked or Cold over an unbroken link (R708): a row or a tributary. -/
def unusedRow (sa : Nat) : Key := .row 0x4000 sa 0x104
def unusedTrib (p : Nat) : Key := .row 0x3000 p 0x104

/-- The last verified panel counter of a Twill receive row (R208). -/
def lastPanel (sa : Nat) : Key := .row 0x4000 sa 0x103

/-- TRIB_PC_NEXT as a number, and written (R407, R428). -/
def State.pcNext (s : State) (p : Nat) : Nat := bytesToNat (s.oct (Reg.pTribPcNext p))
def State.setPcNext (s : State) (p n : Nat) : State := s.putO (Reg.pTribPcNext p) (natToBytes 10 n)

/-- The device's own counter reports (R708). -/
def State.ownReports (s : State) : List Report :=
  (s.rowsListed 0x4000).flatMap (fun sa =>
    if s.rowState 0x4000 sa = 0 then []
    else if s.num (Reg.saDir sa) = 0 then
      if s.num (Reg.saSuite sa) = 8 then [] else [⟨0, sa, s.num (Reg.saPn sa), s.num (unusedRow sa) == 1⟩]
    else if s.num (Reg.saSuite sa) = 8 then [⟨3, sa, s.num (lastPanel sa), false⟩]
    else [⟨2, sa, s.num (Reg.saHighestPn sa), false⟩])
  ++ ((List.range s.nPorts).filter (fun p => s.kind p == 4)).map (fun p =>
    ⟨1, p, s.pcNext p, s.num (unusedTrib p) == 1⟩)

/-- Reports taken into peer memory: the latest of each item (R708). -/
def mergeReports (old new : List Report) : List Report :=
  old.filter (fun r => !(new.any (fun x => x.kind == r.kind && x.item == r.item))) ++ new

/-- Reports heard from the partner: the memory, and the items no longer stale (R708, R710). -/
def State.hear (s : State) (rs : List Report) : State :=
  { s with pair := { s.pair with
      memory := mergeReports s.pair.memory rs
      staleItems := s.pair.staleItems.filter (fun e => !(rs.any (fun x => x.kind == e.1 && x.item == e.2))) } }

/-- Stale memory becomes valid again from the partner's first reports (R710): what they do not name stays stale (log entry
105). -/
def State.refreshMemory (s : State) (first : List Report) : State :=
  let old := if s.pair.memoryValid then [] else s.pair.memory.map (fun r => (r.kind, r.item))
  ({ s with pair := { s.pair with staleItems := (s.pair.staleItems ++ old).dedup, memoryValid := true } } : State).hear first

/-- The peer memory a device returns at a link-up (R709): no item that is still stale. -/
def State.freshMemory (s : State) : List Report :=
  s.pair.memory.filter (fun r => !(s.pair.staleItems.contains (r.kind, r.item)))

/-- The memory of an item ends: a row under a fresh key is mirrored for the first time (R200, R708). -/
def State.forgetItem (s : State) (kind item : Nat) : State :=
  { s with pair := { s.pair with
      memory := s.pair.memory.filter (fun r => !(r.kind == kind && r.item == item))
      staleItems := s.pair.staleItems.filter (fun e => !(e.1 == kind && e.2 == item)) } }

/-- The peer memory of an item: none while the memory or the item is stale or lost; an item it lacks is unused (R708, R709). -/
def State.memoryOf (s : State) (kind item : Nat) : Option Report :=
  if s.pair.memoryValid = true ∧ s.pair.staleItems.contains (kind, item) = false then
    match s.pair.memory.find? (fun r => r.kind == kind && r.item == item) with
    | some r => some r
    | none => some ⟨kind, item, 0, true⟩
  else none

/-- Every unused mark cleared: the device has been Lit, or the link has broken (R708). -/
def State.clearUnused (s : State) : State :=
  s.clearWhere (fun k => match k with | .row w _ f => (w == 0x4000 || w == 0x3000) && f == 0x104 | _ => false)

/-- The partner's reported values applied to the receive rows at a takeover (R711). -/
def State.applyReports (s : State) : State :=
  forEach s.pair.memory (fun s r =>
    if r.kind = 2 ∧ s.rowState 0x4000 r.item ≠ 0 then
      s.putN (Reg.saPn r.item) (max (s.num (Reg.saPn r.item)) (r.value + 1))
    else if r.kind = 3 ∧ s.rowState 0x4000 r.item ≠ 0 then
      s.putN (lastPanel r.item) (max (s.num (lastPanel r.item)) r.value)
    else s) s

/-! Mirroring (R704, R705) -/

/-- A mirror update sent while the link is up (R705). -/
def State.update (s : State) (it : MirrorItem) : State :=
  if s.linked then s.pairSend (.mirror s.mirrorIv ⟨s.num Reg.pairRoleGen, s.pair.peerGen, it⟩) else s

/-- An item sent to the partner by a Lit device with the link up. -/
def State.mirror (s : State) (it : MirrorItem) : State := if s.role = 2 then s.update it else s

/-- An SA row as a mirror item: its fields, its key followed by H under the pair wrap key (log entry 106), and the peer memory
of the receiver. -/
def State.saItem (s : State) (sa : Nat) : MirrorItem :=
  .saRow sa ((rangeFrom 0x10 16).map (fun f => (f, s.rd (.row 0x4000 sa f))))
    (if s.saKey sa = [] then [] else kwpWrap s.pair.wrapKey (s.saKey sa ++ gcmHash (s.saKey sa))) (s.memoryOf 0 sa)

/-- An exact-match row as a mirror item (R290). -/
def State.emItem (s : State) (row : Nat) : MirrorItem :=
  .emRow row [(0x10, s.rd (Reg.emSci row)), (0x11, s.rd (Reg.emAn row)), (0x12, s.rd (Reg.emSa row))]

/-- A gate row as a mirror item. -/
def State.gateItem (s : State) (row : Nat) : MirrorItem :=
  .gateRow row [(0x10, s.rd (Reg.geMask row)), (0x11, s.rd (Reg.geInterval row))] (s.rowState 0x4600 row == 1)

/-- The port objects of R704: bindings and phases, and the gate objects of the scheduler. -/
def bindingSubs : List Nat := [0x11, 0x12, 0x13, 0x14, 0x20, 0x21, 0x22, 0x23]

/-- All mirrored content (R705). -/
def State.allItems (s : State) : List MirrorItem :=
  ((s.rowsListed 0x4000).filter (fun sa => s.rowState 0x4000 sa != 0)).map s.saItem
  ++ ((s.rowsListed 0x4100).filter (fun r => s.rowState 0x4100 r != 0)).map s.emItem
  ++ (List.range s.nPorts).flatMap (fun p =>
      (bindingSubs.filter (fun f => s.num (portKey p 3 f) != (match resetVal (portKey p 3 f) with | .num n => n | _ => 0))).map
        (fun f => .binding p f (s.num (portKey p 3 f)))
      ++ (if s.kind p = 3 ∧ s.num (Reg.pTxAn p) ≠ 0 then [.txAn p (s.num (Reg.pTxAn p))] else [])
      ++ (if s.kind p = 4 then [.tribCounter p (s.memoryOf 1 p), .flip p (s.num (Reg.pTwTxPhase p)) (s.num (Reg.pTwTxFlipMf p)),
            .arm p (s.num (Reg.pTwTxState p) == 1)] else []))
  ++ (List.range s.nBolts).map (fun b => .policyActive b (s.num (Reg.bPolicyActive b)))
  ++ ((s.rowsListed 0x4600).filter (fun r => s.rowState 0x4600 r != 0)).map s.gateItem
  ++ (List.range s.nPorts).flatMap (fun p =>
      [Reg.pAdminBase p, Reg.pAdminCycle p, Reg.pAdminLen p, Reg.pOperBase p, Reg.pOperCycle p, Reg.pOperLen p,
        Reg.pTakeoverTime p].flatMap (fun k => match k with
          | .dev a => if s.num k = 0 then [] else [.gateObj p (a % 256) (s.num k)]
          | _ => []))

/-- A full resync starts (R705): PAIR_SYNC 1, and a Lit device sends all mirrored content. -/
def State.resync (s : State) : State :=
  if s.linked then
    let s := s.putN Reg.pairSync 1
    forEach s.allItems State.mirror s
  else s

/-! Roles (R700, R701, R713) -/

/-- A Twill group moves to ACQUIRE, or its hold restarts (R420). Event 0x03_0204: the regime entered. -/
def State.toAcquire (s : State) (row : Nat) : State :=
  let b := row / 1024
  let s := s.setGrp row { s.grp row with acqSince := s.time.elapsed }
  if s.num (Reg.tgRegime row) = 1 then s
  else ((s.putN (Reg.tgRegime row) 1).bumpVersion 0x4400 row).raise 0x030204 0x440000
    (b * 2097152 + row % 1024 * 262144 + 131072)

/-- The running groups of the device, by row. -/
def State.liveGroups (s : State) : List Nat :=
  (s.rowsListed 0x4400).filter (fun r => r % 1024 < 8 && (s.fnState (.group (r / 1024) (r % 1024)) == 2))

/-- A change of PAIR_ROLE (R701, R713, R714, R728). -/
def State.setRole (s : State) (new cause : Nat) : State :=
  let old := s.role
  if old = new then s
  else
    let gen := (s.num Reg.pairRoleGen + 1) % 256
    let s := (s.putN Reg.pairRole new).putN Reg.pairRoleGen gen
    let s := s.allRolesChange
    let s := s.raise 0x090101 0x151000 (old * 4194304 + new * 1048576 + cause * 65536 + gen * 256)
    let s : State := { s with pair := { s.pair with
      witnessDrive := decide (new = 2) && s.num Reg.pairWitnessWired == 1, becoming := none, claiming := none } }
    let s := if new = 2 then
        forEach s.liveGroups State.toAcquire ((s.count Reg.pairTakeovers).applyReports.clearUnused)
      else s
    s.resync

/-- A heartbeat with its flags (R703). -/
def State.heartbeat (s : State) (relinquish handover request : Bool) : State :=
  if s.num Reg.pairLink = 0 then s
  else s.pairSend (.heartbeat s.mirrorIv s.role (s.num Reg.pairRoleGen) s.healthy (s.num Reg.pairSync) relinquish handover request)

/-- A Lit device gives up the role (R713, R715): queued frames are discarded and counted, the final reports are sent,
WITNESS is released, and the relinquish or handover flag is sent. -/
def State.giveUp (s : State) (handover : Bool) (new cause : Nat) : State :=
  let s := forEach (s.ports.map (fun e => e.1)) (fun s p =>
    s.flushQueues p (fun s _ => s.count Reg.standbyDiscards)) s
  let s := s.mirror (.reports s.ownReports)
  let s : State := { s with pair := { s.pair with witnessDrive := false } }
  (s.heartbeat (!handover) handover false).setRole new cause

/-- Health lost on a Lit device (R713). -/
def State.healthCheck (s : State) : State :=
  if s.role = 2 ∧ s.healthy = false ∧ s.pair.peerRole = 1 ∧ s.pair.peerHealthy = true ∧ s.linked = true then
    s.giveUp false 1 5
  else s

/-- The conditions of the primary's revert (R716). At the instant of a heartbeat loss it is not linked any more (R719). -/
def State.revertReady (s : State) : Bool :=
  s.role == 1 && s.pairId == 0 && s.healthy && s.linked && s.num Reg.pairSync == 2
    && s.pair.peerRole == 2 && s.pair.peerHealthy && decide (s.time.elapsed < s.pair.heardAt + 10000)

/-- The bolts whose line lanes all report LOS or LOL, each with the instant since when (R717). -/
def State.linesBadNow (s : State) : FMap Nat :=
  ((List.range s.nBolts).filter s.boltLinesBad).map (fun b => (b, s.pair.linesBad.getD b s.time.elapsed))

/-- The hold-off starts when its conditions hold and starts again after any break (R716), a watched bolt with a good lane again
no longer makes the device unhealthy (R717). -/
def State.pairSettle (s : State) : State :=
  let s : State := { s with pair := { s.pair with
    watchBad := s.pair.watchBad.filter s.boltLinesBad, linesBad := s.linesBadNow } }
  match s.pair.holdoff with
  | none => if s.revertReady then { s with pair := { s.pair with holdoff := some s.time.elapsed } } else s
  | some _ => if s.revertReady then s else { s with pair := { s.pair with holdoff := none } }

/-- PARTITION of the pair declared or cleared, with event 0x09_0102 (R718). -/
def State.setPartition (s : State) (on : Bool) : State :=
  if s.pair.partition = on then s
  else
    ({ s with pair := { s.pair with partition := on } } : State).raise 0x090102 0x151000 (if on then 8388608 else 0)

/-- Whether the partner's items are locked here (R707). -/
def State.mirroredHere (s : State) : Bool := s.role == 1 && s.linked

end Sys2Proof.Machine
end

