-- ==== Sys2Proof/Machine/TrustOps.lean ====
section
/-! DEFINITION. Machine/TrustOps.lean: retained values (R112, R603), proposals ended (R157 to R160), debug certificates
ended (R622), Retort jobs ended and aborted (R643 to R646), zeroisation (R236, R451) and life-cycle burns (R593,
R596). -/

namespace Sys2Proof.Machine

/-! Retained objects (R112, R113, R603) -/

/-- The blobs of the mesh epoch keys, current and next, kept for the next start (R724). -/
def meshBlobCur : Key := .row 0x1520 0 0x100
def meshBlobNext : Key := .row 0x1520 0 0x101

/-- Whether an object is retained (R112): every DC object, and those whose chapters say so (R253, R586, R624, R667,
R724, R726). IDC_STATE goes with the certificate (log entry 15). -/
def retained : Key → Bool
  | .dev a =>
    let idx := a / 256
    let sub := a % 256
    (match Dict.entry a with | some e => decide (e.acc = .dc) | none => false)
      || Key.dev a == Reg.blobGenDev
      || (decide (0x2000 ≤ idx ∧ idx < 0x2800) && Key.dev a == Reg.bBlobGen ((idx - 0x2000) / 256))
      || [Reg.silsyEtype, Reg.t1sEnable, Reg.t1sTerm, Reg.sessIdle, Reg.idcInfo, Reg.idcSigEd, Reg.idcSigMl, Reg.idcState,
          Reg.pairJoin, Reg.pairWitnessWired, Reg.pairHoldoff, Reg.pairWatch, Reg.meshId, Reg.meshHops, Reg.meshDead,
          Reg.meshNeighbours, Reg.meshEpoch].contains (Key.dev a)
      || (decide (0x1580 ≤ idx ∧ idx < 0x15C0))
      || ((idx == 0x1600 || idx == 0x1601) && (sub == 1 || sub == 2))
  | k => k == meshBlobCur || k == meshBlobNext

/-- The bytes of a record of retained values, for its tag and digest; the layout is the model's (log entry 7). -/
def storeBytes (st : Store) : Octets :=
  st.flatMap (fun e => e.1.toList.flatMap (natToBytes 4) ++
    (match e.2 with | .num n => natToBytes 12 n | .oct bs => natToBytes 4 bs.length ++ bs))

/-- The tag of a record under the configuration-record key (R603): none before ISSUED, or without Ember. -/
def State.cfgTag (s : State) (st : Store) : Octets :=
  if s.lc < 4 ∨ s.kduReady = false then [] else hmac512 (s.derive "NZ-CFG-MAC" [] 32) (storeBytes st)

/-- The retained values recorded, in the copy that is not the newest (R113, R603). -/
def State.record (s : State) : State :=
  let st := s.objs.filter (fun e => retained e.1)
  let c : CfgCopy := ⟨st, s.cfgTag st⟩
  if s.boot.newest = 0 then { s with boot := { s.boot with copy1 := c, newest := 1 } }
  else { s with boot := { s.boot with copy0 := c, newest := 0 } }

/-- An object written, and recorded where it is retained (R113). -/
def State.save (s : State) (k : Key) (v : Val) : State :=
  let s := s.put k v
  if retained k then s.record else s

def State.saveN (s : State) (k : Key) (n : Nat) : State := s.save k (.num n)

/-! Proposals (R157 to R160) -/

/-- A proposal slot emptied. -/
def State.freeSlot (s : State) (n : Nat) : State :=
  let s := { s with proposals := s.proposals.del n }
  s.clearWhere (fun k => match k with | .dev a => a / 256 == 0x1318 + n | _ => false)

/-- A proposal ended unmade, with event 0x07_0203. -/
def State.endProposal (s : State) (n reason : Nat) : State :=
  match s.proposals.get? n with
  | none => s
  | some p => (s.freeSlot n).raise 0x070203 ((0x1318 + n) * 256) (n * 2097152 + p.proposer * 131072 + reason * 16384)

/-- Every proposal ended unmade. -/
def State.endProposals (s : State) (reason : Nat) : State :=
  forEach (List.range 8) (fun s n => s.endProposal n reason) s

/-! Debug certificates (R622) -/

/-- The certificate in force ends, with event 0x0B_0005. -/
def State.certEnd (s : State) (reason : Nat) : State :=
  match s.trust.cert with
  | none => s
  | some _ => ({ s with trust := { s.trust with cert := none } } : State).raise 0x0B0005 0x134000 (reason * 2097152)

/-! Retort jobs (R638 to R648) -/

/-- A host job ends with a status: its objects, the counters and event 0x07_0501. -/
def State.jobDone (s : State) (j : Job) (status : Nat) (outA outB : Octets) : State :=
  let s := s.count Reg.rtJobs
  let s := if status = 0x0E then s.count Reg.rtAborts else if status = 0x0F then s.count Reg.rtFaults else s
  match j.owner with
  | .host n =>
    let s := (s.putN (Reg.jobState n) 4).putN (Reg.jobStatus n) status
    let s := if status = 0 then (s.putO (Reg.jobOutA n) outA).putO (Reg.jobOutB n) outB
      else (s.clear (Reg.jobOutA n)).clear (Reg.jobOutB n)
    s.raise 0x070501 0x170000 (n * 1048576 + j.op % 16 * 65536 + status * 256 + s.num (Reg.jobSeq n) % 256)
  | .closed n seq => s.raise 0x070501 0x170000 (n * 1048576 + j.op % 16 * 65536 + status * 256 + seq % 256)
  | _ => s

/-- The running job stops and its operands are being erased (R645). -/
def State.jobStop (s : State) : State :=
  match s.retort.running with
  | none => s
  | some j =>
    let s : State := { s with retort := { s.retort with running := none, clearing := some j, since := s.time.elapsed } }
    match j.owner with
    | .host n => s.putN (Reg.jobState n) 3
    | _ => s

/-- A session's host job aborted (R645, R646): removed from the queue, or stopped. -/
def State.jobAbort (s : State) (n : Nat) : State :=
  match s.retort.queue.find? (fun j => j.owner == .host n) with
  | some j =>
    ({ s with retort := { s.retort with queue := s.retort.queue.filter (fun x => x.owner != .host n) } } : State).jobDone
      j 0x0E [] []
  | none =>
    match s.retort.running with
    | some j => if j.owner = .host n then s.jobStop else s
    | none => s

/-! Zeroisation (R236, R451, R646, R672) -/

/-- A blob staging slot emptied. -/
def State.blobEmpty (s : State) (row : Nat) : State := (s.clearRow 0x4800 row).bumpVersion 0x4800 row

/-- A stream row emptied: key and fields erased; FN_CTRL keeps its code (R777). -/
def State.streamEmpty (s : State) (n : Nat) : State := (s.clearRow 0x4700 n).bumpVersion 0x4700 n

/-- ZEROISE_WORKING: every SA row, blob staging slot and stream EMPTY, every stream function STOPPED, frames in the
sector engines discarded, working keys of every session erased, Retort jobs aborted. -/
def State.zeroiseWorking (s : State) : State :=
  let s := forEach (s.rowsListed 0x4000) (fun s sa => if s.rowState 0x4000 sa = 0 then s else s.saEmpty sa) s
  let s := forEach (s.rowsListed 0x4800) (fun s r => if s.rowState 0x4800 r = 0 then s else s.blobEmpty r) s
  let s := forEach (s.rowsListed 0x4700) (fun s r => if s.rowState 0x4700 r = 0 then s else s.streamEmpty r) s
  let s := forEach (s.rowsListed 0x4700) (fun s r => s.clear (fnStateKey (.stream r))) s
  let s := { s with drains := s.drains.filter (fun d => match d.1 with | .stream _ => false | _ => true) }
  let s := forEach (List.range s.nBolts) (fun s b =>
    forEach [Pipe.e, Pipe.d] (fun s pi =>
      let ps := s.pipe b pi
      let engine := fun (f : Frame) => f.stage == .waitSector && f.stream.isSome
      let gone := (s.piped b pi).filter engine
      let s := s.setPipe b pi { ps with fifo := ps.fifo.filter (fun f => !engine f), after := ps.after.filter (fun f => !engine f) }
      forEach gone (fun s f =>
        let s := match f.stream with | some n => s.count (Reg.ssDiscards n) | none => s
        s.dropFinal { f with sa := none }) s) s) s
  let s := forEach (List.range 9) (fun s n =>
    (s.clear (.ses n 0x480011)).clear (Reg.legacyKey n)) s
  let s := s.jobStop
  let s := forEach (List.range 9) (fun s n => s.jobAbort n) s
  forEach (List.range 9) (fun s n => (s.clear (Reg.jobOutA n)).clear (Reg.jobOutB n)) s

/-! Life cycle (R593 to R596, R610) -/

/-- Every credential slot emptied, and recorded (R610). -/
def State.emptyCreds (s : State) : State :=
  (s.clearWhere (fun k => match k with | .dev a => decide (0x1380 ≤ a / 256 ∧ a / 256 < 0x1390) | _ => false)).record

/-- A transition made: the codeword burned to the target's, event 0x0B_0001, any certificate ended; leaving TEST_OPEN
closes its flag and empties the credential slots (R593 to R595, R610). -/
def State.lcMove (s : State) (target : Nat) : State :=
  let old := s.lc
  let s : State := { s with otp := { s.otp with codeword := s.otp.codeword ||| BitVec.ofNat 32 (lcCodeword target) } }
  let s : State := { s with trust := { s.trust with testOpen := target == 2 } }
  let s := if old = 2 then s.emptyCreds else s
  let s := s.raise 0x0B0001 0x130000 (old * 1048576 + target * 65536)
  s.certEnd 3

/-- Ember erased: every bit of both slots and markers burned to 1 (R596). -/
def State.emberErase (s : State) : State :=
  { s with otp := { s.otp with ember0 := BitVec.allOnes 256, ember1 := BitVec.allOnes 256, marker0 := 0xFF#8, marker1 := 0xFF#8 } }

/-- A transition into RETURN or END with its erasures (R596); the device is unhealthy from then on (R717). -/
def State.withdraw (s : State) (target : Nat) : State := ((s.zeroiseWorking.emberErase).lcMove target).healthCheck

/-! Credentials (R607) -/

/-- A credential's roles, Ed25519 key and ML-DSA-65 key, none for an empty slot (R608). -/
def State.cred (s : State) (c : Nat) : Option (Nat × Octets × Octets) :=
  let v := s.oct (Reg.credEnrol c)
  if c < 16 ∧ v.length = 2000 then some ((v.getD 0 0).toNat, (v.drop 16).take 32, v.drop 48) else none

/-- Whether an enrolled credential holds a role bit. -/
def State.credHas (s : State) (c role : Nat) : Bool :=
  match s.cred c with
  | some (r, _, _) => bit r role
  | none => false

/-- The number of credentials with the dual-control role. -/
def State.dcCreds (s : State) : Nat := ((List.range 16).filter (fun c => s.credHas c 1)).length

/-- Both signature halves of a credential verify over a digest (R152). -/
def State.credSigned (s : State) (c : Nat) (digest sigEd sigMl : Octets) : Bool :=
  match s.cred c with
  | some (_, ed, ml) => edVerify ed digest sigEd && mlVerify ml digest sigMl
  | none => false

/-- Whether the session is held by a credential with a role; on session 0 there is none. -/
def State.sessHas (s : State) (n role : Nat) : Bool := n != 0 && s.credHas (s.num (Reg.sessCred n)) role

/-- The revocation of a Rymin key index: role 0 firmware, 1 device CA, 2 debug (R590, R591). -/
def State.revoked (s : State) (purpose index : Nat) : Bool := bit s.otp.revoked.toNat ((2 - purpose) * 4 + index)

/-- A Rymin signature pair counts (R590). -/
def State.ryminSigned (s : State) (purpose index : Nat) (digest sigEd sigMl : Octets) : Bool :=
  decide (index < 4) && !s.revoked purpose index
    && edVerify (Config.ryminEd (purpose * 4 + index)) digest sigEd
    && mlVerify (Config.ryminMl (purpose * 4 + index)) digest sigMl

end Sys2Proof.Machine
end

