-- ==== Sys2Proof/Machine/Alarm.lean ====
section
/-! DEFINITION. Machine/Alarm.lean: alarms and their responses (R669 to R676, R683 to R686), Flue events (R679 to R681)
and side-memory tag failures (R660). -/

namespace Sys2Proof.Machine

/-- One evidence bit burned for a Flue alarm in ISSUED or SERVICE (R684): whether it was, and the state. -/
def State.evidence (s : State) (a : Nat) : Bool × State :=
  if a ≤ 5 ∧ (s.lc = 4 ∨ s.lc = 5) then
    match (List.range 256).find? (fun i => !bit s.otp.evidence.toNat i) with
    | some i =>
      (true, { s with otp := { s.otp with evidence := s.otp.evidence ||| BitVec.ofNat 256 (2 ^ i) } })
    | none => (false, s)
  else (false, s)

/-- Whether all evidence bits are burned (R686). -/
def State.evidenceFull (s : State) : Bool := s.evidenceCount == 256

/-- HOLD_CHANGES comes into force: every outstanding proposal ends (R160, R672, R674). -/
def State.holdOn (s : State) : State :=
  if s.hold then s else (s.putN Reg.almHold 1).endProposals 4

/-- Every RUNNING stream becomes STOPPED and keeps its key (R672). -/
def State.stopStreams (s : State) : State :=
  forEach (s.rowsListed 0x4700) (fun s n => if s.running (.stream n) then s.putN (fnStateKey (.stream n)) 0 else s) s

/-- A response applied (R672 to R674): its code, and the bolts that SUSPEND_KEYS affects. -/
def State.respond (s : State) (resp bolts : Nat) : State :=
  let s : State := { s with alarm := { s.alarm with worst := max s.alarm.worst resp } }
  let s := if 1 ≤ resp then s.holdOn else s
  let s := if resp = 2 then
      (forEach (s.rowsListed 0x4000) (fun s sa => if bit bolts (boltOfSa sa) then s.saSuspend sa else s) s).stopStreams
    else s
  let s := if resp = 3 then s.zeroiseWorking
    else if 4 ≤ resp then
      if s.lc = 4 ∨ s.lc = 5 then
        let s := s.withdraw 6
        { s with alarm := { s.alarm with kduStopped := true } }
      else s.zeroiseWorking
    else s
  s.healthCheck

/-- The record of an alarm (R695): the response applied, evidence, deferral, and alarm 5's kind. -/
def alarmDetail (r : AlarmRec) (resp : Nat) : Nat :=
  let b2n := fun (x : Bool) => if x then 1 else 0
  r.alarm * 1048576 + resp * 131072 + b2n r.burned * 65536 + b2n r.full * 32768 + b2n r.deferred * 16384
    + r.kind % 8 * 2048 + b2n r.selfTest * 1024

/-- Alarm records entered in ascending alarm number with one time (R676). -/
def State.enterAlarms (s : State) (recs : List AlarmRec) (time resp : Nat) : State :=
  forEach (List.range 9) (fun s a =>
    forEach (recs.filter (fun r => r.alarm == a)) (fun s r => s.enter 0x080001 time ((0x1420 + a) * 256) (alarmDetail r resp)) s) s

/-- The response armed most severely among alarms of one period, and the bolts it affects (R676). -/
def State.armed (s : State) (recs : List AlarmRec) : Nat × Nat :=
  (recs.foldl (fun m r => max m (s.num (Reg.almResp r.alarm))) 0,
   recs.foldl (fun m r => if 2 ≤ s.num (Reg.almResp r.alarm) then m ||| s.num (Reg.almBolts r.alarm) else m) 0)

/-- The alarms of one period with the evidence bits they burned taken in ascending alarm number (R684). -/
def burnOrder (recs : List AlarmRec) : List AlarmRec :=
  let flue := recs.filter (fun r => decide (r.alarm ≤ 5))
  let sorted := (List.range 6).flatMap (fun a => flue.filter (fun r => r.alarm == a))
  List.zipWith (fun r f => { r with burned := f.burned, full := f.full }) sorted flue ++ recs.filter (fun r => decide (5 < r.alarm))

/-- The alarms of a period that has closed are answered together: records, then the most severe response armed among
them, on the union of the bolts (R676). -/
def State.closePeriod (s : State) : State :=
  if s.alarm.raised = [] then s
  else
    let recs := burnOrder s.alarm.raised
    let (resp, bolts) := s.armed recs
    let time := s.alarm.time
    let s : State := { s with alarm := { s.alarm with raised := [] } }
    (s.enterAlarms recs time resp).respond resp bolts

/-- Alarm a is raised (R669, R670): its count, pending bit and instant, the evidence bit, and its place in the period
of the alarm unit under way (R676). Before the configuration is loaded it is deferred (R683). -/
def State.raiseAlarm (s : State) (a kind : Nat) (selfTest : Bool) : State :=
  let (burned, s) := s.evidence a
  let fullNow := s.evidenceFull
  let s := if burned && fullNow then s.raise 0x080002 0x141000 0 else s
  let r : AlarmRec := ⟨s.alarm.clock / 100, a, burned, fullNow, s.phase != .ready, kind, selfTest⟩
  if s.phase = .ready then
    let s := s.count (Reg.almCount a)
    let s := s.putN Reg.almPending (setBit (s.num Reg.almPending) a true)
    if s.alarm.raised ≠ [] ∧ s.alarm.period = s.alarm.clock / 100 then
      let s := s.putN (Reg.almLast a) s.alarm.time
      { s with alarm := { s.alarm with raised := s.alarm.raised ++ [r] } }
    else
      let s := s.closePeriod
      let s := s.putN (Reg.almLast a) s.now96
      { s with alarm := { s.alarm with raised := [r], period := s.alarm.clock / 100, time := s.now96 } }
  else { s with alarm := { s.alarm with deferred := s.alarm.deferred ++ [r] } }

/-- The alarms deferred before the configuration was loaded are answered (R683): those of one period together, and when
the event queue starts their records at that instant, marked deferred. -/
def State.answerDeferred (s : State) : State :=
  let recs := s.alarm.deferred
  if recs = [] then s
  else
    let s : State := { s with alarm := { s.alarm with deferred := [] } }
    let groups := ((recs.map (fun r => r.period)).dedup).map (fun p =>
      let g := burnOrder (recs.filter (fun r => r.period == p))
      (p, g, s.armed g))
    let s := forEach recs (fun s r =>
      let s := s.count (Reg.almCount r.alarm)
      let s := s.putN Reg.almPending (setBit (s.num Reg.almPending) r.alarm true)
      s.putN (Reg.almLast r.alarm) s.now96) s
    let s := forEach recs (fun s r => if r.burned && r.full then s.raise 0x080002 0x141000 0 else s) s
    let s := forEach groups (fun s g => s.enterAlarms g.2.1 s.now96 g.2.2.1) s
    forEach groups (fun s g => s.respond g.2.2.1 g.2.2.2) s

/-! Flue (R679 to R681) -/

def State.flueKind (s : State) (k : Nat) : FlueKind := s.flue.getD k {}
def State.setFlue (s : State) (k : Nat) (x : FlueKind) : State := { s with flue := s.flue.put k x }

/-- The filter of FLUE_N events less than FLUE_W µs apart (R680): whether the event at t completes a run, and the
instants still held. -/
def filterEvent (n w : Nat) (window : List Nat) (t : Nat) : Bool × List Nat :=
  let live := (window ++ [t]).filter (fun x => decide (t < x + w * 1000))
  if n ≤ live.length then (true, []) else (false, live)

/-- A monitor event of kind k at instant t (R680). -/
def State.flueEvent (s : State) (k t : Nat) : State :=
  let s := s.count (Reg.flueEvents k)
  let x := s.flueKind k
  let (hit, win) := filterEvent (s.num (Reg.flueN k)) (s.num (Reg.flueW k)) x.window t
  let s := s.setFlue k { x with window := win }
  if hit then s.raiseAlarm k 0 false else s

/-- A lone event of kind k whose first firing was at t (R681). -/
def State.flueLone (s : State) (k t : Nat) (detB : Bool) : State :=
  let s := s.count (if detB then Reg.flueLoneB k else Reg.flueLoneA k)
  let x := s.flueKind k
  let (hit, win) := filterEvent (s.num (Reg.flueN k)) (s.num (Reg.flueW k)) x.lone t
  let s := s.setFlue k { x with lone := win }
  if hit then s.raiseAlarm 5 k false else s

/-! Side memory -/

/-- A line that fails its tag twice as it is read, or as a partial write reads it (R660, R661, R668): counted, event
0x08_0201, alarm 7. -/
def State.tagFailure (s : State) (r k : Nat) (part : Bool) : State :=
  let x := s.sm.getD r {}
  let s : State := if x.bad.contains k then s else { s with sm := s.sm.put r { x with bad := x.bad ++ [k] } }
  ((s.count Reg.smTagFails).raise 0x080201 ((0x1610 + r) * 256)
    (r * 2097152 + (if part then 1048576 else 0) + k % 1048576)).raiseAlarm 7 0 false

/-- The lines that refused a log record are reported (R661), when time next passes (log entry 107). -/
def State.badLogged (s : State) : State :=
  forEach s.events.badLog (fun s x => s.tagFailure x.1 x.2 true) { s with events := { s.events with badLog := [] } }

end Sys2Proof.Machine
end

