-- ==== Sys2Proof/Machine/Requests.lean ====
section
/-! DEFINITION. Machine/Requests.lean: what decides whether a host request is executed (R107 to R141): which objects
exist (R11, R12, R101, R331), access codes, the owning function of an RWS object, holds and locks, and the answer. -/

namespace Sys2Proof.Machine

/-! Existence -/

/-- The kinds of port that an object of a port exists on, none where every kind has it (R238, R330, R331, R396, R428,
R493, R552, R587). -/
def kindsOf (k sub : Nat) : Option (List Nat) :=
  if k = 0 then
    if sub = 0x11 ∨ sub = 0x12 ∨ sub = 0x28 ∨ sub = 0x29 then some [1, 3]
    else if sub = 0x13 then some [2, 3]
    else if sub = 0x14 then some [2]
    else if sub = 0x16 then some [1]
    else if sub = 0x17 then some [1, 2]
    else if 0x18 ≤ sub ∧ sub ≤ 0x1E then some [1]
    else if sub = 0x1F ∨ sub = 0x24 ∨ sub = 0x25 then some [3]
    else if sub = 0x26 then some [1, 2, 3]
    else if sub = 0x27 ∨ sub = 0x2B then some [1, 2, 3, 4]
    else if 0x30 ≤ sub ∧ sub ≤ 0x36 then some [4]
    else none
  else if k = 1 then
    if sub = 0x10 then some [1, 2, 3]
    else if 0x13 ≤ sub ∧ sub ≤ 0x15 then some [1]
    else if 0x30 ≤ sub ∧ sub ≤ 0x35 then some [4]
    else none
  else if k = 2 then
    if (0x30 ≤ sub ∧ sub ≤ 0x37) ∨ (0x40 ≤ sub ∧ sub ≤ 0x47) then some [4]
    else if sub = 0x50 then some [0, 1, 2, 3]
    else none
  else
    if 0x10 ≤ sub ∧ sub ≤ 0x18 then some [3]
    else if 0x20 ≤ sub ∧ sub ≤ 0x29 then some [4]
    else if 0x40 ≤ sub ∧ sub ≤ 0x4C then some [0, 1, 2, 3]
    else none

/-- The objects of a port that belong to the Twill framer (R11, R238, R396, R428). -/
def tribObject (k sub : Nat) : Bool :=
  (k == 0 && decide (0x30 ≤ sub ∧ sub ≤ 0x36)) || (k == 1 && decide (0x30 ≤ sub ∧ sub ≤ 0x35))
    || (k == 2 && decide ((0x30 ≤ sub ∧ sub ≤ 0x37) ∨ (0x40 ≤ sub ∧ sub ≤ 0x47)))
    || (k == 3 && decide (0x20 ≤ sub ∧ sub ≤ 0x29))

/-- Whether the part has the unit of an object (R11). -/
def State.fitted (s : State) (addr : Nat) : Bool :=
  let idx := addr / 256
  let sub := addr % 256
  if 0x3000 ≤ idx ∧ idx < 0x4000 then
    let p := (idx - 0x3000) / 4
    let k := (idx - 0x3000) % 4
    decide (p < s.nPorts) && (s.hasGingham || !((k == 3 && decide (0x43 ≤ sub ∧ sub ≤ 0x4C)) || (k == 2 && sub == 0x50)))
      && (s.hasTwill || !tribObject k sub)
  else if 0x2000 ≤ idx ∧ idx < 0x2800 then
    let off := idx % 256
    decide ((idx - 0x2000) / 256 < s.nBolts)
      && (s.hasSector || off != 0x0D)
      && (s.hasTwill || !(decide (0x1F ≤ off ∧ off < 0x28)))
  else if idx = 0x4400 then s.hasTwill
  else if idx = 0x4600 then s.hasGingham
  else if idx = 0x4700 then s.hasSector
  else if 0x1900 ≤ idx ∧ idx < 0x1A00 then
    s.lanePresent (idx - 0x1900) && (s.hasCtle || (sub != 0x14 && sub != 0x25))
  else if 0x1600 ≤ idx ∧ idx < 0x1602 then decide (idx - 0x1600 < s.part.sideChannels)
  else if 0x1610 ≤ idx ∧ idx < 0x1622 then decide (0 < s.part.sideChannels)
  else if addr = 0x100104 then decide (0 < s.part.sideChannels)
  else if addr = 0x100105 then decide (1 < s.part.sideChannels)
  else if 0x1810 ≤ idx ∧ idx < 0x1818 then decide (idx - 0x1810 < s.nBolts)
  else true

/-- What the life-cycle state lets a debug certificate grant (R597, R617). -/
def State.rightsAllowed (s : State) : Nat :=
  let lc := s.lc
  if lc = 0 then 0x1F else if lc = 2 then 0x7F else if lc = 3 ∨ lc = 6 then 0x1F
  else if lc = 4 ∨ lc = 5 then 0x0F else if lc = 1 then 0x40 else 0

/-- Whether device time lies in a certificate's window (R22, R622). -/
def State.inWindow (s : State) (c : Cert) : Bool := decide (c.notBefore ≤ s.nowNs ∧ s.nowNs < c.notAfter)

/-- The debug rights in force, after R617 (R597, R618, R622). -/
def State.rightsNow (s : State) : Nat :=
  if s.lc = 0 then 0x1F
  else match s.trust.cert with
    | some c => if s.inWindow c then c.rights &&& s.rightsAllowed else 0
    | none => 0

/-- The debug rights of a session: a certificate's are those of the session that accepted it (R621). -/
def State.rightsOf (s : State) (n : Nat) : Nat :=
  if s.lc = 0 then 0x1F
  else match s.trust.cert with
    | some c => if c.sess = n then s.rightsNow else 0
    | none => 0

/-- The abort that a session meets at an object that does not exist or that it cannot reach, none where it exists (R12, R101,
R102, R331). -/
def State.missing (s : State) (n addr : Nat) : Option Nat :=
  let idx := addr / 256
  if 0x6000 ≤ idx ∧ idx < 0x7000 then
    if s.lc = 2 ∧ bit (s.rightsOf n) 5 = true then none else some 0x110003
  else match Dict.entry addr with
    | none => some 0x100001
    | some _ =>
      if s.fitted addr = false then some 0x100001
      else if 0x3000 ≤ idx ∧ idx < 0x4000 then
        match kindsOf ((idx - 0x3000) % 4) (addr % 256) with
        | none => none
        | some ks => if ks.contains (s.kind ((idx - 0x3000) / 4)) then none else some 0x130021
      else none

/-! Access (R107, R108, R128) -/

/-- The function that owns an RWS object (R330, R238, R396, R486, R520, R667). -/
def ownerOf (addr : Nat) : Option Fn :=
  let idx := addr / 256
  let sub := addr % 256
  if 0x3000 ≤ idx ∧ idx < 0x4000 then
    let p := (idx - 0x3000) / 4
    if (idx - 0x3000) % 4 = 3 ∧ (sub = 0x40 ∨ sub = 0x43) then some (.sched p)
    else if (idx - 0x3000) % 4 = 3 ∧ (sub = 0x44 ∨ sub = 0x45 ∨ sub = 0x46) then some (.gate p)
    else some (.port p)
  else if 0x1900 ≤ idx ∧ idx < 0x1A00 then some (.lane (idx - 0x1900))
  else if 0x1610 ≤ idx ∧ idx < 0x1618 then some (.range (idx - 0x1610))
  else none

/-- The refusal of a change that needs a function STOPPED (R107, R123, R128). -/
def State.notStopped (s : State) (f : Fn) : Option Nat :=
  let st := s.fnState f
  if st = 0 then none else if st = 4 then some 0x120002 else some 0x120001

/-- The abort of an access code. CRED_ENROL is refused here as every DC object; R609 is its own command. -/
def State.accessAbort (s : State) (addr : Nat) (write : Bool) : Option Nat :=
  match Dict.entry addr with
  | none => none
  | some e =>
    if write then
      match e.acc with
      | .ro => some 0x110001
      | .dc => some 0x140001
      | .rws => match ownerOf addr with | some f => s.notStopped f | none => none
      | _ => none
    else match e.acc with
      | .wo => some 0x110002
      | _ => none

/-! Holds and locks -/

/-- The bit of the right that opens a raw memory (R617, R618): 0 SA store, 1 OTP, 2 table SRAMs, 3 side memory, 4 boot
store, 5 the banked Hearth core. -/
def memRight (mem : Nat) : Nat :=
  if mem = 0 ∨ mem = 2 then 0 else if mem = 3 then 1 else if mem = 4 then 2 else if mem = 1 then 3 else 4

/-- Whether a debug certificate in force, accepted by the session, opens a raw memory of R623. -/
def State.certOpens (s : State) (n mem : Nat) : Bool :=
  decide (mem < 5) && (match s.trust.cert with
    | some c => c.sess == n && s.inWindow c && bit (c.rights &&& s.rightsAllowed) (memRight mem)
    | none => false)

/-- A session's writes and commands that HOLD_CHANGES leaves open (R141). -/
def State.holdFree (s : State) (n addr v : Nat) : Bool :=
  let idx := addr / 256
  let sub := addr % 256
  decide (0x1400 ≤ idx ∧ idx < 0x1500)
    || (decide (0x4000 ≤ idx ∧ idx < 0x4900) &&
        (sub == 1 || (sub == 5 && (v == 1 || v == 5 || v == 6)) || (decide (0x10 ≤ sub) && addr != 0x480015)))
    || [Reg.trSelSeq 0, Reg.smAccRange 0, Reg.smAccOff 0, Reg.stmtNonce 0].contains (.ses 0 addr)
    || Key.dev addr == Reg.stmtGo
    || (Key.dev addr == Reg.dbgMem && s.certOpens n v) || (Key.dev addr == Reg.dbgAddr && s.certOpens n (s.num Reg.dbgMem))
    || (decide (0x1210 ≤ idx ∧ idx < 0x1214) && sub == 6)

/-- Items of R704, whose change a Banked device refuses while linked (R707). -/
def mirroredItem (addr v : Nat) : Bool :=
  let idx := addr / 256
  let sub := addr % 256
  (decide (idx = 0x4000 ∨ idx = 0x4100 ∨ idx = 0x4600) && sub == 5 && (v == 2 || v == 3 || v == 4))
    || (decide (0x3000 ≤ idx ∧ idx < 0x4000 ∧ (idx - 0x3000) % 4 = 3) &&
        decide ((0x11 ≤ sub ∧ sub ≤ 0x15) ∨ (0x20 ≤ sub ∧ sub ≤ 0x24) ∨ sub = 0x44 ∨ sub = 0x45 ∨ sub = 0x46))
    || (decide (0x2000 ≤ idx ∧ idx < 0x2800) && Key.dev addr == Reg.bPolicyActive ((idx - 0x2000) / 256))

/-- The objects reachable before authentication (R10). -/
def identityObject (addr : Nat) : Bool := decide (0x100001 ≤ addr ∧ addr ≤ 0x100004)

/-- What a device with an INVALID codeword lets session 0 reach (R597). -/
def invalidReach (addr : Nat) : Bool :=
  identityObject addr || [Reg.lcState, Reg.lcCodeword, Reg.lcResume, Reg.lcRequest].contains (.dev addr)

/-- What Kindling recovery lets session 0 reach (R614). -/
def recoveryReach (addr : Nat) (write : Bool) (v : Nat) : Bool :=
  identityObject addr || [Reg.lcState, Reg.fwStep, Reg.imageSlotState 0, Reg.imageSlotState 1, Reg.fwChunkOff,
    Reg.fwChunk].contains (.dev addr) || (Key.dev addr == Reg.fwCmd && (!write || v == 1 || v == 8))

/-- Whether a session is open (R140): session 0 always. -/
def State.open? (s : State) (n : Nat) : Bool := n == 0 || (decide (n < 9) && s.num (Reg.sessState n) == 2)

/-- Every abort that a request meets before its own effect is considered (R139), those of one kind in the order in which they
are returned (log entry 124). `v` is the number written. The abort of recovery for what it does not reach is log entry 17. -/
def State.admission (s : State) (sess addr : Nat) (write : Bool) (v : Nat) : List (Option Nat) :=
  [ abortIf (s.hearth.gap || s.hearth.restarting) 0x170001,
    abortIf (!s.open? sess && !(identityObject addr && !write)) 0x150002,
    s.missing sess addr,
    abortIf (s.lc == 15 && !invalidReach addr) 0x110003,
    abortIf (s.phase == .recovery && !recoveryReach addr write v) 0x110003,
    abortIf (sess == 0 && s.num Reg.i3cAccess == 1 && write) 0x110005,
    abortIf (sess == 0 && s.num Reg.i3cAccess == 2 && !(identityObject addr && !write)) 0x110005,
    s.accessAbort addr write,
    abortIf (write && s.hold && !s.holdFree sess addr v) 0x120005,
    abortIf (write && s.mirroredHere && mirroredItem addr v) 0x1200B1 ]

/-- A request under its admission: refused by the first abort of R139, or its effect. -/
def State.request (s : State) (sess addr : Nat) (write : Bool) (v : Nat) (form : Option Nat) (eff : Eff) : Eff :=
  underAborts s (s.admission sess addr write v ++ [form]) eff

/-- The abort of a request's signature check, or of its Retort job where that ends in FAULT (R644). -/
def State.jobAbortOr (s : State) (c : Option Nat) : Option Nat := if s.retort.disagree then some 0x180040 else c

/-- A request that has had `k` Retort jobs of its own, the first an operation `op`: they are counted, or their FAULT is, with
event 0x08_0101 and alarm 6 (R643, R644, R650, log entry 79). -/
def withJobs (op k : Nat) (r : Eff) : Eff :=
  match r.2 with
  | .ok => (r.1.countBy Reg.rtJobs k, r.2)
  | .value _ => r
  | .abort c =>
    if c = 0x180040 then
      let s : State := { r.1 with retort := { r.1.retort with disagree := false } }
      let s := (s.count Reg.rtJobs).count Reg.rtFaults
      ((s.raise 0x080101 0x170000 (0xF * 1048576 + op % 16 * 65536)).raiseAlarm 6 0 false, r.2)
    else if c = 0x140002 ∨ c = 0x140005 ∨ c = 0x140036 then (r.1.countBy Reg.rtJobs k, r.2)
    else r

/-- Whether a session's requests reach Hearth at all (R614, R762). -/
def State.answers (s : State) (sess : Nat) : Bool :=
  s.phase == .ready || (s.phase == .recovery && sess == 0)

/-- The state with a request answered: the answer held in its session, and the request counted unless Hearth was busy
(R562, R586; log entry 16). -/
def answered (sess : Nat) (r : Eff) : State :=
  let t := r.1
  let t := t.setSession sess { t.session sess with answer := some r.2 }
  if r.2 = .abort 0x170001 then t else t.count (Reg.sessRequests sess)

end Sys2Proof.Machine
end

