-- ==== Sys2Proof/Machine/Client.lean ====
section
/-! DEFINITION. Machine/Client.lean: the bytes of frames (header parse, policy keys, PTP messages) and the client
stream of a Twill tributary: 64b/66b blocks and their transcoding into 257-bit units (R398, log entry 9). -/

namespace Sys2Proof.Machine

/-! Header fields -/

/-- `n` bytes of a frame from an offset as a number; bytes past its end are 0. -/
def fieldAt (bs : Octets) (off n : Nat) : Nat :=
  let got := (bs.drop off).take n
  bytesToNat (got ++ List.replicate (n - got.length) 0)

/-- Bytes of a frame replaced from an offset on. -/
def patchAt (bs : Octets) (off : Nat) (new : Octets) : Octets :=
  bs.take off ++ new ++ bs.drop (off + new.length)

def frameDst (bs : Octets) : Nat := fieldAt bs 0 6
def frameSrc (bs : Octets) : Nat := fieldAt bs 6 6

/-- Whether a MAC address has the group bit set. -/
def groupMac (mac : Nat) : Bool := bit mac 40

/-- The EtherTypes that begin a VLAN tag (log entry 18). -/
def vlanType (t : Nat) : Bool := t == 0x8100 || t == 0x88A8

/-- The offset of the EtherType after at most `n` VLAN tags from an offset on. -/
def etherAt (bs : Octets) : Nat → Nat → Nat
  | 0, off => off
  | n + 1, off => if vlanType (fieldAt bs off 2) then etherAt bs n (off + 4) else off

/-- The offset of the EtherType after all VLAN tags. -/
def etherOff (bs : Octets) : Nat := etherAt bs bs.length 12

/-- The outer VLAN tag, none for an untagged frame. -/
def outerTag (bs : Octets) : Option Nat := if vlanType (fieldAt bs 12 2) then some (fieldAt bs 14 2) else none

/-- The outer VLAN ID; 0 for untagged and priority-tagged frames. -/
def outerVid (bs : Octets) : Nat := match outerTag bs with | some t => t % 4096 | none => 0

/-- The PCP of the outer tag; 0 for an untagged frame (R363, R494). -/
def outerPcp (bs : Octets) : Nat := match outerTag bs with | some t => t / 8192 | none => 0

/-- The 160-bit policy key of a frame for one value of IP_SIDE (R296). -/
def policyKey (bs : Octets) (localPort side : Nat) : Nat :=
  let off := etherOff bs
  let et := fieldAt bs off 2
  let head := localPort % 128 * 2 ^ 153 + outerVid bs * 2 ^ 141
  if et = 0x0800 then head + 2 ^ 139 + side * 2 ^ 138 + fieldAt bs (off + 2 + (if side = 1 then 12 else 16)) 4 * 2 ^ 96
  else if et = 0x86DD then head + 2 * 2 ^ 139 + side * 2 ^ 138 + fieldAt bs (off + 2 + (if side = 1 then 8 else 24)) 16
  else head + side * 2 ^ 138 + et * 2 ^ 112

/-- Whether a frame matches an entry: against the key whose IP_SIDE equals the entry's own (R297). -/
def policyMatches (bs : Octets) (localPort key mask : Nat) : Bool :=
  (policyKey bs localPort (key / 2 ^ 138 % 2) ^^^ key) &&& mask == 0

/-! PTP event messages (R543, R544) -/

/-- Offset of the UDP header of a frame that can carry PTP over UDP port 319, with whether a zero checksum means none. -/
def udpOffset (bs : Octets) : Option (Nat × Bool) :=
  let off := etherAt bs 2 12
  let et := fieldAt bs off 2
  let ip := off + 2
  if et = 0x0800 ∧ fieldAt bs ip 1 = 0x45 ∧ fieldAt bs (ip + 9) 1 = 17 ∧ fieldAt bs (ip + 22) 2 = 319 then some (ip + 20, true)
  else if et = 0x86DD ∧ fieldAt bs (ip + 6) 1 = 17 ∧ fieldAt bs (ip + 42) 2 = 319 then some (ip + 40, false)
  else none

/-- Offset of the PTP header of a PTP event message (R543). -/
def ptpOffset (bs : Octets) : Option Nat :=
  let off := etherAt bs 2 12
  let h := if fieldAt bs off 2 = 0x88F7 then some (off + 2)
    else match udpOffset bs with | some (u, _) => some (u + 8) | none => none
  match h with
  | none => none
  | some o => if o + 34 ≤ bs.length ∧ fieldAt bs o 1 % 16 ≤ 3 ∧ fieldAt bs (o + 1) 1 % 16 = 2 then some o else none

/-- One's-complement addition of 16-bit words. -/
def onesAdd (a b : Nat) : Nat := (a + b) % 65536 + (a + b) / 65536

/-- The incremental checksum update of RFC 1624 over the words of a field that changes. -/
def checksumUpdate (hc : Nat) (old new : List Nat) : Nat :=
  let x := old.foldl (fun a w => onesAdd a (65535 - w)) (65535 - hc)
  65535 - new.foldl onesAdd x

/-- The four 16-bit words of a 64-bit number. -/
def words16 (n : Nat) : List Nat := [n / 2 ^ 48 % 65536, n / 2 ^ 32 % 65536, n / 65536 % 65536, n % 65536]

/-- A frame with a residence in 2^-16 ns added to its correctionField, and whether the field saturated (R544). -/
def correctFrame (bs : Octets) (o : Nat) (residence : Int) : Octets × Bool :=
  let old := fieldAt bs (o + 8) 8
  let signed : Int := if old < 2 ^ 63 then (old : Int) else (old : Int) - 2 ^ 64
  let sum := signed + residence
  let sat := decide (2 ^ 63 - 1 < sum)
  let new := if sat then 2 ^ 63 - 1 else (sum % 2 ^ 64).toNat
  let bs' := patchAt bs (o + 8) (natToBytes 8 new)
  match udpOffset bs with
  | some (u, zeroFree) =>
    let hc := fieldAt bs (u + 6) 2
    if zeroFree && hc == 0 then (bs', sat)
    else (patchAt bs' (u + 6) (natToBytes 2 (checksumUpdate hc (words16 old) (words16 new))), sat)
  | none => (bs', sat)

/-! The client stream (R398, R413): 64b/66b blocks as in IEEE 802.3 Clause 49, each a data flag and 8 bytes -/

/-- A 66-bit block: whether it is a data block, and its 64 bits as 8 bytes, the first byte the block type of a control
block. -/
abbrev Block66 := Bool × Octets

/-- The FCS of a frame's bytes as sent; every bit inverted where it is to be bad (R46). -/
def fcsBytes (bs : Octets) (bad : Bool) : Octets :=
  let c := crc32 bs
  leBytes 4 (if bad then 0xFFFFFFFF - c else c)

/-- A block of idle control characters, and the 66b error block. -/
def idleBlock : Block66 := (false, 0x1E#8 :: List.replicate 7 0)
def errorBlock : Block66 := (false, 0x1E#8 :: leBytes 7 (sumOf (fun i => 0x1E * 2 ^ (7 * i)) (List.range 8)))

/-- The block type of a terminate block with n data bytes before it. -/
def termType (n : Nat) : Nat := [0x87, 0x99, 0xAA, 0xB4, 0xCC, 0xD2, 0xE1, 0xFF].getD n 0x87

/-- Bytes as data blocks closed by a terminate block. -/
def dataBlocks : Nat → Octets → List Block66
  | 0, _ => []
  | n + 1, bs =>
    if 8 ≤ bs.length then (true, bs.take 8) :: dataBlocks n (bs.drop 8)
    else [(false, BitVec.ofNat 8 (termType bs.length) :: (bs ++ List.replicate (7 - bs.length) 0))]

/-- A frame as blocks: start with preamble, data and FCS, terminate, and one idle block. -/
def frameBlocks (bs : Octets) (bad : Bool) : List Block66 :=
  let all := bs ++ fcsBytes bs bad
  (false, 0x78#8 :: (List.replicate 6 0x55#8 ++ [0xD5#8])) :: dataBlocks (all.length + 1) all ++ [idleBlock]

/-! Transcoding into units (IEEE 802.3 Clause 91 without its header scrambling, log entry 9). Bits run in the order
they are sent: each byte least significant bit first; the first bit sent is bit 256 of the unit. -/

/-- The bits of bytes, each byte least significant bit first. -/
def lsbBits (bs : Octets) : List Bool := bs.flatMap (fun b => (List.range 8).map (fun i => bit b.toNat i))

/-- Bits as bytes, eight a byte, least significant first. -/
def lsbBytes : Nat → List Bool → Octets
  | 0, _ => []
  | n + 1, bs => BitVec.ofNat 8 (sumOf (fun i => if bs.getD i false then 2 ^ i else 0) (List.range 8)) :: lsbBytes n (bs.drop 8)

/-- Bits as a number, the first bit the most significant; and back over a width. -/
def bitsToNat (bs : List Bool) : Nat := bs.foldl (fun a b => 2 * a + (if b then 1 else 0)) 0
def natToBits : Nat → Nat → List Bool
  | 0, _ => []
  | n + 1, v => bit v n :: natToBits n v

/-- Four blocks as one 257-bit unit. -/
def transcode (blocks : List Block66) : Nat :=
  let flags := blocks.map (fun b => b.1)
  if flags.all (fun x => x) then bitsToNat (true :: blocks.flatMap (fun b => lsbBits b.2))
  else
    let c := flags.findIdx (fun x => !x)
    let payload := (List.range blocks.length).flatMap (fun i =>
      let bits := lsbBits (blocks.getD i idleBlock).2
      if i = c then bits.take 4 ++ bits.drop 8 else bits)
    bitsToNat (false :: flags ++ payload)

/-- The control block types, found from their low four bits. -/
def typeOfNibble (n : Nat) : Nat :=
  (([0x1E, 0x2D, 0x33, 0x4B, 0x55, 0x66, 0x78, 0x87, 0x99, 0xAA, 0xB4, 0xCC, 0xD2, 0xE1, 0xFF] : List Nat).find?
    (fun t => t % 16 == n)).getD 0

/-- A list cut at the given lengths. -/
def cutBits : List Nat → List Bool → List (List Bool)
  | [], _ => []
  | n :: ns, bs => bs.take n :: cutBits ns (bs.drop n)

/-- A unit as its four blocks; a control unit whose flags name no control block is four error blocks. -/
def detranscode (u : Nat) : List Block66 :=
  let bits := natToBits 257 u
  if bits.getD 0 false then (cutBits [64, 64, 64, 64] (bits.drop 1)).map (fun b => (true, lsbBytes 8 b))
  else
    let flags := (bits.drop 1).take 4
    if flags.all (fun x => x) then List.replicate 4 errorBlock
    else
      let c := flags.findIdx (fun x => !x)
      let parts := cutBits ((List.range 4).map (fun i => if i = c then 60 else 64)) (bits.drop 5)
      (List.range 4).map (fun i =>
        let b := parts.getD i []
        let b := if i = c then
            let t := typeOfNibble (sumOf (fun k => if b.getD k false then 2 ^ k else 0) (List.range 4))
            lsbBits [BitVec.ofNat 8 t] ++ b.drop 4
          else b
        (flags.getD i false, lsbBytes 8 b))

/-- Blocks as units, filled with idle blocks to a multiple of four (R398, R399). -/
def blockUnits : Nat → List Block66 → List Nat
  | 0, _ => []
  | n + 1, bs =>
    match bs with
    | [] => []
    | _ => transcode (bs.take 4 ++ List.replicate (4 - bs.length) idleBlock) :: blockUnits n (bs.drop 4)

def idleUnit : Nat := transcode (List.replicate 4 idleBlock)
def errorUnit : Nat := transcode (List.replicate 4 errorBlock)

/-- The bytes of 64 data units without their header bits, and units put together from headers and bytes. -/
def unitBytes (units : List Nat) : Octets := units.flatMap (fun u => natToBytes 32 (u % 2 ^ 256))
def joinUnits : List Nat → Octets → List Nat
  | [], _ => []
  | u :: us, bs => (u / 2 ^ 256 % 2 * 2 ^ 256 + bytesToNat (bs.take 32)) :: joinUnits us (bs.drop 32)

/-- The client frame being received: the timestamp of the unit of its first data byte (R535), and its bytes after its start
with the 7 bytes of preamble that remain. -/
abbrev ClientFrame := Nat × Octets

/-- A client frame that ended: its timestamp, its bytes with FCS, and whether an error was met. -/
abbrev ClientEnd := Nat × Octets × Bool

/-- Bytes of a unit with timestamp `ts` added to a client frame: its first data byte stands behind the preamble. -/
def ClientFrame.add (x : ClientFrame) (ts : Nat) (bytes : Octets) : ClientFrame :=
  (if x.2.length ≤ 7 ∧ 7 < x.2.length + bytes.length then ts else x.1, x.2 ++ bytes)

/-- A client frame as it ends. -/
def ClientFrame.ended (x : ClientFrame) (broken : Bool) : ClientEnd := (x.1, x.2.drop 7, broken)

/-- One block of a unit with timestamp `ts` taken by the decoder (R413): the frame in progress, and the frames that ended. -/
def clientBlock (cur : Option ClientFrame) (ts : Nat) (b : Block66) : Option ClientFrame × List ClientEnd :=
  let bytes := b.2
  let t := (bytes.getD 0 0).toNat
  if b.1 then
    match cur with
    | some x => (some (ClientFrame.add x ts bytes), [])
    | none => (none, [])
  else
    let broken : List ClientEnd := match cur with | some x => [ClientFrame.ended x true] | none => []
    if t = 0x78 then (some (ts, bytes.drop 1), broken)
    else if t = 0x33 ∨ t = 0x66 then (some (ts, bytes.drop 5), broken)
    else match ([0x87, 0x99, 0xAA, 0xB4, 0xCC, 0xD2, 0xE1, 0xFF] : List Nat).findIdx? (fun x => x == t) with
      | some n =>
        match cur with
        | some x => (none, [ClientFrame.ended (ClientFrame.add x ts ((bytes.drop 1).take n)) false])
        | none => (none, [])
      | none => (none, broken)

/-- Units with their timestamps decoded in order. -/
def clientUnits (cur : Option ClientFrame) (units : List (Nat × Nat)) : Option ClientFrame × List ClientEnd :=
  (units.flatMap (fun u => (detranscode u.1).map (fun b => (u.2, b)))).foldl (fun acc b =>
    let r := clientBlock acc.1 b.1 b.2
    (r.1, acc.2 ++ r.2)) (cur, [])

end Sys2Proof.Machine
end

