-- ==== Sys2Proof/Machine/EPipe.lean ====
section
/-! DEFINITION. Machine/EPipe.lean: the E-pipe from admission to the egress queue (R352, R361, R445), the lookups that
both pipes share (R296 to R303, R318), protection under an SA (R195, R345, R349) and the sector transform (R440 to
R448). -/

namespace Sys2Proof.Machine

/-! Lookups -/

/-- The rows of a bolt's active policy bank, in entry order (R301, R304). -/
def State.policyRows (s : State) (b : Nat) : List Nat :=
  (s.rowsListed 0x4200).filter (fun r => r / 4096 == 2 * b + s.num (Reg.bPolicyActive b))

/-- The policy entry a frame chooses (R297, R301, R303): error where a faulted entry might have matched first. -/
def policyScan (s : State) (bs : Octets) (localPort : Nat) : List Nat → Except Unit (Option Nat)
  | [] => .ok none
  | r :: rest =>
    if s.rowState 0x4200 r = 2 then .error ()
    else if s.rowState 0x4200 r = 1
        ∧ policyMatches bs localPort (bytesToNat (s.oct (Reg.pkKey r))) (bytesToNat (s.oct (Reg.pkMask r))) = true then .ok (some r)
    else policyScan s bs localPort rest

/-- What a frame's policy comes to (R352, R353) for its clear port: the entry, if one, with action (0 DISCARD, 1 PROTECT,
2 BYPASS, 3 SECTOR), queue and stream; or a discard with whether an entry's fault asks for it (R50) and the counter it
takes (log entry 19). -/
def State.policyPick (s : State) (clear : Nat) (bs : Octets) : Except (Bool × Key) (Option Nat × Nat × Nat × Nat) :=
  let b := boltOfPort clear
  match policyScan s bs (clear % 128) (s.policyRows b) with
  | .error _ => .error (true, Reg.pPolicyDiscards clear)
  | .ok (some r) => .ok (some r, s.num (Reg.pkAction r), s.num (Reg.pkQueue r), s.num (Reg.pkStream r))
  | .ok none =>
    if s.num (Reg.pNoMatch clear) = 0 then .error (false, Reg.pNoMatchDiscards clear)
    else
      let et := fieldAt bs (etherOff bs) 2
      let known := (List.range 16).any (fun i => s.num (boltKey b 0x0C (1 + i)) == et)
      if 0x600 ≤ et ∧ known = true then .ok (none, 1, outerPcp bs, 0xFFFF)
      else .error (false, Reg.pUnknownEtype clear)

/-- The policy of a frame in a pipe: the entry chosen is read and counts a hit (R298). -/
def State.policyOf (s : State) (pi : Pipe) (clear : Nat) (bs : Octets) :
    State × Except (Bool × Key) (Nat × Nat × Nat) :=
  match s.policyPick clear bs with
  | .error e => (s, .error e)
  | .ok (some r, x) => ((s.readRow (boltOfPort clear) pi 8 (2 + r / 4096 % 2) (r % 8192)).count (Reg.pkHits r), .ok x)
  | .ok (none, x) => (s, .ok x)

/-- The bucket of a station key (R288) and of an exact-match key. -/
def stationBucket (vid mac : Nat) : Nat := crc32 (natToBytes 2 (vid % 4096) ++ natToBytes 6 mac) % 8192
def emBucketOf (sci : Octets) (an : Nat) : Nat := crc32 (sci ++ natToBytes 1 an) % 4096

/-- The valid station row of a key in a bolt (R307, R319). -/
def State.stationFor (s : State) (b vid mac : Nat) : Option Nat :=
  (s.rowsListed 0x4300).find? (fun r => r / 65536 == b && s.rowState 0x4300 r == 1 && s.num (Reg.stnVid r) == vid
    && bytesToNat (s.oct (Reg.stnMac r)) == mac)

/-- Whether a frame leaving on a line port is looked up in the station table (R318). -/
def State.stationLooked (s : State) (line : Nat) (bs : Octets) : Bool :=
  s.kind line == 3 && s.num (Reg.pStnLearn line) == 1 && !groupMac (frameDst bs)

/-- The station row that a frame's lookup reads, recorded at point 8 (R40). -/
def State.stationRead (s : State) (line : Nat) (bs : Octets) : State :=
  match s.stationFor (boltOfPort line) (outerVid bs) (frameDst bs) with
  | some r => if s.stationLooked line bs then s.readRow (boltOfPort line) .e 8 4 (r % 65536) else s
  | none => s

/-- Whether STN_UNKNOWN discards a frame leaving on a line port (R318). -/
def State.unknownStation (s : State) (line : Nat) (bs : Octets) : Bool :=
  s.stationLooked line bs && s.num (Reg.pStnUnknown line) == 1
    && (match s.stationFor (boltOfPort line) (outerVid bs) (frameDst bs) with
        | some r => s.num (Reg.stnPort r) != line
        | none => true)

/-! Length limits (R193, R194) -/

/-- A frame discarded or ended under R193 or R442. -/
def State.lengthLimit (s : State) (b port : Nat) (pi : Pipe) (kind : Nat) : State :=
  ((s.count (Reg.bLenDiscards b)).count (Reg.pLenDiscards port)).raiseKeyed 0x020005 (port * 8 + kind) ((0x2000 + 0x100 * b) * 256)
    (port * 16384 + pipeNo pi * 8192 + kind * 1024)

/-! Sector streams (R440 to R448) -/

/-- The sector region of a frame: its offset, its length G (R441), and the sector size. -/
def State.sectorRegion (s : State) (n : Nat) (bs : Octets) : Nat × Int × Nat :=
  let origin := etherOff bs + 2
  (origin + s.num (Reg.ssDataOffset n),
    (bs.length : Int) - origin - s.num (Reg.ssDataOffset n) - s.num (Reg.ssTrailer n),
    if s.num (Reg.ssSectorSize n) = 0 then 512 else 4096)

/-- The event kind of a frame that is not delivered, none where it is (R442). A sector size that is neither of R435's makes data
units above 2^20 blocks. -/
def State.sectorFault (s : State) (n : Nat) (bs : Octets) : Option Nat :=
  let (_, g, size) := s.sectorRegion n bs
  if g ≤ 0 then none
  else if 1 < s.num (Reg.ssSectorSize n) then some 5
  else if g.toNat % size ≠ 0 then some 3
  else if 16 * size < g.toNat then some 4
  else none

/-- Whether a stream takes frames now: the counters besides SS_DISCARDS where it does not (R448). A faulted stream comes under
R50. -/
def State.sectorClosed (s : State) (n b : Nat) : Option (List Key) :=
  if s.rowState 0x4700 n = 2 then some []
  else if s.rowState 0x4700 n = 1 ∧ s.running (.stream n) = true then none
  else some [Reg.bSectorNotRunning b]

/-- The same for a frame that reaches the engine, where a draining stream still completes what it has (R124, R448). -/
def State.engineClosed (s : State) (n b : Nat) : Option (List Key) :=
  if s.rowState 0x4700 n = 1 ∧ s.fnLive (.stream n) = true then none else s.sectorClosed n b

/-- The sectors of a region transformed in order from a data-unit number on (R443). -/
def sectorLoop (enc : Bool) (key : Octets) (size : Nat) : Nat → Nat → Octets → Octets
  | 0, _, _ => []
  | k + 1, lba, bs => xts enc key (natToLe lba 16) (bs.take size) ++ sectorLoop enc key size k (lba + 1) (bs.drop size)

/-- A frame through the sector engine, with its counts (R442 to R444). -/
def State.sectorTransform (s : State) (n : Nat) (enc : Bool) (bs : Octets) : Octets × State :=
  let (off, g, size) := s.sectorRegion n bs
  if g ≤ 0 then (bs, s.count (Reg.ssNoSector n))
  else
    let k := g.toNat / size
    let field := ((bs.drop (etherOff bs + 2 + s.num (Reg.ssLbaOffset n))).take (s.num (Reg.ssLbaWidth n)))
    let lba := if s.num (Reg.ssLbaOrder n) = 0 then bytesToNat field else leNat field
    let out := sectorLoop enc (s.oct (.row 0x4700 n 0x100)) size k lba ((bs.drop off).take g.toNat)
    (patchAt bs off out, (s.count (if enc then Reg.ssFramesEnc n else Reg.ssFramesDec n)).countBy (Reg.ssSectors n) k)

/-! The transparent clock (R542 to R548) -/

/-- Whether a port is timing-enabled (R542). -/
def State.timingOn (s : State) (p : Nat) : Bool :=
  if s.kind p = 4 then s.num (Reg.pTribTiming p) == 1 else s.num (Reg.pTcEnable p) == 1

/-- 64 bit times of a port's link in 2^-16 ns, as a fraction; 0 on a tributary side (R537, R547). -/
def State.preamble (s : State) (p : Nat) : Int × Int :=
  let r := s.portRate p
  if s.kind p = 4 ∨ r = 0 then (0, 1) else (4194304000, r)

/-- The first fraction less the second, rounded to the nearest whole number. -/
def roundDiff (x y : Int × Int) : Int :=
  let den := x.2 * y.2
  (2 * (x.1 * y.2 - y.1 * x.2) + den) / (2 * den)

/-- The residence written for a frame (R547, R548), in 2^-16 ns. -/
def State.residence (s : State) (f : Frame) : Int :=
  if f.cls = 2 ∧ s.kind f.outPort ≠ 4 ∧ s.kind f.inPort ≠ 4 then
    s.num (Reg.pDetDelay f.outPort) * 65536 + roundDiff (s.preamble f.outPort) (s.preamble f.inPort)
  else (s.nowFine : Int) - f.rxTs + roundDiff (0, 1) (s.preamble f.inPort) + s.num (Reg.pTcTxAllow f.outPort) * 65536

/-- A PTP event message on a timing-enabled path has its correction field written (R542 to R546). -/
def State.correct (s : State) (f : Frame) : Frame × State :=
  match ptpOffset f.bytes with
  | none => (f, s)
  | some o =>
    if s.timingOn f.inPort && s.timingOn f.outPort && s.num (Reg.pXconnect f.inPort) == f.outPort then
      let r := s.residence f
      let (bs, sat) := correctFrame f.bytes o r
      ({ f with bytes := bs, tc := some r }, if sat then s.count (Reg.pTcSaturated f.outPort) else s)
    else (f, s)

/-! Protection (R195, R201 to R206, R241, R243, R345, R349) -/

/-- The SA under which a line port's next frame goes: the row, or the state with the discard counted (R205, R234,
R243). -/
def State.txSa (s : State) (p : Nat) : Except State Nat :=
  let b := boltOfPort p
  let sa := s.anBinding p
  if s.bindingCounts p sa = false then .error (s.count (Reg.bTxNoSa b))
  else
    let st := s.rowState 0x4000 sa
    if st = 2 then .error (s.count (Reg.bNotUsingSa b))
    else if st = 1 ∨ st = 3 then .ok sa
    else
      let s := (s.count (Reg.saDiscards sa)).count (Reg.bNotUsingSa b)
      .error (if st = 5 then s.count (Reg.bPnExhaustDiscards b) else s)

/-- The mark that a row's PN warning has been given (R202, R203). -/
def pnWarned (sa : Nat) : Key := .row 0x4000 sa 0x101

/-- The detail of events 0x02_0001 and 0x02_0002 (R224). -/
def State.pnDetail (s : State) (sa : Nat) : Nat :=
  (if s.num (Reg.saSuite sa) = 2 ∨ s.num (Reg.saSuite sa) = 3 then 8388608 else 0) + sa % 65536

/-- A transmit row's committed counter at or past its bolt's threshold: the warning, once for the SA (R202). -/
def State.pnWarn (s : State) (sa : Nat) : State :=
  let b := boltOfSa sa
  let xpn := decide (s.num (Reg.saSuite sa) = 2 ∨ s.num (Reg.saSuite sa) = 3)
  if s.num (if xpn then Reg.bPnWarnXpn b else Reg.bPnWarn32 b) ≤ s.num (Reg.saPn sa) ∧ s.num (pnWarned sa) = 0 then
    (s.putN (pnWarned sa) 1).raise 0x020001 0x400000 (s.pnDetail sa)
  else s

/-- A transmit row whose committed counter has reached E is EXHAUSTED (R204). -/
def State.pnExhaust (s : State) (sa : Nat) : State :=
  if suiteE (s.num (Reg.saSuite sa)) ≤ s.num (Reg.saPn sa) then (s.saSet sa 5).raise 0x020002 0x400000 (s.pnDetail sa) else s

/-- The next PN of a row taken: the committed counter advances, with the warning and exhaustion (R201 to R204). -/
def State.takePn (s : State) (sa : Nat) : Nat × State :=
  let pn := s.num (Reg.saPn sa)
  let s := s.putN (Reg.saPn sa) (pn + 1)
  let s := ((s.count (Reg.saOk sa)).saTouch sa).clear (unusedRow sa)
  (pn, (s.pnWarn sa).pnExhaust sa)

/-- The SecTAG of a frame (R345, R349); E and C are 1 for settings 0 to 2 (log entry 20). -/
def secTag (mode conf an sl pn : Nat) (sci : Octets) : Octets :=
  let tci := (if mode = 1 then 0x40 else if mode = 0 then 0x20 else 0) + (if conf = 3 then 0 else 0x0C) + an % 4
  natToBytes 2 0x88E5 ++ natToBytes 1 tci ++ natToBytes 1 sl ++ natToBytes 4 (pn % 2 ^ 32)
    ++ (if mode = 0 then sci else [])

/-- A frame protected under a row with a PN: SecTAG, encryption from the confidentiality offset on, ICV (R172, R195,
R349). `bs` runs from the destination address to before the FCS. -/
def State.protect (s : State) (p sa pn : Nat) (bs : Octets) : Octets :=
  let conf := s.num (Reg.saConf sa)
  let data := bs.drop 12
  let sci := s.oct (Reg.pTxSci p)
  let tag := secTag (s.num (Reg.pTxSciMode p)) conf (s.num (Reg.pTxAnInForce p)) (if data.length < 48 then data.length else 0) pn sci
  let off := if conf = 3 then data.length else min data.length (confOffset conf)
  let iv := s.saIv sa pn sci
  let head := bs.take 12 ++ tag ++ data.take off
  let ct := gcmCrypt (s.saKey sa) iv (data.drop off)
  head ++ ct ++ gcmTag (s.saKey sa) iv head ct

/-- The expansion of a protected frame on a line port (R351). -/
def State.expansion (s : State) (p : Nat) : Nat := if s.num (Reg.pTxSciMode p) = 0 then 32 else 24

/-! The crypto island of the E-pipe -/

/-- Panels closed out of the units of a tributary: those of 64 units, and the units left (R398, R399). -/
def closePanels : Nat → List (List Nat) → List Nat → List (List Nat) × List Nat
  | 0, closed, building => (closed, building)
  | n + 1, closed, building =>
    if 64 ≤ building.length then closePanels n (closed ++ [building.take 64]) (building.drop 64) else (closed, building)

/-- A closed panel enters the crypto island and passes it (R37, R47): its beats are poisoned where its number is. -/
def State.panelCloses (s : State) (p seq : Nat) (units : List Nat) : State :=
  let b := boltOfPort p
  let it := panelItem p seq ((s.trib p).poisoned.contains seq)
  ((s.deliver b .e 2 it (unitBytes units)).deliver b .e 3 it (unitBytes units)).pc b 0x012 1

/-- Panels that close in order, the first with a given number. -/
def State.panelsClose (s : State) (p : Nat) : Nat → List (List Nat) → State
  | _, [] => s
  | seq, us :: rest => (s.panelCloses p seq us).panelsClose p (seq + 1) rest

/-- A panel completed with units of idle control blocks. -/
def padPanel (units : List Nat) : List Nat := (units ++ List.replicate (64 - units.length) idleUnit).take 64

/-- Whether a whole frame waits to be added to a tributary's client stream: it is in the E-pipe (R398). -/
def State.frameWaits (s : State) (p : Nat) : Bool := (s.pipe (boltOfPort p) .e).fifo.any (fun f => f.outPort == p)

/-- Panels close ahead of transmission until two wait, where no whole frame waits to be added (R399); a test pattern is made
as it is sent (R401). -/
def State.closeAhead (s : State) (p : Nat) : Nat → State
  | 0 => s
  | n + 1 =>
    let t := s.trib p
    if s.num (Reg.pTribPayload p) = 2 ∨ 2 ≤ t.closed.length ∨ s.frameWaits p = true then s
    else
      let us := padPanel t.building
      let s := s.setTrib p { t with closed := t.closed ++ [us], building := [] }
      (s.panelCloses p (t.sent + t.closed.length) us).closeAhead p n

/-- The panels before the one being assembled that are not wholly sent: the one begun, and those closed. -/
def TribState.ahead (t : TribState) : Nat := (if t.line.isEmpty then 0 else 1) + t.closed.length

/-- A frame joins the client stream of its tributary. Its first data byte is in its first unit, behind the start block. -/
def State.tribAdd (s : State) (f : Frame) : State :=
  let p := f.outPort
  let t := s.trib p
  let blocks := frameBlocks f.bytes (f.bad || f.poison)
  let building := t.building ++ blockUnits blocks.length blocks
  let (closed, rest) := closePanels building.length t.closed building
  let s := s.setTrib p { t with closed := closed, building := rest, marks := t.marks ++ [(t.ahead, t.building.length, f)] }
  (s.panelsClose p (t.sent + t.closed.length) (closed.drop t.closed.length)).closeAhead p 2

/-- Bytes of a tributary's backlog (R400). -/
def TribState.backlog (t : TribState) : Nat := (64 * t.closed.length + t.building.length) * 32

/-- The pinned keystream of a frame that has passed the crypto island is given up (R215). -/
def State.unpinFrame (s : State) (f : Frame) : State :=
  match f.sa with
  | some sa => if f.pin then s.unpin f.b f.pipe sa f.pn else s
  | none => s

/-- A frame passes the E-pipe's output gate: to its queue, or into its tributary's client stream; where the tributary or its group
carries nothing any more it is discarded (R130). -/
def State.gateE (s : State) (f : Frame) : State :=
  let s := s.unpinFrame f
  let f := s.tracePoints { f with stage := .passed, pin := false } 4 5
  if s.kind f.outPort = 4 then
    if s.tribLive f.outPort then (s.tribAdd f).pauseAfter f
    else (s.count (Reg.pStoppedDiscards f.outPort)).dropFinal f
  else (s.crosses f 3 []).enqueue f

/-- Frames at the head of the E-pipe that can pass, in order (R60). -/
def State.drainE (s : State) (b : Nat) : Nat → State
  | 0 => s
  | n + 1 =>
    let ps := s.pipe b .e
    match ps.fifo with
    | [] => s
    | f :: rest => if f.stage = .passed then ((s.setPipe b .e { ps with fifo := rest }).gateE f).drainE b n else s

/-- The keystream blocks of the payload of a clear frame of `n` bytes under a row (R172). -/
def State.payloadBlocks (s : State) (sa n : Nat) : Nat :=
  let conf := s.num (Reg.saConf sa)
  if conf = 3 then 0 else (n - 12 - confOffset conf + 15) / 16

/-- The blocks issued for a frame (R62, log entry 11): on a hit what the slot does not hold, and the next counter's 8; on a miss
its own and those of `ahead` counters. -/
def blocksFor (c : Claim) (payload ahead : Nat) : Nat :=
  match c with
  | .hit => payload - 7 + 8
  | .engines => payload + 1
  | _ => payload + 1 + 8 * ahead

/-- A frame of an SA that took PN `pn` asks for its keystream (R64, R69, R214): its slot then runs ahead from `pn + 1`, at most
4 values and never past E - 1. -/
def State.claimTx (s : State) (b sa pn len : Nat) : Claim × State :=
  let ahead := s.aheadOf sa (pn + 1)
  let (claim, s) := s.claimSlot b .e sa (pn + 1) ahead [pn]
  if claim = .wait then (claim, s)
  else (claim, (s.countClaim b .e sa claim).issue b .e (blocksFor claim (s.payloadBlocks sa len) ahead))

/-- A frame that took PN `pn` of an SA takes its keystream and is enciphered (R56, R214). A frame given as `waitKey` came when
keystream was short (R191). -/
def State.encipher (s : State) (f : Frame) (sa pn : Nat) : Option Frame × State :=
  let bytes := s.protect f.outPort sa pn f.bytes
  let (claim, s) := s.claimTx f.b sa pn f.bytes.length
  (some { f with bytes := bytes, sa := some sa, pn := pn, sci := s.oct (Reg.pTxSci f.outPort), missed := claim != .hit
                 grown := bytes.length - f.bytes.length, pin := claim != .wait
                 blocks := s.payloadBlocks sa f.bytes.length
                 stage := if claim = .wait then .waitSlot else if claim = .miss ∨ f.stage = .waitKey then .waitKey else .passed }, s)

/-- A frame takes a PN of an SA (R201) and is enciphered under it. -/
def State.takeSa (s : State) (f : Frame) (sa : Nat) : Option Frame × State :=
  let (pn, s) := (s.readRow f.b .e 7 0 sa).takePn sa
  s.encipher f sa pn

/-- A frame enters the E-pipe's crypto island: it takes its SA and PN, is corrected and enciphered (R56, R241, R545);
none where no SA can carry it. -/
def State.enterE (s : State) (f : Frame) : Option Frame × State :=
  let s := s.crosses f 2 []
  let f := s.tracePoints f 3 3
  let (f, s) := s.correct f
  if f.bypass ∨ s.kind f.outPort = 4 then (some { f with stage := .passed }, s)
  else match s.txSa f.outPort with
    | .error s => (none, s.dropFinal f)
    | .ok sa => s.takeSa f sa

/-- A frame put at the end of the E-pipe: raw behind a frame that waits for the sector engine, else into the crypto
island at once (R447). -/
def State.pushE (s : State) (f : Frame) : State :=
  let ps := s.pipe f.b .e
  if ps.fifo.any (fun g => g.stage == .waitSector) || f.stage == .waitSector then
    s.setPipe f.b .e { ps with fifo := ps.fifo ++ [{ f with stage := .waitSector }] }
  else
    match s.enterE f with
    | (none, s) => s
    | (some f, s) =>
      let ps := s.pipe f.b .e
      let s := s.setPipe f.b .e { ps with fifo := ps.fifo ++ [f] }
      s.drainE f.b (ps.fifo.length + 1)

/-- A change made to the first frame of a list that a test names. -/
def changeFirst (p : Frame → Bool) (g : Frame → Frame) : List Frame → List Frame
  | [] => []
  | f :: rest => if p f then g f :: rest else f :: changeFirst p g rest

/-- The tributaries of a pipe that wait for a hot slot claim one, in order, while one can be freed (R218). The blocks of a panel
whose pinned keystream was lost are computed again (R215). -/
def State.claimTribs (s : State) (b : Nat) (pi : Pipe) : Nat → State
  | 0 => s
  | n + 1 =>
    match (s.pipe b pi).claims with
    | [] => s
    | h :: rest =>
      let (claim, s) := s.claimSlot b pi h.owner h.base h.count h.pins
      if claim = .wait then s
      else
        let s := (s.setPipe b pi { s.pipe b pi with claims := rest }).countClaim b pi h.owner claim
        (s.issue b pi (129 * h.pins.length)).claimTribs b pi n

/-- The frames of a pipe that wait for a hot slot claim one, in order, while one can be freed, and the tributaries behind
them (R218). Their keystream is computed at the level in force (R215). -/
def State.claimWaiting (s : State) (b : Nat) (pi : Pipe) : Nat → State
  | 0 => s
  | n + 1 =>
    match (s.pipe b pi).fifo.find? (fun f => f.stage == .waitSlot) with
    | none => s.claimTribs b pi (s.pipe b pi).claims.length
    | some f =>
      let sa := f.sa.getD 0
      let base := match pi with | .e => f.pn + 1 | .d => s.num (Reg.saHighestPn sa) + 1
      let (claim, s) := s.claimSlot b pi sa base (s.aheadOf sa base) [f.pn]
      if claim = .wait then s
      else
        let s := (s.countClaim b pi sa claim).issue b pi (blocksFor .miss f.blocks (s.aheadOf sa base))
        let fifo := changeFirst (fun f => f.stage == .waitSlot) (fun f => { f with stage := .waitKey, pin := true, missed := true })
          (s.pipe b pi).fifo
        (s.setPipe b pi { s.pipe b pi with fifo := fifo }).claimWaiting b pi n

/-- The raw frames behind a sector frame that has left the engine enter the crypto island, up to the next one. -/
def State.enterRaw (s : State) (b : Nat) : Nat → State
  | 0 => s
  | n + 1 =>
    let ps := s.pipe b .e
    match ps.fifo.find? (fun g => g.stage == .waitSector) with
    | none => s
    | some f =>
      if f.stream.isSome then s
      else
        let entered := ps.fifo.takeWhile (fun g => g.stage != .waitSector)
        let rest := (ps.fifo.dropWhile (fun g => g.stage != .waitSector)).drop 1
        let s := s.setPipe b .e { ps with fifo := entered ++ rest }
        match s.enterE f with
        | (none, s) => s.enterRaw b n
        | (some f, s) => (s.setPipe b .e { s.pipe b .e with fifo := entered ++ [f] ++ rest }).enterRaw b n

/-- The first sector frame of the E-pipe leaves the engine: transformed, it enters the crypto island, and the frames
behind it follow (R445, R447); where its stream is closed it is discarded (R448). -/
def State.sectorDoneE (s : State) (b : Nat) : State :=
  let ps := s.pipe b .e
  match ps.fifo.find? (fun g => g.stage == .waitSector) with
  | none => s
  | some f =>
    match f.stream with
    | none => s
    | some n =>
      let entered := ps.fifo.takeWhile (fun g => g.stage != .waitSector)
      let rest := (ps.fifo.dropWhile (fun g => g.stage != .waitSector)).drop 1
      let s := match s.engineClosed n b with
        | some ks => ((s.setPipe b .e { ps with fifo := entered ++ rest }).counts ks).dropFinal f
        | none =>
          let (bs, s) := s.sectorTransform n true f.bytes
          s.setPipe b .e { ps with fifo := entered ++ { f with bytes := bs, stream := none } :: rest }
      let s := s.enterRaw b (rest.length + 1)
      s.drainE b ((s.pipe b .e).fifo.length + 1)

/-! Admission -/

/-- Whether a clear frame is admitted under R361, and what its refusal counts (R523). -/
def State.overload (s : State) (q iface line queue : Nat) (bs : Octets) (lineLen : Nat) : Option (List Key) :=
  let b := boltOfPort q
  let room := s.num (Reg.pMaxFrame iface) + 32
  if s.num (Reg.pIngressLimit iface) * 256 < s.ingressBytes iface + room ∨ 4194304 < s.halfUsed b .e + room then
    some [Reg.pOverloadDrops q]
  else if s.kind line = 4 then
    let t := s.trib line
    let blocks := frameBlocks bs false
    let units := (blockUnits blocks.length blocks).length
    if s.num (Reg.pTribBacklogLimit line) * 256 < t.backlog + 32 * units then some [Reg.pOverloadDrops q] else none
  else
    let row := queueRow line queue
    if s.num (Reg.qLimit row) * 256 < s.queueDepth line queue + lineLen then
      some [Reg.qAdmitDrops row, Reg.pOverloadDrops q]
    else none

/-- A new serial number for a frame of the model. -/
def State.newSerial (s : State) : Nat × State := (s.serial, { s with serial := s.serial + 1 })

/-- A frame as it stands before anything is chosen. -/
def blankFrame (id b : Nat) (pi : Pipe) (inPort : Nat) (bs : Octets) (ts : Nat) : Frame :=
  { id := id, b := b, pipe := pi, inPort := inPort, outPort := 1024, queue := 0, cls := 1, bytes := bs, bad := false,
    poison := false, rxTs := ts, due := none, late := false, sa := none, pn := 0, inLen := bs.length + 4,
    line := bs.length + 4, prio := outerPcp bs, iface := none, stage := .passed, stream := none, sector := none, sci := [],
    vid := outerVid bs, tc := none, bypass := false, started := false, ct := 0, replayed := false,
    opened := none, missed := false, pin := false, blocks := 0, behind := false, grown := 0, early := false, trace := none }

/-- A frame enters the parse/classify island, tagged by the tracer or not (R738). -/
def State.newFrame (s : State) (b : Nat) (pi : Pipe) (inPort : Nat) (bs : Octets) (ts : Nat) : Frame × State :=
  let (id, s) := s.newSerial
  let (traced, s) := s.traceChoice b pi
  let f := blankFrame id b pi inPort bs ts
  (s.tracePoints { f with trace := if traced then some (List.replicate 7 0xFFFFFF) else none } 1 1, s)

/-- A receive timestamp with TS_RX_ADJ of the port that owns the lanes, in 2^-16 ns (R535). -/
def State.rxStamp (s : State) (p ts : Nat) : Nat :=
  ((ts : Int) + i24 (s.num (Reg.pTsRxAdj p)) * 65536 / 1000).toNat

/-! Early classification (R72, R73) -/

/-- The header that the early choice goes by (R72): the bytes in the first beat, and for the rest what the previous frame
on the interface had there. -/
def earlyHead (bs last : Octets) (seen : Nat) : Octets := bs.take (min seen 64) ++ (last.drop seen).take (64 - seen)

/-- The sub-port that a frame received on a clear interface is assigned to, or the interface (R340). -/
def State.assigned (s : State) (p : Nat) (bs : Octets) : Nat :=
  let vid := outerVid bs
  if vid = 0 then p
  else match (boltPorts (boltOfPort p)).find? (fun q => s.kind q == 2 && s.num (Reg.pParent q) == p
      && s.num (Reg.pSubVid q) == vid && (s.fnState (.port q) == 2 || s.fnState (.port q) == 3)) with
    | some q => q
    | none => p

/-- The SA that a header chooses in the E-pipe, if it is to be protected. -/
def State.saOfHead (s : State) (iface : Nat) (head : Octets) : Option Nat :=
  let q := s.assigned iface head
  let line := s.num (Reg.pXconnect q)
  if line = 0xFFFF ∨ s.kind line ≠ 3 ∨ s.fnState (.port line) ≠ 2 ∨ s.bindingCounts line (s.anBinding line) = false then none
  else match s.policyPick q head with
    | .ok (_, 1, _) => some (s.anBinding line)
    | _ => none

/-- The final classification of a frame against the SA of its early choice (R73, R445): where it chooses another SA or none, the
tentative PN and keystream are withdrawn; R73 speaks of another SA alone (log entry 123). Whether it was corrected, and the state. -/
def State.reclassify (s : State) (b : Nat) (early final : Option Nat) : Bool × State :=
  if early = final then (false, s)
  else match early with
    | some sa => (true, ((s.count (Reg.bReclassified b)).pc b 0x050 1).discardKeystream b .e sa)
    | none => (false, s)

/-- A classified frame takes its place in the E-pipe (R57, R361, R445): counted as admitted and put into the
crypto island or before the sector engine. -/
def State.admitE (s : State) (f : Frame) : State :=
  let s := ((s.count (Reg.pRxFrames f.inPort)).countBy (Reg.pRxOctets f.inPort) f.inLen).pc f.b 0x010 1
  match f.stream with
  | some n =>
    match s.sectorClosed n f.b with
    | some ks => (s.counts ks).dropFinal f
    | none =>
      match s.sectorFault n f.bytes with
      | some k => (s.lengthLimit f.b f.inPort .e k).dropFinal f
      | none => ((s.readRow f.b .e 8 8 n).pushE { f with stage := .waitSector }).pauseAfter f
  | none => (s.pushE f).pauseAfter f

/-- A frame takes with it what its beats met while it arrived (R41, R44). -/
def Frame.arrived (f : Frame) (met : Arriving) : Frame := { f with poison := met.poison, replayed := met.replayed }

/-- A clear frame past the filters of the interface, on the port it was assigned to: cross-connection, policy, checks
of the egress and admission (R346, R352, R353). `early` is the SA of the early choice, `fail` a failed check 2 or 3 with
its counter, `met` what its beats met on arrival. A frame that failed goes on, with a bad FCS, where its PN was final (R358) or
its transmission had started (R357); a SECTOR frame never has. A frame whose own lookup found a station row faulted counts in
STN_UNKNOWN_DISCARDS, R50 and R319 naming no counter (log entry 19). -/
def State.classifyE (s : State) (q iface : Nat) (rx : RxFrame) (early : Option Nat) (met : Arriving)
    (fail : Option Key) : State :=
  let b := boltOfPort q
  let bs := rx.bytes
  let len := bs.length + 4
  let refuse := fun (s : State) => s.counts fail.toList
  let line := s.num (Reg.pXconnect q)
  let ts := s.rxStamp iface rx.ts
  let (f, s) := s.newFrame b .e q bs ts
  let f := Frame.arrived { f with outPort := line, iface := some iface } met
  let lost := fun (s : State) => s.traceEnd f true
  if line = 0xFFFF then
    if fail.isSome then lost (refuse s) else lost (s.count (Reg.pNoXconnect q))
  else if s.fnState (.port line) ≠ 2 ∨ (s.kind line = 4 ∧ s.fnState (s.tribFn line) ≠ 2) then lost (s.count (Reg.pStoppedDiscards q))
  else
    match s.policyOf .e q bs with
    | (s, .error (_, k)) =>
      let (_, s) := s.reclassify b early none
      lost (if fail.isSome then refuse s else s.count k)
    | (s, .ok (action, queue, stream)) =>
      let guarded := decide (action = 1 ∨ action = 3)
      let huge := decide (16000 < len) && guarded
      let limit := huge && rx.fcsOk
      let secured := decide (action = 1 ∧ s.kind line = 3)
      let (corrected, s) := s.reclassify b early (if secured then some (s.anBinding line) else none)
      let f := { f with early := corrected, sector := if action = 3 then some stream else none }
      let drop := fun (s : State) => (if action = 3 then s.count (Reg.ssDiscards stream) else s).traceEnd f true
      let cls := if s.kind line = 4 then 1 else s.classOf line queue
      let begun := rx.started && decide (action ≠ 3) && (decide (cls = 2) || decide (cls = 0 ∧ rx.ct * 256 < len))
      if fail.isSome ∧ !limit ∧ !(begun || (secured && rx.final)) then drop (refuse s)
      else
        let s := if fail.isSome && !limit then refuse s else s
        if action = 0 ∨ (action = 2 ∧ s.kind line = 4) then drop (s.count (Reg.pPolicyDiscards q))
        else if limit ∧ action = 3 then drop (s.lengthLimit b q .e 0)
        else if s.stationLooked line bs = true ∧ met.station = true then drop (s.count (Reg.bStnUnknownDiscards b))
        else
          let s := s.stationRead line bs
          if s.unknownStation line bs then drop (s.count (Reg.bStnUnknownDiscards b))
          else if s.kind line = 3 ∧ s.num (Reg.pLinkUp (s.interfaceOf line)) = 0 then drop (s.count (Reg.pLinkDownDiscards line))
          else if s.kind line = 3 ∧ s.fnState (.sched line) ≠ 2 then drop (s.count (Reg.pStoppedDiscards line))
          else if s.role = 1 then drop (s.count Reg.standbyDiscards)
          else
            let sent := if huge then bs.take 15996 else bs
            let lineLen := sent.length + 4 + (if action = 2 ∨ s.kind line = 4 then 0 else s.expansion line)
            let saTest := if secured then s.txSa line else .ok 0
            match saTest with
            | .error s => drop s
            | .ok _ =>
              match s.overload q iface line queue bs lineLen with
              | some ks => drop (s.counts ks)
              | none =>
                let s := if limit then s.lengthLimit b q .e 0 else s
                let f := { f with
                  bytes := sent
                  bad := huge || fail.isSome
                  queue := queue, cls := cls, line := lineLen, bypass := action == 2
                  stage := if rx.short then .waitKey else .passed
                  due := if cls = 2 ∧ s.kind line ≠ 4 then some (ts + s.num (Reg.pDetDelay line) * 65536) else none
                  stream := if action = 3 then some stream else none }
                s.admitE (s.tracePoints f 2 2)

/-! Removal from the data path (R355, R364, R571, R572) -/

/-- Whether a frame is a Silsy frame for the device, and whether it is a broadcast frame with the Silsy EtherType. -/
def State.silsyFrame (s : State) (bs : Octets) : Bool :=
  frameDst bs == s.otp.mgmtMac.toNat && fieldAt bs (etherAt bs 1 12) 2 == s.num Reg.silsyEtype
def State.silsyBroadcast (s : State) (bs : Octets) : Bool :=
  frameDst bs == 0xFFFFFFFFFFFF && fieldAt bs (etherAt bs 1 12) 2 == s.num Reg.silsyEtype

/-- The version byte after the EtherType. -/
def silsyVersion (bs : Octets) : Nat := fieldAt bs (etherAt bs 1 12 + 2) 1

/-- A frame for Hearth taken off the data path of a port: handed over, or discarded (R571, R572). `tagged` says that a
verified SecTAG or panel carried it. -/
def State.toHearth (s : State) (p : Nat) (bs : Octets) (tagged : Bool) : State :=
  if s.num (Reg.pMgmtIn p) = 0 ∨ (s.silsyBroadcast bs = true ∧ silsyVersion bs ≠ 2) then s.count Reg.ibDiscards
  else { s with hearthIn := s.hearthIn ++ [(p, bs, tagged)] }

/-- The link partner's pause of a priority, 8 standing for PAUSE, until an elapsed instant; quanta 0 ends it (R364). -/
def State.peerPaused (s : State) (p prio quanta : Nat) : State :=
  let x := s.port p
  let rate := s.portRate p
  if quanta = 0 then s.setPort p { x with peerPause := x.peerPause.del prio }
  else s.setPort p { x with peerPause := x.peerPause.put prio (s.time.elapsed + (quanta * 512 * 1000 + rate - 1) / max rate 1) }

/-- A MAC control frame on an interface (R364). A PAUSE frame is obeyed at the address of R362 or the device's own, a PFC frame at
the former alone, as IEEE 802.3 has it. -/
def State.macControl (s : State) (p : Nat) (bs : Octets) : State :=
  let op := fieldAt bs 14 2
  let mine := frameDst bs == 0x0180C2000001 || (op == 1 && frameDst bs == s.otp.mgmtMac.toNat)
  let pause := decide (op = 1 ∨ op = 0x0101) && mine
  let s := if pause then s.count (Reg.pPauseRx p) else s
  if s.kind p = 1 ∧ s.num (Reg.pRxPause p) = 1 ∧ pause = true then
    if op = 1 then s.peerPaused p 8 (fieldAt bs 16 2)
    else forEach (List.range 8) (fun s i =>
      if bit (fieldAt bs 16 2) i then s.peerPaused p i (fieldAt bs (18 + 2 * i) 2) else s) s
  else s.count (Reg.pMacControl p)

/-- The mark that a word of the group-address filter, counted from 0, is faulted (R323). -/
def groupFault (b w : Nat) : Key := .row 0x200A b w

/-- Whether the group-address filter passes a destination (R321 to R323). A faulted word discards. -/
def State.groupPasses (s : State) (b : Nat) (bs : Octets) : Bool :=
  let i := crc32 (bs.take 6) / 1048576
  s.num (groupFault b (i / 24)) == 0 && bit (s.num (boltKey b 0x0A (1 + i / 24))) (23 - i % 24)

/-- Whether the group-address filter stops a frame (R321), and the word it reads. -/
def State.groupStops (s : State) (b : Nat) (bs : Octets) : Bool := groupMac (frameDst bs) && !s.groupPasses b bs
def groupWord (bs : Octets) : Nat := crc32 (bs.take 6) / 1048576 / 24

/-- A frame of an interface crosses point 0 or 1 of its pipe as it comes (R39). Before it is classified its forwarding class is
given as S (log entry 2). -/
def State.comes (s : State) (p : Nat) (pi : Pipe) (pt : Nat) (rx : RxFrame) (poison : Bool) (fcs : Octets) : State :=
  s.deliver (boltOfPort p) pi pt ⟨false, s.serial, 0, none, none, 3, p, 1, poison⟩ (rx.bytes ++ fcs)

/-- A frame of an interface enters the MAC island (R40, R55): what its beats met, and the state. -/
def State.arrives (s : State) (p : Nat) (pi : Pipe) (rx : RxFrame) : Arriving × State :=
  let met := (s.port p).arriving
  let s := s.comes p pi 0 rx met.poison (fcsBytes rx.bytes (!rx.fcsOk))
  (met, s.setPort p { s.port p with arriving := {} })

/-- A frame that the MAC island lets pass goes on to the parse/classify island (R55); its header is kept for the next early
choice (R72). The bytes its first beat shows, and the state. -/
def State.parsed (s : State) (p : Nat) (pi : Pipe) (rx : RxFrame) (poison : Bool) : Nat × State :=
  let seen := ((s.pipe (boltOfPort p) pi).point 1).seen s.time.elapsed
  let s := s.comes p pi 1 rx poison []
  (seen, s.setPort p { s.port p with lastHead := rx.bytes.take 64 })

/-- A frame that the group filter stops is counted by the first check that applies (R356): R193 stands in the place of check 3 for
one that is to be protected, `huge` being past its limit. -/
def State.groupStopped (s : State) (p q : Nat) (bs : Octets) (huge : Bool) (fail : Option Key) : State :=
  let guarded := match s.policyPick q bs with | .ok (_, action, _, _) => decide (action = 1 ∨ action = 3) | .error _ => false
  if huge && guarded then s.lengthLimit (boltOfPort q) q .e 0
  else match fail with
    | some k => s.count k
    | none => (s.count (Reg.pGroupFiltered p)).count (Reg.bGroupFiltered (boltOfPort p))

/-- A frame received on a clear interface (R340, R356). What the MAC island stops goes no further (R55): a runt, a frame that
failed before anything of it was final or sent (R357), one removed from the data path (R355), one the group filter stops.
Check 3 comes before that filter, and so does R193 in its place. -/
def State.clearIn (s : State) (p : Nat) (rx : RxFrame) : State :=
  let bs := rx.bytes
  let len := bs.length + 4
  let b := boltOfPort p
  if p ≥ s.nPorts ∨ s.kind p ≠ 1 then s
  else if s.fnState (.port p) = 0 then s.count (Reg.pStoppedDiscards p)
  else if s.num (Reg.pLinkUp p) = 0 then s
  else
    let last := (s.port p).lastHead
    let (met, s) := s.arrives p .e rx
    let q := s.assigned p bs
    let fail : Option Key :=
      if rx.fcsOk = false then some (Reg.pFcsErrors p)
      else if s.num (Reg.pMaxFrame p) < len then some (Reg.pOversize p)
      else none
    let huge := decide (16000 < len) && rx.fcsOk
    if len < 64 then s.count (Reg.pRunts p)
    else if met.first then (s.parsed p .e rx met.poison).2
    else if fieldAt bs 12 2 = 0x8808 then
      match fail with | some k => s.count k | none => s.macControl p bs
    else if s.silsyFrame bs || s.silsyBroadcast bs then
      match fail with
      | some k => s.count k
      | none => if s.fnState (.port q) ≠ 2 then s.count (Reg.pStoppedDiscards q) else s.toHearth q bs false
    else if fail.isSome && !rx.started && !rx.final && !huge then s.counts fail.toList
    else
      let s := if groupMac (frameDst bs) then s.readRow b .e 8 5 (groupWord bs) else s
      if s.groupStops b bs then s.groupStopped p q bs huge fail
      else
        let (seen, s) := s.parsed p .e rx met.poison
        if s.fnState (.port q) ≠ 2 then s.count (Reg.pStoppedDiscards q)
        else s.classifyE q p rx (s.saOfHead p (earlyHead bs last seen)) met fail

/-! The device's own frames (R574, R722) -/

/-- A frame of the device's own toward a port: into Q7 as class S, protected on a line port where asked; into the
client stream of a tributary (R574, R722). -/
def State.sendOwn (s : State) (p : Nat) (bs : Octets) (secured : Bool) : State :=
  let b := boltOfPort p
  let bs := bs ++ List.replicate (60 - bs.length) 0
  let (id, s) := s.newSerial
  let f := { blankFrame id b .e p bs s.nowFine with
                    outPort := p, queue := 7, cls := 1, bypass := !secured,
                    line := bs.length + 4 + (if secured && s.kind p == 3 then s.expansion p else 0) }
  let s := s.emit (.mgmt p bs secured)
  if s.fnState (.port p) ≠ 2 ∨ (s.kind p = 4 ∧ s.fnState (s.tribFn p) ≠ 2) then s.count (Reg.pStoppedDiscards p)
  else if s.kind p = 4 then s.tribAdd f
  else if s.num (Reg.pLinkUp (s.interfaceOf p)) = 0 then s.count (Reg.pLinkDownDiscards p)
  else if s.fnState (.sched p) ≠ 2 then s.count (Reg.pStoppedDiscards p)
  else if s.kind p = 3 ∧ s.role = 1 then s.count Reg.standbyDiscards
  else if 4194304 < s.halfUsed b (if s.kind p = 3 then .e else .d) + f.line then s.count (Reg.pOverloadDrops p)
  else if s.kind p = 3 then s.pushE f
  else s.enqueue { f with pipe := .d }

end Sys2Proof.Machine
end

