-- ==== Sys2Proof/Machine/Line.lean ====
section
/-! DEFINITION. Machine/Line.lean: what a Twill lane puts between its units and its pins: the scrambler (R376), the
RS(544,514) code (R375), Gray mapping, precoding and inversion (R462 to R465). -/

namespace Sys2Proof.Machine

/-! Scrambler (R376): polynomial x^58 + x^39 + 1; each bit is the sum of those 58 and 39 bits before it (log entry 90) -/

/-- `n` bits of the scrambler's sequence after the last 58 bits `st`, as a number after `acc`, and the last 58 bits then. -/
def scramBits : Nat → Nat → Nat → Nat × Nat
  | 0, st, acc => (acc, st)
  | n + 1, st, acc =>
    let b := (if bit st 57 then 1 else 0) ^^^ (if bit st 38 then 1 else 0)
    scramBits n ((st * 2 + b) % 2 ^ 58) (acc * 2 + b)

/-- The scrambler set to all ones. -/
def scramOnes : Nat := 2 ^ 58 - 1

/-- The scrambler before unit `n` of a frame, 1 to 8,191. -/
def scramAt (n : Nat) : Nat := (scramBits (205 + 257 * (n - 1)) scramOnes 0).2

/-- An overhead unit scrambled on transmit, and the scrambler after it: bit 256 by the sequence that runs on, bits
[255:205] not, bits [204:0] from all ones. -/
def scramOverhead (st u : Nat) : Nat × Nat :=
  let k := scramBits 205 scramOnes 0
  (u ^^^ ((scramBits 1 st 0).1 * 2 ^ 256 + k.1), k.2)

/-- A unit at a calendar position scrambled, and the scrambler after it. -/
def scramUnit (st u : Nat) : Nat × Nat :=
  let k := scramBits 257 st 0
  (u ^^^ k.1, k.2)

/-- Received units from unit `n` of a frame on, scrambling removed; bit 256 of an overhead unit, which nothing reads, stays
as it came. -/
def descramble : Nat → Nat → List Nat → List Nat
  | _, _, [] => []
  | n, st, u :: us =>
    if n = 0 then
      let x := scramOverhead st (u % 2 ^ 256)
      x.1 % 2 ^ 256 :: descramble 1 x.2 us
    else
      let x := scramUnit st u
      x.1 :: descramble ((n + 1) % 8192) x.2 us

/-! GF(2^10) and the RS(544,514) code of IEEE 802.3 Clause 91 (R375): field polynomial x^10 + x^3 + 1, generator
polynomial with the roots 2^0 to 2^29 -/

/-- A product in the field: the first factor by the `n` low bits of the second. -/
def symMulBits : Nat → Nat → Nat → Nat
  | 0, _, _ => 0
  | n + 1, a, b =>
    let h := symMulBits n (if bit a 9 then (a * 2) ^^^ 0x409 else a * 2) (b / 2)
    if bit b 0 then a ^^^ h else h

def symMul (a b : Nat) : Nat := symMulBits 10 a b

/-- A power in the field. -/
def symPow (a : Nat) : Nat → Nat
  | 0 => 1
  | n + 1 => symMul a (symPow a n)

/-- The inverse of a value that is not 0. -/
def symInv (a : Nat) : Nat := symPow a 1022

/-- Sums of two polynomials, coefficient by coefficient. -/
def symAdd : List Nat → List Nat → List Nat
  | [], q => q
  | p, [] => p
  | a :: p, b :: q => (a ^^^ b) :: symAdd p q

/-- A polynomial by a constant. -/
def symScale (a : Nat) (p : List Nat) : List Nat := p.map (symMul a)

/-- The value of a polynomial, lowest coefficient first. -/
def symEval (p : List Nat) (x : Nat) : Nat := p.foldr (fun c a => c ^^^ symMul x a) 0

/-- The product of two polynomials, lowest coefficient first. -/
def symTimes : List Nat → List Nat → List Nat
  | [], _ => []
  | a :: p, q => symAdd (symScale a q) (0 :: symTimes p q)

/-- The generator polynomial, highest coefficient first. -/
def rsGenerator : List Nat :=
  ((List.range 30).foldl (fun g j => symTimes [symPow 2 j, 1] g) [1]).reverse

/-- The 30 parity symbols of a message: the remainder of message · x^30. -/
def rsParity (msg : List Nat) : List Nat :=
  let g := rsGenerator.drop 1
  msg.foldl (fun p m => symAdd (p.drop 1 ++ [0]) (symScale (m ^^^ p.headD 0) g)) (List.replicate 30 0)

/-- The syndromes of a word, its first symbol the highest coefficient. -/
def rsSyndromes (w : List Nat) : List Nat :=
  (List.range 30).map (fun j => w.foldl (fun a c => c ^^^ symMul (symPow 2 j) a) 0)

/-- The search for the shortest recurrence of the syndromes (Berlekamp and Massey): the locator, its version before its
length last changed, the discrepancy then, the shift since, and the length. -/
abbrev RsSearch := List Nat × List Nat × Nat × Nat × Nat

/-- Syndrome `n` taken into the search. -/
def rsStep (syn : List Nat) : RsSearch → Nat → RsSearch
  | (loc, old, disc, gap, len), n =>
    let d := (List.range (len + 1)).foldl (fun a i => a ^^^ symMul (loc.getD i 0) (syn.getD (n - i) 0)) 0
    if d = 0 then (loc, old, disc, gap + 1, len)
    else
      let new := symAdd loc (List.replicate gap 0 ++ symScale (symMul d (symInv disc)) old)
      if 2 * len ≤ n then (new, loc, d, 1, n + 1 - len) else (new, old, disc, gap + 1, len)

/-- The formal derivative of a polynomial. -/
def symDerive : List Nat → List Nat
  | [] => []
  | [_] => []
  | _ :: a :: p => a :: 0 :: symDerive p

/-- The values of the errors of a word by place, the first symbol at place 543; none where no word lies within 15
symbols. -/
def rsErrors (syn : List Nat) : Option (List (Nat × Nat)) :=
  let (found, _, _, _, len) := (List.range 30).foldl (rsStep syn) ([1], [1], 1, 1, 0)
  let loc := found.take (len + 1)
  let inv := fun (i : Nat) => symPow 2 ((1023 - i) % 1023)
  let places := (List.range 544).filter (fun i => symEval loc (inv i) == 0)
  if len ≤ 15 ∧ places.length = len then
    let omega := (symTimes syn loc).take 30
    some (places.map (fun i =>
      (i, symMul (symPow 2 i) (symMul (symEval omega (inv i)) (symInv (symEval (symDerive loc) (inv i)))))))
  else none

/-- A received word: its symbols as corrected with the number of symbols corrected, or as they came where it is
uncorrectable (R411). -/
def rsDecode (w : List Nat) : List Nat × Option Nat :=
  let syn := rsSyndromes w
  if syn.all (fun x => x == 0) then (w, some 0)
  else match rsErrors syn with
    | none => (w, none)
    | some es => ((List.range w.length).map (fun k =>
        match es.find? (fun e => e.1 + k == 543) with
        | some e => w.getD k 0 ^^^ e.2
        | none => w.getD k 0), some es.length)

/-- A number of `10·n` bits as `n` symbols, the first the most significant. -/
def toSymbols (n v : Nat) : List Nat := (List.range n).map (fun i => v / 2 ^ (10 * (n - 1 - i)) % 1024)

/-- 20 units as one number, the first the most significant (R375). -/
def unitsNat (units : List Nat) : Nat := units.foldl (fun a u => a * 2 ^ 257 + u % 2 ^ 257) 0

/-- The 544 symbols of the codeword of 20 units. -/
def rsCodeword (units : List Nat) : List Nat :=
  let msg := toSymbols 514 (unitsNat units)
  msg ++ rsParity msg

/-- The 20 units of a message's 514 symbols. -/
def symbolUnits (msg : List Nat) : List Nat :=
  let v := msg.foldl (fun a x => a * 1024 + x) 0
  (List.range 20).map (fun i => v / 2 ^ (257 * (19 - i)) % 2 ^ 257)

/-! Levels (R462, R463, R465) -/

/-- Two bits as a level, and a level as two bits (R462); the mapping is its own inverse. -/
def gray (x : Nat) : Nat := [0, 1, 3, 2].getD (x % 4) 0

/-- A symbol's five levels, its first bit the most significant. -/
def symbolLevels (x : Nat) : List Nat := [256, 64, 16, 4, 1].map (fun d => gray (x / d))

/-- The symbols of levels, five each. -/
def levelSymbols (levels : List Nat) : List Nat :=
  (List.range (levels.length / 5)).map (fun i => ((levels.drop (5 * i)).take 5).foldl (fun a x => a * 4 + gray x) 0)

/-- Levels precoded from the last level sent (R463): P(j) = (G(j) − P(j−1)) mod 4. -/
def precode : Nat → List Nat → List Nat
  | _, [] => []
  | p, g :: gs => let q := (g + 4 - p % 4) % 4; q :: precode q gs

/-- Precoding removed, given the level before (R463): G(j) = (P(j) + P(j−1)) mod 4. -/
def unprecode : Nat → List Nat → List Nat
  | _, [] => []
  | p, q :: qs => (q + p) % 4 :: unprecode q qs

/-- A level of the negated signal (R465). -/
def negLevel (x : Nat) : Nat := 3 - x % 4

/-- Whether a lane signals in PAM4 (R460). -/
def State.pam (s : State) (n : Nat) : Bool := decide (4 ≤ s.num (Reg.lnRate n))

/-- The PAM4 levels of bit pairs (R462). -/
def pairLevels : List Nat → List Nat
  | a :: b :: rest => gray (2 * a + b) :: pairLevels rest
  | _ => []

/-- The levels that leave a lane for the levels of its data, and the last of them before inversion; NRZ uses levels 0 and
3, which precoding leaves alone (R463). -/
def State.sendLevels (s : State) (n : Nat) (levels : List Nat) : List Nat × Nat :=
  let p := if s.pam n && bit (s.num (Reg.lnPrecode n)) 1 then precode (s.lane n).txLevel levels else levels
  (if bit (s.num (Reg.lnInvert n)) 1 then p.map negLevel else p, p.getLast?.getD (s.lane n).txLevel)

/-- A lane sends bits (R462, R463, R465). -/
def State.sendBits (s : State) (n : Nat) (bits : List Nat) : State :=
  let x := s.sendLevels n (if s.pam n then pairLevels bits else bits.map (3 * ·))
  (s.setLane n { s.lane n with txLevel := x.2 }).emit (.line n x.1)

/-- Whether a lane sends its owner's data: RUNNING, its transmitter on, no pattern or far-end loopback in the data's place (R373,
R458, R479, R480, R485, R486). -/
def State.laneLive (s : State) (n : Nat) : Bool :=
  let st := s.num (Reg.lnState n)
  s.running (.lane n) && (s.lane n).txActive && st != 0 && st != 4 && st != 6
    && s.num (Reg.lnPattern n) == 0 && s.num (Reg.lnLoopback n) != 2

/-- The lanes of an Ethernet interface send the bits that its PCS and FEC make of bytes (R335, log entry 114). -/
def State.sendPcs (s : State) (p : Nat) (bytes : Octets) : State :=
  forEach (s.portLanes p).zipIdx (fun s x =>
    if s.laneLive x.1 then s.sendBits x.1 ((Config.pcsBits (s.num (Reg.pLaneMode p)) x.2 bytes).map (· % 2)) else s) s

/-- The levels of the data in what a lane receives after the level `before`. -/
def State.takeLevels (s : State) (n before : Nat) (levels : List Nat) : List Nat :=
  let neg := bit (s.num (Reg.lnInvert n)) 0
  let p := if neg then levels.map negLevel else levels
  if bit (s.num (Reg.lnPrecode n)) 0 then unprecode (if neg then negLevel before else before) p else p

/-- A codeword received on a lane: its 20 units, still scrambled, and how many symbols were corrected, none where it is
uncorrectable. -/
def State.takeCodeword (s : State) (n : Nat) (cw : RxCodeword) : List Nat × Option Nat :=
  let x := rsDecode (levelSymbols (s.takeLevels n cw.before cw.levels))
  (symbolUnits (x.1.take 514), x.2)

/-- A lane sends one scrambled unit at unit position `q` of its codeword (R381): the codeword leaves with its twentieth
unit. A lane that began inside a codeword sends from the next one on. -/
def State.sendUnit (s : State) (n q u : Nat) : State :=
  let units := if q = 0 then [] else (s.lane n).txUnits
  if units.length ≠ q then s.setLane n { s.lane n with txUnits := units }
  else if q = 19 then
    let x := s.sendLevels n ((rsCodeword (units ++ [u])).flatMap symbolLevels)
    (s.setLane n { s.lane n with txUnits := [], txLevel := x.2 }).emit (.line n x.1)
  else s.setLane n { s.lane n with txUnits := units ++ [u] }

end Sys2Proof.Machine
end

