-- ==== Sys2Proof/Machine/Silsy.lean ====
section
/-! DEFINITION. Machine/Silsy.lean: Silsy messages (R554 to R558) and the frames that carry them out of the device (R569,
R574 to R579, R721, R722). -/

namespace Sys2Proof.Machine

/-! Messages (R554 to R558) -/

/-- The CRC-8 of a message's bytes: polynomial 0x07, initial value 0 (R558). -/
def crc8 (bs : Octets) : Nat := crcBits 8 7 0 (bitsOf bs)

/-- A message: header word, address word, value words, trailer word (R554, R555, R558). -/
def silsyMessage (op tag pad addr : Nat) (ws : List Nat) : Octets :=
  let head := natToBytes 3 (op * 2097152 + tag % 128 * 16384 + pad * 4096 + ws.length)
  let body := head ++ natToBytes 3 addr ++ wordsToBytes ws
  body ++ natToBytes 3 (crc8 body)

/-! Frames out -/

/-- The header of a Silsy frame (R575). -/
def silsyHeader (kind sess frag seq : Nat) : Octets :=
  [1#8] ++ natToBytes 1 kind ++ natToBytes 1 sess ++ natToBytes 1 frag ++ natToBytes 8 seq

/-- An Ethernet frame of the device to a destination with an optional VLAN tag: its TPID and its TCI (R574). -/
def State.ownFrame (s : State) (dst : Nat) (vlan : Option (Nat × Nat)) (payload : Octets) : Octets :=
  natToBytes 6 dst ++ natToBytes 6 s.otp.mgmtMac.toNat
    ++ (match vlan with | some (tpid, tci) => natToBytes 2 tpid ++ natToBytes 2 tci | none => [])
    ++ natToBytes 2 (s.num Reg.silsyEtype) ++ payload

/-- A frame put on the field network, padded to the minimum (R569, R575). -/
def State.sendT1s (s : State) (fr : Octets) : State :=
  if s.num Reg.t1sEnable = 0 ∧ s.t1s.ending = false then s
  else { s with t1s := { s.t1s with queue := s.t1s.queue ++ [fr ++ List.replicate (60 - fr.length) 0] } }

/-! Mesh frames (R721, R722) -/

/-- The MAC of a mesh frame over its bytes, the hops byte taken as 0. -/
def meshMac (key body : Octets) : Octets := (hmac512 key (body.take 5 ++ [0#8] ++ body.drop 6)).take 16

/-- A mesh frame without its MAC. -/
def meshBody (dst src hops epoch : Nat) (inner : Octets) : Octets :=
  [2#8] ++ natToBytes 2 dst ++ natToBytes 2 src ++ natToBytes 1 hops ++ natToBytes 3 epoch ++ inner

/-- A mesh payload sent on a port to the broadcast address: protected under the AN in force, or inside the tributary. -/
def State.meshOut (s : State) (p : Nat) (payload : Octets) : State :=
  s.sendOwn p (s.ownFrame 0xFFFFFFFFFFFF none payload) true

/-- The ports that carry mesh frames (R722): 802.1AE line ports, and tributaries of payload 3, with MGMT_IN at 1. -/
def State.meshPort (s : State) (p : Nat) : Bool :=
  s.num (Reg.pMgmtIn p) == 1 && (s.kind p == 3 || (s.kind p == 4 && s.num (Reg.pTribPayload p) == 3))

/-- A frame of the device's own into the mesh by its route. A port that no longer carries mesh frames is no route. -/
def State.meshSend (s : State) (dst : Nat) (inner : Octets) : State :=
  let port := s.num (.dev ((0x1580 + dst / 16) * 256 + 1 + dst % 16))
  match s.mesh.cur with
  | none => s
  | some key =>
    if 1023 < dst ∨ s.nPorts ≤ port then s.count Reg.meshNoRoute
    else if s.meshPort port then
      let body := meshBody dst s.meshIdNow (s.num Reg.meshHops) (s.num Reg.meshEpoch) inner
      s.meshOut port (body ++ meshMac key body)
    else s.count Reg.meshNoRoute

/-- A Silsy payload sent where its request came from (R574). -/
def State.sendVia (s : State) (via : Via) (payload : Octets) : State :=
  match via with
  | .t1s mac => s.sendT1s (s.ownFrame mac none payload)
  | .inband p mac vlan tagged => s.sendOwn p (s.ownFrame mac vlan payload) tagged
  | .mesh _ _ src => s.meshSend src payload

/-- A body cut into fragments of at most 1,440 bytes (R577). -/
def cutBody : Nat → Octets → List Octets
  | 0, _ => []
  | n + 1, bs => if bs.length ≤ 1440 then [bs] else bs.take 1440 :: cutBody n (bs.drop 1440)

/-- Fragments with their fragment bytes, the last marked. -/
def fragments (body : Octets) : List (Nat × Octets) :=
  let fs := cutBody 8 body
  fs.zipIdx.map (fun x => (x.2 + (if x.2 + 1 = fs.length then 128 else 0), x.1))

/-- A message in clear: kinds HELLO_REPLY, PLAIN and REFUSE (R576). -/
def State.sendClear (s : State) (via : Via) (kind sess : Nat) (body : Octets) : State :=
  forEach (fragments body) (fun s f => s.sendVia via (silsyHeader kind sess f.1 0 ++ f.2)) s

/-- A protected frame of a session (R579). -/
def State.sendFragment (s : State) (n kind : Nat) (via : Via) (f : Nat × Octets) : State :=
  let x := s.session n
  let h := silsyHeader kind n f.1 x.seqOut
  let ct := gcmCrypt x.keyOut x.seqOut f.2
  let s := s.setSession n { x with seqOut := x.seqOut + 1 }
  s.sendVia via (h ++ ct ++ gcmTag x.keyOut x.seqOut h ct)

/-- A protected message of a session: kinds AUTH_OK, DATA and CLOSE. -/
def State.sendSecured (s : State) (n kind : Nat) (body : Octets) : State :=
  match (s.session n).via with
  | none => s
  | some via => forEach (fragments body) (fun s f => s.sendFragment n kind via f) s

/-- The records queued since the last step announced on every open network session (R148, R556). The rules give a NOTIFY
no TAG and no address of its own: both are free (log entry 43). -/
def State.announce (s : State) : State :=
  let notes := s.events.notes
  if notes = [] then s
  else
    let s : State := { s with events := { s.events with notes := [] } }
    let open_ := (rangeFrom 1 8).filter (fun n => s.num (Reg.sessState n) == 2)
    forEach notes (fun s x => forEach open_ (fun s n =>
      let (t, s) := s.draw
      let (a, s) := s.draw
      s.sendSecured n 5 (silsyMessage 7 t 0 (a % 16777216) [x.1, x.2])) s) s

end Sys2Proof.Machine
end

