-- ==== Sys2Proof/Machine/DPipe.lean ====
section
/-! DEFINITION. Machine/DPipe.lean: the D-pipe from a line interface or a tributary to the egress queue of a clear port
(R245, R289 to R295, R342, R344, R350, R352, R446), release-before-verify (R75 to R77), and the last steps of a frame on
a link. -/

namespace Sys2Proof.Machine

/-! The SecTAG (R289, R350) -/

def tagTci (bs : Octets) : Nat := fieldAt bs 14 1
def tagSl (bs : Octets) : Nat := fieldAt bs 15 1

/-- Length of a received SecTAG with its EtherType. -/
def tagLen (bs : Octets) : Nat := if bit (tagTci bs) 5 then 16 else 8

/-- Length of the secure data of a received frame: SL, or what stands between SecTAG and ICV. -/
def secureLen (bs : Octets) : Nat := if tagSl bs = 0 then bs.length - (12 + tagLen bs + 16) else tagSl bs

/-- Whether a frame is too short for its addresses, SecTAG, secure data and ICV (R193). -/
def tagShort (bs : Octets) : Bool := decide (bs.length < 12 + tagLen bs + tagSl bs + 16)

/-- A bad tag (R350): V, ES with SC, SCB, or an SL that disagrees with the frame length: more than a frame has, or less than a
frame past the padding has (log entry 21). -/
def tagBad (bs : Octets) : Bool :=
  bit (tagTci bs) 7 || (bit (tagTci bs) 6 && bit (tagTci bs) 5) || bit (tagTci bs) 4
    || (tagSl bs != 0 && (tagShort bs || (decide (60 < bs.length) && decide (12 + tagLen bs + tagSl bs + 16 < bs.length))))

/-- The SCI of a received frame (R289): explicit, else the source address with port identifier 0x0001. -/
def tagSci (bs : Octets) : Octets := if bit (tagTci bs) 5 then (bs.drop 20).take 8 else (bs.drop 6).take 6 ++ [0#8, 1#8]

/-- The exact-match row of a key (R289). -/
def State.emFor (s : State) (b : Nat) (sci : Octets) (an : Nat) : Option Nat :=
  (s.rowsListed 0x4100).find? (fun r => r / 32768 == b && s.rowState 0x4100 r == 1 && s.oct (Reg.emSci r) == sci
    && s.num (Reg.emAn r) == an)

/-- Whether a faulted way of the key's bucket or a faulted overflow row stands where no row matched (R295). -/
def State.emFaulted (s : State) (b : Nat) (sci : Octets) (an : Nat) : Bool :=
  (s.rowsListed 0x4100).any (fun r => r / 32768 == b && s.rowState 0x4100 r == 2
    && (decide (16384 ≤ r % 32768) || r % 32768 / 4 == emBucketOf sci an))

/-- The packet number of a received frame: its 32 bits, or for XPN the 64 bits recovered from the lowest acceptable PN
(R245, IEEE 802.1AE). -/
def recoverPn (xpn : Bool) (low lowest : Nat) : Nat :=
  if xpn then
    let top := lowest / 2 ^ 32
    if bit lowest 31 && !bit low 31 then ((top + 1) * 2 ^ 32 + low) % 2 ^ 64 else top * 2 ^ 32 + low
  else low

/-- A received frame decrypted and verified under a row (R195, R245): the clear bytes where the ICV verifies, and the
bytes that release-before-verify lets out. -/
def State.openFrame (s : State) (sa pn : Nat) (sci bs : Octets) : Bool × Octets :=
  let conf := s.num (Reg.saConf sa)
  let n := secureLen bs
  let data := (bs.drop (12 + tagLen bs)).take n
  let icv := (bs.drop (12 + tagLen bs + n)).take 16
  let off := if conf = 3 then n else min n (confOffset conf)
  let iv := s.saIv sa pn sci
  let head := bs.take (12 + tagLen bs) ++ data.take off
  let plain := data.take off ++ gcmCrypt (s.saKey sa) iv (data.drop off)
  (gcmTag (s.saKey sa) iv head (data.drop off) == icv, bs.take 12 ++ plain)

/-! Replay and learning (R245, R309) -/

/-- A verified frame's PN accepted (R245, R64): L and SA_HIGHEST_PN rise, and the keystream slot follows. -/
def State.acceptPn (s : State) (f : Frame) (sa : Nat) : State :=
  let w := s.num (Reg.saReplayWin sa)
  let s := s.putN (Reg.saPn sa) (max (s.num (Reg.saPn sa)) (f.pn + 1 - w))
  let s := s.putN (Reg.saHighestPn sa) (max (s.num (Reg.saHighestPn sa)) f.pn)
  let s := s.slotFollow f.b sa (s.num (Reg.saHighestPn sa) + 1)
  (s.count (Reg.saOk sa)).saTouch sa

/-- The learn request of an accepted frame (R309). -/
def State.learnAsk (s : State) (f : Frame) (clear : Octets) : State :=
  if s.num (Reg.pStnLearn f.inPort) = 1 ∧ f.poison = false ∧ groupMac (frameSrc clear) = false then
    let x := s.bolt f.b
    s.setBolt f.b { x with learn := x.learn ++ [⟨outerVid clear, frameSrc clear, f.inPort, f.sci⟩] }
  else s

/-- Steps 3 and 4 of R245 for a verified frame, with its learn request: none where the PN is now late. -/
def State.accept (s : State) (f : Frame) (clear : Octets) : Option State :=
  match f.sa with
  | none => some s
  | some sa =>
    if s.kind f.inPort = 4 then some s
    else if f.pn < s.num (Reg.saPn sa) then none
    else some ((s.acceptPn f sa).learnAsk f clear)

/-- A frame that ends in the D-pipe: a secured one is accepted or late first, and one that did not verify counts nothing
more (R245, R246). -/
def State.endD (s : State) (f : Frame) (clear : Octets) (secured verified : Bool) (count : State → State) : State :=
  if secured && !verified then s.dropFinal f
  else if secured then
    match s.accept f clear with
    | some s => (count s).dropFinal f
    | none => (match f.sa with | some sa => s.count (Reg.saLate sa) | none => s).dropFinal f
  else (count s).dropFinal f

/-! The clear egress -/

/-- Whether a decrypted frame's VLAN bars it from its clear port (R342). -/
def State.vidMismatch (s : State) (c : Nat) (bs : Octets) : Bool :=
  if s.kind c = 2 then outerVid bs != s.num (Reg.pSubVid c)
  else (boltPorts (boltOfPort c)).any (fun q => s.kind q == 2 && s.num (Reg.pParent q) == c && s.running (.port q)
    && s.num (Reg.pSubVid q) == outerVid bs)

/-- Whether the egress queue's limit refuses a frame (R365, R523). -/
def State.queueFull (s : State) (c queue len : Nat) : Bool :=
  decide (s.num (Reg.qLimit (queueRow c queue)) * 256 < s.queueDepth c queue + len)

/-- A frame passes the D-pipe's output gate to its queue. -/
def State.gateD (s : State) (f : Frame) : State :=
  (s.crosses f 3 []).enqueue (s.tracePoints { f with stage := .passed } 4 5)

/-- What refuses a frame of line port q for the clear port its cross-connection names (R124, R130, R339, R365): the
counter, or none. A Banked device sends nothing there, and its own discard comes after verification (R700). -/
def State.refusedD (s : State) (q : Nat) : Option Key :=
  let c := s.num (Reg.pXconnect q)
  if c = 0xFFFF ∨ s.role = 1 then none
  else if s.fnState (.port c) ≠ 2 then some (Reg.pStoppedDiscards q)
  else if s.fnState (.sched c) ≠ 2 then some (Reg.pStoppedDiscards c)
  else if s.num (Reg.pLinkUp (s.interfaceOf c)) = 0 then some (Reg.pLinkDownDiscards c)
  else none

/-- A frame counted as admitted to the D-pipe (R365, R370). -/
def State.countRxD (s : State) (f : Frame) : State :=
  ((s.count (Reg.pRxFrames f.inPort)).countBy (Reg.pRxOctets f.inPort) f.inLen).pc f.b 0x011 1

/-- The frame as its policy will direct it, as far as its clear bytes show it now: queue, class, line length and due
instant, and the action (R57, R90, R353). -/
def State.foresee (s : State) (f : Frame) (clear : Octets) : Frame × Nat :=
  let c := s.num (Reg.pXconnect f.inPort)
  if 1024 ≤ c then ({ f with outPort := 1024 }, 0)
  else
    let f := { f with outPort := c }
    match s.policyPick c clear with
    | .error _ => (f, 0)
    | .ok (_, action, queue, _) =>
      let cls := s.classOf c queue
      ({ f with queue := queue, cls := cls, prio := outerPcp clear, line := clear.length + 4
                due := if cls = 2 then some (f.rxTs + s.num (Reg.pDetDelay c) * 65536) else none }, action)

/-- Whether a frame's transmission had begun when its end was checked, as one of class D or of class C past the threshold it
started with can (R84, R357). -/
def Frame.begun (f : Frame) (len : Nat) : Bool :=
  f.started && (decide (f.cls = 2) || decide (f.cls = 0 ∧ f.ct * 256 < len))

/-- Whether what carried a frame verified: its own ICV, or the tag of the panel that ended it (R546). -/
def Frame.honest (f : Frame) : Bool := match f.opened with | some (good, _) => good | none => true

/-- A frame with its clear bytes, toward the partner of its line port (R342, R352, R353, R446). `secured` says that a
SecTAG or panel carried it, `verified` that it verified. The frame that stays, or none where it ended. A frame that did
not verify goes on only under release-before-verify (R76), or poisoned with a bad FCS (R46, log entry 30), a SECTOR frame
never; no other takes a policy lookup (R285). A SECTOR frame is checked under R442 before steps 3 and 4 of R245. -/
def State.deliverD (s : State) (f : Frame) (clear : Octets) (secured verified : Bool) : Option Frame × State :=
  let q := f.inPort
  let c := f.outPort
  let stop := fun (s : State) (f : Frame) (ks : List Key) => (none, s.endD f clear secured verified (fun s => s.counts ks))
  if 1024 ≤ c then stop s f [Reg.pNoXconnect q]
  else
    let f := { f with vid := outerVid clear, prio := outerPcp clear }
    if s.vidMismatch c clear then stop s f [Reg.pVidMismatch c]
    else
      match s.policyPick c clear with
      | .error (faulted, k) => stop s f [if secured || faulted then k else Reg.pUntaggedDiscards q]
      | .ok (_, action, queue, stream) =>
        let len := clear.length + 4
        let f := { f with queue := queue, cls := s.classOf c queue }
        let begun := f.begun len
        let rbv := decide (f.cls = 0) && s.num (Reg.pRbvArm c) == 1 && decide (action ≠ 3)
          && !((ptpOffset clear).isSome && s.timingOn q && s.timingOn c)
        let goes := if secured && !verified then decide (action ≠ 3) && (f.poison || (rbv && (begun || !f.bad))) else begun || !f.bad
        if goes = false then (none, s.dropFinal f)
        else
          let s := (s.policyOf .d c clear).1
          let f := { f with sector := if action = 3 then some stream else none }
          let fault := if action = 3 ∧ secured = true then s.sectorFault stream clear else none
          if action = 0 then stop s f [Reg.pPolicyDiscards c]
          else if secured = false ∧ action ≠ 2 then stop s f [Reg.pUntaggedDiscards q]
          else
            match fault with
            | some k => (none, (s.lengthLimit f.b q .d k).dropFinal f)
            | none =>
              let closed := if action = 3 then s.sectorClosed stream f.b else none
              let long := decide (s.num (Reg.pMaxFrame (s.interfaceOf c)) < len)
              match closed with
              | some ks => stop s f ks
              | none =>
                if s.role = 1 then stop s f [Reg.standbyDiscards]
                else if long && !(begun && (rbv || !secured)) then stop s f [Reg.pOversize (s.interfaceOf c)]
                else
                  let accepted := if verified && secured then s.accept f clear else some s
                  match accepted with
                  | none => (none, (match f.sa with | some sa => s.count (Reg.saLate sa) | none => s).dropFinal f)
                  | some s =>
                    let s := if long then s.count (Reg.pOversize (s.interfaceOf c)) else s
                    let s := if secured && !verified && !f.bad && !f.poison then s.count (Reg.bRbvTails f.b) else s
                    let s := if action = 3 then s.readRow f.b .d 8 8 stream else s
                    let f := { f with
                      bytes := clear, line := len, bad := f.bad || long || (secured && !verified)
                      due := if f.cls = 2 then some (f.rxTs + s.num (Reg.pDetDelay c) * 65536) else none
                      stream := if action = 3 then some stream else none
                      stage := if action = 3 then .waitSector else .passed }
                    let (f, s) := if (verified && f.honest) || !secured then s.correct f else (f, s)
                    (some f, s)

/-- What the head of the D-pipe is checked for once no earlier frame of its SA is left (R207, R235, R245, R248, R276): the
discard, or the frame with its PN and what its SA makes of it. A row that faulted leaves only what its pinned keystream gave:
nothing for a PN that is recovered as another one now. -/
def State.recheck (s : State) (f : Frame) (sa : Nat) : Except State Frame :=
  let st := s.rowState 0x4000 sa
  if st = 0 then .error (s.count (Reg.bNotUsingSa f.b))
  else if st = 6 then .error ((s.count (Reg.saDiscards sa)).count (Reg.bNotUsingSa f.b))
  else if f.behind = false then .ok f
  else
    let suite := s.num (Reg.saSuite sa)
    let pn := recoverPn (decide (2 ≤ suite)) (fieldAt f.bytes 16 4) (s.num (Reg.saPn sa))
    if pn = 0 ∨ pn = suiteE suite then .error (s.count (Reg.bInvalidPn f.b))
    else if pn < s.num (Reg.saPn sa) then .error (s.count (Reg.saLate sa))
    else if pn ≠ f.pn ∧ st = 2 then .error (s.count (Reg.bNotUsingSa f.b))
    else .ok (if pn = f.pn then f else { f with pn := pn, opened := some (s.openFrame sa pn f.sci f.bytes) })

/-- The frame at the head of the D-pipe is verified and classified (R56, R245, R276, R446). -/
def State.processD (s : State) (f : Frame) : Option Frame × State :=
  if s.kind f.inPort = 4 then s.deliverD f f.bytes true true
  else
    match f.sa with
    | none => s.deliverD f f.bytes false true
    | some sa =>
      let s := s.unpinFrame f
      match s.recheck f sa with
      | .error t => (none, t.dropFinal f)
      | .ok f =>
        let (good, clear) := f.opened.getD (false, [])
        let verified := good && !f.bad && !f.poison
        let s := if !good && !f.bad && !f.poison then s.count (Reg.saIcvFail sa) else s
        if verified && fieldAt clear 12 2 == 0x8808 then
          (none, s.endD f clear true true (fun s => s.macControl (s.interfaceOf f.inPort) clear))
        else if verified && (s.silsyFrame clear || s.silsyBroadcast clear) then
          (none, s.endD f clear true true (fun s => s.toHearth f.inPort clear true))
        else s.deliverD f clear true verified

/-- Frames at the head of the D-pipe's crypto island that can pass, in order (R60): each goes on to its queue, or waits
behind the island for the sector engine or for those ahead (R446, R447). A SECTOR frame crosses point 2 to the engine
(R434). -/
def State.drainD (s : State) (b : Nat) : Nat → State
  | 0 => s
  | n + 1 =>
    let ps := s.pipe b .d
    match ps.fifo with
    | [] => s
    | f :: rest =>
      if f.stage = .passed then
        match (s.setPipe b .d { ps with fifo := rest }).processD f with
        | (none, s) => s.drainD b n
        | (some f, s) =>
          let s := if f.stage = .waitSector then s.crosses f 2 [] else s
          if f.stage = .waitSector || !(s.pipe b .d).after.isEmpty then
            (s.setPipe b .d { s.pipe b .d with after := (s.pipe b .d).after ++ [f] }).drainD b n
          else (s.gateD f).drainD b n
      else s

/-- A frame put at the end of the D-pipe. -/
def State.pushD (s : State) (f : Frame) : State :=
  let s := s.crosses f 2 []
  let ps := s.pipe f.b .d
  let s := s.setPipe f.b .d { ps with fifo := ps.fifo ++ [s.tracePoints f 2 3] }
  s.drainD f.b (ps.fifo.length + 1)

/-- Admission to the D-pipe (R57, R339, R365), before the ICV check, by what its clear bytes show: the frame enters as
`enter` says and is counted (R370), or is discarded and counted. A frame that failed its end check goes on only where its
transmission had begun (R357). A frame for Hearth (`own`) has no egress port and needs only the room (log entry 59). -/
def State.admitD (s : State) (f : Frame) (clear : Octets) (own : Bool) (enter : State → Frame → State) : State :=
  match (if own then none else s.refusedD f.inPort) with
  | some k => (s.count k).traceEnd f true
  | none =>
    let (g, action) := s.foresee f clear
    if f.bad && !g.begun (clear.length + 4) then s.traceEnd f true
    else if 4194304 < s.halfUsed f.b .d + 16032 then (s.count (Reg.pOverloadDrops f.inPort)).traceEnd f true
    else if !own && decide (action ≠ 0) && s.queueFull g.outPort g.queue g.line then
      ((s.count (Reg.qAdmitDrops (queueRow g.outPort g.queue))).count (Reg.pOverloadDrops f.inPort)).traceEnd f true
    else enter (s.countRxD g) g

/-- The frames behind the D-pipe's crypto island that nothing holds back any more go to their queues (R447). -/
def State.releaseAfter (s : State) (b : Nat) : Nat → State
  | 0 => s
  | n + 1 =>
    match (s.pipe b .d).after with
    | [] => s
    | f :: rest =>
      if f.stage = .waitSector then s
      else ((s.setPipe b .d { s.pipe b .d with after := rest }).gateD f).releaseAfter b n

/-- The first sector frame behind the D-pipe's crypto island leaves the sector engine and crosses point 3 (R434, R446); where
its stream is closed it is discarded (R448). -/
def State.sectorDoneD (s : State) (b : Nat) : State :=
  match (s.pipe b .d).after with
  | [] => s
  | f :: rest =>
    match f.stage, f.stream with
    | .waitSector, some n =>
      let s := s.setPipe b .d { s.pipe b .d with after := rest }
      let s := match s.engineClosed n b with
        | some ks => (s.counts ks).dropFinal f
        | none =>
          let (bs, s) := s.sectorTransform n false f.bytes
          let f := { f with bytes := bs, stream := none }
          (s.crosses f 3 []).gateD f
      s.releaseAfter b (rest.length + 1)
    | _, _ => s

/-! Line interfaces (R350, R356, R360, R365) -/

/-- The SA that a header chooses in the D-pipe (R72): none where it shows no SecTAG or no entry matches. -/
def State.saOfTag (s : State) (b : Nat) (head : Octets) : Option Nat :=
  if fieldAt head 12 2 ≠ 0x88E5 then none
  else match s.emFor b (tagSci head) (tagTci head % 4) with
    | some row => some (s.num (Reg.emSa row))
    | none => none

/-- A protected frame whose SA is known enters the D-pipe (R64, R69, R365): it takes its keystream from the SA's slot, from
the engines, or waits for it. -/
def State.enterD (s : State) (f : Frame) (sa pn : Nat) (sci : Octets) (behind : Bool) : State :=
  let b := f.b
  let base := s.num (Reg.saHighestPn sa) + 1
  let (claim, s) := s.claimRx b sa pn base
  let conf := s.num (Reg.saConf sa)
  let payload := if conf = 3 then 0 else (secureLen f.bytes - confOffset conf + 15) / 16
  let s := if claim = .wait then s else (s.countClaim b .d sa claim).issue b .d (blocksFor claim payload (s.aheadOf sa base))
  s.pushD { f with sa := some sa, pn := pn, sci := sci, missed := claim != .hit && claim != .engines
                   pin := claim != .wait && claim != .engines, behind := behind, blocks := payload
                   opened := some (s.openFrame sa pn sci f.bytes)
                   stage := if claim = .wait then .waitSlot else if claim = .miss then .waitKey else .passed }

/-- A protected frame under the SA row its match names (R174, R191, R207, R234, R245, R289, R344): admitted with its PN, or its
discard. The PN of a frame behind another of its SA is judged at the head of the pipe (R248). -/
def State.taggedSa (s : State) (p : Nat) (f : Frame) (sa : Nat) (short : Bool) : State :=
  let b := boltOfPort p
  let bs := f.bytes
  let sci := tagSci bs
  let an := tagTci bs % 4
  let drop := fun (s : State) => s.traceEnd f true
  let st := s.rowState 0x4000 sa
  let q := s.num (Reg.saPort sa)
  if st = 0 ∨ st = 2 then drop (s.count (Reg.bNotUsingSa b))
  else if s.num (Reg.saDir sa) ≠ 1 ∨ s.num (Reg.saSuite sa) ≥ 4 ∨ s.oct (Reg.saSci sa) ≠ sci ∨ s.num (Reg.saAn sa) ≠ an then
    drop (s.count (Reg.bNotUsingSa b))
  else if q ≠ p ∧ ¬(s.kind q = 3 ∧ s.num (Reg.pParent q) = p) then drop (s.count (Reg.pWrongCarrier p))
  else if st ≠ 3 then drop ((s.count (Reg.saDiscards sa)).count (Reg.bNotUsingSa b))
  else if s.fnState (.port q) ≠ 2 then drop (s.count (Reg.pStoppedDiscards q))
  else if short then drop (s.count (Reg.bDKsOverruns b))
  else
    let conf := s.num (Reg.saConf sa)
    let e := bit (tagTci bs) 3
    let c := bit (tagTci bs) 2
    let suite := s.num (Reg.saSuite sa)
    let pn := recoverPn (decide (2 ≤ suite)) (fieldAt bs 16 4) (s.num (Reg.saPn sa))
    let behind := (s.pipe b .d).fifo.any (fun g => g.sa == some sa)
    if (conf ≠ 3 ∧ e = false) ∨ (conf = 3 ∧ (e || c) = true) then drop (s.count (Reg.bEcMismatch b))
    else if behind = false ∧ (pn = 0 ∨ pn = suiteE suite) then drop (s.count (Reg.bInvalidPn b))
    else if behind = false ∧ pn < s.num (Reg.saPn sa) then drop (s.count (Reg.saLate sa))
    else
      let opened := s.openFrame sa pn sci bs
      let own := opened.1 && (fieldAt opened.2 12 2 == 0x8808 || s.silsyFrame opened.2 || s.silsyBroadcast opened.2)
      s.admitD { f with inPort := q } opened.2 own (fun s f => s.enterD f sa pn sci behind)

/-- A protected frame received on a carrier p: its match, or its discard (R290 to R295, R350). The order of the checks before
the ICV is log entry 21; a frame too short for its SL counts under R193 and under R350. -/
def State.taggedIn (s : State) (p : Nat) (f : Frame) (short : Bool) : State :=
  let b := boltOfPort p
  let bs := f.bytes
  let drop := fun (s : State) => s.traceEnd f true
  let s := if tagBad bs then s.count (Reg.pBadTag p) else s
  if tagShort bs then drop (s.lengthLimit b p .d 2)
  else if tagBad bs then drop s
  else if 16000 < 12 + secureLen bs + 4 ∧ f.started = false then drop (s.lengthLimit b p .d 1)
  else
    let long := decide (16000 < 12 + secureLen bs + 4)
    let s := if long then s.lengthLimit b p .d 1 else s
    let f := { f with bad := f.bad || long }
    let sci := tagSci bs
    let an := tagTci bs % 4
    match s.emFor b sci an with
    | none => drop (if s.emFaulted b sci an then s.count (Reg.bNotUsingSa b) else s.count (Reg.bEmMiss b))
    | some row =>
      let s := (s.readRow b .d 8 1 (row % 32768)).count (Reg.emHits row)
      let sa := s.num (Reg.emSa row)
      (s.readRow b .d 7 0 sa).taggedSa p f sa short

/-- The final classification of a frame against the SA of its early choice in the D-pipe (R72, R73): whether it was corrected. -/
def State.reclassifyD (s : State) (b : Nat) (early final : Option Nat) : Bool × State :=
  if early.isSome ∧ early ≠ final then (true, (s.count (Reg.bReclassified b)).pc b 0x050 1) else (false, s)

/-- A frame of a line interface past the MAC island (R55): to its SA, or untagged toward its clear port. `fail` says that it
failed its FCS or length check. -/
def State.lineParsed (s : State) (p : Nat) (rx : RxFrame) (met : Arriving) (last : Octets) (fail : Bool) : State :=
  let b := boltOfPort p
  let bs := rx.bytes
  let (seen, s) := s.parsed p .d rx met.poison
  let (f, s) := s.newFrame b .d p bs (s.rxStamp p rx.ts)
  let (early, s) := s.reclassifyD b (s.saOfTag b (earlyHead bs last seen)) (s.saOfTag b bs)
  let f := Frame.arrived { f with bad := fail, started := rx.started, ct := rx.ct, early := early } met
  if fieldAt bs 12 2 = 0x88E5 then s.taggedIn p f rx.short
  else if s.fnState (.port p) ≠ 2 then (s.count (Reg.pStoppedDiscards p)).traceEnd f true
  else s.admitD f bs false (fun s f => s.pushD f)

/-- A frame received on an 802.1AE line interface (R350, R356). What the MAC island stops goes no further (R55): a runt, a frame
that failed its FCS or length check before its transmission had started (R357), one removed from the data path (R355). -/
def State.lineIn (s : State) (p : Nat) (rx : RxFrame) : State :=
  let bs := rx.bytes
  let len := bs.length + 4
  if p ≥ s.nPorts ∨ s.kind p ≠ 3 ∨ s.ownsLanes p = false then s
  else if s.fnState (.port p) = 0 then s.count (Reg.pStoppedDiscards p)
  else if s.num (Reg.pLinkUp p) = 0 then s
  else
    let last := (s.port p).lastHead
    let (met, s) := s.arrives p .d rx
    let tagged := fieldAt bs 12 2 == 0x88E5
    if len < 64 then s.count (Reg.pRunts p)
    else if met.first then (s.parsed p .d rx met.poison).2
    else
      let fail := decide (rx.fcsOk = false ∨ 16032 < len)
      let s := if rx.fcsOk = false then s.count (Reg.pFcsErrors p) else if 16032 < len then s.count (Reg.pOversize p) else s
      if fail && !rx.started then s
      else if !tagged && fieldAt bs 12 2 == 0x8808 then if fail then s else s.macControl p bs
      else if !tagged && (s.silsyFrame bs || s.silsyBroadcast bs) then if fail then s else s.toHearth p bs false
      else s.lineParsed p rx met last fail

/-- A frame decoded from the panels of a tributary (R355, R413, R424, R571, R572): the timestamp of its first data byte (R535),
its bytes with FCS, whether an error block ended it, and whether the panel that ended it had verified. A frame that an error
ended is poisoned; where the error is in its first beat it is discarded (R45). One that came with a bad FCS keeps one (R46). -/
def State.tribFrameIn (s : State) (p ts : Nat) (bytes : Octets) (broken verified : Bool) : State :=
  let n := bytes.length - 4
  let bs := if broken then bytes else bytes.take n
  let bad := broken || bytes.drop n != fcsBytes bs false
  let b := boltOfPort p
  let s := if broken then s.count (Reg.bPoisonFrames b) else s
  if bit (s.num (Reg.pTribPlm p)) 1 then s.count (Reg.pPlmDiscards p)
  else if s.num (Reg.pTribPayload p) = 3 then
    if bad = false ∧ (s.silsyFrame bs = true ∨ s.silsyBroadcast bs = true) then s.toHearth p bs true else s
  else if broken = true ∧ bytes.length ≤ 96 then s
  else if bad = false ∧ fieldAt bs 12 2 = 0x8808 then s.macControl p bs
  else if bad = false ∧ s.silsyBroadcast bs = true then s.count Reg.ibDiscards
  else
    let (f, s) := s.newFrame b .d p bs (s.rxStamp p ts)
    s.admitD { f with poison := bad, opened := some (verified, []) } bs false (fun s f => s.pushD f)

/-! Settling: what follows from the state at once -/

/-- Frames that nothing holds back any more claim their slots, enter the crypto island and pass (R60, R218, R447). -/
def State.unblock (s : State) (b : Nat) : State :=
  let n := (s.piped b .e).length + (s.piped b .d).length + 1
  if n = 1 then s
  else
    let s := (s.claimWaiting b .e n).claimWaiting b .d n
    (((s.enterRaw b n).drainE b n).drainD b n).releaseAfter b n

/-- Every step ends so: frames freed go on, each SA row's INSTALLED or IN_USE follows its use (R231), the primary's
hold-off starts or breaks (R716), and records queued are announced (R556). -/
def State.settle (s : State) : State :=
  let s := forEach (List.range s.nBolts) State.unblock s
  (forEach (s.rowsListed 0x4000) (fun s sa => s.saRefresh sa) s).pairSettle.announce

/-- The outcome of a command: its state, settled. -/
def done (s : State) : Host.Outcome State Fault Refusal := .next s.settle

end Sys2Proof.Machine
end

