-- ==== Sys2Proof/Machine/Sched.lean ====
section
/-! DEFINITION. Machine/Sched.lean: queue selection on a link, transmission, class C and D, gates, PAUSE timing, the
learn arbiter and the station table, and parity errors (chapters 1, 5, 6 and 10). -/

namespace Sys2Proof.Machine

/-! Selection (R497 to R505) -/

/-- The class a frame is sent in: class C goes as S on a link with class D traffic (R92). -/
def State.sentClass (s : State) (l : Nat) (f : Frame) : Nat := if f.cls = 0 ∧ (s.linkD l).isSome = true then 1 else f.cls

/-- The earliest due instant of a class D frame received for a port of a link, in 2^-16 ns (R92). -/
def State.earliestDue (s : State) (l : Nat) : Option Nat :=
  let frames := (s.linkPorts l).flatMap (fun p => (s.port p).queued)
    ++ (s.piped (l / 128) .e ++ s.piped (l / 128) .d).filter (fun f => s.linkOf f.outPort == l)
  (frames.filterMap (fun f => if f.late then none else f.due)).foldl (fun m d =>
    match m with | none => some d | some x => some (min x d)) none

/-- Whether a frame that is not of class D may start now under R92. -/
def State.guardOk (s : State) (l : Nat) (f : Frame) : Bool :=
  match s.linkD l with
  | none => true
  | some d =>
    decide (s.txNs f ≤ d)
      && (match s.earliestDue l with | some t => decide (s.nowFine + s.txNs f * 65536 ≤ t) | none => true)

/-- Whether the partner's pause holds a frame (R364). -/
def State.peerHolds (s : State) (l : Nat) (f : Frame) : Bool :=
  ((s.port l).peerPause.get? 8).isSome || ((s.port l).peerPause.get? f.prio).isSome

/-- Whether a frame's gate is open and stays open for its wire time from now on (R497, R516). An entry lasts at least a
nanosecond. -/
def State.gateOk (s : State) (f : Frame) : Bool :=
  let need := s.wireNs f + (if s.nowFine % 65536 = 0 then 0 else 1)
  !s.gatesHold f.outPort || s.openFor f.outPort f.queue (need + 2) s.nowNs need

/-- Whether a class D head can start now: due, gate open, not paused (R497, R499). -/
def State.dReady (s : State) (l : Nat) (f : Frame) : Bool :=
  (match f.due with | some t => decide (t ≤ s.nowFine) | none => false) && s.gateOk f && !s.peerHolds l f

/-- Whether a queue is eligible (R497). -/
def State.eligible (s : State) (l p q : Nat) : Bool :=
  match (s.port p).queue q with
  | [] => false
  | f :: _ =>
    if f.cls = 2 then s.dReady l f
    else s.gateOk f && !s.peerHolds l f
      && (s.num (Reg.qIdleSlope (queueRow p q)) == 0 || decide (0 ≤ s.creditFine (queueRow p q)))

/-- Whether a queue of a port is strict (R501). -/
def State.strictQ (s : State) (p q : Nat) : Bool := decide (8 - s.num (Reg.pQStrict p) ≤ q)

/-- A queue's DRR deficit in bytes. -/
def State.deficit (s : State) (p q : Nat) : Int := i24 (s.num (Reg.qDeficit (queueRow p q)))
def State.setDeficit (s : State) (p q : Nat) (d : Int) : State :=
  s.putN (Reg.qDeficit (queueRow p q)) (toI24 (max (-8388608) (min 8388607 d)))

/-- The weighted group's deficit round robin of one port, until it names a queue (R502, R503). -/
def State.drrQueue (s : State) (l p : Nat) : Nat → Option Nat × State
  | 0 => (none, s)
  | n + 1 =>
    let x := s.port p
    let top := 8 - s.num (Reg.pQStrict p)
    let q := x.turn % 8
    let pass := fun (s : State) => s.setPort p { s.port p with turn := if q + 1 < top then q + 1 else 0, turnGiven := false }
    if top ≤ q ∨ s.eligible l p q = false then (pass s).drrQueue l p n
    else
      let s := if x.turnGiven then s
        else (s.setDeficit p q (s.deficit p q + 256 * s.num (Reg.qWeight (queueRow p q)))).setPort p { x with turnGiven := true }
      match (s.port p).queue q with
      | [] => (pass s).drrQueue l p n
      | f :: _ =>
        let fits := if s.sentClass l f = 0 then decide (0 < s.deficit p q) else decide (s.countedLen f ≤ s.deficit p q)
        if fits then (some q, s) else (pass s).drrQueue l p n

/-- The frame a port's weighted group chooses. -/
def State.weightedPick (s : State) (l p : Nat) : Option Nat × State :=
  if (List.range (8 - s.num (Reg.pQStrict p))).any (fun q => s.eligible l p q) then s.drrQueue l p 4096 else (none, s)

/-- A port's deficit on its link charged with a frame (R503, R504). -/
def State.chargeLink (s : State) (l p : Nat) (len : Int) : State :=
  let x := s.port l
  s.setPort l { x with linkDeficit := if s.weightedEmpty p then x.linkDeficit.del p
                                      else x.linkDeficit.put p (x.linkDeficit.getD p 0 - len) }

/-- The deficit round robin between the ports of a link (R504). `cands` are the ports' choices. -/
def State.drrPort (s : State) (l : Nat) (cands : List (Nat × Nat)) : Nat → Option (Nat × Nat) × State
  | 0 => (none, s)
  | n + 1 =>
    let ports := s.linkPorts l
    let x := s.port l
    let i := x.linkTurn % max ports.length 1
    let p := ports.getD i l
    let pass := fun (s : State) => s.setPort l { s.port l with linkTurn := (i + 1) % max ports.length 1, linkGiven := false }
    match cands.find? (fun c => c.1 == p) with
    | none =>
      let s := if s.weightedEmpty p then s.setPort l { x with linkDeficit := x.linkDeficit.del p } else s
      (pass s).drrPort l cands n
    | some c =>
      let s := if x.linkGiven then s
        else s.setPort l { x with linkGiven := true,
                                  linkDeficit := x.linkDeficit.put p (x.linkDeficit.getD p 0 + 256 * s.num (Reg.pPortWeight p)) }
      match (s.port p).queue c.2 with
      | [] => (pass s).drrPort l cands n
      | f :: _ =>
        let d := (s.port l).linkDeficit.getD p 0
        let fits := if s.sentClass l f = 0 then decide (0 < d) else decide (s.countedLen f ≤ d)
        if fits then (some c, s) else (pass s).drrPort l cands n

/-- Weighted choice on a link (R500 step 3). -/
def State.pickWeighted (s : State) (l : Nat) : Option (Nat × Nat) × State :=
  let (cands, s) := (s.linkPorts l).foldl (fun (acc : List (Nat × Nat) × State) p =>
    let (c, s) := acc.2.weightedPick l p
    (match c with | some q => acc.1 ++ [(p, q)] | none => acc.1, s)) ([], s)
  if cands = [] then (none, s) else s.drrPort l cands (256 * (s.linkPorts l).length)

/-- Step 1 of R500: the class D head due now that was due first; at equal instants the lower port. -/
def State.pickDue (s : State) (l : Nat) : Option (Nat × Nat) :=
  let heads := (s.linkPorts l).flatMap (fun p => (List.range 8).filterMap (fun q =>
    match (s.port p).queue q with
    | f :: _ => if f.cls = 2 ∧ s.dReady l f = true then some ((f.due.getD 0), p, q) else none
    | [] => none))
  match heads.foldl (fun (m : Option (Nat × Nat × Nat)) h =>
      match m with | none => some h | some x => if h.1 < x.1 then some h else some x) none with
  | some h => some h.2
  | none => none

/-- Step 2 of R500: the highest eligible strict queue; at equal numbers round robin from the port after the last. -/
def State.pickStrict (s : State) (l : Nat) : Option (Nat × Nat) :=
  let ports := s.linkPorts l
  let last := (s.port l).strictLast
  let order := ports.filter (fun p => decide (last < p + 1)) ++ ports.filter (fun p => decide (p + 1 ≤ last))
  ([7, 6, 5].flatMap (fun q => (order.filter (fun p => s.strictQ p q && s.eligible l p q)).map (fun p => (p, q)))).head?

/-- The heads of a link's queues discarded while they meet a discard (R93, R517, R525). -/
def State.purge (s : State) (l : Nat) : State :=
  forEach (s.linkPorts l) (fun s p => forEach (List.range 8) (fun s q => s.purgeQueue l p q (((s.port p).queue q).length + 1)) s) s

/-! Transmission -/

/-- Whether a link may start a frame: up, no fault received, no line egress held idle, not sending (R338, R700, R714). -/
def State.linkFree (s : State) (l : Nat) : Bool :=
  (s.port l).sending.isNone && s.num (Reg.pLinkUp l) == 1 && s.num (Reg.pFaultRx l) == 0
    && !(s.kind l == 3 && s.lineIdle) && !(s.kind l == 1 && s.role == 1)

/-- A class D frame is late (R94, R95). -/
def State.countLate (s : State) (p : Nat) : State :=
  ((s.count (Reg.bDLate (boltOfPort p))).count (Reg.pDLate p)).raiseKeyed 0x010004 (p * 4)
    ((0x3000 + 4 * p + 2) * 256) (p * 16384)

/-- Whether a class D frame that starts now is late: its due instant has passed by 1 ns or more (R94). -/
def State.pastDue (s : State) (f : Frame) : Bool :=
  decide (f.cls = 2) && !f.late && (match f.due with | some t => decide (t + 65536 ≤ s.nowFine) | none => false)

/-- A frame that leaves the buffer crosses its read port, the framer and the lane (R39), with its FCS at the lane; its queue row and,
under gates, its gate row are read. -/
def State.leaves (s : State) (f : Frame) : State :=
  let p := f.outPort
  let s := s.readRow f.b f.pipe 10 6 (queueRow p f.queue % 1024)
  let s := if s.gated p then s.readRow f.b f.pipe 10 7 (gateRow p 1 (s.gateAt p 1 s.nowNs).1 % 32768) else s
  ((s.crosses f 6 []).crosses f 4 []).crosses f 5 (fcsBytes f.bytes (f.bad || f.poison))

/-- A frame starts on its link (R83, R94, R500, R503). `weighted` frames are charged to the deficits. -/
def State.startFrame (s : State) (l p q : Nat) (weighted : Bool) : State :=
  match (s.port p).queue q with
  | [] => s
  | f :: _ =>
    let cls := s.sentClass l f
    let s := s.dequeue p q
    let s := if weighted && cls != 0 then
        let s := if ((s.port p).queue q).isEmpty then s else s.setDeficit p q (s.deficit p q - s.countedLen f)
        s.chargeLink l p (s.countedLen f)
      else s
    let late := s.pastDue f
    let s := if late then s.countLate p else s
    let f := s.tracePoints { f with cls := cls, late := f.late || late } 6 6
    let s := (s.leaves f).pc f.b (0x090 + cls) 1
    s.setPort l { s.port l with sending := some ⟨p, f, s.num (Reg.pCtStart p), i24 (s.num (Reg.pLenOverhead p))⟩ }

/-- The scheduler's choice on a free link, started where R92 allows it (R500). -/
def State.select (s : State) (l : Nat) : State :=
  let s := forEach (s.linkPorts l) (fun s p => s.settleCredit p) s
  let s := s.purge l
  match s.pickDue l with
  | some (p, q) => s.startFrame l p q false
  | none =>
    match s.pickStrict l with
    | some (p, q) =>
      match (s.port p).queue q with
      | f :: _ =>
        if f.cls = 2 ∨ s.guardOk l f = true then
          (s.setPort l { s.port l with strictLast := p + 1 }).startFrame l p q false
        else s
      | [] => s
    | none =>
      match s.pickWeighted l with
      | (some (p, q), s) =>
        match (s.port p).queue q with
        | f :: _ => if f.cls = 2 ∨ s.guardOk l f = true then s.startFrame l p q true else s
        | [] => s
      | (none, s) => s

/-- Whether a link may send a control frame: up, no fault received, not sending (R338, R362). -/
def State.controlFree (s : State) (p : Nat) : Bool :=
  (s.port p).sending.isNone && s.num (Reg.pLinkUp p) == 1 && s.num (Reg.pFaultRx p) == 0

/-- FRAME_SELECTED (R500): the link is free; a PAUSE or PFC frame goes first, counted as it is sent (R362, R370), else the
scheduler chooses. -/
def execFrameSelected (p : Nat) (s : State) : Host.Outcome State Fault Refusal :=
  if s.ownsLanes p = false then done s
  else match (s.port p).control with
    | c :: rest =>
      if s.controlFree p then
        done (((s.setPort p { s.port p with control := rest }).count (Reg.pPauseTx p)).emit (.control p c))
      else done s
    | [] => if s.linkFree p then done (s.select p) else done s

/-- Class D frames of a link that were due and have not started are marked late and counted. -/
def State.markLate (s : State) (l : Nat) : State :=
  let overdue := fun (f : Frame) => !f.late && s.linkOf f.outPort == l
    && (match f.due with | some t => decide (t ≤ s.nowFine) | none => false)
  let b := l / 128
  let n := fun (p : Nat) => (((s.port p).queued ++ s.piped b .e ++ s.piped b .d).filter
    (fun f => overdue f && f.outPort == p)).length
  let s1 := forEach (s.linkPorts l) (fun s p => forEach (List.range (n p)) (fun s _ => s.countLate p) s) s
  let mark := fun (f : Frame) => if overdue f then { f with late := true } else f
  let s1 := forEach (s.linkPorts l) (fun s p =>
    s.setPort p { s.port p with queues := (s.port p).queues.map (fun e => (e.1, e.2.map mark)) }) s1
  let s1 := s1.setPipe b .e { s1.pipe b .e with fifo := (s1.pipe b .e).fifo.map mark }
  s1.setPipe b .d { s1.pipe b .d with fifo := (s1.pipe b .d).fifo.map mark, after := (s1.pipe b .d).after.map mark }

/-- FRAME_DUE (R90, R94, R362, R449): a class D frame of a link is due: it starts where the link is free, its gate open and no
PAUSE or PFC frame waiting, and every other due frame is late. -/
def execFrameDue (p : Nat) (s : State) : Host.Outcome State Fault Refusal :=
  if s.ownsLanes p = false then done s
  else
    let s := s.purge p
    let s := match s.pickDue p with
      | some (q, k) => if s.linkFree p && (s.port p).control.isEmpty then s.startFrame p q k false else s
      | none => s
    done (s.markLate p)

/-- The frame in transmission ended early with a deliberately bad FCS (R85, R91). How much of it had been sent is a
free value (log entry 4). -/
def State.spoil (s : State) (l : Nat) : State :=
  match (s.port l).sending with
  | some x =>
    let (r, s) := s.draw
    let f := x.frame
    let n := r % (f.bytes.length + 1)
    let grown := if f.grown = 0 then 0 else min (f.grown - 16) (n - 12) + (n - (f.bytes.length - 16))
    let cut : Frame := { f with bytes := f.bytes.take n, line := n + 4, grown := grown, bad := true }
    s.setPort l { s.port l with sending := some { x with frame := cut } }
  | none => s

/-- CLASS_C_UNDERRUN (R85 to R88, R91): the frame in transmission ends with a bad FCS; a class C underrun raises
CT_START. A frame that was whole when it started cannot underrun: one no longer than its threshold (R84, R87), one out of the
sector engine (R449), one of class S, or a late one of class D (R89, R94). -/
def execClassCUnderrun (p : Nat) (s : State) : Host.Outcome State Fault Refusal :=
  match (s.port p).sending with
  | none => done s
  | some x =>
    let q := x.port
    if x.frame.cls = 0 ∧ x.ct < 63 ∧ x.ct * 256 < x.frame.line ∧ x.frame.sector = none then
      let s := ((s.spoil p).count (Reg.bCUnderruns (boltOfPort q))).count (Reg.pCUnderruns q)
      let ct := s.num (Reg.pCtStart q)
      done (if ct < 63 then
          (s.putN (Reg.pCtStart q) (ct + 1)).raise 0x010003 ((0x3000 + 4 * q) * 256) (q * 16384 + (ct + 1))
        else s)
    else if x.frame.cls = 2 ∧ x.frame.late = false then
      done ((((s.spoil p).count (Reg.bDUnderruns (boltOfPort q))).count (Reg.pDUnderruns q)).raiseKeyed 0x010004 (q * 4 + 2)
        ((0x3000 + 4 * q + 2) * 256) (q * 16384 + 8192))
    else done s

/-- The measured residence of a corrected frame against the one written (R549, R550). `txTs` is its transmit timestamp
in 2^-16 ns. -/
def State.tcMeasure (s : State) (f : Frame) (txTs : Int) : State :=
  match f.tc with
  | none => s
  | some written =>
    let p := f.outPort
    let actual := txTs - f.rxTs + roundDiff (s.preamble p) (s.preamble f.inPort)
    let diff := (actual - written).natAbs
    let ns := diff / 65536
    let s := s.count (Reg.pTcCorrected p)
    let s := s.putN (Reg.pTcErrMax p) (max (s.num (Reg.pTcErrMax p)) (min ns 16777215))
    if s.num (Reg.pTcErrLimit p) * 65536 < diff then
      (s.count (Reg.pTcOverLimit p)).raiseOnce 0x060003 ((0x3000 + 4 * p + 2) * 256) (p * 16384 + min ns 0x3FFF)
    else s

/-- The counters of a frame whose last byte has left (R370). -/
def State.countTx (s : State) (f : Frame) : State :=
  let p := f.outPort
  let s := (s.count (Reg.pTxFrames p)).countBy (Reg.pTxOctets p) f.line
  let s := s.countBy (Reg.pExpansionOctets p) f.grown
  if f.bad ∨ f.poison then s.count (Reg.pPoisonedTx p) else s

/-- The credit a sent frame costs (R506, R507). -/
def State.chargeCredit (s : State) (p q : Nat) (len : Int) : State :=
  let row := queueRow p q
  let idle := s.num (Reg.qIdleSlope row)
  let rate := s.linkRate (s.linkOf p)
  if idle = 0 ∨ rate = 0 then s
  else
    let slope : Int := if s.num (Reg.qSendSlope row) = 0 then ((rate : Int) - idle).natAbs else s.num (Reg.qSendSlope row)
    s.setCredit row (s.creditFine row - len * slope * 8000 / rate)

/-- FRAME_TX_END (R507): the last byte is sent: counters, credit and class C deficit, the transparent clock, the tracer,
and buffer space freed. -/
def execFrameTxEnd (p txTs : Nat) (s : State) : Host.Outcome State Fault Refusal :=
  match (s.port p).sending with
  | none => done s
  | some x =>
    let f := x.frame
    let q := f.queue
    let s := s.settleCredit x.port
    let s := s.setPort p { s.port p with sending := none }
    let row := queueRow x.port q
    let s := ((s.countTx f).count (Reg.qTxFrames row)).countBy (Reg.qTxOctets row) f.line
    let len := (f.line : Int) + x.extra
    let s := s.chargeCredit x.port q len
    let s := if f.cls = 0 ∧ s.strictQ x.port q = false then
        let s := if ((s.port x.port).queue q).isEmpty then s else s.setDeficit x.port q (s.deficit x.port q - len)
        s.chargeLink p x.port len
      else s
    let s := s.queueEmptied x.port q
    let stamp := (txTs : Int) + i24 (s.num (Reg.pTsTxAdj p)) * 65536 / 1000
    let s := s.tcMeasure f stamp
    let s := (s.emit (.frame p f.bytes (!(f.bad || f.poison)))).sendPcs p (f.bytes ++ fcsBytes f.bytes (f.bad || f.poison))
    done ((s.traceEnd (f.leaves stamp) false).pauseAfter f)

/-! Gates (R511, R515, R518) -/

/-- GATE_EDGE (R511): the mask in force changes; the credit earned under the old mask is settled. The mask itself is
read from the list's position. -/
def execGateEdge (p : Nat) (s : State) : Host.Outcome State Fault Refusal := done (s.settleCredit p)

/-- The admin list becomes the operating list (R515); heads are judged against it (R517). -/
def State.takeover (s : State) (p : Nat) : State :=
  let s := s.settleCredit p
  let n := s.num (Reg.pAdminLen p)
  let s := forEach (List.range 128) (fun s i =>
    let src := gateRow p 0 i
    let dst := gateRow p 1 i
    if i < n then
      (((s.put (Reg.geMask dst) (s.rd (Reg.geMask src))).put (Reg.geInterval dst) (s.rd (Reg.geInterval src))).setRowState 0x4600 dst
        (if s.rowState 0x4600 src = 2 then 2 else 1))
    else if s.rowState 0x4600 dst = 0 then s
    else (s.clearRow 0x4600 dst).bumpVersion 0x4600 dst) s
  let s := ((s.putN (Reg.pOperBase p) (s.num (Reg.pAdminBase p))).putN (Reg.pOperCycle p) (s.num (Reg.pAdminCycle p))).putN
    (Reg.pOperLen p) n
  let s := s.setPort p { s.port p with admin := false }
  let s := s.raise 0x060101 0x460000 (p * 16384 + n * 64)
  let s := forEach (List.range n) (fun s i => s.mirror (s.gateItem (gateRow p 1 i))) s
  let s := forEach [0x47, 0x48, 0x49, 0x4A] (fun s f => s.mirror (.gateObj p f (s.num (portKey p 3 f)))) s
  (s.settleCredit p).purge (s.linkOf p)

/-- GATE_TAKEOVER (R515): device time has reached T. -/
def execGateTakeover (p : Nat) (s : State) : Host.Outcome State Fault Refusal :=
  if (s.port p).admin && decide (time96Ns (s.num (Reg.pTakeoverTime p)) ≤ s.nowNs) then done (s.takeover p) else done s

/-- A step `t` of device time at the gate lists (R518): the credit earned so far is settled, and a pending takeover whose
T it reaches or passes is made. -/
def State.stepGates (s : State) (t : State → State) : State :=
  let ports := s.ports.map (fun e => e.1)
  forEach ports (fun s p =>
    if (s.port p).admin && decide (time96Ns (s.num (Reg.pTakeoverTime p)) ≤ s.nowNs) then s.takeover p else s.settleCredit p)
    (t (forEach ports (fun s p => s.settleCredit p) s))

/-! PAUSE timing (R362, R364) -/

/-- Whether overload handling is on for a priority (R362, R363). -/
def State.pauses (s : State) (p prio : Nat) : Bool :=
  (s.num (Reg.pOverload p) == 1 && prio == 0) || (s.num (Reg.pOverload p) == 2 && bit (s.num (Reg.pPfcEnable p)) prio)

/-- PAUSE_REPEAT (R362, R363, R367): half the pause time has passed and XOFF is still in force: the count was at or above
XON_THRESH when it last changed. -/
def execPauseRepeat (p prio : Nat) (s : State) : Host.Outcome State Fault Refusal :=
  let rate := s.portRate p
  match (s.port p).pausedAt.get? prio with
  | some t =>
    if s.pauses p prio = true ∧ t * rate + s.num (Reg.pPauseQuanta p) * 256000 ≤ s.time.elapsed * rate then
      let s := s.sendPause p prio (s.num (Reg.pPauseQuanta p))
      done (s.setPort p { s.port p with pausedAt := (s.port p).pausedAt.put prio s.time.elapsed })
    else done s
  | none => done s

/-- PEER_PAUSE_EXPIRY (R364): a pause of the partner has run out; priority 8 stands for PAUSE. -/
def execPeerPauseExpiry (p prio : Nat) (s : State) : Host.Outcome State Fault Refusal :=
  match (s.port p).peerPause.get? prio with
  | some t => done (if t ≤ s.time.elapsed then s.setPort p { s.port p with peerPause := (s.port p).peerPause.del prio } else s)
  | none => done s

/-! The station table (R311 to R317) -/

/-- The lowest row of a bolt without an entry for a bucket: a way, else an overflow row (R311). -/
def State.freeStation (s : State) (b bucket : Nat) : Option Nat :=
  let base := b * 65536
  match (List.range 4).find? (fun w => s.rowState 0x4300 (base + 4 * bucket + w) == 0) with
  | some w => some (base + 4 * bucket + w)
  | none =>
    match (List.range 512).find? (fun i => s.rowState 0x4300 (base + 32768 + i) == 0) with
    | some i => some (base + 32768 + i)
    | none => none

/-- A move is counted in its window of FLAP_WINDOW seconds (R313), with every other move made at a second of that window. -/
def State.flap (s : State) (b row : Nat) : State :=
  let x := s.bolt b
  let len := max (s.num (Reg.bFlapWindow b)) 1
  let start := s.nowSec / len * len
  let moves := x.moves ++ [s.nowSec]
  let n := (moves.filter (fun t => decide (start ≤ t ∧ t < start + len))).length
  let now := !x.flapTold.contains (start, len) && n == s.num (Reg.bFlapMoves b) + 1
  let s := s.setBolt b { x with moves := moves, flapTold := if now then x.flapTold ++ [(start, len)] else x.flapTold }
  if now then s.raise 0x050003 0x430000 (b * 2097152 + row % 65536) else s

/-- A learn request served (R311, R312). -/
def State.serveLearn (s : State) (b : Nat) (r : LearnReq) : State :=
  let s := s.pc b 0x080 1
  match s.stationFor b r.vid r.mac with
  | some row =>
    let same := s.num (Reg.stnPort row) == r.port && s.oct (Reg.stnSci row) == r.sci
    if s.num (Reg.stnStatic row) = 1 then if same then s else s.count (Reg.bStnStaticConflict b)
    else
      let s := (s.putN (Reg.stnAge row) 0).bumpVersion 0x4300 row
      if same then s
      else (((s.putN (Reg.stnPort row) r.port).putO (Reg.stnSci row) r.sci).count (Reg.bStnMoves b)).flap b row
  | none =>
    let bucket := stationBucket r.vid r.mac
    match s.freeStation b bucket with
    | some row =>
      let s := ((s.putN (Reg.stnVid row) r.vid).putO (Reg.stnMac row) (natToBytes 6 r.mac)).putN (Reg.stnPort row) r.port
      let s := (s.putO (Reg.stnSci row) r.sci).setRowState 0x4300 row 1
      s.count (Reg.bStnLearned b)
    | none =>
      (s.count (Reg.bStnLearnRefused b)).raiseOnce 0x050002 ((0x2000 + 0x100 * b) * 256) (b * 2097152 + bucket)

/-- STATION_LEARN (R311): the arbiter serves the bolt's oldest request. -/
def execStationLearn (b : Nat) (s : State) : Host.Outcome State Fault Refusal :=
  match (s.bolt b).learn with
  | [] => done s
  | r :: rest => done ((s.setBolt b { s.bolt b with learn := rest }).serveLearn b r)

/-- A station row emptied. -/
def State.stationEmpty (s : State) (row : Nat) : State := (s.clearRow 0x4300 row).bumpVersion 0x4300 row

/-- The learn requests of a bolt served in order. -/
def State.serveAll (s : State) (b : Nat) : State :=
  let rs := (s.bolt b).learn
  forEach rs (fun s r => s.serveLearn b r) (s.setBolt b { s.bolt b with learn := [] })

/-- A visit of the ageing sweep to every row of a bolt (R314): a learned entry whose age has reached AGE_TIME is retired, and
every other grows older by a tick. Faulted rows are left alone (R319). -/
def State.ageSweep (s : State) (b : Nat) : State :=
  let limit := s.num (Reg.bAgeTime b)
  let s := s.pc b 0x081 33280
  forEach (s.rowsListed 0x4300) (fun s row =>
    if row / 65536 ≠ b ∨ s.rowState 0x4300 row ≠ 1 ∨ s.num (Reg.stnStatic row) = 1 then s
    else if limit ≠ 0 ∧ limit ≤ s.num (Reg.stnAge row) then (s.stationEmpty row).count (Reg.bStnAged b)
    else (s.count (Reg.stnAge row)).bumpVersion 0x4300 row) s

/-- AGE_SWEEP_TICK (R314, R317, R531): a second of the bolt's free-running counter has passed; the learn requests that wait are
served before the sweep. -/
def execAgeSweepTick (b : Nat) (s : State) : Host.Outcome State Fault Refusal :=
  let x := s.bolt b
  if s.nBolts ≤ b ∨ s.time.elapsed < x.ageAt + 1000000000 then done s
  else done (((s.setBolt b { x with ageAt := x.ageAt + 1000000000 }).serveAll b).ageSweep b)

/-- The learned entries of one local port, or of all, removed (R316). -/
def State.flushStations (s : State) (b v : Nat) : State :=
  let gone := (s.rowsListed 0x4300).filter (fun row => row / 65536 == b && s.rowState 0x4300 row == 1
    && s.num (Reg.stnStatic row) == 0 && (v == 0xFFFF || s.num (Reg.stnPort row) == 128 * b + v))
  let s := forEach gone (fun s row => s.stationEmpty row) s
  s.setBolt b { s.bolt b with flushes := (s.bolt b).flushes ++ [gone.length] }

/-- STN_FLUSH_COMPLETE (R316): the oldest flush is complete. -/
def execStnFlushComplete (b : Nat) (s : State) : Host.Outcome State Fault Refusal :=
  match (s.bolt b).flushes with
  | [] => done s
  | n :: rest =>
    done ((s.setBolt b { s.bolt b with flushes := rest }).raise 0x050004 ((0x2000 + 0x100 * b) * 256)
      (b * 2097152 + min n 65535))

/-! Waits inside the pipes -/

/-- The first frame of a pipe that waits for keystream may pass. -/
def fillFirst : List Frame → List Frame
  | [] => []
  | f :: rest => if f.stage = .waitKey then { f with stage := .passed } :: rest else f :: fillFirst rest

/-- The frames at the head of a pipe pass. -/
def State.drain (s : State) (b : Nat) (pi : Pipe) : State :=
  match pi with
  | .e => s.drainE b ((s.pipe b .e).fifo.length + 1)
  | .d => s.drainD b ((s.pipe b .d).fifo.length + 1)

/-- The keystream of the first waiting frame arrives (R69). -/
def State.fillKey (s : State) (b : Nat) (pi : Pipe) : State :=
  (s.setPipe b pi { s.pipe b pi with fifo := fillFirst (s.pipe b pi).fifo }).drain b pi

/-! Parity errors (R39 to R54, R122, R276) -/

/-- The mark of the bolt that read a faulted stream row. -/
def streamFault (n : Nat) : Key := .row 0x4700 n 0x102

/-- The rows of each table of event 0x01_0002: the SA store by SA number, the policy banks, the station table, the words of
the group filter, the queues, the gates, the sector streams. -/
def faultRows : List Nat := [65536, 16640, 4096, 8192, 33280, 171, 1024, 32768, 4096]

/-- A table row marked faulted (R49): table as in event 0x01_0002, row local to the bolt, SA number or stream. The rows of both
policy banks are the local rows of R115, so those of bank 1 begin at 4,096. -/
def State.faultRow (s : State) (b table row : Nat) : State :=
  let note := fun (s : State) (src : Nat) => s.raise 0x010002 src (b * 2097152 + table * 131072 + row % 65536)
  let mark := fun (win addr : Nat) =>
    if s.rowState win addr = 2 then s else note (s.setRowState win addr 2) (win * 256)
  if faultRows.getD table 0 ≤ row ∨ (table = 3 ∧ row < 4096) ∨ (table = 7 ∧ s.hasGingham = false) ∨ (table = 8 ∧ s.hasSector = false) then s
  else if table = 0 then
    if row / 8192 ≠ b ∨ s.rowState 0x4000 row = 0 ∨ s.rowState 0x4000 row = 2 then s else note (s.saFault row) 0x400000
  else if table = 1 then mark 0x4100 (b * 32768 + row)
  else if table = 2 ∨ table = 3 then mark 0x4200 (b * 8192 + row)
  else if table = 4 then mark 0x4300 (b * 65536 + row)
  else if table = 5 then
    if s.num (groupFault b row) = 1 then s else note (s.putN (groupFault b row) 1) ((0x2000 + 0x100 * b + 0x0A) * 256)
  else if table = 6 then mark 0x4500 (b * 1024 + row)
  else if table = 7 then mark 0x4600 (b * 32768 + row)
  else if table = 8 then
    if s.rowState 0x4700 row = 2 then s
    else note (((s.setRowState 0x4700 row 2).clear (.row 0x4700 row 0x100)).putN (streamFault row) (b + 1)) 0x470000
  else s

/-- A change made to every frame of a bolt that a list of serials names. -/
def State.markFrames (s : State) (b : Nat) (ids : List Nat) (g : Frame → Frame) : State :=
  let m := fun (f : Frame) => if ids.contains f.id then g f else f
  let s := s.setPipe b .e { s.pipe b .e with fifo := (s.pipe b .e).fifo.map m }
  let s := s.setPipe b .d { s.pipe b .d with fifo := (s.pipe b .d).fifo.map m, after := (s.pipe b .d).after.map m }
  { s with ports := s.ports.map (fun e =>
      if e.1 / 128 = b then
        (e.1, { e.2 with queues := e.2.queues.map (fun q => (q.1, q.2.map m)),
                         sending := e.2.sending.map (fun x => { x with frame := m x.frame }) })
      else e) }

/-- Units laid over others from a place on, which may lie before the first; they lengthen nothing. -/
def overlay (at_ : Int) (new old : List Nat) : List Nat :=
  old.zipIdx.map (fun x => if at_ ≤ x.2 then new.getD ((x.2 : Int) - at_).toNat x.1 else x.1)

/-- The place of a mark's first unit among the units of its tributary that wait to be encrypted. -/
def TribState.markPlace (t : TribState) (m : Nat × Nat × Frame) : Int :=
  64 * ((m.1 : Int) - (if t.line.isEmpty then 0 else 1)) + m.2.1

/-- A frame in a tributary's client stream is poisoned where units of it still wait: they carry its bad FCS (R44, R46). -/
def State.poisonMark (s : State) (p : Nat) (m : Nat × Nat × Frame) : Bool × State :=
  let t := s.trib p
  let f := m.2.2
  let blocks := frameBlocks f.bytes true
  let units := blockUnits blocks.length blocks
  let at_ := t.markPlace m
  if at_ + units.length ≤ 0 then (false, s)
  else if f.poison then (true, s)
  else
    let waiting := overlay at_ units (t.closed.flatten ++ t.building)
    let (closed, rest) := (t.closed.zipIdx.map (fun x => (waiting.drop (64 * x.2)).take 64), waiting.drop (64 * t.closed.length))
    let marks := t.marks.map (fun x => if x.2.2.id = f.id then (x.1, x.2.1, { x.2.2 with poison := true }) else x)
    (true, (s.setTrib p { t with closed := closed, building := rest, marks := marks }).count (Reg.bPoisonFrames (boltOfPort p)))

/-- The frame of a serial in the client streams of a bolt's tributaries. -/
def State.markOf (s : State) (b id : Nat) : Option (Nat × Nat × Nat × Frame) :=
  ((boltPorts b).flatMap (fun p => (s.trib p).marks.map (fun m => (p, m)))).find? (fun x => x.2.2.2.id == id)

/-- A frame that a beat held its words of is poisoned where the device still holds it: whether it was, and counted where
it was not poisoned before (R44, R52). -/
def State.poisonFrame (s : State) (b id : Nat) : Bool × State :=
  match (s.boltFrames b).find? (fun f => f.id == id) with
  | none => match s.markOf b id with | some x => s.poisonMark x.1 x.2 | none => (false, s)
  | some f =>
    if f.poison then (true, s)
    else (true, (s.markFrames b [id] (fun f => { f with poison := true })).count (Reg.bPoisonFrames b))

/-- Panel number `seq` of a tributary is poisoned where it is still to be sent (R44, R47, R52). -/
def State.poisonPanel (s : State) (p seq : Nat) : Bool × State :=
  let t := s.trib p
  if seq < t.sent then (false, s)
  else if t.poisoned.contains seq then (true, s)
  else (true, (s.setTrib p { t with poisoned := t.poisoned ++ [seq] }).count (Reg.bPoisonPanels (boltOfPort p)))

/-- Received panel number `seq` of a tributary is poisoned: counted once (R44, R52). It has gone on as frames by now. -/
def State.poisonRx (s : State) (p seq : Nat) : Bool × State :=
  let t := s.trib p
  if t.rxBad.contains seq then (true, s)
  else (true, (s.setTrib p { t with rxBad := t.rxBad ++ [seq] }).count (Reg.bPoisonPanels (boltOfPort p)))

/-- A frame or panel still arriving at a checking point is poisoned (R44, R45): an E-pipe panel is the one being
assembled before the crypto island, and the next to be sent behind it. -/
def State.poisonPassing (s : State) (b : Nat) (pi : Pipe) (pt : Nat) (x : Passing) : Bool × State :=
  if boltOfPort x.port ≠ b then (false, s)
  else if x.panel then
    if s.kind x.port ≠ 4 then (false, s)
    else
      let t := s.trib x.port
      match pi with
      | .e => s.poisonPanel x.port (if pt ≤ 2 then t.sent + t.closed.length else t.sent)
      | .d => (s.setTrib x.port { t with rxPoison := true }).poisonRx x.port t.rxNo
  else
    let a := (s.port x.port).arriving
    let s1 := s.setPort x.port { s.port x.port with
      arriving := { a with poison := true, first := a.first || (x.first && decide (pt ≤ 1)) } }
    (true, if a.poison then s1 else s1.count (Reg.bPoisonFrames b))

/-- Poisons in word order: the port of the first frame or panel poisoned, and the state (R44, R54). The port is that on
which it came in, or the tributary's (log entry 2). -/
def State.poisonAll {α : Type} (s : State) (port : α → Nat) (one : State → α → Bool × State) : List α → Option Nat × State
  | [] => (none, s)
  | x :: rest =>
    let (hit, s) := one s x
    let (first, s) := State.poisonAll s port one rest
    (if hit then some (port x) else first, s)

/-- The beat of a number at a checking point: its frame descriptors, and those of it and every later one. -/
def PointState.itemsOf (x : PointState) (no : Nat) : List BeatItem :=
  (x.beats.filter (fun b => b.no == no)).flatMap (fun b => b.items)
def PointState.itemsFrom (x : PointState) (no : Nat) : List BeatItem :=
  (x.beats.filter (fun b => decide (no ≤ b.no))).flatMap (fun b => b.items)

/-- Whether a failure can be met at a checking point (R39): beats at points 0 to 6, the tables behind points 7, 8 and 10,
the hot slots at point 9. The stream rows are read at point 8 (log entry 2). -/
def refFits (pt : Nat) : BeatRef → Bool
  | .held _ => decide (pt ≤ 6)
  | .passing _ _ => decide (pt ≤ 6)
  | .row t _ _ _ => (pt == 7 && t == 0) || (pt == 8 && ([1, 2, 3, 4, 5, 8] : List Nat).contains t)
      || pt == 9 || (pt == 10 && (t == 6 || t == 7))

/-- A replay (R41): what it sends again is marked replayed for the tracer. -/
def State.replays (s : State) (e : ParityError) (x : PointState) (c : Crossing) : State :=
  match c, e.at_ with
  | .beat no, _ => s.markFrames e.b ((x.itemsFrom no).filterMap (fun i => if i.panel then none else some i.id))
      (fun f => { f with replayed := true })
  | .passing _, .passing _ items => forEach items (fun s i =>
      if i.panel || boltOfPort i.port != e.b then s
      else s.setPort i.port { s.port i.port with arriving := { (s.port i.port).arriving with replayed := true } }) s
  | _, _ => s

/-- A persistent error at point 9 (R51, R215): the slot of an SA row is lost as by an eviction, pinned blocks too; its frames
wait as after a miss, and so does its tributary with the panel it has begun. -/
def State.slotLost (s : State) (b : Nat) (pi : Pipe) (sa : Nat) : State :=
  let owner := s.saOwner sa
  match (s.pipe b pi).slot owner with
  | none => s
  | some h =>
    let s := s.evict b pi owner
    let s := s.setPipe b pi { s.pipe b pi with
      hot := (s.pipe b pi).others owner
      fifo := (s.pipe b pi).fifo.map (fun f =>
        if f.sa = some sa ∧ f.pin = true then { f with stage := .waitSlot, pin := false } else f) }
    if owner < 65536 ∨ h.pins.isEmpty then s else s.waitSlot b pi h

/-- A crossing that failed again (R43 to R51): the port of what it poisoned first, and the state. -/
def State.persists (s : State) (e : ParityError) (x : PointState) (c : Crossing) : Option Nat × State :=
  match c, e.at_ with
  | .beat no, _ => s.poisonAll BeatItem.port
      (fun s (i : BeatItem) => if !i.panel then s.poisonFrame e.b i.id
        else match e.pipe with
          | .e => s.poisonPanel i.id i.seq
          | .d => s.poisonRx i.id i.seq) (x.itemsOf no)
  | .passing _, .passing _ items => s.poisonAll Passing.port (fun s i => s.poisonPassing e.b e.pipe e.point i) items
  | .row t r _, .row _ _ _ reader =>
    if e.point = 9 then (none, s.slotLost e.b e.pipe r)
    else
      let s := s.faultRow e.b t r
      match reader with
      | some p => (none, if t = 4 ∧ boltOfPort p = e.b then
          s.setPort p { s.port p with arriving := { (s.port p).arriving with station := true } } else s)
      | none => (none, s)
  | _, _ => (none, s)

/-- BEAT_PARITY_ERROR (R39 to R54): a receiver finds a parity error and asks for a replay; where what was replayed fails
again, the error is persistent, its event is raised, and it has its effect at its checking point. -/
def execBeatParityError (e : ParityError) (s : State) : Host.Outcome State Fault Refusal :=
  let ps := s.pipe e.b e.pipe
  let x := ps.point e.point
  match x.crossing e.at_ with
  | none => done s
  | some c =>
    if s.nBolts ≤ e.b ∨ refFits e.point e.at_ = false then done s
    else
      let (again, y) := x.fail c
      let s := s.setPipe e.b e.pipe { ps with points := ps.points.put e.point y }
      if again = false then done (((s.count (Reg.bReplays e.b)).pc e.b (0x030 + pipeNo e.pipe) 1).replays e x c)
      else
        let s := s.count (Reg.bPersistent e.b)
        let (first, s) := s.persists e x c
        done (s.raise 0x010001 ((0x2000 + 0x100 * e.b) * 256)
          (e.b * 2097152 + pipeNo e.pipe * 1048576 + e.point % 16 * 65536
            + (match first with | some p => 1024 + p % 1024 | none => 0)))

end Sys2Proof.Machine
end

