-- ==== Sys2Proof/Machine/Rows.lean ====
section
/-! DEFINITION. Machine/Rows.lean: table windows (R114 to R123, R135 to R137): selecting, reading, committing and
deleting rows, with the checks of every window (R227, R228, R232, R257, R291, R299, R308, R386 to R389, R437, R510,
R522). -/

namespace Sys2Proof.Machine

/-! Cursors (R114 to R118, R135 to R137) -/

/-- The cursor of a session in a window; 0xFFFFFF for no row. -/
def State.cursor (s : State) (n win : Nat) : Nat := s.num (.ses n (win * 256 + 1))

/-- A staging field of a session. -/
def stage (n win f : Nat) : Key := .ses n (win * 256 + f)

/-- Whether a row address names a row of the part (R115, R117). -/
def State.rowExists (s : State) (win row : Nat) : Bool :=
  let in_ := fun (stride rows : Nat) => decide (row / stride < s.nBolts) && decide (row % stride < rows)
  if win = 0x4000 then in_ 8192 8192 else if win = 0x4100 then in_ 32768 16640 else if win = 0x4200 then in_ 8192 8192
  else if win = 0x4300 then in_ 65536 33280 else if win = 0x4400 then in_ 1024 1024 else if win = 0x4500 then in_ 1024 1024
  else if win = 0x4600 then in_ 32768 32768 else if win = 0x4700 then decide (row < 4096)
  else if win = 0x4800 then decide (row < 64) else false

/-- ROW_STATE as it reads: queue rows are always valid (R522), reserved rows of 0x4400 are empty (R385). -/
def State.rowStateNow (s : State) (win row : Nat) : Nat :=
  if win = 0x4500 then (if s.rowState win row = 2 then 2 else 1)
  else if win = 0x4400 ∧ 168 ≤ row % 1024 then 0
  else s.rowState win row

/-- The port that governs a row (R135): by layout for queue and gate rows, the owner of an SA row that holds an SA
(log entry 37). -/
def State.rowGovernor (s : State) (win row : Nat) : Option Nat :=
  if win = 0x4000 then (if s.rowState win row = 0 then none else some (s.num (Reg.saPort row)))
  else rowPort win row

/-- A session's cursor moved, with the generations captured (R135). A NEXT moves it too, so that it counts as selecting again
after a switch-over (R137) even where it finds no row (log entry 96). -/
def State.moveCursor (s : State) (n win row : Nat) : State :=
  let b := if row = 0xFFFFFF then none else rowBolt win row
  let p := if row = 0xFFFFFF then none else s.rowGovernor win row
  let gen := (match b with | some b => s.num (Reg.bBoltRoleGen b) * 256 | none => 0)
    + (match p with | some p => s.num (Reg.pPortRoleGen p) | none => 0)
  let s := (s.putN (.ses n (win * 256 + 1)) row).putN (.ses n (win * 256 + 6)) gen
  let s := (s.putN (.cur n win 0) 0).putN (.cur n win 1) 0
  s.putN (.cur n win 2) (match p with | some p => p + 1 | none => 0)

/-- Whether a row is a queue or gate row of a Twill tributary, which has none (R493, log entry 118). -/
def State.tribRow (s : State) (win row : Nat) : Bool :=
  match rowPort win row with
  | some p => s.kind p == 4
  | none => false

/-- The effect of a write to SELECT (R117, R493). -/
def State.selectRow (s : State) (n win row : Nat) : Eff :=
  if row = 0xFFFFFF then okay (s.moveCursor n win row)
  else if s.rowExists win row = false then refuse s 0x100001
  else if s.tribRow win row then refuse s 0x130021
  else okay (s.moveCursor n win row)

/-- The abort of an operation that needs a row and has none (R118, R137). -/
def State.noRow (s : State) (n win : Nat) : Option Nat :=
  if s.cursor n win = 0xFFFFFF then some (if s.num (.cur n win 1) = 1 then 0x150003 else 0x150001) else none

/-- The next row after an address that is not empty (R119). A tributary's queue and gate rows are none (R493). -/
def State.nextRow (s : State) (win start : Nat) : Nat :=
  let rows := if win = 0x4500 then
      start :: ((rangeFrom (start / 8 + 1) (s.nPorts - (start / 8 + 1))).map (fun p => 8 * p))
    else (s.rowsListed win).filter (fun r => start ≤ r && s.rowStateNow win r != 0)
  (rows.filter (fun r => (win != 0x4500 || decide (r < 1024 * s.nBolts)) && !s.tribRow win r)).foldl min 0xFFFFFF

/-- OP NEXT (R119). With SELECT at 0xFF_FFFF it looks from row 0 on (log entry 97). -/
def State.opNextEff (s : State) (n win : Nat) : Eff :=
  let c := s.cursor n win
  okay (s.moveCursor n win (s.nextRow win (if c = 0xFFFFFF then 0 else c + 1)))

/-- OP CLEAR (R119): every staging field back at its default. -/
def State.opClearEff (s : State) (n win : Nat) : Eff :=
  okay (s.clearWhere (fun k => match k with | .ses m a => m == n && a / 256 == win && decide (0x10 ≤ a % 256) | _ => false))

/-- The fields a window's row holds (R116): those of the window's table that are neither write-only nor commands; group
rows and calendar rows have their own (R386, R387). -/
def rowFields (win row : Nat) : List Nat :=
  let fs := (Dict.window win).filterMap (fun e => if e.2.acc = .wo ∨ e.2.acc = .cmd then none else some e.1)
  if win = 0x4400 then
    (if row % 1024 < 8 then fs.filter (fun f => decide (f < 0x20)) else if row % 1024 < 168 then fs.filter (fun f => decide (0x20 ≤ f))
     else [])
  else fs

/-- A row's field as a read gives it: Q_DEPTH and Q_CREDIT are computed (R521), the bucket from the key (R288). -/
def State.rowField (s : State) (win row f : Nat) : Val :=
  if win = 0x4500 ∧ f = 0x20 then .num (min (s.queueDepth (row / 8) (row % 8)) 16777215)
  else if win = 0x4500 ∧ f = 0x21 then .num (toI24 ((s.settleCredit (row / 8)).creditBytes row))
  else if win = 0x4100 ∧ f = 0x13 then .num (emBucketOf (s.oct (Reg.emSci row)) (s.num (Reg.emAn row)))
  else if win = 0x4300 ∧ f = 0x16 then .num (stationBucket (s.num (Reg.stnVid row)) (bytesToNat (s.oct (Reg.stnMac row))))
  else s.rd (.row win row f)

/-- OP READ (R119). Of a blob slot it sets WRAP_BOLT, WRAP_TYPE and WRAP_KEY_ID, which the slot does not hold, to their
defaults (R256, log entry 98). -/
def State.opReadEff (s : State) (n win : Nat) : Eff :=
  match s.noRow n win with
  | some c => refuse s c
  | none =>
    let row := s.cursor n win
    if s.tribRow win row then refuse s 0x130021 else
    let s1 := forEach (rowFields win row) (fun t f => t.put (stage n win f) (s.rowField win row f)) s
    okay (s1.putN (.ses n (win * 256 + 4)) (s.num (.row win row 3)))

/-! Keys (R227, R251, R260, R437) -/

/-- A blob read from the side-memory store (R260, R657): its bytes, or the abort with what it leaves. `badLine` is a
line that fails its tag twice. A blob past the range's end is no blob (log entry 38). -/
def State.smBlob (s : State) (i : Nat) (badLine : Option Nat) : Except (State × Nat) Octets :=
  match s.rangeOf 1 with
  | some (r, true) =>
    if s.num (Reg.rngSize r) * 1048576 < 128 * i + 128 then .ok []
    else match s.lineFails r (2 * i) 2 badLine with
      | some k => .error (s.tagFailure r k false, 0x140050)
      | none =>
        let bs := s.smRead r (128 * i) 128
        .ok (bs.take (16 + keyTypeLength (bs.getD 9 0).toNat + 24))
  | _ => .error (s.count Reg.smStoppedErrors, 0x120050)

/-- The blob a commit names: a staging slot's, or the side memory's. -/
def State.blobFor (s : State) (src ref : Nat) (badLine : Option Nat) : Except (State × Nat) Octets :=
  if src = 1 then s.smBlob ref badLine else .ok (s.oct (Reg.blob ref))

/-! The SA store (R227, R228, R232) -/

/-- The checks of R227 before the key, in order. SA_CONF is held to its range for suite 0x08 too, which ignores it (log
entry 100). -/
def State.saChecks (s : State) (n row : Nat) : List (Option Nat) :=
  let f := fun i => s.num (stage n 0x4000 i)
  let suite := f 0x11
  let p := f 0x13
  let last := suiteE suite - 1
  [ abortIf (decide (2 ≤ f 0x10 ∨ ¬(suite < 4 ∨ suite = 8) ∨ 4 ≤ f 0x12 ∨ 4 ≤ f 0x15 ∨ (suite = 8 ∧ 2 ≤ f 0x15) ∨ 3 ≤ f 0x1B
      ∨ (f 0x1B = 0 ∧ 64 ≤ f 0x1C) ∨ 2 ^ 32 ≤ f 0x16 ∨ 2 ^ 20 ≤ f 0x1D)) 0x130001,
    abortIf (boltOfPort p != boltOfSa row || decide (1024 ≤ p)) 0x130010,
    abortIf (s.kind p != (if suite = 8 then 4 else 3)) 0x130021,
    abortIf (decide (suite ≠ 8) && decide (f 0x18 < 1 ∨ last < f 0x18)) 0x130001,
    abortIf (decide (2 ^ 30 < f 0x19)) 0x130001,
    abortIf (f 0x1B == 1 && s.part.sideChannels == 0) 0x130001 ]

/-- A row's configuration fields taken from the staging row. -/
def State.takeFields (s : State) (n win row : Nat) (fs : List Nat) : State :=
  forEach fs (fun s f => s.put (.row win row f) (s.rd (stage n win f))) s

/-- R231 applied within a commit: the row's change of use belongs to the commit and does not advance ROW_VERSION again
(R121). -/
def State.saCommitUse (s : State) (row : Nat) : State :=
  let st := s.rowState 0x4000 row
  if st = 1 ∧ s.saUsed row = true then s.putN (.row 0x4000 row 2) 3
  else if st = 3 ∧ s.saUsed row = false then (s.putN (.row 0x4000 row 2) 1).saDiscard row
  else s

/-- A commit to an EMPTY or FAULTED SA row (R227, R232). -/
def State.saInstall (s : State) (n row : Nat) (badLine : Option Nat) : Eff :=
  match inOrder (s.saChecks n row) with
  | some c => refuse s c
  | none =>
    let src := s.num (stage n 0x4000 0x1B)
    let ref := s.num (stage n 0x4000 0x1C)
    let suite := s.num (stage n 0x4000 0x11)
    let b := boltOfSa row
    let install := fun (s : State) (st keyId gen : Nat) (key : Octets) =>
      let s := (s.clearRow 0x4000 row).takeFields n 0x4000 row (rangeFrom 0x10 14)
      let s := ((s.putN (Reg.saKeyId row) keyId).putN (Reg.saBlobGen row) gen).putO (.row 0x4000 row 0x100) key
      let s := if key = [] then s else s.keyMarked row key
      let s := ((s.setRowState 0x4000 row st).saCommitUse row).forgetItem 0 row
      okay (s.mirror (s.saItem row))
    if src = 2 then install s 7 0 0 []
    else match s.blobFor src ref badLine with
      | .error (s, c) => refuse s c
      | .ok blob =>
        match s.unwrapBlob blob b (s.num (Reg.bBlobGen b)) with
        | .error step => refuse (s.unwrapFailed (some b) step 0x400000 row) 0x140011
        | .ok (kt, keyId, gen, key) =>
          if kt ≠ suiteKeyType suite then refuse s 0x130022 else install s 1 keyId gen key

/-- A commit to an installed SA row (R228). A staged PN of 0 is refused for a transmit row (R198). A transmit counter that the
commit takes to or past the warning threshold reaches it then (R202, log entry 93). -/
def State.saUpdate (s : State) (n row : Nat) : Eff :=
  let pn := s.num (stage n 0x4000 0x18)
  let win := s.num (stage n 0x4000 0x19)
  let suite := s.num (Reg.saSuite row)
  let cur := s.num (Reg.saPn row)
  let pnUsed := decide (suite ≠ 8)
  let tx := s.num (Reg.saDir row) == 0
  let installed := s.rowState 0x4000 row == 1
  check s
    [ abortIf (pnUsed && tx && !installed && decide (cur < pn)) 0x120013,
      abortIf (pnUsed && (decide (suiteE suite - 1 < pn) || (tx && pn == 0))) 0x130001,
      abortIf (decide (2 ^ 30 < win)) 0x130001,
      abortIf (pnUsed && (!tx || installed) && decide (pn < cur)) 0x130020 ]
    (let s := if pnUsed && (!tx || installed) then s.putN (Reg.saPn row) pn else s
     let s := if pnUsed && tx && installed && decide (cur < pn) then s.pnWarn row else s
     let s := (s.putN (Reg.saReplayWin row) win).putN (Reg.saEnable row) (s.num (stage n 0x4000 0x1A))
     let s := (s.bumpVersion 0x4000 row).saCommitUse row
     okay (s.mirror (s.saItem row)))

/-- A DELETE of an SA row (R119, R232). -/
def State.saDelete (s : State) (row : Nat) : Eff :=
  let st := s.rowState 0x4000 row
  if st = 3 ∧ s.num (Reg.saDir row) = 0 then refuse s 0x120011
  else
    let s := if st = 0 ∨ st = 4 then s.bumpVersion 0x4000 row
      else if st = 2 then s.saEmptied row 0
      else (s.saSet row 4).saDiscard row
    okay (s.mirror (.saDelete row))

/-! The lookup tables (R291, R299, R308) -/

/-- Whether every way of a bucket is valid or faulted. -/
def State.bucketFull (s : State) (win base bucket : Nat) : Bool :=
  (List.range 4).all (fun w => s.rowState win (base + 4 * bucket + w) != 0)

/-- A commit of an exact-match row (R291). -/
def State.emCommit (s : State) (n row : Nat) : Eff :=
  let sci := s.oct (stage n 0x4100 0x10)
  let an := s.num (stage n 0x4100 0x11)
  let sa := s.num (stage n 0x4100 0x12)
  let b := row / 32768
  let l := row % 32768
  let bucket := emBucketOf sci an
  checkInOrder s
    [ abortIf (decide (4 ≤ an)) 0x130001,
      abortIf (decide (boltOfSa sa ≠ b)) 0x130010,
      abortIf (s.rowState 0x4000 sa == 0 || s.rowState 0x4000 sa == 2) 0x120013,
      abortIf (!(s.num (Reg.saDir sa) == 1 && decide (s.num (Reg.saSuite sa) < 4) && s.oct (Reg.saSci sa) == sci && s.num (Reg.saAn sa) == an))
        0x130021,
      abortIf (decide (l < 16384 ∧ l / 4 ≠ bucket)) 0x130030,
      abortIf (decide (16384 ≤ l) && !s.bucketFull 0x4100 (b * 32768) bucket) 0x130032,
      abortIf (match s.emFor b sci an with | some r => decide (r ≠ row) | none => false) 0x130031 ]
    (let s := (s.takeFields n 0x4100 row [0x10, 0x11, 0x12]).putN (Reg.emHits row) 0
     let s := s.setRowState 0x4100 row 1
     okay (s.mirror (s.emItem row)))

/-- The leading ones of a prefix within 128 bits. -/
def leadingOnes (n : Nat) : Nat := 2 ^ 128 - 2 ^ (128 - min n 128)

/-- A commit of a policy row (R298, R299). -/
def State.policyCommit (s : State) (n row : Nat) : Eff :=
  let key := bytesToNat (s.oct (stage n 0x4200 0x10))
  let mask := bytesToNat (s.oct (stage n 0x4200 0x11))
  let len := s.num (stage n 0x4200 0x12)
  let action := s.num (stage n 0x4200 0x13)
  let stream := s.num (stage n 0x4200 0x15)
  let kindMask := mask / 2 ^ 139 % 4
  let kind := if kindMask = 3 then key / 2 ^ 139 % 4 else 0
  let addr := mask % 2 ^ 128
  check s
    [ s.notStopped (.bank (row / 8192) (row % 8192 / 4096)),
      abortIf (decide ((kind = 1 ∧ 32 < len) ∨ 128 < len ∨ 4 ≤ action ∨ 8 ≤ s.num (stage n 0x4200 0x14)
        ∨ (action = 3 ∧ 4096 ≤ stream) ∨ (action ≠ 3 ∧ stream ≠ 0xFFFF)) || (action == 3 && !s.hasSector)) 0x130001,
      abortIf (decide (key &&& mask ≠ key ∨ key / 2 ^ 128 % 1024 ≠ 0 ∨ mask / 2 ^ 128 % 1024 ≠ 0)) 0x130041,
      abortIf (decide ((kindMask ≠ 0 ∧ kindMask ≠ 3)
        ∨ (kind = 1 ∧ addr / 2 ^ 96 ≠ leadingOnes len / 2 ^ 96) ∨ (kind = 2 ∧ addr ≠ leadingOnes len)
        ∨ (kind ≠ 1 ∧ kind ≠ 2 ∧ (len ≠ 0 ∨ addr % 2 ^ 112 ≠ 0)))) 0x130042 ]
    (okay (((s.takeFields n 0x4200 row (rangeFrom 0x10 6)).putN (Reg.pkHits row) 0).setRowState 0x4200 row 1))

/-- A commit of a station row (R308). -/
def State.stationCommit (s : State) (n row : Nat) : Eff :=
  let vid := s.num (stage n 0x4300 0x10)
  let mac := bytesToNat (s.oct (stage n 0x4300 0x11))
  let p := s.num (stage n 0x4300 0x12)
  let b := row / 65536
  let l := row % 65536
  let bucket := stationBucket vid mac
  checkInOrder s
    [ abortIf (decide (4096 ≤ vid)) 0x130001,
      abortIf (decide (boltOfPort p ≠ b) || s.kind p != 3) 0x130021,
      abortIf (groupMac mac) 0x130001,
      abortIf (decide (l < 32768 ∧ l / 4 ≠ bucket)) 0x130030,
      abortIf (decide (32768 ≤ l) && !s.bucketFull 0x4300 (b * 65536) bucket) 0x130032,
      abortIf (match s.stationFor b vid mac with | some r => decide (r ≠ row) | none => false) 0x130031 ]
    (okay (((s.takeFields n 0x4300 row (rangeFrom 0x10 5)).putN (Reg.stnAge row) 0).setRowState 0x4300 row 1))

/-! Twill groups and calendars (R386 to R389, R420) -/

/-- The group of a lane of a bolt. -/
def State.groupOfLane (s : State) (b l : Nat) : Option Nat :=
  (List.range 8).find? (fun g => bit (s.num (Reg.tgLanes (b * 1024 + g))) l)

/-- The calendar row of a lane and slot (R385). -/
def calRow (b l slot : Nat) : Nat := b * 1024 + 8 + 20 * l + slot

/-- Whether a calendar entry satisfies R388. -/
def State.calOk (s : State) (b l trib : Nat) : Bool :=
  match s.groupOfLane b l with
  | none => false
  | some g => trib == 0xFFFF || (s.kind trib == 4 && boltOfPort trib == b && s.num (Reg.pTribGroup trib) == g)

/-- Whether a slot's holder is vacant or STOPPED (R389). -/
def State.slotFree (s : State) (trib : Nat) : Bool := trib == 0xFFFF || s.fnState (.port trib) == 0

/-- R389's check of a change of a calendar row from its tributary to another, with the code of R128. -/
def State.calBusy (s : State) (b l old new : Nat) : Option Nat :=
  match s.groupOfLane b l with
  | none => none
  | some g =>
    let busy := [old, new].filter (fun t => !s.slotFree t)
    if s.fnState (.group b g) = 0 ∨ busy = [] then none
    else if s.fnState (.group b g) = 4 ∨ busy.any (fun t => s.fnState (.port t) == 4) = true then some 0x120002
    else some 0x120001

/-- A field of a group as it is in force: changed values of R386 wait for the next second. The hidden field holds the
value in force plus 1 while it differs. -/
def State.tgNow (s : State) (row f : Nat) : Nat :=
  let h := s.num (.row 0x4400 row (0x100 + f))
  if h = 0 then s.num (.row 0x4400 row f) else h - 1

/-- The group fields that wait for the next second. -/
def tgWaiting : List Nat := [0x11, 0x12, 0x13, 0x14, 0x15]

/-- The values of a group's fields that waited come into force (R386); TG_FORCE_ACQ 1 then moves the group to ACQUIRE (R420). -/
def State.tgApply (s : State) (row : Nat) : State :=
  let forced := decide (s.num (.row 0x4400 row 0x115) ≠ 0 ∧ s.num (Reg.tgForceAcq row) = 1)
    && s.running (.group (row / 1024) (row % 1024))
  let s := forEach tgWaiting (fun s f => s.clear (.row 0x4400 row (0x100 + f))) s
  if forced then s.toAcquire row else s

/-- New values of a group's fields (R386, R420): TG_FORCE_ACQ written 1 again while it is in force begins the hold anew. -/
def State.groupWrite (s : State) (row : Nat) (vals : Nat → Nat) : State :=
  let stopped := s.fnState (.group (row / 1024) (row % 1024)) == 0
  let s := forEach tgWaiting (fun s f =>
    let h : Key := .row 0x4400 row (0x100 + f)
    let old := s.num (.row 0x4400 row f)
    let s := if stopped || s.num h != 0 || old == vals f then s else s.putN h (old + 1)
    s.putN (.row 0x4400 row f) (vals f)) s
  let s := s.putN (Reg.tgLanes row) (vals 0x10)
  if vals 0x15 = 1 ∧ s.tgNow row 0x15 = 1 ∧ stopped = false then s.toAcquire row else s

/-- A commit of a row of window 0x4400. -/
def State.twillCommit (s : State) (n row : Nat) : Eff :=
  let b := row / 1024
  let l := row % 1024
  if l < 8 then
    let f := fun i => s.num (stage n 0x4400 i)
    check s
      [ if f 0x10 = s.num (Reg.tgLanes row) then none else s.notStopped (.group b l),
        abortIf (decide (f 0x11 < 1 ∨ f 0x12 < 1 ∨ 15 < f 0x12 ∨ f 0x13 < 1 ∨ 15 < f 0x13 ∨ f 0x14 < 10 ∨ 60000 < f 0x14)) 0x130001 ]
      (okay ((s.groupWrite row f).setRowState 0x4400 row 1))
  else if l < 168 then
    let trib := s.num (stage n 0x4400 0x20)
    let lane := (l - 8) / 20
    check s
      [ s.calBusy b lane (s.num (Reg.calTrib row)) trib,
        abortIf (!s.calOk b lane trib) 0x130060 ]
      (let s := if s.num (Reg.calTrib row) = trib then s
        else forEach [0x100, 0x101, 0x102, 0x103] (fun s f => s.clear (.row 0x4400 row f)) s
       okay ((s.putN (Reg.calTrib row) trib).setRowState 0x4400 row (if trib = 0xFFFF then 0 else 1)))
  else refuse s 0x130001

/-- A DELETE of a row of window 0x4400: a group's fields at their defaults, a slot vacant. -/
def State.twillDelete (s : State) (row : Nat) : Eff :=
  let b := row / 1024
  let l := row % 1024
  if l < 8 then
    check s [ if s.num (Reg.tgLanes row) = 0 then none else s.notStopped (.group b l) ]
      (okay ((s.groupWrite row (fun f => match Dict.find Dict.win4400 f with | some ⟨_, _, .num v⟩ => v | _ => 0)).setRowState
        0x4400 row 0))
  else if l < 168 then
    check s [ s.calBusy b ((l - 8) / 20) (s.num (Reg.calTrib row)) 0xFFFF ]
      (okay ((s.clearRow 0x4400 row).bumpVersion 0x4400 row))
  else okay (s.bumpVersion 0x4400 row)

/-! Queues, gates, streams, blobs (R257, R436, R437, R508 to R510, R522) -/

/-- New fields of a queue row; an idle slope of 0 sets the credit to 0 (R508). -/
def State.queueWrite (s : State) (row : Nat) (vals : Nat → Nat) : State :=
  let s := s.settleCredit (row / 8)
  let s := forEach (rangeFrom 0x10 5) (fun s f => s.putN (.row 0x4500 row f) (vals f)) s
  let s := if vals 0x12 = 0 then s.setCredit row 0 else s
  s.setRowState 0x4500 row 0

/-- A commit of a queue row (R522); values outside R521's ranges are refused (log entry 39). -/
def State.queueCommit (s : State) (n row : Nat) : Eff :=
  let f := fun i => s.num (stage n 0x4500 i)
  check s
    [ if f 0x10 = s.num (Reg.qClass row) then none else s.notStopped (.sched (row / 8)),
      abortIf (decide ((2 < f 0x10 ∧ f 0x10 ≠ 0xFF) ∨ f 0x11 < 1 ∨ 800000 < f 0x12 ∨ 800000 < f 0x13 ∨ f 0x14 < 8 ∨ 16384 < f 0x14)) 0x130001 ]
    (okay (s.queueWrite row f))

/-- A DELETE of a queue row: its configuration at the defaults. -/
def State.queueDelete (s : State) (row : Nat) : Eff :=
  check s [ if s.num (Reg.qClass row) = 0xFF then none else s.notStopped (.sched (row / 8)) ]
    (okay (s.queueWrite row (fun f => match Dict.find Dict.win4500 f with | some ⟨_, _, .num v⟩ => v | _ => 0)))

/-- The port of a gate row, and whether it is of the operating list. -/
def gatePort (row : Nat) : Nat := row / 32768 * 128 + row % 32768 / 256
def gateOper (row : Nat) : Bool := row % 256 / 128 == 1

/-- A commit of a gate row (R509, R510). -/
def State.gateCommit (s : State) (n row : Nat) : Eff :=
  let v := s.num (stage n 0x4600 0x11)
  check s
    [ abortIf (gateOper row) 0x110001, s.notStopped (.gate (gatePort row)),
      abortIf (decide (v < 8 ∨ 1000000000 < v)) 0x130001 ]
    (let s := (s.takeFields n 0x4600 row [0x10, 0x11]).setRowState 0x4600 row 1
     okay (s.mirror (s.gateItem row)))

/-- A DELETE of a gate row; the list's control fields stay (R124). -/
def State.gateDelete (s : State) (row : Nat) : Eff :=
  check s [ abortIf (gateOper row) 0x110001, s.notStopped (.gate (gatePort row)) ]
    (let s := (((s.clear (Reg.geMask row)).clear (Reg.geInterval row)).setRowState 0x4600 row 0)
     okay (s.mirror (s.gateItem row)))

/-- A commit of a stream row (R436, R437). -/
def State.streamCommit (s : State) (n row : Nat) (badLine : Option Nat) : Eff :=
  let f := fun i => s.num (stage n 0x4700 i)
  let suite := f 0x10
  let eff : Eff :=
    match inOrder
      [ abortIf (decide (¬(suite = 0x10 ∨ suite = 0x11) ∨ 1 < f 0x11 ∨ 1023 < f 0x12 ∨ f 0x13 < 2 ∨ 8 < f 0x13 ∨ 1 < f 0x14 ∨ 1023 < f 0x15
          ∨ 1 < f 0x17 ∨ (f 0x17 = 0 ∧ 64 ≤ f 0x18)) || (f 0x17 == 1 && s.part.sideChannels == 0)) 0x130001,
        abortIf (decide (f 0x15 < f 0x12 + f 0x13)) 0x130071 ] with
    | some c => refuse s c
    | none =>
      match s.blobFor (f 0x17) (f 0x18) badLine with
      | .error (s, c) => refuse s c
      | .ok blob =>
        match s.unwrapBlob blob 0xFF (s.num Reg.blobGenDev) with
        | .error step => refuse (s.unwrapFailed none step 0x470000 row) 0x140011
        | .ok (kt, keyId, gen, key) =>
          if kt ≠ suiteKeyType suite then refuse s 0x130022
          else if key.take (key.length / 2) = key.drop (key.length / 2) then refuse s 0x130070
          else
            let s := s.takeFields n 0x4700 row (rangeFrom 0x10 9)
            let s := ((s.putN (Reg.ssKeyId row) keyId).putN (Reg.ssBlobGen row) gen).putO (.row 0x4700 row 0x100) key
            okay ((s.clear (streamFault row)).setRowState 0x4700 row 1)
  underAborts s [s.notStopped (.stream row)] eff

/-- A DELETE of a stream row (R436). -/
def State.streamDelete (s : State) (row : Nat) : Eff :=
  check s [s.notStopped (.stream row)] (okay (s.streamEmpty row))

/-- A commit of a blob staging slot (R256, R257). -/
def State.blobCommit (s : State) (n row : Nat) : Eff :=
  let blob := s.oct (stage n 0x4800 0x10)
  check s [abortIf (!blobWellFormed blob) 0x130003] (okay ((s.putO (Reg.blob row) blob).setRowState 0x4800 row 1))

/-! OP (R119, R121, R135) -/

/-- The window's own commit. -/
def State.commitRow (s : State) (n win row : Nat) (badLine : Option Nat) : Eff :=
  if win = 0x4000 then
    (if s.rowState win row = 0 ∨ s.rowState win row = 2 then s.saInstall n row badLine else s.saUpdate n row)
  else if win = 0x4100 then s.emCommit n row
  else if win = 0x4200 then s.policyCommit n row
  else if win = 0x4300 then s.stationCommit n row
  else if win = 0x4400 then s.twillCommit n row
  else if win = 0x4500 then s.queueCommit n row
  else if win = 0x4600 then s.gateCommit n row
  else if win = 0x4700 then s.streamCommit n row badLine
  else s.blobCommit n row

/-- The window's own delete. -/
def State.deleteRow (s : State) (win row : Nat) : Eff :=
  let empty := fun (s : State) => (s.clearRow win row).bumpVersion win row
  if win = 0x4000 then s.saDelete row
  else if win = 0x4100 then okay ((empty s).mirror (.emDelete row))
  else if win = 0x4200 then check s [s.notStopped (.bank (row / 8192) (row % 8192 / 4096))] (okay (empty s))
  else if win = 0x4300 then okay (empty s)
  else if win = 0x4400 then s.twillDelete row
  else if win = 0x4500 then s.queueDelete row
  else if win = 0x4600 then s.gateDelete row
  else if win = 0x4700 then s.streamDelete row
  else okay (empty s)

/-- A change of the selected row under the cursor's checks (R118, R135, R137, R493). -/
def State.onRow (s : State) (n win : Nat) (version : Bool) (eff : Nat → Eff) : Eff :=
  match s.noRow n win with
  | some c => refuse s c
  | none =>
    let row := s.cursor n win
    underAborts s
      [ abortIf (s.num (.cur n win 0) == 1) 0x160001, abortIf (s.tribRow win row) 0x130021,
        abortIf (version && s.num (.row win row 3) != s.num (.ses n (win * 256 + 4))) 0x150004 ]
      (eff row)

/-- OP COMMIT and COMMIT_IF_UNCHANGED (R119). -/
def State.opCommitEff (s : State) (n win : Nat) (unchanged : Bool) (badLine : Option Nat) : Eff :=
  s.onRow n win unchanged (fun row => s.commitRow n win row badLine)

/-- OP DELETE (R119). -/
def State.opDeleteEff (s : State) (n win : Nat) : Eff := s.onRow n win false (fun row => s.deleteRow win row)

/-- A write to OP (R116): the operation, or 0x13_0001 for another value, after the row's abort (R139). -/
def State.opEff (s : State) (n win v : Nat) (badLine : Option Nat) : Eff :=
  if v = 1 then s.opReadEff n win
  else if v = 2 then s.opCommitEff n win false badLine
  else if v = 3 then s.opCommitEff n win true badLine
  else if v = 4 then s.opDeleteEff n win
  else if v = 5 then s.opNextEff n win
  else if v = 6 then s.opClearEff n win
  else check s [s.noRow n win, some 0x130001] (okay s)

/-! WRAP (R258, R259) and the legacy key (R274, R275) -/

/-- A key wrapped into the selected slot and this session's BLOB (R258, R259). A write that is refused changes nothing (R110),
so that WRAP_KEY stays (log entry 99). -/
def State.wrapEff (s : State) (n v : Nat) : Eff :=
  let kt := s.num (stage n 0x4800 0x13)
  let key := s.oct (stage n 0x4800 0x11)
  let boltByte := s.num (stage n 0x4800 0x12)
  let erase := fun (e : Eff) => (e.1.clear (stage n 0x4800 0x11), e.2)
  let row := s.cursor n 0x4800
  check s
    [ abortIf (n == 0) 0x140010, abortIf (n != 0 && !s.sessHas n 2) 0x110004, abortIf (!s.kduReady) 0x110003,
      s.noRow n 0x4800, abortIf (v != 1) 0x130001,
      abortIf (decide (keyTypeLength kt = 0)) 0x130001, abortIf (decide (key.length ≠ keyTypeLength kt)) 0x130003,
      abortIf (decide (boltByte ≠ 0xFF ∧ s.nBolts ≤ boltByte)) 0x130001 ]
    (erase (
      let blob := s.wrapBlob boltByte kt (s.num (stage n 0x4800 0x14)) key
      okay (((s.putO (Reg.blob row) blob).setRowState 0x4800 row 1).putO (stage n 0x4800 0x10) blob)))

/-- A key loaded into an AWAITING_KEY row (R274). -/
def State.legacyEff (s : State) (n v : Nat) : Eff :=
  let sa := s.num Reg.legacySa
  let key := s.oct (Reg.legacyKey n)
  let suite := s.num (Reg.saSuite sa)
  let fits := (key.length == 16 && (suite == 0 || suite == 2)) || (key.length == 32 && (suite == 1 || suite == 3))
  let bad := firstAbort
    [ abortIf (s.num Reg.legacyEnable == 0) 0x140001, abortIf (s.lc != 5) 0x110003, abortIf (v != 1) 0x130001,
      abortIf (!(decide (sa < s.nSas) && s.rowState 0x4000 sa == 7 && decide (suite < 4))) 0x120013,
      abortIf (!fits) 0x130003 ]
  match bad with
  | some c => refuse s c
  | none =>
    let s := (s.putO (.row 0x4000 sa 0x100) key).putN (Reg.saKeyId sa) 0xFFFFFFFFFFFF
    let s := (s.setRowState 0x4000 sa 1).count Reg.legacyUses
    okay (s.mirror (s.saItem sa))

/-- What every LEGACY_GO write does, succeeding or refused: LEGACY_KEY is erased, event 0x07_0301 (R275). -/
def legacyAfter (n : Nat) (r : Eff) : Eff :=
  let note := fun (s : State) (refused : Nat) =>
    (s.clear (Reg.legacyKey n)).raise 0x070301 0x133000 (refused * 8388608 + s.num Reg.legacySa % 65536)
  match r.2 with
  | .ok => (note r.1 0, r.2)
  | .abort _ => (note r.1 1, r.2)
  | .value _ => r

/-- SA_RETIRED (R232, R233): the last frame classified to a RETIRING row has passed the crypto island. -/
def execSaRetired (sa : Nat) (s : State) : Host.Outcome State Fault Refusal :=
  if s.rowState 0x4000 sa = 4 ∧ s.saBusy sa = false then done (s.saEmptied sa 0) else done s

end Sys2Proof.Machine
end

