-- ==== Sys2Proof/Machine/Links.lean ====
section
/-! DEFINITION. Machine/Links.lean: the status of lanes (R489, R490), and the link state of Ethernet interfaces (R337, R371). -/

namespace Sys2Proof.Machine

/-- LN_OWNER (R490). -/
def State.laneOwner (s : State) (n : Nat) : Nat :=
  match s.lanePort n with
  | some p => 4194304 + p * 4096
  | none =>
    match s.laneGroup n with
    | some g => 8388608 + g * 512
    | none => if s.mirrorLane n then 12582912 else 0

/-- LN_STATUS (R489). -/
def State.laneStatus (s : State) (n : Nat) : Nat :=
  let b2n := fun (x : Bool) (i : Nat) => if x then 2 ^ i else 0
  let ref := decide (n < 128) && s.num (Reg.bRefState (n % 64 / 8)) != 0
  b2n (s.lane n).signal 23 + b2n (s.num (Reg.lnState n) == 3) 22 + b2n (s.rateConflict n) 21 + b2n ref 20
    + b2n (s.lane n).prbsSync 19 + b2n (s.lane n).kept 18

/-- A rate conflict that begins raises event 0x04_0004 (R492). -/
def State.conflictCheck (s : State) (n : Nat) : State :=
  let now := s.rateConflict n
  let x := s.lane n
  if x.conflict = now then s
  else
    let s := s.setLane n { x with conflict := now }
    if now then s.raise 0x040004 ((0x1900 + n) * 256) (n * 65536 + s.num (Reg.lnRate n) % 8 * 8192) else s

/-- Whether a port's link is up (R337). -/
def State.linkUpNow (s : State) (p : Nat) : Bool :=
  s.ownsLanes p && s.fnState (.port p) != 0 && (s.portLanes p).all (fun n => s.laneReport n == 0)
    && (s.port p).pcs && (!modeFec (s.num (Reg.pLaneMode p)) || (s.port p).fec)

/-- Remote-fault ordered sets from an interface whose receive link is down; a STOPPED port sends none (R337, R338). -/
def State.sendFault (s : State) (p : Nat) : State :=
  if s.ownsLanes p && s.fnState (.port p) != 0 && s.num (Reg.pLinkUp p) == 0 then s.emit (.remoteFault p) else s

/-- A port's link evaluated; a change is counted and raises event 0x03_0101 (R337, R371), and ordered sets follow it (R338). -/
def State.linkEval (s : State) (p : Nat) : State :=
  let up := s.linkUpNow p
  if (s.num (Reg.pLinkUp p) == 1) = up then s
  else
    let s := (s.putN (Reg.pLinkUp p) (if up then 1 else 0)).count (Reg.pLinkChanges p)
    let s := s.raise 0x030101 ((0x3000 + 4 * p + 1) * 256)
      (p * 16384 + (if up then 8192 else 0) + s.num (Reg.pFaultRx p) * 2048)
    if up then s else (s.clear (Reg.pFaultRx p)).sendFault p

/-- The link of the port that owns a lane evaluated. -/
def State.laneLink (s : State) (n : Nat) : State :=
  match s.lanePort n with
  | some p => s.linkEval p
  | none => s

/-- PCS_ALIGNMENT_CHANGE (R337): block lock with alignment, and FEC alignment, of a port's interface. -/
def execPcsAlignmentChange (p : Nat) (pcs fec : Bool) (s : State) : Host.Outcome State Fault Refusal :=
  if p < s.nPorts then done ((s.setPort p { s.port p with pcs := pcs, fec := fec }).linkEval p) else done s

/-- LINK_FAULT_ORDERED_SETS (R338): what ordered sets an interface receives, 0 none, 1 local, 2 remote fault. -/
def execLinkFaultOrderedSets (p kind : Nat) (s : State) : Host.Outcome State Fault Refusal :=
  if s.ownsLanes p = true ∧ s.num (Reg.pLinkUp p) = 1 ∧ kind < 3 then done (s.putN (Reg.pFaultRx p) kind) else done s

end Sys2Proof.Machine
end

