-- ==== Sys2Proof/Machine/Twill.lean ====
section
/-! DEFINITION. Machine/Twill.lean: Twill groups and tributaries: panels sent and received (R399 to R413), key phases
(R265 to R270), alignment, defects and regimes (R414 to R424), and the per-key limit (R209 to R212). -/

namespace Sys2Proof.Machine

/-! Slots, lanes and groups -/

/-- The slots of a tributary as calendar rows, in ascending order of lane and slot (R390). -/
def State.tribSlots (s : State) (p : Nat) : List Nat :=
  let b := boltOfPort p
  (List.range 160).filterMap (fun i => let r := b * 1024 + 8 + i
    if s.num (Reg.calTrib r) = p then some r else none)

/-- The local lane of a calendar row. -/
def calLane (row : Nat) : Nat := (row % 1024 - 8) / 20

/-- The local lanes that carry a tributary's slots. -/
def State.tribLanes (s : State) (p : Nat) : List Nat := ((s.tribSlots p).map calLane).dedup

/-- The row of a tributary's group. -/
def State.tribGroupRow (s : State) (p : Nat) : Nat := boltOfPort p * 1024 + s.num (Reg.pTribGroup p)

/-- The tributaries of a group. -/
def State.groupTribs (s : State) (row : Nat) : List Nat :=
  (boltPorts (row / 1024)).filter (fun p => s.kind p == 4 && s.num (Reg.pTribGroup p) == row % 1024)

/-- The local lanes of a group. -/
def State.groupLanes (s : State) (row : Nat) : List Nat := (List.range 8).filter (fun l => bit (s.num (Reg.tgLanes row)) l)

/-- The line-lane number of a bolt's local lane. -/
def lineOf (b l : Nat) : Nat := 8 * b + l

/-- Whether a tributary and its group both run (R394). -/
def State.tribRunning (s : State) (p : Nat) : Bool :=
  s.kind p == 4 && s.running (.port p) && s.running (s.tribFn p)

/-- Whether a tributary may still send panels: both run, or complete what they have. -/
def State.tribSends (s : State) (p : Nat) : Bool :=
  s.tribLive p && (s.fnState (.port p) == 2 || s.fnState (.port p) == 3 || s.fnState (.port p) == 4) && !s.lineIdle

/-! PRBS31 (R401) -/

/-- `n` bits of PRBS31 from a state, as a number, and the state after (log entry 12). -/
def prbs31 : Nat → Nat → Nat → Nat × Nat
  | 0, st, acc => (acc, st)
  | n + 1, st, acc =>
    let b := (if bit st 30 then 1 else 0) ^^^ (if bit st 27 then 1 else 0)
    prbs31 n ((st * 2 + b) % 2147483648) (acc * 2 + b)

/-- A panel of test pattern: its units, and the state after. -/
def prbsUnits : Nat → Nat → List Nat × Nat
  | 0, st => ([], st)
  | n + 1, st =>
    let (w, st) := prbs31 256 st 0
    let (ws, st) := prbsUnits n st
    ((2 ^ 256 + w) :: ws, st)

/-- The number of 1 bits of a number of `n` bits. -/
def popCount (n v : Nat) : Nat := sumOf (fun i => if bit v i then 1 else 0) (List.range n)

/-! Panels as bits (R404 to R406) -/

/-- The 128-bit additional data of a panel (R406). -/
def panelAad (units : List Nat) (label phase fill : Nat) : Octets :=
  natToBytes 16 ((units.foldl (fun a u => 2 * a + u / 2 ^ 256 % 2) 0) * 2 ^ 64
    + label * 2 ^ 56 + phase * 2 ^ 55 + fill * 2 ^ 47)

/-- The tag unit (R405). -/
def tagUnit (tag label phase counter fill : Nat) : Nat :=
  tag * 2 ^ 128 + label * 2 ^ 120 + phase * 2 ^ 119 + counter % 65536 * 2 ^ 103
    + counter / 2 ^ (61 - 15 * (counter % 4)) % 32768 * 2 ^ 88 + fill * 2 ^ 80

/-! Sending (R208 to R212, R267, R399, R402) -/

/-- The label a tributary sends (R397). -/
def State.txLabel (s : State) (p : Nat) : Nat :=
  if s.num (Reg.pTribPayload p) = 1 ∧ s.running (.port (s.num (Reg.pXconnect p))) = false then 0 else s.num (Reg.pTribPayload p)

/-- The client frames of the panel begun, and the marks of the rest. -/
def takeMarks (marks : List (Nat × Nat × Frame)) : List Frame × List (Nat × Nat × Frame) :=
  ((marks.filter (fun m => m.1 == 0)).map (fun m => m.2.2), marks.filter (fun m => m.1 != 0))

/-- Whether a tributary holds no client data in the panels not begun: what waits is idle (R399). -/
def State.tribIdle (s : State) (p : Nat) : Bool :=
  (s.trib p).closed.all (fun us => us.all (fun u => u == idleUnit)) && (s.trib p).building.isEmpty && (s.trib p).marks.isEmpty

/-- Whether a tributary has a panel to begin: a closed one or the test pattern (R401, R402), and while it is no longer RUNNING only
client data (R124, R394). -/
def State.panelReady (s : State) (p : Nat) : Bool :=
  (s.num (Reg.pTribPayload p) == 2 || !(s.trib p).closed.isEmpty) && (s.tribRunning p || !s.tribIdle p)

/-- The next panel's data units as the tributary has them: a closed panel or the test pattern (R399, R401). -/
def State.panelUnits (s : State) (p : Nat) : List Nat × State :=
  let t := s.trib p
  if s.num (Reg.pTribPayload p) = 2 then
    let (us, st) := prbsUnits 64 t.prbsTx
    (us, (s.setTrib p { t with prbsTx := st }).panelCloses p t.sent us)
  else (t.closed.headD (List.replicate 64 idleUnit), s.setTrib p { t with closed := t.closed.drop 1 })

/-- The next panel's data units, error units where a beat of the panel failed (R47), and whether one did. -/
def State.nextPanel (s : State) (p : Nat) : List Nat × Bool × State :=
  let n := (s.trib p).sent
  let bad := (s.trib p).poisoned.contains n
  let (us, s) := s.panelUnits p
  let s := s.setTrib p { s.trib p with sent := n + 1, poisoned := (s.trib p).poisoned.filter (fun k => k != n) }
  (if bad then List.replicate 64 errorUnit else us, bad, s)

/-- Whether the last counter value is next, which is never used (R212). -/
def State.counterSpent (s : State) (p : Nat) : Bool := decide (2 ^ 76 - 1 ≤ s.pcNext p)

/-- A tributary's panels stop under R211 or R212, with event 0x02_0004 once. -/
def State.panelStop (s : State) (p : Nat) : State :=
  let t := s.trib p
  if t.stopped then s
  else (s.setTrib p { t with stopped := true }).raise 0x020004 ((0x2000 + 0x100 * boltOfPort p) * 256)
    (p * 16384 + s.num (Reg.pTwTxPhase p) * 8192 + (if s.counterSpent p then 4096 else 0))

/-- Whether a tributary's next panel is forbidden with `n` panels sent under its key: the per-key limit or the last counter
value (R211, R212, R222). -/
def State.panelBarred (s : State) (p n : Nat) : Bool :=
  decide (s.num (Reg.bTwPanelLimit (boltOfPort p)) ≤ n) || s.counterSpent p

/-- A panel's client data is discarded, its positions carrying filler: each frame passes to `one`. -/
def State.panelLost (s : State) (p : Nat) (one : State → State) : State :=
  let (_, _, s) := s.nextPanel p
  let (gone, rest) := takeMarks (s.trib p).marks
  forEach gone (fun s f => (one s).dropFinal f)
    (s.setTrib p { s.trib p with marks := rest, line := List.replicate 65 0, lineAt := 0, begun := none })

/-- A panel is withheld under R211 or R212, and counted (R223). -/
def State.withhold (s : State) (p : Nat) : State :=
  (s.panelLost p id).count (Reg.bPanelsWithheld (boltOfPort p))

/-- The client data of a tributary whose row cannot be used is discarded (R267); its frames are counted as those of an SA
that cannot be used (log entry 91). -/
def State.keyless (s : State) (p row : Nat) : State :=
  let st := s.rowState 0x4000 row
  s.panelLost p (fun s =>
    (if st = 0 ∨ st = 2 then s else s.count (Reg.saDiscards row)).count (Reg.bNotUsingSa (boltOfPort p)))

/-- The per-key count of a panel sent under the key in force, with its warning once (R209, R210). -/
def State.keyCounted (s : State) (p row : Nat) : State :=
  let b := boltOfPort p
  let n := s.num (Reg.pTribKeyCount p) + 1
  let s := (s.putN (Reg.pTribKeyCount p) n).putN (panelsUnder row) n
  if s.num (Reg.bTwPanelWarn b) ≤ n ∧ s.num (panelWarned row) = 0 then
    (s.putN (panelWarned row) 1).raise 0x020003 ((0x2000 + 0x100 * b) * 256)
      (p * 16384 + s.num (Reg.pTwTxPhase p) * 8192)
  else s

/-- A panel's way from the crypto island to the lane (R39), with its poison flag (R37). -/
def State.panelOut (s : State) (p seq : Nat) (bad : Bool) (units : List Nat) : State :=
  forEach [6, 4, 5] (fun s pt => s.deliver (boltOfPort p) .e pt (panelItem p seq bad) (unitBytes units)) s

/-- The 65 units of a panel as it goes out under the next counter: its data units encrypted, then its tag unit (R63, R172, R404 to
R406). -/
def State.sealPanel (s : State) (p row phase fill : Nat) (units : List Nat) : List Nat :=
  let c := s.pcNext p
  let label := s.txLabel p
  let key := s.saKey row
  let iv := panelIv s.meshIdNow p c
  let ct := gcmCrypt key iv (unitBytes units)
  joinUnits units ct ++ [tagUnit (bytesToNat (gcmTag key iv (panelAad units label phase fill) ct)) label phase c fill]

/-- The next panel given to the framer under a phase row, and its counter taken (R208). FILL_NEXT is free (log entry 41). -/
def State.launchPanel (s : State) (p row phase : Nat) : State :=
  let seq := (s.trib p).sent
  let (units, bad, s) := s.nextPanel p
  let (fillNext, s) := s.draw
  let sent := s.sealPanel p row phase (fillNext % 256) units
  let s := s.panelOut p seq bad sent
  let s := s.setTrib p { s.trib p with line := sent, lineAt := 0, begun := some (row, phase), stopped := false }
  (s.setPcNext p (s.pcNext p + 1)).clear (unusedTrib p)

/-- A panel begun under a phase row, its keystream claimed (R172). -/
def State.sendPanel (s : State) (p row phase : Nat) (claim : Claim) : State :=
  let b := boltOfPort p
  ((((s.countClaim b .e (keyOwner row) claim).readRow b .e 7 0 row).issue b .e 129).saTouch row).launchPanel p row phase

/-- Whether a panel can be encrypted under a row: it holds a key and is not RETIRING (R232). -/
def State.panelKey (s : State) (row : Nat) : Bool :=
  let st := s.rowState 0x4000 row
  s.num (Reg.saSuite row) == 8 && (st == 1 || st == 3)

/-- Whether an armed tributary flips at the boundary to a multiframe: at least 4 after its last flip (R267, R380). -/
def State.flipDue (s : State) (p mfc : Nat) : Bool :=
  let since := (mfc + 2 ^ 32 - s.num (Reg.pTwTxFlipMf p)) % 2 ^ 32
  s.num (Reg.pTwTxState p) == 1 && (!(s.trib p).flipped || decide (4 ≤ since))

/-- The phase of a panel whose first data unit lies in the multiframe under way, or in the one to come (R268). -/
def State.panelPhase (s : State) (p : Nat) (next : Bool) : Nat :=
  let now := s.num (Reg.pTwTxPhase p)
  if next && s.flipDue p (((s.grp (s.tribGroupRow p)).mfc + 1) % 2 ^ 32) then 1 - now else now

/-- The panels sent under the key of a phase: none under one that is yet to come (R209). -/
def State.phaseCount (s : State) (p phase : Nat) : Nat :=
  if phase = s.num (Reg.pTwTxPhase p) then s.num (Reg.pTribKeyCount p) else 0

/-- A tributary begins its next panel (R402), its first data unit in the multiframe under way or in the one to come: under its
phase row, with the keystream of the one after it computed ahead where that may be sent (R63, R214); withheld where its limit is
reached or its row holds no key. Without a hot slot it waits (R218). -/
def State.beginPanel (s : State) (p : Nat) (next : Bool) : State :=
  let b := boltOfPort p
  let phase := s.panelPhase p next
  let row := s.txPhaseRow p phase
  let n := s.phaseCount p phase
  let c := s.pcNext p
  if s.panelReady p = false then s
  else if s.panelKey row = false then s.keyless p row
  else if s.panelBarred p n then (s.panelStop p).withhold p
  else
    let ahead := decide (n + 1 < s.num (Reg.bTwPanelLimit b) ∧ c + 1 < 2 ^ 76 - 1)
    let (claim, s) := s.claimSlot b .e (keyOwner row) (c + 1) (if ahead then 32 else 0) [c]
    if claim = .wait then s.waitSlot b .e ⟨keyOwner row, c, 32, []⟩ else s.sendPanel p row phase claim

/-- A client frame whose first data byte has left at an instant in 2^-16 ns of device time (R535, R549). -/
def State.clientSent (s : State) (p : Nat) (stamp : Int) (f : Frame) : State :=
  let left := stamp + i24 (s.num (Reg.pTsTxAdj p)) * 65536 / 1000
  ((s.countTx f).tcMeasure f left).traceEnd (f.leaves left) false

/-- The client frames whose first data byte lies in data unit `i` of the panel begun leave with it. -/
def State.unitSent (s : State) (p i : Nat) (stamp : Int) : State :=
  let t := s.trib p
  let out := t.marks.filter (fun m => m.1 == 0 && m.2.1 == i)
  forEach out (fun s m => s.clientSent p stamp m.2.2)
    (s.setTrib p { t with marks := t.marks.filter (fun m => !(m.1 == 0 && m.2.1 == i)) })

/-- The panel begun of a tributary, all of it sent: the framer owes its gap. -/
def TribState.ended (t : TribState) : TribState :=
  { t with line := [], lineAt := 0, begun := none, gap := t.line.getD 64 0 / 2 ^ 80 % 256 }

/-- The panel begun has been sent (R208 to R210, R215, R402): counted, its keystream given up, and its frames gone with it. -/
def State.panelDone (s : State) (p : Nat) : State :=
  let t := s.trib p
  let b := boltOfPort p
  let s := match t.begun with
    | none => s
    | some (row, phase) =>
      let s := (s.emit (.panel p (t.line.take 64) (t.line.getD 64 0))).unpin b .e (keyOwner row) (s.pcNext p - 1)
      let s := (s.count (Reg.pPanelsTx p)).count (Reg.saOk row)
      if phase = s.num (Reg.pTwTxPhase p) then s.keyCounted p row else s
  let (gone, rest) := takeMarks t.marks
  let s := s.setTrib p { t.ended with marks := rest.map (fun m => (m.1 - 1, m.2)) }
  forEach gone (fun s f => s.clientSent p s.nowFine f) s

/-- The panel begun, if there is one, is sent to its end. -/
def State.panelFinish (s : State) (p : Nat) : State := if (s.trib p).line.isEmpty then s else s.panelDone p

/-- TW_PANEL_SENT (R402): a tributary's panel is complete: the one begun, or the next, whatever of it the framer has not laid out
having gone unrecorded (log entry 2). -/
def execTwPanelSent (p : Nat) (s : State) : Host.Outcome State Fault Refusal :=
  if s.tribSends p = false then done s
  else
    let s := s.closeAhead p 2
    done ((if (s.trib p).line.isEmpty then s.beginPanel p false else s).panelFinish p)

/-! Key phase, transmit side (R265 to R268) -/

/-- TW_ARM (R267): 1 arms, 2 cancels, and does nothing while STEADY, for which the table has no row (log entry 89). -/
def State.twArmEff (s : State) (p v : Nat) : Eff :=
  let armed := s.num (Reg.pTwTxState p) == 1
  if v = 1 then
    if armed then okay s
    else if s.rowState 0x4000 (s.txPhaseRow p (1 - s.num (Reg.pTwTxPhase p))) ≠ 1 then refuse s 0x120013
    else
      let s := (s.putN (Reg.pTwTxState p) 1).setTrib p { s.trib p with armedAt := s.time.elapsed }
      okay (s.mirror (.arm p true))
  else if v = 2 then
    okay (if armed then (s.putN (Reg.pTwTxState p) 0).mirror (.arm p false) else s)
  else refuse s 0x130001

/-- An armed tributary flips at a multiframe boundary strictly after its arm (R267, R209). A panel that has begun keeps its phase
(R268), and a stop under R212 lasts. -/
def State.txFlip (s : State) (p mfc : Nat) : State :=
  let t := s.trib p
  let ph := s.num (Reg.pTwTxPhase p)
  if s.flipDue p mfc = true ∧ t.armedAt < s.time.elapsed then
    let s := s.discardKeystream (boltOfPort p) .e (keyOwner (s.txPhaseRow p ph))
    let s := ((s.putN (Reg.pTwTxPhase p) (1 - ph)).putN (Reg.pTwTxState p) 0).putN (Reg.pTwTxFlipMf p) mfc
    let s := (s.putN (Reg.pTribKeyCount p) 0).putN (panelsUnder (s.txPhaseRow p (1 - ph))) 0
    let s := s.setTrib p { s.trib p with flipped := true, releasing := some ph, stopped := t.stopped && s.counterSpent p }
    let s := s.raise 0x020012 ((0x3000 + 4 * p + 3) * 256) (p * 16384 + (1 - ph) * 8192)
    s.mirror (.flip p (1 - ph) mfc)
  else s

/-- The framer of a group stands at a multiframe's first unit: 256 frames of 8,191 positions have gone since the last
(R379 to R381); the codeword phase and the slot of the next position follow. -/
def GroupState.nextMulti (g : GroupState) : GroupState :=
  let left := (if g.unit = 0 then 8191 else 8192 - g.unit) + (255 - g.fn) * 8191
  { g with mfc := (g.mfc + 1) % 2 ^ 32, fn := 0, cwp := (g.cwp + 256 - g.fn) % 5, unit := 0,
           calPos := (g.calPos + left) % 20 }

/-- A multiframe boundary of a group: armed tributaries flip (R267, R380). -/
def State.multiBoundary (s : State) (row : Nat) (g : GroupState) : State :=
  forEach (s.groupTribs row) (fun s p => s.txFlip p g.mfc) (s.setGrp row g)

/-- TW_MULTIFRAME_BOUNDARY (R267, R380): the transmit multiframe counter of a group advances, and armed tributaries
flip. What the framer has not laid out of the old multiframe has gone unrecorded (log entry 2). -/
def execTwMultiframeBoundary (b g : Nat) (s : State) : Host.Outcome State Fault Refusal :=
  let row := b * 1024 + g
  if g < 8 ∧ s.running (.group b g) = true then done (s.multiBoundary row (s.grp row).nextMulti) else done s

/-- The row of a released phase becomes EMPTY, a SUSPENDED one too (log entry 89); a flip does not clear a fault (R267, R269, R280). -/
def State.phaseReleased (s : State) (row : Nat) : State :=
  let st := s.rowState 0x4000 row
  if st = 0 ∨ st = 2 ∨ s.num (Reg.saSuite row) ≠ 8 then s else s.saEmptied row 1

/-- TW_TX_PHASE_RELEASE (R267): the last panel under the old phase has passed the crypto island. -/
def execTwTxPhaseRelease (p : Nat) (s : State) : Host.Outcome State Fault Refusal :=
  match (s.trib p).releasing with
  | none => done s
  | some ph =>
    let row := s.txPhaseRow p ph
    let s := match (s.trib p).begun with | some (_, old) => if old = ph then s.panelFinish p else s | none => s
    let s := (s.setTrib p { s.trib p with releasing := none }).phaseReleased row
    done (s.raise 0x020014 ((0x3000 + 4 * p + 3) * 256) (p * 16384 + ph * 8192))

/-! Frames out of the client stream (R413) -/

/-- Units with their timestamps given to the decoder of a tributary; frames that end go on into the D-pipe. `verified` says that
their panel was. -/
def State.decodeUnits (s : State) (p : Nat) (units : List (Nat × Nat)) (verified : Bool) : State :=
  let (cur, frames) := clientUnits (s.trib p).rxFrame units
  let s := s.setTrib p { s.trib p with rxFrame := cur }
  forEach frames (fun s f => s.tribFrameIn p f.1 f.2.1 f.2.2 verified) s

/-- A panel that leaves as error blocks. -/
def State.errorPanel (s : State) (p : Nat) : State :=
  let s := s.setTrib p { s.trib p with prbsRx := none }
  if s.num (Reg.pTribPayload p) = 2 then s else s.decodeUnits p [(errorUnit, 0)] false

/-- A loss of panels: the frame in progress ends, delineation and key-phase seeking restart (R270, R424). -/
def State.lossOf (s : State) (p : Nat) : State :=
  let s := s.errorPanel p
  let s := s.setTrib p { s.trib p with pieces := [], tracked := none, disagree := 0, verified := none, holdLeft := 0,
                                       labelRun := 0, rxAt := none, pointers := [] }
  (s.putN (Reg.pTribDelineated p) 0).putN (Reg.pTwRxState p) 0

/-! Defects (R416, R421 to R424) -/

/-- The defect code of event 0x03_0201 by its bit in TL_STATUS. -/
def defectCode (i : Nat) : Nat := if i = 4 then 0 else if i = 3 then 1 else if i = 2 then 2 else if i = 1 then 3 else 5

/-- Whether LOS, LOL, LOF or LOM is detected on a line lane. -/
def State.hardDefect (s : State) (ll : Nat) : Bool := decide (2 ≤ (s.twLane ll).detected)

/-- Whether PLM is detected on a tributary. -/
def State.plmDetected (s : State) (p : Nat) : Bool := bit (s.num (Reg.pTribPlm p)) 1

/-- Whether a detected lane defect is suppressed in ACQUIRE (R422): a higher one on the lane, or for DEG also PLM of a
tributary with a slot there. -/
def State.laneSuppressed (s : State) (ll i : Nat) : Bool :=
  decide (2 ^ (i + 1) ≤ (s.twLane ll).detected)
    || (i == 0 && (boltPorts (ll / 8)).any (fun p => s.kind p == 4 && s.plmDetected p && (s.tribLanes p).contains (ll % 8)))

/-- Declarations of a lane brought up to its detected defects (R421 to R423): a declared defect stays so until it
clears. -/
def State.judgeLane (s : State) (row ll : Nat) : State :=
  let acquire := s.num (Reg.tgRegime row) == 1
  forEach [4, 3, 2, 1, 0] (fun s i =>
    let x := s.twLane ll
    let det := bit x.detected i
    let dec := bit x.declared i
    let now := det && (dec || !acquire || !s.laneSuppressed ll i)
    if now = dec then s
    else
      let s := s.setTwLane ll { x with declared := setBit x.declared i now }
      s.raise 0x030201 ((0x2000 + 0x100 * (ll / 8) + 0x20 + ll % 8) * 256)
        (ll / 8 * 2097152 + ll % 8 * 262144 + defectCode i * 32768 + (if now then 16384 else 0)
          + (if i = 1 ∧ x.lomSpread = true then 8192 else 0))) s

/-- PLM of a tributary judged (R416, R417, R422): detected, then declared. -/
def State.judgePlm (s : State) (p : Nat) : State :=
  if s.tribRunning p = false then s
  else
    let row := s.tribGroupRow p
    let cal := (s.tribSlots p).any (fun r => s.num (.row 0x4400 r 0x103) == 1)
    let det := cal || s.num (Reg.pTribLabelRx p) != s.num (Reg.pTribLabelExp p)
    let old := s.num (Reg.pTribPlm p)
    let dec := bit old 0
    let hidden := s.num (Reg.tgRegime row) == 1 && (s.tribLanes p).any (fun l => s.hardDefect (lineOf (boltOfPort p) l))
    let now := det && (dec || !hidden)
    let s := s.putN (Reg.pTribPlm p) ((if cal then 4 else 0) + (if det then 2 else 0) + (if now then 1 else 0))
    if now = dec then s
    else s.raise 0x030202 ((0x3000 + 4 * p + 1) * 256)
      (p * 16384 + (if now then 8192 else 0) + (if cal then 4096 else 0) + s.num (Reg.pTribLabelRx p) * 16)

/-- Every declaration of a running group judged. -/
def State.judgeGroup (s : State) (row : Nat) : State :=
  let b := row / 1024
  let s := forEach (s.groupTribs row) State.judgePlm s
  forEach (s.groupLanes row) (fun s l => s.judgeLane row (lineOf b l)) s

/-- New detected defects of a lane of a running group: the second's record, the hold of ACQUIRE, panels lost, and
declarations (R420, R424, R426). -/
def State.detect (s : State) (row ll d : Nat) : State :=
  let x := s.twLane ll
  if x.detected = d then s
  else
    let s := s.setTwLane ll { x with detected := d, secDetected := x.secDetected ||| d }
    let s := if d / 2 = x.detected / 2 then s else s.setGrp row { s.grp row with acqSince := s.time.elapsed }
    let s := if 2 ≤ d ∧ x.detected < 2 then
        forEach (s.groupTribs row) (fun s p => if (s.tribLanes p).contains (ll % 8) then s.lossOf p else s) s
      else s
    s.judgeGroup row

/-- The row of the RUNNING group that a line lane belongs to (R395, R426). -/
def State.runningGroup (s : State) (ll : Nat) : Option Nat :=
  match s.laneGroup (64 + ll) with
  | some g => if s.running (.group (ll / 8) g) then some (ll / 8 * 1024 + g) else none
  | none => none

/-- LOS and LOL follow what the lane reports (R416, R470). -/
def State.twLaneUpdate (s : State) (ll : Nat) : State :=
  match s.runningGroup ll with
  | none => s
  | some row =>
    let rep := s.laneReport (64 + ll)
    let d := (s.twLane ll).detected
    s.detect row ll (setBit (setBit d 4 (rep == 2)) 3 (rep == 1))

/-- TWILL_DEFECT_TIMER (R416): a lane's alignment, or its alignment and the group's spread, has lasted 3 ms. -/
def execTwillDefectTimer (ll : Nat) (lom : Bool) (s : State) : Host.Outcome State Fault Refusal :=
  match s.runningGroup ll with
  | none => done s
  | some row =>
    let x := s.twLane ll
    let lasted := fun (t : Nat) => decide (t + 3000000 ≤ s.time.elapsed)
    if lom then
      let bad := (!x.inMulti && lasted x.mfSince) || (x.spreadBad && lasted x.spreadSince)
      let good := x.inMulti && !x.spreadBad && lasted x.mfSince && lasted x.spreadSince
      let cause := x.inMulti || !lasted x.mfSince
      done (if bad && bit x.detected 1 then s
        else if bad then (s.setTwLane ll { x with lomSpread := cause }).detect row ll (setBit x.detected 1 true)
        else if good then s.detect row ll (setBit x.detected 1 false) else s)
    else if lasted x.faSince then done (s.detect row ll (setBit x.detected 2 (!x.inFrame)))
    else done s

/-- TG_ACQ_HOLD_EXPIRY (R420): ACQUIRE ends after a defect-free hold. -/
def execTgAcqHoldExpiry (b g : Nat) (s : State) : Host.Outcome State Fault Refusal :=
  let row := b * 1024 + g
  if g < 8 ∧ s.running (.group b g) = true ∧ s.num (Reg.tgRegime row) = 1 ∧ s.tgNow row 0x15 = 0
      ∧ (s.groupLanes row).all (fun l => !s.hardDefect (lineOf b l)) = true
      ∧ (s.grp row).acqSince + s.tgNow row 0x14 * 1000000 ≤ s.time.elapsed then
    let s := ((s.putN (Reg.tgRegime row) 0).bumpVersion 0x4400 row).raise 0x030204 0x440000 (b * 2097152 + g * 262144)
    done (s.judgeGroup row)
  else done s

/-! Overhead (R382, R383, R408, R414, R415, R417, R418) -/

/-- A field of an overhead unit, bits hi down to lo. -/
def field (w hi lo : Nat) : Nat := w / 2 ^ lo % 2 ^ (hi + 1 - lo)

/-- Whether OH_CRC is right (R382). -/
def ohCrcOk (w : Nat) : Bool := crcBits 16 0x1021 0xFFFF (natToBits 240 (field w 255 16)) == field w 15 0

/-- Frame alignment of a lane after one unit (R414): the lane, and whether a wrong frame is counted. -/
def frameAlign (x : TwLane) (fasOk : Bool) (cwp now : Nat) : TwLane × Bool :=
  let follows := fasOk && cwp == (x.lastCwp + 1) % 5
  if x.inFrame then
    if follows then ({ x with faBad := 0, lastCwp := cwp }, false)
    else
      let y := { x with faBad := x.faBad + 1, lastCwp := (x.lastCwp + 1) % 5 }
      (if 5 ≤ y.faBad then { y with inFrame := false, faGood := 0, faBad := 0, faSince := now } else y, true)
  else if fasOk = false then ({ x with faGood := 0 }, false)
  else if x.faGood = 1 ∧ follows = true then
    ({ x with inFrame := true, faGood := 0, faBad := 0, lastCwp := cwp, faSince := now }, false)
  else ({ x with faGood := 1, lastCwp := cwp }, false)

/-- Multiframe alignment of a lane after one unit (R415). -/
def multiAlign (x : TwLane) (valid : Bool) (fn mfc now : Nat) : TwLane :=
  let nextFn := (x.lastFn + 1) % 256
  let nextMfc := if nextFn = 0 then (x.lastMfc + 1) % 2 ^ 32 else x.lastMfc
  let follows := valid && fn == nextFn && mfc == nextMfc
  if x.inMulti then
    if follows then { x with mfBad := 0, lastFn := fn, lastMfc := mfc }
    else
      let y := { x with mfBad := x.mfBad + 1, lastFn := nextFn, lastMfc := nextMfc }
      if 5 ≤ y.mfBad then { y with inMulti := false, mfGood := 0, mfBad := 0, mfSince := now } else y
  else if valid = false then { x with mfGood := 0 }
  else if x.mfGood = 1 ∧ follows = true then
    { x with inMulti := true, mfGood := 0, mfBad := 0, lastFn := fn, lastMfc := mfc, mfSince := now }
  else { x with mfGood := 1, lastFn := fn, lastMfc := mfc }

/-- PLM of a tributary judged, and with it the defects of its group that PLM suppresses (R416, R417, R422). -/
def State.judgeTrib (s : State) (p : Nat) : State := if s.tribRunning p then s.judgeGroup (s.tribGroupRow p) else s

/-- A calendar report for a slot (R387, R417, R418). Hidden fields of the calendar row: 0x100 vacant reports in a row,
0x101 disagreeing, 0x102 agreeing, 0x103 the mismatch. -/
def State.calReport (s : State) (r : Nat) (vac : Bool) (port : Nat) : State :=
  let h := fun (f : Nat) => Key.row 0x4400 r (0x100 + f)
  let far := if vac then 0xFFFF else port
  let s := if s.num (Reg.calFarPort r) = far then s else (s.putN (Reg.calFarPort r) far).bumpVersion 0x4400 r
  let p := s.num (Reg.calTrib r)
  if p = 0xFFFF then s
  else if vac then
    let s := ((s.putN (h 0) (min (s.num (h 0) + 1) 3)).putN (h 1) 0).putN (h 2) 0
    let s := if (s.tribSlots p).all (fun x => s.num (.row 0x4400 x 0x100) == 3) then s.putN (Reg.pTribLabelRx p) 0xFF else s
    s.judgeTrib p
  else
    let want := s.num (Reg.saTwSource (s.rxPhaseRow p (s.num (Reg.pTwRxPhase p)))) % 1024
    let s := s.putN (h 0) 0
    let s := if port = want then (s.putN (h 1) 0).putN (h 2) (min (s.num (h 2) + 1) 3)
      else (s.putN (h 2) 0).putN (h 1) (min (s.num (h 1) + 1) 3)
    let s := if s.num (h 1) = 3 then s.putN (h 3) 1 else if s.num (h 2) = 3 then s.putN (h 3) 0 else s
    s.judgeTrib p

/-! Positions (R378, R379, R390): those of a tributary are numbered through the rotations, in the order of its slots -/

/-- The number of the position behind an overhead unit that carries these counters (R379, R380): a rotation's start is 0 modulo 20.
-/
def countedBase (mfc fn cal : Nat) : Nat :=
  let m := (mfc * 256 + fn + 20) * 8191
  m + (cal + 20 - m % 20) % 20

/-- The frame that a lane's last overhead unit began, counted through the multiframes. -/
def TwLane.frameNo (x : TwLane) : Nat := x.lastMfc * 256 + x.lastFn

/-- The number of the position behind an overhead unit of a group: 8,191 a frame on from that of a lane in multiframe, so that it runs
on where MFC wraps (R380); without one, as its counters have it. -/
def State.groupBase (s : State) (row mfc fn cal : Nat) : Nat :=
  match ((s.groupLanes row).map (fun l => s.twLane (lineOf (row / 1024) l))).find? (fun x => x.inMulti) with
  | some x =>
    let d := ((mfc * 256 + fn : Nat) + 2 ^ 40 - x.frameNo % 2 ^ 40) % 2 ^ 40
    let base := if d < 2 ^ 39 then x.base + 8191 * d else x.base - 8191 * (2 ^ 40 - d)
    if base % 20 = cal then base else countedBase mfc fn cal
  | none => countedBase mfc fn cal

/-- The slots of a tributary among the 160 of its bolt, ascending. -/
def State.slotIndexes (s : State) (p : Nat) : List Nat := (s.tribSlots p).map (fun r => r % 1024 - 8)

/-- The number of a tributary's position in rotation `rot`, in the slot of that index. -/
def slotPosition (slots : List Nat) (rot slot : Nat) : Nat := rot * slots.length + slots.findIdx (fun x => x == slot)

/-- The position a PANEL_PTR names, counted from the first of the tributary's positions behind the overhead unit, the one behind which
is number `base` of the calendar (R382). -/
def pointedPosition (slots : List Nat) (base ptr : Nat) : Nat :=
  let rot := base / 20
  let left := slots.filter (fun x => decide (base % 20 ≤ x % 20))
  match left[ptr]? with
  | some x => slotPosition slots rot x
  | none => (rot + 1) * slots.length + (ptr - left.length)

/-! Delineation (R408) -/

/-- A pointer compared with where a panel began: a second disagreement running makes the receiver take the pointer's place. -/
def State.comparePointer (s : State) (p place : Nat) (agrees : Bool) : State :=
  if agrees then s.setTrib p { s.trib p with disagree := 0 }
  else if (s.trib p).disagree = 0 then s.setTrib p { s.trib p with disagree := 1 }
  else
    let s := s.errorPanel p
    let s := s.setTrib p { s.trib p with disagree := 0, pieces := [], tracked := none, rxAt := some place,
                                         lostSec := (s.trib p).lostSec + 1 }
    s.count (Reg.pDelineationLosses p)

/-- A PANEL_PTR for a tributary (R408): the first delineates it; a later one that lies behind the tracked position disagrees, and any
other waits to be compared with the panel it is to begin. -/
def State.pointer (s : State) (p place : Nat) : State :=
  if s.tribRunning p = false then s
  else if s.num (Reg.pTribDelineated p) = 0 then
    (s.putN (Reg.pTribDelineated p) 1).setTrib p { s.trib p with disagree := 0, rxAt := some place, pointers := [] }
  else if decide (place < (s.trib p).rxAt.getD 0) then s.comparePointer p place false
  else s.setTrib p { s.trib p with pointers := (s.trib p).pointers ++ [place] }

/-- A multiframe boundary received by a tributary in HOLD (R269): at the second, the old phase row is released. -/
def State.rxBoundary (s : State) (p : Nat) : State :=
  if s.num (Reg.pTwRxState p) ≠ 2 then s
  else
    let t := s.trib p
    if 1 < t.holdLeft then s.setTrib p { t with holdLeft := t.holdLeft - 1 }
    else
      let old := 1 - s.num (Reg.pTwRxPhase p)
      let row := s.rxPhaseRow p old
      let s := (s.putN (Reg.pTwRxState p) 1).setTrib p { t with holdLeft := 0, released := true }
      let s := s.phaseReleased row
      s.raise 0x020014 ((0x3000 + 4 * p + 3) * 256) (p * 16384 + old * 8192 + 4096)

/-- What a lane's FEC makes of its codewords (R375): corrected symbols and uncorrectable codewords, counted. -/
def State.fecCount (s : State) (ll : Nat) (cws : List RxCodeword) : State :=
  let results := cws.map (fun c => (s.takeCodeword (64 + ll) c).2)
  let corr := sumOf (fun (r : Option Nat) => r.getD 0) results
  let uncorr := (results.filter Option.isNone).length
  let s := (s.countBy (Reg.tlFecCorrSym (ll / 8) (ll % 8)) corr).countBy (Reg.tlFecUncorrCw (ll / 8) (ll % 8)) uncorr
  let x := s.twLane ll
  s.setTwLane ll { x with corrSec := x.corrSec + corr, uncorrSec := x.uncorrSec + uncorr }

/-- The overhead unit that a lane received, scrambling removed (R376, R381). -/
def State.overheadWord (s : State) (ll : Nat) (oh : OverheadRx) : Nat :=
  match oh.cws.getLast? with
  | some c => (descramble 0 scramOnes [(s.takeCodeword (64 + ll) c).1.getD oh.place 0]).headD 0
  | none => 0

/-- An overhead unit on a line lane of a RUNNING group's row (R383, R391, R414, R415, R417, R418, R427). -/
def State.overheadIn (s : State) (row ll w : Nat) (oh : OverheadRx) : State :=
  let b := ll / 8
  let l := ll % 8
  let now := s.time.elapsed
  let (x, wrong) := frameAlign (s.twLane ll) (field w 255 208 == 0x7AE5C41F0B69) (field w 207 205) now
  let good := ohCrcOk w
  let fn := field w 172 165
  let x := multiAlign x (x.inFrame && good) fn (field w 204 173) now
  let spread := decide (4000 < oh.spread)
  let valid := x.inFrame && good
  let cal := field w 164 160
  let base := if valid then s.groupBase row (field w 204 173) fn cal else x.base + 8191
  let s := s.setTwLane ll (if valid then { x with farBdi := bit w 109, base := base } else { x with base := base })
  let s := forEach (s.groupLanes row) (fun s l =>
    let y := s.twLane (lineOf b l)
    if y.spreadBad = spread then s else s.setTwLane (lineOf b l) { y with spreadBad := spread, spreadSince := now }) s
  let s := s.putN (Reg.tgSkewNs row) (min oh.spread 65535)
  let s := if wrong then s.count (Reg.tlFasErrors b l) else s
  let s := if good then s else s.count (Reg.tlOhCrcErrors b l)
  if valid then
    let s := s.putN (Reg.tlFarId b l) (field w 159 150 * 16384 + field w 149 147 * 2048 + field w 146 144 * 256)
    let slot := field w 135 131
    if 20 ≤ slot then s
    else
      let r := calRow b l slot
      let vac := bit w 130
      let s := s.calReport r vac (field w 129 120)
      let p := s.num (Reg.calTrib r)
      let s := if p ≠ 0xFFFF ∧ vac = false ∧ field w 119 110 ≠ 0x3FF ∧ s.hardDefect ll = false then
          s.pointer p (pointedPosition (s.slotIndexes p) base (field w 119 110)) else s
      if fn = 0 ∧ x.inMulti = true then
        forEach (s.groupTribs row) (fun s p => if (s.tribLanes p).head? = some l then s.rxBoundary p else s) s
      else s
  else s

/-- Far-end loopback: a lane retransmits the symbols of the codewords it receives (R486). -/
def State.farEnd (s : State) (n : Nat) (cws : List RxCodeword) : State :=
  if s.num (Reg.lnLoopback n) = 2 ∧ s.num (Reg.lnState n) = 3 then
    forEach cws (fun s c =>
      let x := s.sendLevels n (s.takeLevels n c.before c.levels)
      (s.setLane n { s.lane n with txLevel := x.2 }).emit (.line n x.1)) s
  else s

/-- TW_OVERHEAD_RECEIVED (R414): an overhead unit on a line lane of a RUNNING group, out of the last of the lane's codewords
since the one before. -/
def execTwOverheadReceived (ll : Nat) (oh : OverheadRx) (s : State) : Host.Outcome State Fault Refusal :=
  match s.runningGroup ll with
  | none => done s
  | some row => done (((s.farEnd (64 + ll) oh.cws).fecCount ll oh.cws).overheadIn row ll (s.overheadWord ll oh) oh)

/-! Positions received (R378, R379, R390, R403, R404) -/

/-- A position of a tributary received: its number, its unit, none out of an uncorrectable codeword, and the instant of its first
bit in 2^-16 ns (R377, R535). -/
structure RxUnit where
  place : Nat
  unit  : Option Nat
  ts    : Nat
deriving DecidableEq, Repr

/-- The units of a codeword of a lane at positions of a tributary, numbered on from the lane's last overhead unit (R379). -/
def State.codewordUnits (s : State) (p : Nat) (c : LaneCodeword) : List RxUnit :=
  let ll := lineOf (boltOfPort p) c.lane
  let (units, fec) := s.takeCodeword (64 + ll) c.cw
  let plain := descramble c.unit (scramAt c.unit) units
  let base := (s.twLane ll).base
  let slots := s.slotIndexes p
  (plain.zipIdx).filterMap (fun (u, i) =>
    let n := (c.unit + i) % 8192
    let frame := c.frame + (c.unit + i) / 8192
    let o := base + frame * 8191 + (n - 1) - 8191
    let slot := c.lane * 20 + o % 20
    if n ≠ 0 ∧ slots.contains slot = true then
      some ⟨slotPosition slots (o / 20) slot, if fec.isSome then some u else none, c.ts + i * 544 * 65536 / 225⟩
    else none)

/-- A position put into its order. -/
def placeInsert (x : RxUnit) : List RxUnit → List RxUnit
  | [] => [x]
  | y :: ys => if x.place < y.place then x :: y :: ys else y :: placeInsert x ys

/-- The next 65 positions that do not carry filler, from position `next` on and without a break (R403, R404); an unreadable position
counts as one of them. None where they are not all there. -/
def rxWalk : Nat → List RxUnit → List RxUnit → Option (List RxUnit)
  | _, _, [] => none
  | next, got, x :: xs =>
    if x.place < next then rxWalk next got xs
    else if next < x.place then none
    else if x.unit = some 0 then rxWalk (next + 1) got xs
    else if got.length = 64 then some (got ++ [x])
    else rxWalk (next + 1) (got ++ [x]) xs

/-- The panel that a tributary's positions carry, where the pointers that name its start or one before it leave it standing (R408);
the tracked position is then behind its tag unit and FILL_NEXT. -/
def State.delineate (s : State) (p : Nat) (us : List RxUnit) : Nat → Option (List RxUnit) × State
  | 0 => (none, s)
  | n + 1 =>
    match (s.trib p).rxAt.bind (fun a => rxWalk a [] us) with
    | none => (none, s)
    | some got =>
      let start := (got.headD ⟨0, none, 0⟩).place
      let tag := got.getLast?.getD ⟨0, none, 0⟩
      let done_ := (some got, s.setTrib p { s.trib p with rxAt := some (tag.place + 1 + (tag.unit.getD 0) / 2 ^ 80 % 256) })
      match (s.trib p).pointers with
      | [] => done_
      | j :: rest =>
        if start < j then done_
        else ((s.setTrib p { s.trib p with pointers := rest }).comparePointer p j (j == start)).delineate p us n

/-- The positions of a tributary in codewords of its lanes, in order. -/
def State.rxUnits (s : State) (p : Nat) (rx : PanelRx) : List RxUnit :=
  (rx.cws.flatMap (fun c => s.codewordUnits p c)).foldr placeInsert []

/-! Receiving panels (R269, R409 to R412) -/

/-- The panel counter recovered in SEEKING from four consecutive panels (R409): with this one, if it completes them. -/
def State.seekCounter (s : State) (p low chunk : Nat) : Option Nat × State :=
  let t := s.trib p
  let k := low % 4
  let follows := match t.tracked with | some x => low == x + 1 | none => false
  let pieces : FMap Nat := if k = 0 then [(0, chunk)] else if follows && t.pieces.length == k then t.pieces ++ [(k, chunk)] else []
  let s := s.setTrib p { t with pieces := pieces, tracked := if pieces = [] then none else some low }
  if pieces.length = 4 then (some ((pieces.foldl (fun a e => a * 32768 + e.2) 0) * 65536 + low), s) else (none, s)

/-- The smallest value above the last verified counter with the given low 16 bits (R409). -/
def nextCounter (last low : Nat) : Nat :=
  let c := (last + 1) / 65536 * 65536 + low
  if c ≤ last then c + 65536 else c

/-- Three consecutive verified panels with one label make it the accepted label (R417). -/
def State.labelSeen (s : State) (p label : Nat) : State :=
  let t := s.trib p
  let run := if t.labelRun ≠ 0 ∧ t.labelLast = label then min (t.labelRun + 1) 3 else 1
  let s := s.setTrib p { t with labelLast := label, labelRun := run }
  let s := if run = 3 then s.putN (Reg.pTribLabelRx p) label else s
  s.judgeTrib p

/-- The errors of a received test-pattern panel, and the pattern state after: the first panel after a loss gives the
state (R401, R428). -/
def prbsCheck (st : Option Nat) (units : List Nat) : Nat × Nat :=
  match st with
  | some x =>
    let (want, y) := prbsUnits units.length x
    (sumOf (fun e => popCount 256 ((e.1 % 2 ^ 256) ^^^ (e.2 % 2 ^ 256))) (units.zip want), y)
  | none => (0, (units.getLast?.getD 0) % 2147483648)

/-- Plaintext units of a tributary given on with their timestamps: to the test-pattern checker or the decoder. -/
def State.plainUnits (s : State) (p : Nat) (units : List (Nat × Nat)) (verified : Bool) : State :=
  if s.num (Reg.pTribPayload p) = 2 then
    let (e, st) := prbsCheck (s.trib p).prbsRx (units.map (fun u => u.1))
    (s.setTrib p { s.trib p with prbsRx := some st }).countBy (Reg.pPrbsErrors p) e
  else s.decodeUnits p units verified

/-- The receiver follows a phase (R269): its state and phase written, with event 0x02_0013. -/
def State.follow (s : State) (p phase state seeking : Nat) : State :=
  ((s.putN (Reg.pTwRxState p) state).putN (Reg.pTwRxPhase p) phase).raise 0x020013 ((0x3000 + 4 * p + 3) * 256)
    (p * 16384 + phase * 8192 + seeking * 4096)

/-- A verified panel moves the phase followed (R269, R270): the first one acquires it, the other phase switches over
with a hold of two panels, and the old key's keystream ahead is dropped (R66). -/
def State.followPanel (s : State) (p phase : Nat) : State :=
  let st := s.num (Reg.pTwRxState p)
  let now := s.num (Reg.pTwRxPhase p)
  if st = 0 then s.follow p phase 1 1
  else if st = 1 ∧ phase ≠ now then
    ((s.discardKeystream (boltOfPort p) .d (keyOwner (s.rxPhaseRow p now))).follow p phase 2 0).setTrib p
      { s.trib p with holdLeft := 2, released := false }
  else s

/-- The counter a verified panel leaves in its row and its tributary (R410). -/
def State.panelCounter (s : State) (p row counter : Nat) : State :=
  (s.putN (lastPanel row) counter).setTrib p { s.trib p with verified := some counter, pieces := [], tracked := none }

/-- The keystream of a received panel: read from its key's slot where the slot holds its counter, and computed at the engines
(R63, R172, R178). -/
def State.panelStream (s : State) (p row counter : Nat) : State :=
  let b := boltOfPort p
  let hit := match (s.pipe b .d).slot (keyOwner row) with | some h => h.count != 0 && h.base == counter | none => false
  ((s.readRow b .d 7 0 row).countClaim b .d (keyOwner row) (if hit then .hit else .miss)).issue b .d 129

/-- The keystream of the panel after counter `counter` of a row is computed ahead, where one may follow (R63, R214); without a hot
slot it waits for one (R218). -/
def State.panelNextRx (s : State) (p row counter : Nat) : State :=
  let b := boltOfPort p
  let owner := keyOwner row
  if 2 ^ 76 - 1 ≤ counter + 1 then s.slotEnd b .d owner
  else match s.claimSlot b .d owner (counter + 1) 32 [] with
    | (.wait, s) => s.waitSlot b .d ⟨owner, counter + 1, 32, []⟩
    | (_, s) => s

/-- A panel verified under a row (R269): the phase followed, counters and label, keystream for the next panel asked for, and
its units given on. -/
def State.panelGood (s : State) (p row phase counter label : Nat) (units : List (Nat × Nat)) : State :=
  let b := boltOfPort p
  let s := (((s.followPanel p phase).count (Reg.pPanelsOk p)).count (Reg.saOk row)).saTouch row
  let s := ((s.pc b 0x013 1).panelCounter p row counter).panelNextRx p row counter
  (s.labelSeen p label).plainUnits p units true

/-- The mesh ID under which a panel of a row is opened (R712): the one received in the overhead of the tributary's first
lane, where it is that of SA_TW_SOURCE or its pair partner's. -/
def State.rxMesh (s : State) (p row : Nat) : Option Nat :=
  let want := s.num (Reg.saTwSource row) / 1024 % 1024
  let far := s.num (Reg.tlFarId (boltOfPort p) ((s.tribLanes p).headD 0)) / 16384
  if far = want ∨ far = want ^^^ 1 then some far else none

/-- A panel whose tag fails is counted (R411). -/
def State.panelAuthFail (s : State) (p row : Nat) : State :=
  let s := (s.count (Reg.pAuth p)).count (Reg.saIcvFail row)
  s.setTrib p { s.trib p with authSec := (s.trib p).authSec + 1, labelRun := 0 }

/-- A panel received with its counter known: verified under its phase's row, or not (R269, R410, R411, R412, R712). How many of its
units have been released when its tag fails is free (log entry 4). -/
def State.panelIn (s : State) (p : Nat) (data stamps : List Nat) (tagged phase counter : Nat) : State :=
  let row := s.rxPhaseRow p phase
  let b := boltOfPort p
  let rst := s.rowState 0x4000 row
  let st := s.num (Reg.pTwRxState p)
  let lost := fun (s : State) => s.errorPanel p
  let held := (rst = 1 ∨ rst = 3) ∧ s.num (Reg.saSuite row) = 8
  if ¬held then
    if st = 1 ∧ phase ≠ s.num (Reg.pTwRxPhase p) ∧ (s.trib p).released = true ∧ rst = 0 then lost (s.count (Reg.bTwOldPhaseLate b))
    else lost (s.count (Reg.bTwNoKey b))
  else if (s.num (Reg.saOk row) ≠ 0 ∨ s.num (lastPanel row) ≠ 0) ∧ counter ≤ s.num (lastPanel row) then
    lost (s.count (Reg.pPanelsStale p))
  else match s.rxMesh p row with
    | none =>
      let s := s.count (Reg.pAuth p)
      lost (s.setTrib p { s.trib p with authSec := (s.trib p).authSec + 1, labelRun := 0 })
    | some mesh =>
      let key := s.saKey row
      let iv := panelIv mesh (s.num (Reg.saTwSource row) % 1024) counter
      let ct := unitBytes data
      let label := field tagged 127 120
      let tag := gcmTag key iv (panelAad data label phase (field tagged 87 80)) ct
      let plain := (joinUnits data (gcmCrypt key iv ct)).zip stamps
      let s := s.panelStream p row counter
      if tag = natToBytes 16 (field tagged 255 128) then s.panelGood p row phase counter label plain
      else
        let s := s.panelAuthFail p row
        if s.num (Reg.pTribVerifyHold p) = 1 then lost s
        else
          let (n, s) := s.draw
          let s := s.plainUnits p (plain.take (n % 65)) false
          if n % 65 = 64 then s else lost s

/-- A panel that is not opened: its label and counter pieces give nothing to the next ones (R409, R417). -/
def State.panelSkipped (s : State) (p : Nat) : State :=
  (s.setTrib p { s.trib p with pieces := [], tracked := none, labelRun := 0, rxPoison := false }).errorPanel p

/-- A whole panel with its counter still to be recovered (R409). -/
def State.panelOpen (s : State) (p : Nat) (data stamps : List Nat) (tagged : Nat) : State :=
  let phase := if bit tagged 119 then 1 else 0
  let low := field tagged 118 103
  match s.num (Reg.pTwRxState p), (s.trib p).verified with
  | 0, _ | _, none =>
    match s.seekCounter p low (field tagged 102 88) with
    | (none, s) => s.errorPanel p
    | (some c, s) => s.panelIn p data stamps tagged phase c
  | _, some last => s.panelIn p data stamps tagged phase (nextCounter last low)

/-- A panel's way from the lane to the crypto island (R39), under its number. -/
def State.panelEnters (s : State) (p : Nat) (units : List Nat) : State :=
  let t := s.trib p
  let it := panelItem p t.rxNo t.rxPoison
  let s := forEach [0, 1, 2] (fun s pt => s.deliver (boltOfPort p) .d pt it (unitBytes units)) s
  s.setTrib p { s.trib p with rxNo := t.rxNo + 1 }

/-- TW_PANEL_RECEIVED (R409): a panel of a delineated tributary whose lanes have no defect that stops panels. One with a
unit out of an uncorrectable codeword is lost (R411), one that finds the D-pipe short of keystream is not admitted (R191),
and one whose beats failed is not judged (R44, R48). -/
def State.panelReceived (s : State) (p : Nat) (rx : PanelRx) : State :=
  if s.tribRunning p = false ∨ s.num (Reg.pTribDelineated p) = 0
      ∨ (s.tribLanes p).any (fun l => s.hardDefect (lineOf (boltOfPort p) l)) = true then s
  else match s.delineate p (s.rxUnits p rx) ((s.trib p).pointers.length + 1) with
    | (none, s) => s
    | (some us, s) =>
      if us.any (fun u => u.unit.isNone) then (s.count (Reg.pPanelsFecLost p)).panelSkipped p
      else if rx.short then (s.count (Reg.bDKsOverruns (boltOfPort p))).panelSkipped p
      else
        let poison := (s.trib p).rxPoison
        let units := us.filterMap (fun u => u.unit)
        let s := s.panelEnters p units
        if poison then s.panelSkipped p else s.panelOpen p (units.take 64) (us.map (fun u => u.ts)) (units.getD 64 0)

/-! Starts and stops (R265, R266, R392, R393, R407, R420) -/

/-- The phase-row checks of R265 for one tributary, its rows' states brought up to what runs now (R231). -/
def State.phaseRowsOk (s : State) (p : Nat) : Option Nat :=
  let okRow := fun (row dir ph : Nat) =>
    decide (row < s.nSas) && s.rowState 0x4000 row != 0 && s.num (Reg.saSuite row) == 8 && s.num (Reg.saDir row) == dir
      && s.num (Reg.saPort row) == p && s.num (Reg.saAn row) == ph
  let fine := [0, 1].all (fun ph => okRow (s.txPhaseRow p ph) 0 ph && okRow (s.rxPhaseRow p ph) 1 ph)
  inOrder [ abortIf (!fine) 0x130021, abortIf (s.rowState 0x4000 (s.txPhaseRow p 0) != 1) 0x120013 ]

/-- The start checks of a group (R392). -/
def State.groupStartCheck (s : State) (b g : Nat) : Option Nat :=
  let row := b * 1024 + g
  let lanes := s.groupLanes row
  let taken := lanes.any (fun l =>
    (s.lanePort (64 + lineOf b l)).isSome
      || (List.range 8).any (fun h => h != g && s.fnState (.group b h) != 0 && bit (s.num (Reg.tgLanes (b * 1024 + h))) l))
  let rows := lanes.flatMap (fun l => (List.range 20).map (fun t => (l, calRow b l t)))
  let calBad := rows.any (fun x => s.num (Reg.calTrib x.2) != 0xFFFF && !s.calOk b x.1 (s.num (Reg.calTrib x.2)))
  inOrder ([ abortIf (lanes.isEmpty || taken) 0x130051,
    abortIf (lanes.any (fun l => s.num (Reg.lnRate (64 + lineOf b l)) != 6)) 0x130061,
    abortIf calBad 0x130060 ]
    ++ ((s.groupTribs row).filter (fun p => s.fnState (.port p) != 0)).map s.phaseRowsOk)

/-- The start checks of a tributary (R393). -/
def State.tribStartCheck (s : State) (p : Nat) : Option Nat :=
  let row := s.tribGroupRow p
  let x := s.num (Reg.pXconnect p)
  let pay := s.num (Reg.pTribPayload p)
  let partner := decide (x < 1024) && (s.kind x == 1 || s.kind x == 2) && s.num (Reg.pXconnect x) == p
  inOrder [ abortIf (s.num (Reg.tgLanes row) == 0) 0x130060,
    abortIf (!((pay == 1 && partner) || ((pay == 2 || pay == 3) && x == 0xFFFF))) 0x130050,
    abortIf ((s.tribSlots p).isEmpty) 0x130060,
    if s.running (s.tribFn p) then s.phaseRowsOk p else none ]

/-- A tributary begins to send and receive once it and its group run: phase 0, SEEKING (R266, R270). A tributary that first
counts while the device is not Lit, over the link, is unused (R708). The per-key count goes on from the panels sent under the
row's key (R209, log entry 42), and the spacing of flips from the last one (R267). A flip armed before is dropped (log entry 89). -/
def State.tribBegin (s : State) (p : Nat) : State :=
  if s.tribRunning p then
    let s := (s.putN (Reg.pTwTxPhase p) 0).putN (Reg.pTwTxState p) 0
    let s := s.putN (Reg.pTribKeyCount p) (s.num (panelsUnder (s.txPhaseRow p 0)))
    let s := if s.pcNext p = 0 ∧ s.role ≠ 2 ∧ s.linked = true then s.putN (unusedTrib p) 1 else s
    let t := s.trib p
    let s := s.setTrib p { t with stopped := false, begun := none, releasing := none, released := false,
                                  prbsTx := 0x7FFFFFFF, line := [], lineAt := 0, gap := 0, credit := 0 }
    ((s.lossOf p).judgePlm p).closeAhead p 2
  else s

/-- The panel counter of a tributary at its START (R407). -/
def State.tribCounterStart (s : State) (p : Nat) : State :=
  s.setPcNext p (max (bytesToNat (s.oct (Reg.pTribPcStart p))) (s.pcNext p))

/-- A group's start completes: multiframe 0, fresh lanes, ACQUIRE (R384, R420). What a lane's second has seen stays (R426). -/
def State.groupBegin (s : State) (row : Nat) : State :=
  let b := row / 1024
  let now := s.time.elapsed
  let s := s.setGrp row { acqSince := now }
  let s := forEach (s.groupLanes row) (fun s l =>
    (s.setTwLane (lineOf b l) { faSince := now, mfSince := now, spreadSince := now, secDetected := (s.twLane (lineOf b l)).secDetected }).setLane
      (64 + lineOf b l) { s.lane (64 + lineOf b l) with txUnits := [] }) s
  let s := ((s.putN (Reg.tgRegime row) 1).bumpVersion 0x4400 row).raise 0x030204 0x440000
    (b * 2097152 + row % 1024 * 262144 + 131072)
  let s := forEach (s.groupTribs row) (fun s p => (s.setTrib p { s.trib p with flipped := false }).tribBegin p) s
  forEach (s.groupLanes row) (fun s l => s.twLaneUpdate (lineOf b l)) s

/-- A tributary is STOPPED: the panel begun is sent to its end (R124), the frames still in its panels are discarded, the frame being
received ends. An armed flip is dropped with no event, which R267 leaves open (log entry 89). -/
def State.tribStop (s : State) (p : Nat) : State :=
  let s := s.panelFinish p
  let marks := (s.trib p).marks
  let s := forEach marks (fun s m => (s.count (Reg.pStoppedDiscards p)).dropFinal m.2.2) s
  let s := forEach [0, 1] (fun s ph => (s.discardKeystream (boltOfPort p) .e (keyOwner (s.txPhaseRow p ph))).discardKeystream
    (boltOfPort p) .d (keyOwner (s.rxPhaseRow p ph))) s
  let t := s.trib p
  let s := s.setTrib p { t with sent := t.sent + t.closed.length, closed := [], building := [], marks := [], rxFrame := none,
                                pieces := [], tracked := none, gap := 0, rxAt := none, pointers := [] }
  ((s.putN (Reg.pTribDelineated p) 0).putN (Reg.pTwRxState p) 0).putN (Reg.pTwTxState p) 0

/-- Whether a lane belongs to a RUNNING group other than a row's. -/
def State.laneElsewhere (s : State) (row ll : Nat) : Bool := match s.runningGroup ll with | some r => r != row | none => false

/-- A group is STOPPED: the panels begun are sent to their end (R124), the frames its tributaries were receiving end, and nothing is
detected any more on its lanes (R395); what the second has seen stays (R426). -/
def State.groupStop (s : State) (row : Nat) : State :=
  let b := row / 1024
  let s := forEach (s.groupTribs row) (fun s p =>
    (((s.panelFinish p).lossOf p).putN (Reg.pTribPlm p) 0).putN (Reg.pTwTxState p) 0) s
  forEach (s.groupLanes row) (fun s l =>
    let ll := lineOf b l
    if s.laneElsewhere row ll then s else s.setTwLane ll { secDetected := (s.twLane ll).secDetected }) s

/-- TL_STATUS (R427). -/
def State.tlStatusNow (s : State) (ll : Nat) : Nat :=
  let x := s.twLane ll
  (if x.farBdi then 8388608 else 0) + (if x.spreadBad then 4194304 else 0) + x.detected * 256 + x.declared

end Sys2Proof.Machine
end

