-- ==== Sys2Proof/Machine/Framer.lean ====
section
/-! DEFINITION. Machine/Framer.lean: the transmit side of a Twill lane: overhead units, the rotation of slots over calendar
positions, filler and credit (R374 to R384, R390, R394, R395, R402, R403). It moves with the nanoseconds of Machine/Idle.lean. -/

namespace Sys2Proof.Machine

/-! Positions of a tributary (R402, R403) -/

/-- A unit time of n slots' credit in 1/225 bit: n · 5 bits in each of its 544/225 ns (R377, R402). -/
def slotCredit (n units : Nat) : Nat := 2720 * n * units

/-- What a data unit takes of the credit. -/
def unitCredit : Nat := 256 * 225

/-- Whether the next position of a tributary may begin a panel: no gap is owed, none is under way, and the credit allows. -/
def TribState.begins (t : TribState) : Bool := t.gap == 0 && t.line.isEmpty && decide (unitCredit ≤ t.credit)

/-- The unit of a tributary's next position: filler in a gap, without credit or without a panel, else the next unit of its panel.
-/
def TribState.position (t : TribState) : Nat × TribState :=
  let u := t.line.getD t.lineAt 0
  if 0 < t.gap then (0, { t with gap := t.gap - 1 })
  else if t.line.isEmpty then (0, t)
  else if t.lineAt = 64 then (u, { t with lineAt := 65 })
  else if unitCredit ≤ t.credit then (u, { t with lineAt := t.lineAt + 1, credit := t.credit - unitCredit })
  else (0, t)

/-- A position of a tributary passed, its panel behind it with its tag unit. -/
def TribState.pass (t : TribState) : TribState :=
  let x := t.position.2
  if x.lineAt = 65 then x.ended else x

/-- The units that pass while a rotation's 20 positions do, from unit `u` of a frame on, and the unit after them: the
rotation skips overhead units (R379). -/
def rotationEnd (u : Nat) : Nat × Nat := if u + 20 < 8192 then (20, u + 20) else (21, u + 20 - 8191)

/-- Positions of a tributary of `n` slots from the `k`-th of a rotation that begins at unit `u` to the start of its next
panel (R382); none where no panel starts within them. -/
def panelPtr (n : Nat) : Nat → TribState → Nat → Nat → Option Nat
  | 0, _, _, _ => none
  | fuel + 1, t, k, u =>
    if t.begins then some 0
    else
      let t := t.pass
      if k + 1 < n then (panelPtr n fuel t (k + 1) u).map (· + 1)
      else
        let r := rotationEnd u
        (panelPtr n fuel { t with credit := t.credit + slotCredit n r.1 } 0 r.2).map (· + 1)

/-! Rotations (R379, R390) -/

/-- A slot of a tributary takes its unit of the rotation that begins now: a panel begins where one may (R268, R402), the frames whose
first byte the unit carries leave with it, and a tag unit ends its panel. -/
def State.slotUnit (s : State) (row p r : Nat) : State :=
  let g := s.grp row
  let k := (r % 1024 - 8) % 20
  let beyond := decide (8192 ≤ g.unit + k)
  let s := if (s.trib p).begins then s.beginPanel p (beyond && g.fn == 255) else s
  let t := s.trib p
  let x := t.position
  let starts := t.begun.isSome && t.gap == 0 && t.lineAt == 0 && x.2.lineAt == 1
  let stamp : Int := s.nowFine + ((if beyond then k + 1 else k) * 544 * 65536 / 225 : Nat)
  let s := (s.setTrib p x.2).setGrp row { s.grp row with rotation := (s.grp row).rotation.put r (x.1, starts) }
  let s := if t.begun.isSome ∧ x.2.lineAt = t.lineAt + 1 ∧ t.lineAt < 64 then s.unitSent p t.lineAt stamp else s
  if x.2.lineAt = 65 then s.panelDone p else s

/-- The slots of a group's tributary take their units of the rotation, in the order of R390; nothing is sent for one that
does not run (R394). -/
def State.rotateTrib (s : State) (row p : Nat) : State :=
  if s.tribSends p = false then s
  else
    let slots := s.tribSlots p
    let since := (s.grp row).since
    let s := s.closeAhead p 2
    let s := s.setTrib p { s.trib p with credit := (s.trib p).credit + slotCredit slots.length since }
    forEach slots (fun s r => s.slotUnit row p r) s

/-- A rotation begins: every slot of the group's tributaries has its unit for it. -/
def State.rotate (s : State) (row : Nat) : State :=
  let s := s.setGrp row { s.grp row with rotation := [] }
  let s := forEach (s.groupTribs row) (fun s p => s.rotateTrib row p) s
  s.setGrp row { s.grp row with since := 0 }

/-! Overhead (R382 to R384, R394, R395, R425) -/

/-- Whether a tributary has a panel to begin next under the phase in force. -/
def State.panelNext (s : State) (p : Nat) : Bool :=
  s.panelReady p && s.panelKey (s.txPhaseRow p (s.num (Reg.pTwTxPhase p))) && !s.panelBarred p (s.num (Reg.pTribKeyCount p))

/-- PANEL_PTR for a tributary: through the slots left of the rotation under way, then through the rotations to come. Where
the tributary has no panel to send next, the value is free (log entry 92). -/
def State.panelPtrNow (s : State) (row p : Nat) : Nat × State :=
  let g := s.grp row
  let slots := s.tribSlots p
  let left := if g.calPos = 0 then [] else slots.filter (fun r => decide (g.calPos ≤ (r % 1024 - 8) % 20))
  let (free, s1) := s.draw
  let t := s.trib p
  let t := { t with credit := t.credit + slotCredit slots.length (g.since + 1 + (20 - g.calPos) % 20) }
  match left.findIdx? (fun r => (g.rotation.getD r (0, false)).2) with
  | some i => (i, s)
  | none =>
    match (if s.panelNext p then panelPtr slots.length 1023 t 0 (1 + (20 - g.calPos) % 20) else none) with
    | some k => (min (left.length + k) 1022, s)
    | none => (free % 1023, s1)

/-- The 240 bits of a lane's overhead that its CRC covers (R382), for the slot's tributary p, CAL_VAC and the panel pointer. -/
def State.overheadBody (s : State) (row l p : Nat) (vac : Bool) (ptr : Nat) : Nat :=
  let g := s.grp row
  0x7AE5C41F0B69 * 2 ^ 208 + g.cwp * 2 ^ 205 + g.mfc * 2 ^ 173 + g.fn * 2 ^ 165 + g.calPos * 2 ^ 160
    + s.meshIdNow % 1024 * 2 ^ 150 + row % 1024 * 2 ^ 147 + l * 2 ^ 144 + s.num (Reg.tgLanes row) * 2 ^ 136
    + g.fn % 20 * 2 ^ 131 + (if vac then 2 ^ 130 else 0) + p % 1024 * 2 ^ 120 + ptr * 2 ^ 110
    + (if s.hardDefect (lineOf (row / 1024) l) then 2 ^ 109 else 0)

/-- An overhead unit: its 240 bits and their CRC. -/
def withCrc (body : Nat) : Nat := body + crcBits 16 0x1021 0xFFFF (natToBits 240 (body / 2 ^ 16))

/-- The overhead unit of a lane. -/
def State.overheadUnit (s : State) (row l : Nat) : Nat × State :=
  let p := s.num (Reg.calTrib (calRow (row / 1024) l ((s.grp row).fn % 20)))
  let vac := p == 0xFFFF || !s.tribSends p
  let x := if vac then (0x3FF, s) else s.panelPtrNow row p
  (withCrc (x.2.overheadBody row l p vac x.1), x.2)

/-! Lanes that a group feeds -/

/-- The group that frames a line lane: its owner while not STOPPED, else a STOPPED group with it in TG_LANES where no port
owns it (R395). -/
def State.framerOf (s : State) (ll : Nat) : Option Nat :=
  match s.laneGroup (64 + ll) with
  | some g => some g
  | none =>
    if (s.lanePort (64 + ll)).isSome then none
    else (List.range 8).find? (fun g => bit (s.num (Reg.tgLanes (ll / 8 * 1024 + g))) (ll % 8))

/-- Whether a lane sends Twill units: its owner's, at Twill's rate. -/
def State.laneSends (s : State) (n : Nat) : Bool := s.laneLive n && s.num (Reg.lnRate n) == 6

/-- The lanes on which a group sends, in order. -/
def State.framedLanes (s : State) (row : Nat) : List Nat :=
  (s.groupLanes row).filter (fun l =>
    s.framerOf (lineOf (row / 1024) l) == some (row % 1024) && s.laneSends (64 + lineOf (row / 1024) l))

/-! Unit times -/

/-- The framer past the unit it has sent (R378, R379, R381). -/
def GroupState.nextUnit (g : GroupState) (scram : Nat) : GroupState :=
  let g := { g with scram := scram, since := g.since + 1,
                    calPos := if g.unit = 0 then g.calPos else (g.calPos + 1) % 20 }
  if g.unit < 8191 then { g with unit := g.unit + 1 }
  else { g with unit := 0, fn := g.fn + 1, cwp := (g.cwp + 1) % 5 }

/-- Every lane of a group sends one unit, at the same unit position of its codeword (R381, R384). -/
def State.unitOut (s : State) (row : Nat) : State :=
  let b := row / 1024
  let g := s.grp row
  let q := (12 * g.cwp + g.unit) % 20
  let s := forEach (s.framedLanes row) (fun s l =>
    if g.unit = 0 then
      let x := s.overheadUnit row l
      x.2.sendUnit (64 + lineOf b l) q (scramOverhead g.scram x.1).1
    else s.sendUnit (64 + lineOf b l) q (scramUnit g.scram (g.rotation.getD (calRow b l g.calPos) (0, false)).1).1) s
  s.setGrp row (g.nextUnit (if g.unit = 0 then scramOverhead g.scram 0 else scramUnit g.scram 0).2)

/-- A unit time of a group (R377): a rotation that is due begins, the lanes send, and behind the last unit of a multiframe
the boundary comes. -/
def State.unitTime (s : State) (row : Nat) : State :=
  let g := s.grp row
  let s := if g.unit ≠ 0 ∧ g.calPos = 0 then s.rotate row else s
  let s := s.unitOut row
  let g := s.grp row
  if g.fn = 256 then
    let g := { g with fn := 0, mfc := (g.mfc + 1) % 2 ^ 32 }
    if s.running (.group (row / 1024) (row % 1024)) then s.multiBoundary row g else s.setGrp row g
  else s

/-- A nanosecond of a group's unit clock: 225 of its 544 parts (R377). -/
def State.framerTick (s : State) (row : Nat) : State :=
  let k := (s.grp row).clock + 225
  if k < 544 then s.setGrp row { s.grp row with clock := k }
  else (s.setGrp row { s.grp row with clock := k - 544 }).unitTime row

/-! Patterns (R485): a lane's generator starts from ones at its START (log entry 102) -/

/-- The length and the feedback places of the generator of LN_PATTERN 1 to 3. -/
def prbsShape (code : Nat) : Nat × List Nat :=
  if code = 1 then (7, [6, 5]) else if code = 2 then (13, [12, 11, 1, 0]) else (31, [30, 27])

/-- `n` bits of a pattern from a state, and the state after; PRBS31 is sent inverted. -/
def patternBits (code : Nat) : Nat → Nat → List Nat × Nat
  | 0, st => ([], st)
  | n + 1, st =>
    let (len, taps) := prbsShape code
    let b := (sumOf (fun i => if bit st i then 1 else 0) taps) % 2
    let (bs, st) := patternBits code n ((st * 2 + b) % 2 ^ len)
    ((if code = 3 then 1 - b else b) :: bs, st)

/-- Symbols of an LN_RATE code in 32 ns (R460). -/
def rateSymbols (code : Nat) : Nat := [0, 330, 825, 850, 850, 1700, 1800].getD code 0

/-- The bits of levels (R462). -/
def levelBits (pam : Bool) (levels : List Nat) : List Nat :=
  levels.flatMap (fun x => if pam then [gray x / 2, gray x % 2] else [x / 2 % 2])

/-- The state of a pattern's generator behind bits that it sent. -/
def patternState (code : Nat) (bits : List Nat) : Nat :=
  bits.foldl (fun a b => 2 * a + (if code = 3 then 1 - b else b)) 0

/-- The levels that a synchronised checker receives after the level `before`, compared with its sequence; without a place in it yet,
the first bits give one (R485). -/
def State.checkLevels (s : State) (n before : Nat) (levels : List Nat) : State :=
  let code := s.num (Reg.lnPattern n)
  let len := (prbsShape code).1
  let bits := levelBits (s.pam n) (s.takeLevels n before levels)
  let (st, rest) := match (s.lane n).rxPrbs with
    | some st => (some st, bits)
    | none => if bits.length < len then (none, []) else (some (patternState code (bits.take len)), bits.drop len)
  match st with
  | none => s
  | some st =>
    let (want, next) := patternBits code rest.length st
    let errors := ((want.zip rest).filter (fun e => e.1 != e.2)).length
    let s := s.setLane n { s.lane n with rxPrbs := some next }
    (s.countBy (Reg.lnPrbsBits n) rest.length).countBy (Reg.lnPrbsErrors n) errors

/-- A nanosecond of a lane's pattern, where it replaces the owner's data; in near-end loopback it comes back to the lane's checker
(R486). -/
def State.patternTick (s : State) (n : Nat) : State :=
  let code := s.num (Reg.lnPattern n)
  let st := s.num (Reg.lnState n)
  if code = 0 ∨ s.num (Reg.lnLoopback n) = 2 ∨ (s.lane n).txActive = false ∨ st = 0 ∨ st = 4 ∨ st = 6 then s
  else
    let k := (s.lane n).prbsTime + rateSymbols (s.num (Reg.lnRate n))
    let (bits, x) := patternBits code (if s.pam n then 2 * (k / 32) else k / 32) (s.lane n).prbs
    let old := (s.lane n).txLevel
    let before := if bit (s.num (Reg.lnInvert n)) 1 then negLevel old else old
    let levels := (s.sendLevels n (if s.pam n then pairLevels bits else bits.map (3 * ·))).1
    let s := (s.setLane n { s.lane n with prbs := x, prbsTime := k % 32 }).sendBits n bits
    if s.num (Reg.lnLoopback n) = 1 ∧ (s.lane n).prbsSync = true ∧ s.num (Reg.lnState n) = 3 then s.checkLevels n before levels else s

/-- A nanosecond of every lane that has run. -/
def State.patterns (s : State) : State :=
  if s.phase = .ready then forEach (s.lanes.map (fun e => e.1)) State.patternTick s else s

/-- A nanosecond of every group that has lanes (R384, R395, R700); the parts without the Twill framer have none. -/
def State.framers (s : State) : State :=
  if s.phase = .ready ∧ s.hasTwill = true then
    forEach ((s.rowsListed 0x4400).filter (fun r => decide (r % 1024 < 8) && s.num (Reg.tgLanes r) != 0))
      State.framerTick s
  else s

end Sys2Proof.Machine
end

