-- ==== Sys2Proof/Machine/Lanes.lean ====
section
/-! DEFINITION. Machine/Lanes.lean: the states of serial lanes: acquisition, sleep and wake, reference faults, pattern
checkers (R458 to R492). -/

namespace Sys2Proof.Machine

/-- The bolt of a clear or line lane. -/
def laneBolt (n : Nat) : Nat := n % 64 / 8

/-- What follows a change of a lane: its interface's link, its Twill defects. -/
def State.laneChanged (s : State) (n : Nat) : State :=
  let s := (s.conflictCheck n).laneLink n
  if 64 ≤ n ∧ n < 128 then s.twLaneUpdate (n - 64) else s

/-- The peaking that a search keeps (R472): the one of the highest ratio, the lower at a tie. -/
def bestPeaking (snr : Nat → Nat) : Nat :=
  (List.range 16).foldl (fun best k => if snr best < snr k then k else best) 0

/-- Whether a lane's acquisition searches its peaking, and until when (R467, R468, R472). -/
def State.ctleAuto (s : State) (n : Nat) : Bool := s.hasCtle && (s.lane n).ctle == 16
def State.acqFrom (s : State) (n : Nat) : Nat := (s.lane n).since + (if s.ctleAuto n then 32000000 else 0)

/-- LN_CTLE_USED (R467): the peaking in force, which an acquisition changes at its start where it is fixed and at the end of its
search under AUTO. While a search goes on, the one before is shown (log entry 115). -/
def State.ctleInForce (s : State) (n : Nat) : Nat :=
  if s.hasCtle && s.num (Reg.lnState n) == 2 && decide (s.acqFrom n ≤ s.time.elapsed) then
    (if s.ctleAuto n then bestPeaking (Config.ctleSnr n (s.lane n).acq) else (s.lane n).ctle)
  else s.num (Reg.lnCtleUsed n)

/-- A lane's state (R470): the offset and SNR read 0 outside LOCKED (R780), entries to NO_SIGNAL are counted (R488), a
change of lock raises event 0x04_0001 at most once a second (R492). The peaking that came into force stays so. -/
def State.setLaneState (s : State) (n st : Nat) : State :=
  let old := s.num (Reg.lnState n)
  if old = st then s.laneChanged n
  else
    let s := (s.putN (Reg.lnCtleUsed n) (s.ctleInForce n)).putN (Reg.lnState n) st
    let s := if st = 3 then s else (s.putN (Reg.lnRxPpm n) 0).putN (Reg.lnSnr n) 0
    let s := if st = 1 ∧ (old = 2 ∨ old = 3) then s.count (Reg.lnLosCount n) else s
    let s := if st = 3 ∨ old = 3 then
        s.raiseOnce 0x040001 ((0x1900 + n) * 256) (n * 65536 + (if st = 3 then 32768 else 0) + st * 4096)
      else s
    s.laneChanged n

/-- A receiver loses what it had synchronised to (R485). -/
def LaneState.unsynced (x : LaneState) : LaneState := { x with prbsSync := false, rxPrbs := none }

/-- A full acquisition begins now, by the LN_CTLE of this instant (R468, R472 to R474). -/
def State.acquire (s : State) (n : Nat) : State :=
  let s := s.putN (Reg.lnCtleUsed n) (s.ctleInForce n)
  let x := s.lane n
  s.setLane n { x.unsynced with since := s.time.elapsed, acq := x.acq + 1, ctle := s.num (Reg.lnCtle n) }

/-- Whether the lane's reference is in fault (R478); the mirror lanes run from SYSCLK (R477). -/
def State.laneRefFault (s : State) (n : Nat) : Bool := decide (n < 128) && s.num (Reg.bRefState (laneBolt n)) != 0

/-- A lane of a running Twill group starts or leaves lane sleep: the group goes to ACQUIRE (R420). -/
def State.laneReacquire (s : State) (n : Nat) : State :=
  if 64 ≤ n ∧ n < 128 then
    match s.runningGroup (n - 64) with
    | some row => s.toAcquire row
    | none => s
  else s

/-- A lane's start completes (R458, R479, R483). -/
def State.laneBegin (s : State) (n : Nat) : State :=
  let st := if s.num (Reg.lnSleep n) = 1 then 4 else if s.laneRefFault n then 6 else 1
  let s := s.setLane n { s.lane n with signal := false, kept := false, txActive := decide (st ≠ 4), since := s.time.elapsed
                                       txLevel := 0, txUnits := [], prbs := 0x7FFFFFFF, prbsTime := 0, rxPrbs := none, wake := none }
  (s.laneReacquire n).setLaneState n st

/-- A lane is STOPPED: electrical idle, adapted settings discarded (R458). -/
def State.laneStop (s : State) (n : Nat) : State :=
  let s := s.setLane n { (s.lane n).unsynced with signal := false, kept := false, txActive := false, wake := none }
  (s.setLaneState n 0).putN (Reg.lnCtleUsed n) 0

/-- LANE_SIGNAL_DETECTED (R471, R472): in NO_SIGNAL a full acquisition starts. -/
def execLaneSignalDetected (n : Nat) (s : State) : Host.Outcome State Fault Refusal :=
  let st := s.num (Reg.lnState n)
  if s.lanePresent n = false ∨ st = 0 ∨ st = 4 ∨ st = 6 then done s
  else
    let s := s.setLane n { s.lane n with signal := true }
    done (if st = 1 then (s.acquire n).setLaneState n 2 else s)

/-- LANE_SIGNAL_LOST (R471). A wake under way goes on (R481, R482). -/
def execLaneSignalLost (n : Nat) (s : State) : Host.Outcome State Fault Refusal :=
  let st := s.num (Reg.lnState n)
  if s.lanePresent n = false ∨ st = 0 ∨ st = 4 ∨ st = 6 then done s
  else done ((s.setLane n { (s.lane n).unsynced with signal := false }).setLaneState n 1)

/-- The time that an acquisition has for lock once its peaking stands, and the time for which its phase loop is settled first
(R472). -/
def acqBound : Nat := 10000000
def settleTime : Nat := 10000

/-- Whether a lane may reach LOCKED now at an offset in 0.01 ppm: within 250 ppm, in an acquisition between its settling and its bound
(R472), or in a wake from kept settings between 1 ms and 2.5 ms (R481, R482). -/
def State.mayLock (s : State) (n : Nat) (ppm : Nat) : Bool :=
  let x := s.lane n
  let now := s.time.elapsed
  let st := s.num (Reg.lnState n)
  decide (ppm ≤ 25000)
    && ((st == 2 && decide (s.acqFrom n + settleTime ≤ now ∧ now ≤ s.acqFrom n + acqBound))
      || (st == 5 && x.txActive && x.kept && (match x.wake with | some t => decide (now ≤ t + 2500000) | none => false)))

/-- LANE_LOCKED (R467, R472, R481, R780): an acquisition or a wake ends. -/
def execLaneLocked (n : Nat) (slow : Bool) (ppm snr : Nat) (s : State) : Host.Outcome State Fault Refusal :=
  if s.mayLock n ppm then
    let x := s.lane n
    let s := s.setLane n { x with kept := false, signal := true, wake := if x.txActive then none else x.wake }
    let s := s.setLaneState n 3
    done ((s.putN (Reg.lnRxPpm n) (toI24 (if slow then -(ppm : Int) else ppm))).putN (Reg.lnSnr n) (min snr 65535))
  else done s

/-- LANE_ACQ_TIMEOUT (R472, R473): an acquisition that has missed its bound starts again. -/
def execLaneAcqTimeout (n : Nat) (s : State) : Host.Outcome State Fault Refusal :=
  if s.num (Reg.lnState n) = 2 ∧ s.acqFrom n + acqBound ≤ s.time.elapsed then done ((s.acquire n).count (Reg.lnAcqRetries n))
  else done s

/-- LANE_LOCK_LOST (R474): a full acquisition begins. -/
def execLaneLockLost (n : Nat) (s : State) : Host.Outcome State Fault Refusal :=
  if s.num (Reg.lnState n) = 3 then done (((s.acquire n).count (Reg.lnLockLosses n)).setLaneState n 2)
  else done s

/-- The effect of a write to LN_SLEEP (R480, R481, R483, R484). -/
def State.sleepEff (s : State) (n v : Nat) : Eff :=
  if 128 ≤ n then refuse s 0x130001
  else
    let s := s.putN (Reg.lnSleep n) v
    let st := s.num (Reg.lnState n)
    let x := s.lane n
    if v = 1 then
      if st = 0 ∨ st = 4 then okay s
      else
        let kept := if st = 3 then true else if st = 5 ∨ st = 6 then x.kept else false
        okay ((s.setLane n { x.unsynced with kept := kept, signal := false, txActive := false, wake := none }).setLaneState n 4)
    else if st = 4 then
      let fault := s.laneRefFault n
      let s := (s.setLane n { x with since := s.time.elapsed, txActive := false
                                     wake := if fault then none else some s.time.elapsed }).laneReacquire n
      okay (s.setLaneState n (if fault then 6 else 5))
    else okay s

/-- LANE_WAKE_TX_ACTIVE (R481): 1 ms into a wake the transmitter is active, whatever the receiver has met. -/
def execLaneWakeTxActive (n : Nat) (s : State) : Host.Outcome State Fault Refusal :=
  let x := s.lane n
  match x.wake with
  | some t =>
    if x.txActive = false ∧ t + 1000000 ≤ s.time.elapsed then
      done (s.setLane n { x with txActive := true, txLevel := 0, txUnits := [], wake := if x.kept || s.num (Reg.lnState n) == 5 then x.wake else none })
    else done s
  | none => done s

/-- LANE_WAKE_TIMEOUT (R482): a wake without lock, 2.5 ms after it began or with no settings kept, goes on as from NO_SIGNAL; where
settings were kept it was slow. -/
def execLaneWakeTimeout (n : Nat) (s : State) : Host.Outcome State Fault Refusal :=
  let x := s.lane n
  match x.wake with
  | some t =>
    if x.txActive = true ∧ (x.kept = false ∨ t + 2500000 ≤ s.time.elapsed) then
      let s := if x.kept then (s.count (Reg.lnWakeSlow n)).raise 0x040003 ((0x1900 + n) * 256) (n * 65536) else s
      let waking := s.num (Reg.lnState n) == 5
      let s := s.setLane n { x with kept := false, wake := none, signal := x.signal && !waking }
      done (if waking then s.setLaneState n 1 else s)
    else done s
  | none => done s

/-- The effect of a write to LN_FFE (R466): MAIN is what the two taps leave, in its six bits; reserved bits stay 0. -/
def State.ffeEff (s : State) (n v : Nat) : Eff :=
  let pre := v / 65536 % 64
  let post := v / 256 % 64
  if 16 < pre ∨ 24 < post then refuse s 0x130001
  else okay (s.putN (Reg.lnFfe n) (pre * 65536 + post * 256 + (64 - pre - post) % 64))

/-- The RUNNING clear and line lanes of a bolt. -/
def State.runningLanes (s : State) (b : Nat) : List Nat :=
  ((List.range 8).map (8 * b + ·) ++ (List.range 8).map (64 + 8 * b + ·)).filter (fun n => s.num (Reg.lnState n) != 0)

/-- REF_FAULT_DECLARED (R478, R479): the bolt's reference is absent or out of tolerance; during a fault REF_STATE follows
which it is (R491). -/
def execRefFaultDeclared (b : Nat) (absent : Bool) (s : State) : Host.Outcome State Fault Refusal :=
  let kind := if absent then 1 else 2
  if s.nBolts ≤ b then done s
  else if s.num (Reg.bRefState b) ≠ 0 then done (s.putN (Reg.bRefState b) kind)
  else
    let s := (s.putN (Reg.bRefState b) kind).count (Reg.bRefFaults b)
    let s := s.raise 0x040002 ((0x2000 + 0x100 * b + 0x0E) * 256) (b * 2097152 + 1048576 + kind * 262144)
    done (forEach (s.runningLanes b) (fun s n =>
      if s.num (Reg.lnState n) = 4 then s
      else (s.setLane n { (s.lane n).unsynced with signal := false, wake := none }).setLaneState n 6) s)

/-- REF_FAULT_CLEARED (R478, R479). -/
def execRefFaultCleared (b : Nat) (s : State) : Host.Outcome State Fault Refusal :=
  if s.nBolts ≤ b ∨ s.num (Reg.bRefState b) = 0 then done s
  else
    let s := s.putN (Reg.bRefState b) 0
    let s := s.raise 0x040002 ((0x2000 + 0x100 * b + 0x0E) * 256) (b * 2097152)
    done (forEach (s.runningLanes b) (fun s n =>
      if s.num (Reg.lnState n) = 6 then (s.setLane n { s.lane n with txActive := true }).setLaneState n 1 else s) s)

/-- PATTERN_CHECKER_SYNC (R485, R486): a pattern checker synchronises to what its lane receives, goes on with it, or loses it. The first
symbols give a checker its place in the sequence, and the bits of the rest are compared. Near-end loopback gives it the lane's own
symbols from now on, and far-end loopback sends on what comes. -/
def execPatternCheckerSync (n : Nat) (sync : Bool) (before : Nat) (levels : List Nat) (s : State) : Host.Outcome State Fault Refusal :=
  if s.num (Reg.lnPattern n) = 0 ∨ s.num (Reg.lnState n) ≠ 3 then done s
  else
    let s := s.farEnd n [⟨before, levels⟩]
    let x := s.lane n
    if sync = false then done (s.setLane n x.unsynced)
    else if s.num (Reg.lnLoopback n) = 1 then
      done (s.setLane n { x with prbsSync := true, rxPrbs := if x.prbsSync then x.rxPrbs else some x.prbs })
    else done ((s.setLane n { x with prbsSync := true }).checkLevels n before levels)

end Sys2Proof.Machine
end

