-- ==== Sys2Proof/Machine/Sess.lean ====
section
/-! DEFINITION. Machine/Sess.lean: the end of a session (R582), and the outcome of a host command. -/

namespace Sys2Proof.Machine

/-! The end of a session (R582) -/

/-- The jobs of a session that ends: its host job being erased keeps its number and JOB_SEQ for its record, its handshake's
jobs run on with no one to answer (R646). -/
def State.orphanJobs (s : State) (n : Nat) : State :=
  let f := fun (j : Job) =>
    if j.owner = .host n then { j with owner := .closed n (s.num (Reg.jobSeq n)) }
    else if j.owner = .hello n ∨ j.owner = .auth n then { j with owner := .dropped }
    else j
  let r := s.retort
  { s with retort := { r with queue := r.queue.map f, running := r.running.map f, clearing := r.clearing.map f } }

/-- Everything a session holds forgotten, and its slot freed: its cursors, staging rows and keys (R114, R259, R275), its
Retort job (R645), a debug certificate bound to it (R622). -/
def State.freeSession (s : State) (n : Nat) : State :=
  let s := (s.jobAbort n).orphanJobs n
  let s := match s.trust.cert with
    | some c => if c.sess = n then s.certEnd 2 else s
    | none => s
  let s := s.clearWhere (fun k => match k with
    | .ses m _ => m == n
    | .cur m _ _ => m == n
    | .dev a => a / 256 == 0x1110 + n
    | _ => false)
  { s with sessions := s.sessions.del n }

/-- A session closed with a reason, by the device where `own`, with event 0x07_0402. -/
def State.closeSession (s : State) (n reason : Nat) (own : Bool) : State :=
  let st := s.num (Reg.sessState n)
  if n = 0 ∨ st = 0 then s
  else if st = 1 then s.freeSession n
  else
    let s := if own then s.sendSecured n 6 [] else s
    (s.freeSession n).raise 0x070402 ((0x1110 + n) * 256) (n * 1048576 + reason * 131072)

/-- The sessions whose close waited for the response (R582). -/
def State.closeMarked (s : State) : State :=
  forEach (List.range 9) (fun s n =>
    match (s.session n).closing with
    | some reason => s.closeSession n reason true
    | none => s) s

/-- A session marked to close after the response. -/
def State.markClose (s : State) (n reason : Nat) : State :=
  if n = 0 ∨ s.num (Reg.sessState n) = 0 then s else s.setSession n { s.session n with closing := some reason }

/-- A SILSY_ETYPE written, until the response to the write has been sent (R586). -/
def etypeNext : Key := .row 0x1101 0 0x100

/-- What a request leaves for the time after its response (R582, R586). -/
def State.afterResponse (s : State) : State :=
  let e := s.num etypeNext
  (if e = 0 then s else (s.clear etypeNext).saveN Reg.silsyEtype e).closeMarked

/-! Host commands -/

/-- The outcome of a host command given straight to Hearth in a session: the request is answered, and sessions marked to
close are closed. In internal reset, and in recovery but on session 0, nothing answers (R614, R762). -/
def hostDone (n : Nat) (s : State) (r : Eff) : Host.Outcome State Fault Refusal :=
  if s.answers n then done (answered n r).afterResponse else done s

/-- A write of one number to an object, with the object's own effect (R105, R139). -/
def State.writeNum (s : State) (n addr v : Nat) (eff : Eff) : Eff :=
  let ty := match Dict.entry addr with | some e => e.ty | none => .u48
  s.request n addr true v (ty.numFit v) eff

/-- The outcome of a command that writes one number to an object. -/
def hostWrite (n addr v : Nat) (s : State) (eff : Eff) : Host.Outcome State Fault Refusal := hostDone n s (s.writeNum n addr v eff)

/-- The outcome of a command that reads an object. -/
def hostRead (n addr : Nat) (s : State) (eff : Eff) : Host.Outcome State Fault Refusal :=
  hostDone n s (s.request n addr false 0 none eff)

end Sys2Proof.Machine
end

