-- ==== Sys2Proof/Machine/Functions.lean ====
section
/-! DEFINITION. Machine/Functions.lean: functions (R124 to R132, R777, R778): what FN_CTRL names, the start checks (R300,
R347, R392, R393, R439, R513, R524, R655), drains and their limit (R129). -/

namespace Sys2Proof.Machine

/-- The function whose FN_CTRL an address is, outside the windows (R124). -/
def fnHome (addr : Nat) : Option Fn :=
  let idx := addr / 256
  if addr % 256 ≠ 1 then none
  else if 0x3000 ≤ idx ∧ idx < 0x4000 then
    (if (idx - 0x3000) % 4 = 0 then some (.port ((idx - 0x3000) / 4))
     else if (idx - 0x3000) % 4 = 3 then some (.sched ((idx - 0x3000) / 4)) else none)
  else if 0x2000 ≤ idx ∧ idx < 0x2800 then
    (if idx % 256 = 0x10 ∨ idx % 256 = 0x11 then some (.bank ((idx - 0x2000) / 256) (idx % 256 - 0x10)) else none)
  else if 0x1900 ≤ idx ∧ idx < 0x1A00 then some (.lane (idx - 0x1900))
  else if 0x1610 ≤ idx ∧ idx < 0x1618 then some (.range (idx - 0x1610))
  else none

/-- The function of a window's selected row (R510, R778), or the abort of a write of its FN_CTRL. -/
def State.fnRow (s : State) (n win : Nat) : Except Nat Fn :=
  let row := s.cursor n win
  if row = 0xFFFFFF then .error 0x150001
  else if win = 0x4400 then (if row % 1024 < 8 then .ok (.group (row / 1024) (row % 1024)) else .error 0x110001)
  else if s.tribRow win row then .error 0x130021
  else if win = 0x4600 then (if gateOper row then .error 0x110001 else .ok (.gate (gatePort row)))
  else .ok (.stream row)

/-- The function whose FN_CTRL and FN_STATE a session reads in a window (R510, R777, R778), none on a calendar or reserved row
of window 0x4400. -/
def State.fnSeen (s : State) (n win : Nat) : Except Nat (Option Fn) :=
  let row := s.cursor n win
  if row = 0xFFFFFF then .error 0x150001
  else if win = 0x4400 then .ok (if row % 1024 < 8 then some (.group (row / 1024) (row % 1024)) else none)
  else if s.tribRow win row then .error 0x130021
  else if win = 0x4600 then .ok (some (.gate (gatePort row)))
  else .ok (some (.stream row))

/-- The function that a session's write of FN_CTRL at an address acts on. -/
def State.fnAt (s : State) (n addr : Nat) : Except Nat Fn :=
  match fnHome addr with
  | some f => .ok f
  | none => if addr = 0x440008 ∨ addr = 0x460008 ∨ addr = 0x470008 then s.fnRow n (addr / 256) else .error 0x100001

/-- Whether an address is an FN_CTRL. -/
def isFnCtrl (addr : Nat) : Bool := (fnHome addr).isSome || addr == 0x440008 || addr == 0x460008 || addr == 0x470008

/-- Whether another port or a Twill group of the bolt that is not STOPPED owns a lane. -/
def State.laneTaken (s : State) (p n : Nat) : Bool :=
  (boltPorts (boltOfPort p)).any (fun q => q != p && s.ownsLanes q && s.fnState (.port q) != 0 && (s.portLanes q).contains n)
    || (s.laneGroup n).isSome

/-! Start checks -/

/-- The cross-connection checks of R346. -/
def State.crossOk (s : State) (p : Nat) : Bool :=
  let x := s.num (Reg.pXconnect p)
  let k := s.kind p
  if x = 0xFFFF then k == 1 || (k == 3 && s.num (Reg.pParent p) == 0xFFFF) || (k == 4 && s.num (Reg.pTribPayload p) != 1)
  else (k != 4 || s.num (Reg.pTribPayload p) == 1) && s.num (Reg.pXconnect x) == p
    && (if k = 1 ∨ k = 2 then s.kind x == 3 || s.kind x == 4 else s.kind x == 1 || s.kind x == 2)

/-- The ports that share a line port's interface: the carrier and the ports on it. -/
def State.carrierPorts (s : State) (p : Nat) : List Nat :=
  (boltPorts (boltOfPort p)).filter (fun q => s.kind q == 3 && s.interfaceOf q == s.interfaceOf p)

/-- The checks of a port's START in order (R347). -/
def State.portStartCheck (s : State) (p : Nat) : Option Nat :=
  let k := s.kind p
  let par := s.num (Reg.pParent p)
  let n := modeLanes (s.num (Reg.pLaneMode p))
  let base := s.num (Reg.pLaneBase p)
  let vid := s.num (Reg.pSubVid p)
  let others := (boltPorts (boltOfPort p)).filter (fun q => q != p && s.fnState (.port q) != 0)
  let named := others.any (fun q => s.num (Reg.pParent q) == p && (s.kind q == 2 || s.kind q == 3))
  inOrder
    [ abortIf (k == 0) 0x130050,
      abortIf (s.ownsLanes p && !(decide (0 < n) && base % n == 0 && decide (base + n ≤ 8))) 0x130050,
      abortIf (s.ownsLanes p && (s.portLanes p).any (fun l => s.laneTaken p l)) 0x130051,
      abortIf (k == 2 && !(decide (par < 1024) && s.kind par == 1 && decide (1 ≤ vid ∧ vid ≤ 4094)
        && !others.any (fun q => s.kind q == 2 && s.num (Reg.pParent q) == par && s.num (Reg.pSubVid q) == vid))) 0x130050,
      abortIf (k == 3 && par != 0xFFFF && !(decide (par < 1024) && s.kind par == 3 && s.num (Reg.pParent par) == 0xFFFF
        && s.num (Reg.pTxSciMode par) == 0 && s.num (Reg.pTxSciMode p) == 0)) 0x130050,
      abortIf (k == 3 && s.num (Reg.pTxSciMode p) != 0 && !(s.ownsLanes p && !named)) 0x130050,
      abortIf (k == 3 && (s.carrierPorts p).any (fun q => q != p && s.fnState (.port q) != 0 && s.oct (Reg.pTxSci q) == s.oct (Reg.pTxSci p)))
        0x130050,
      abortIf (!s.crossOk p) 0x130050,
      if k = 4 then s.tribStartCheck p else none ]

/-- The check of a scheduler's START (R524): no slope above the link rate. -/
def State.schedStartCheck (s : State) (p : Nat) : Option Nat :=
  let rate := s.linkRate (s.linkOf p)
  abortIf ((List.range 8).any (fun q => decide (rate < s.num (Reg.qIdleSlope (queueRow p q)) ∨ rate < s.num (Reg.qSendSlope (queueRow p q)))))
    0x130081

/-- Whether prefix lengths never increase. -/
def neverRising : List Nat → Bool
  | a :: b :: rest => decide (b ≤ a) && neverRising (b :: rest)
  | _ => true

/-- The checks of a policy bank's START (R300): no faulted entry, then the order. -/
def State.bankStartCheck (s : State) (b k : Nat) : Option Nat :=
  let rows := (s.rowsListed 0x4200).filter (fun r => r / 4096 == b * 2 + k)
  let sorted := (List.range 4096).filter (fun i => rows.contains (b * 8192 + k * 4096 + i))
  let lens := (sorted.filter (fun i => s.rowState 0x4200 (b * 8192 + k * 4096 + i) == 1)).map
    (fun i => s.num (Reg.pkPrefixLen (b * 8192 + k * 4096 + i)))
  inOrder [ abortIf (rows.any (fun r => s.rowState 0x4200 r == 2)) 0x130044, abortIf (!neverRising lens) 0x130043 ]

/-- The check of an admin list's START (R513). -/
def State.gateStartCheck (s : State) (p : Nat) : Option Nat :=
  let c := s.num (Reg.pAdminCycle p)
  abortIf (!((List.range (s.num (Reg.pAdminLen p))).all (fun i => s.rowState 0x4600 (gateRow p 0 i) == 1)
    && decide (8 ≤ c ∧ c ≤ 4000000000))) 0x130080

/-- The minimum RNG_SIZE of a use in MiB (R657). -/
def State.useMinimum (s : State) (u : Nat) : Nat := if u = 3 then s.nBolts / 4 * 32 else if u = 5 then 32 else 8

/-- The checks of a range's START (R655). Base, size and channel size count in MiB. -/
def State.rangeStartCheck (s : State) (r : Nat) : Option Nat :=
  let u := s.num (Reg.rngUse r)
  let ch := s.num (Reg.rngChannel r)
  let size := s.num (Reg.rngSize r)
  let base := s.num (Reg.rngBase r)
  let stop := base + size / 8 * 9
  let others := (List.range 8).filter (fun q => q != r && s.fnState (.range q) != 0)
  let hit := fun q => s.num (Reg.rngChannel q) == ch && decide (s.num (Reg.rngBase q) < stop)
    && decide (base < s.num (Reg.rngBase q) + s.num (Reg.rngSize q) / 8 * 9)
  abortIf (u == 0 || size % 8 != 0 || decide (size < max 8 (s.useMinimum u))
    || decide (s.part.sideChannels ≤ ch) || s.num (Reg.smChState ch) != 2
    || decide (s.num (Reg.smChSize ch) < stop)
    || others.any hit
    || (u != 6 && others.any (fun q => s.num (Reg.rngUse q) == u))) 0x1300A0

/-- The start check of a function. -/
def State.startCheck (s : State) (f : Fn) : Option Nat :=
  match f with
  | .port p => s.portStartCheck p
  | .sched p => s.schedStartCheck p
  | .bank b k => s.bankStartCheck b k
  | .lane _ => none
  | .range r => s.rangeStartCheck r
  | .group b g => s.groupStartCheck b g
  | .gate p => s.gateStartCheck p
  | .stream n => abortIf (s.rowState 0x4700 n != 1) 0x120070

/-! State changes -/

/-- FN_STATE written. -/
def State.setFn (s : State) (f : Fn) (st : Nat) : State := s.putN (fnStateKey f) st

/-- What depends on who owns a lane, after an owner has started or stopped (R461, R490). -/
def State.lanesOwned (s : State) (ls : List Nat) : State := forEach ls (fun s n => s.conflictCheck n) s

/-- The takeover instant T of a START accepted now (R514), in ns. -/
def State.takeoverAt (s : State) (p : Nat) : Nat :=
  let b := time96Ns (s.num (Reg.pAdminBase p))
  let c := max (s.num (Reg.pAdminCycle p)) 1
  let least := s.nowNs + 10000
  if least ≤ b then b else b + max 1 ((least - b + c - 1) / c) * c

/-- What a START fixes when it is accepted with a check that passes: T of an admin list (R514), the keys and zeros of a
range (R656), the lanes a port or group owns from now on (R490) and the link of a port no longer STOPPED (R337). -/
def State.startFixes (s : State) (f : Fn) : State :=
  match f with
  | .gate p =>
    let s := s.putN (Reg.pTakeoverTime p) (time96 (s.takeoverAt p))
    let s := s.setPort p { s.port p with admin := true }
    s.mirror (.gateObj p 0x4A (s.num (Reg.pTakeoverTime p)))
  | .range r => { s with sm := s.sm.put r { draw := s.free, data := [] }, free := s.free + 4 }
  | .port p => if s.ownsLanes p then ((s.lanesOwned (s.portLanes p)).linkEval p).sendFault p else s
  | .group b g => s.lanesOwned ((s.groupLanes (b * 1024 + g)).map (fun l => 64 + lineOf b l))
  | _ => s

/-- The SA rows of what a function runs follow their use (R231). -/
def State.fnRows (s : State) (f : Fn) : State :=
  match f with
  | .port p => if s.kind p = 4 then s.saRefreshPort p else s
  | .group b g => forEach (s.groupTribs (b * 1024 + g)) State.saRefreshPort s
  | _ => s

/-- A function passes into STARTING: its configuration is checked as it now stands (R127, R128), with nothing of its run
before in use any more (R231). -/
def State.beginStart (s : State) (f : Fn) : State :=
  let s := (s.setFn f 1).fnRows f
  match s.startCheck f with
  | some c => s.putN (startCode f) c
  | none => (s.putN (startCode f) 0).startFixes f

/-- A function is RUNNING. -/
def State.onRunning (s : State) (f : Fn) : State :=
  match f with
  | .port p => if s.kind p = 4 then (s.tribCounterStart p).tribBegin p else s
  | .group b g =>
    let row := b * 1024 + g
    (s.tgApply row).groupBegin row
  | .lane n => (s.laneBegin n).conflictCheck n
  | _ => s

/-- What a function holds for its run is given up: it is STOPPED, or starts afresh from START_PENDING. -/
def State.endRun (s : State) (f : Fn) : State :=
  match f with
  | .port p =>
    let s := s.setPort p { s.port p with control := [], pausedAt := [], peerPause := [] }
    if s.kind p = 4 then s.tribStop p else s
  | .group b g => s.groupStop (b * 1024 + g)
  | .lane n => s.laneStop n
  | .range r => { s with sm := s.sm.del r }
  | _ => s

/-- A function is STOPPED: its run ends, its lanes have no owner, and its link is down (R337, R490). -/
def State.onStopped (s : State) (f : Fn) : State :=
  let s := s.endRun f
  match f with
  | .port p =>
    let s := s.lanesOwned (if s.ownsLanes p then s.portLanes p else [])
    if s.kind p = 4 then s else s.linkEval p
  | .group b g => s.lanesOwned ((s.groupLanes (b * 1024 + g)).map (fun l => 64 + lineOf b l))
  | _ => s

/-- Whether a function's drain completes at once (R124). -/
def drainsAtOnce (f : Fn) : Bool :=
  match f with
  | .bank _ _ => true
  | .gate _ => true
  | .lane _ => true
  | .range _ => true
  | _ => false

/-- Quanta 0 for every pause in force as a clear interface enters STOPPING (R366). -/
def State.pauseEnd (s : State) (p : Nat) : State :=
  let x := s.num (Reg.pXoffState p)
  if s.kind p = 1 ∧ x ≠ 0 then
    let s := forEach ((List.range 8).filter (fun q => bit x q)) (fun s q => s.sendPause p q 0) s
    (s.setPort p { s.port p with pausedAt := [] }).putN (Reg.pXoffState p) 0
  else s

/-- A drain begins (R127, R129). -/
def State.beginDrain (s : State) (f : Fn) : State :=
  if drainsAtOnce f then (s.setFn f 0).onStopped f
  else
    let s := s.setFn f 3
    let s := match f with | .port p => s.pauseEnd p | _ => s
    { s with drains := (f, s.time.elapsed) :: s.drains.filter (fun d => decide (d.1 ≠ f)) }

/-- The takeover of an admin list that a STOP cancels, or finds already made (R132). -/
def State.stopGate (s : State) (f : Fn) : State :=
  match f with
  | .gate p =>
    if (s.port p).admin = false then s
    else if time96Ns (s.num (Reg.pTakeoverTime p)) ≤ s.nowNs then s.takeover p
    else s.setPort p { s.port p with admin := false }
  | _ => s

/-- STOP accepted (R127). -/
def State.stopFn (s : State) (f : Fn) : State :=
  let st := s.fnState f
  let s := s.stopGate f
  if st = 2 then s.beginDrain f
  else if st = 4 then s.setFn f 3
  else if st = 1 then s.setFn f 5
  else s

/-- START accepted (R127). A START in STOP_PENDING cancels the stop; a list's T counts from it (R514). -/
def State.startFn (s : State) (f : Fn) : State :=
  let st := s.fnState f
  if st = 3 then s.setFn f 4
  else if st = 0 then s.beginStart f
  else if st = 5 then
    let s := s.setFn f 1
    match f with
    | .gate _ => if s.num (startCode f) = 0 then s.startFixes f else s
    | _ => s
  else s

/-- The bank that a STOP may not reach (R131). -/
def State.bankActive (s : State) (f : Fn) : Bool :=
  match f with
  | .bank b k => s.num (Reg.bPolicyActive b) == k
  | _ => false

/-- Whether a function is no side-memory range: the functions that R603 keeps stopped. -/
def dataPathFn (f : Fn) : Bool :=
  match f with
  | .range _ => false
  | _ => true

/-- Whether a START meets a device that must first be commissioned again (R603). -/
def State.uncommissioned (s : State) (f : Fn) : Bool :=
  dataPathFn f && s.trust.rejected && s.lc == 5 && decide (s.dcCreds < 2)

/-- The effect of a write of FN_CTRL (R125, R131, R777): 1 STOP, 2 START. -/
def State.fnWrite (s : State) (n addr v : Nat) : Eff :=
  match s.fnAt n addr with
  | .error c => refuse s c
  | .ok f =>
    check s [ abortIf (v != 1 && v != 2) 0x130001, abortIf (v == 1 && s.bankActive f) 0x120003,
        abortIf (v == 2 && s.uncommissioned f) 0x110003 ]
      (let s := s.clear (fnCodeKey f)
       okay (if v = 1 then s.stopFn f else s.startFn f))

/-- FN_STOP (R127). -/
def execFnStop (sess addr : Nat) (s : State) : Host.Outcome State Fault Refusal :=
  if isFnCtrl addr then hostWrite sess addr 1 s (s.fnWrite sess addr 1) else hostDone sess s (refuse s 0x100001)

/-- FN_START (R127). -/
def execFnStart (sess addr : Nat) (s : State) : Host.Outcome State Fault Refusal :=
  if isFnCtrl addr then hostWrite sess addr 2 s (s.fnWrite sess addr 2) else hostDone sess s (refuse s 0x100001)

/-! Drains -/

/-- The frames that a function's drain waits for, as a test. -/
def drainFrame (f : Fn) (x : Frame) : Bool :=
  match f with
  | .port p => x.inPort == p || x.outPort == p
  | .sched p => x.outPort == p
  | .stream n => x.stream == some n
  | _ => false

/-- The bolt a function's frames are held in; a stream's may be in any. -/
def State.drainBolts (s : State) (f : Fn) : List Nat :=
  match f with
  | .port p => [boltOfPort p]
  | .sched p => [boltOfPort p]
  | .stream _ => List.range s.nBolts
  | _ => []

/-- Whether a tributary has nothing left to send: no client data, and no panel begun (R124, R399). -/
def State.tribEmpty (s : State) (p : Nat) : Bool := s.tribIdle p && (s.trib p).line.isEmpty

/-- Whether nothing is left to drain (R124). -/
def State.drained (s : State) (f : Fn) : Bool :=
  (s.drainBolts f).all (fun b => !(s.boltFrames b).any (drainFrame f))
    && (match f with
      | .port p => (s.port p).control.isEmpty && s.tribEmpty p
      | .group b g => (s.groupTribs (b * 1024 + g)).all s.tribEmpty
      | _ => true)

/-- A drain that has ended: STOPPED, or the pending start begins, the function never STOPPED between (R127). -/
def State.drainEnd (s : State) (f : Fn) : State :=
  let st := s.fnState f
  let s := { s with drains := s.drains.filter (fun d => decide (d.1 ≠ f)) }
  if st = 4 then ((s.endRun f).putN (startHeld f) 1).beginStart f else (s.setFn f 0).onStopped f

/-- FN_DRAIN_COMPLETE (R127). -/
def execFnDrainComplete (f : Fn) (s : State) : Host.Outcome State Fault Refusal :=
  let st := s.fnState f
  if (st = 3 ∨ st = 4) ∧ s.drained f = true then done (s.drainEnd f) else done s

/-- The count of a frame discarded at a function's drain limit. -/
def drainCount (f : Fn) (s : State) : State :=
  match f with
  | .port p => s.count (Reg.pStoppedDiscards p)
  | .sched p => s.count (Reg.pStoppedDiscards p)
  | .stream n => s.count (Reg.ssDiscards n)
  | _ => s

/-- The frames of a pipe that a test names are discarded; what they held back goes on. -/
def State.purgePipe (s : State) (b : Nat) (pi : Pipe) (gone : Frame → Bool) (count : State → State) : State :=
  let ps := s.pipe b pi
  let out := (s.piped b pi).filter gone
  if out.isEmpty then s
  else
    let s := s.setPipe b pi { ps with fifo := ps.fifo.filter (fun x => !gone x), after := ps.after.filter (fun x => !gone x) }
    let s := forEach out (fun s x =>
      (count (s.unpinFrame x)).dropFinal x) s
    s.unblock b

/-- The frames waiting in a port's queues that a test names are discarded. -/
def State.purgeQueues (s : State) (p : Nat) (gone : Frame → Bool) (count : State → State) : State :=
  let out := (s.port p).queued.filter gone
  if out.isEmpty then s
  else
    let s := s.settleCredit p
    let x := s.port p
    let s := s.setPort p { x with queues := x.queues.map (fun e => (e.1, e.2.filter (fun y => !gone y))) }
    let s := forEach (List.range 8) (fun s q => s.queueEmptied p q) s
    forEach out (fun s y => (count s).dropFinal y) s

/-- What a drain still holds at its limit is discarded and counted (R129); a frame in transmission ends. -/
def State.drainDiscard (s : State) (f : Fn) : State :=
  let gone := drainFrame f
  let count := drainCount f
  let s := forEach (s.drainBolts f) (fun s b =>
    let s := forEach (match f with | .stream _ => [] | _ => boltPorts b) (fun s p => s.purgeQueues p gone count) s
    (s.purgePipe b .e gone count).purgePipe b .d gone count) s
  match f with
  | .group b g => forEach (s.groupTribs (b * 1024 + g)) State.tribStop s
  | _ => s

/-- FN_DRAIN_LIMIT (R129): 100 ms after the drain began; a drain with nothing left simply ends. -/
def execFnDrainLimit (f : Fn) (s : State) : Host.Outcome State Fault Refusal :=
  let st := s.fnState f
  match s.drains.find? (fun d => decide (d.1 = f)) with
  | some d =>
    if (st = 3 ∨ st = 4) ∧ d.2 + 100000000 ≤ s.time.elapsed then
      if s.drained f then done (s.drainEnd f)
      else
        let s := (s.drainDiscard f).raise 0x070102 (fnSource f) (fnKind f * 2097152 + fnInstance f % 8192)
        done (s.drainEnd f)
    else done s
  | none => done s

/-! Starts -/

/-- A start whose check failed (R127): STOPPED, the code at FN_CTRL, event 0x07_0101. -/
def State.startFailed (s : State) (f : Fn) (c : Nat) : State :=
  (((s.setFn f 0).onStopped f).putN (fnCodeKey f) c).raise 0x070101 (fnSource f)
    (fnKind f * 2097152 + c % 256 * 8192 + fnInstance f % 8192)

/-- FN_START_COMPLETE (R127, R128). -/
def execFnStartComplete (f : Fn) (s : State) : Host.Outcome State Fault Refusal :=
  let st := s.fnState f
  if st = 1 ∨ st = 5 then
    let c := s.num (startCode f)
    let s := (s.clear (startCode f)).clear (startHeld f)
    if c ≠ 0 then done (s.startFailed f c)
    else
      let s := (s.setFn f 2).onRunning f
      done (if st = 5 then s.beginDrain f else s)
  else done s

end Sys2Proof.Machine
end

