-- ==== Sys2Proof/Machine/Ports.lean ====
section
/-! DEFINITION. Machine/Ports.lean: what writes of port and bolt objects do (R81 to R86, R187 to R189, R220 to R222,
R238 to R244, R304, R305, R316, R329 to R333, R520). -/

namespace Sys2Proof.Machine

/-- A write that a range refuses with 0x13_0001 (R82, R220, R330, R520), or stores. -/
def State.ranged (s : State) (k : Key) (ok : Bool) (v : Nat) : Eff :=
  check s [abortIf (!ok) 0x130001] (okay (s.putN k v))

/-! Port identity (R134, R329 to R333) -/

/-- A tributary counter as it stood at the last latch, by its place among the latched ones (R428, R429). -/
def latchMark (p i : Nat) : Key := .row 0x3000 p (0x130 + i)

/-- The objects of a port that exist only for some kinds, TRIB_PC_NEXT apart (R331). -/
def kindKeys (p : Nat) : List Key :=
  Dict.portTable.filterMap (fun e =>
    let k := e.1 / 256
    let sub := e.1 % 256
    if (kindsOf k sub).isSome ∧ ¬(k = 1 ∧ sub = 0x31) then some (portKey p k sub) else none)

/-- A change of PORT_KIND (R331): every such object at its default, the bindings undone, the role changed. -/
def State.kindEff (s : State) (p v : Nat) : Eff :=
  if 4 < v then refuse s 0x130001
  else if s.kind p = v then okay s
  else
    let old := s
    let s := forEach (kindKeys p) (fun s k => s.clear k) s
    let s := s.putN (Reg.pPortKind p) v
    let s := (s.setTrib p {}).setPort p { s.port p with peerPause := [] }
    let s := forEach (List.range 8) (fun s i => s.clear (latchMark p i)) s
    let s := forEach bindingSubs (fun s f =>
      if s.num (portKey p 3 f) = old.num (portKey p 3 f) then s else s.mirror (.binding p f (s.num (portKey p 3 f)))) s
    okay (s.portRoleChange p)

/-- PORT_KIND (R329, R331). -/
def execPortKind (sess p v : Nat) (s : State) : Host.Outcome State Fault Refusal :=
  hostWrite sess (portAddr p 0 0x10) v s (s.kindEff p v)

/-- Whether a number names another port or none (R333). -/
def namesPort (p v : Nat) : List (Option Nat) :=
  [ abortIf (decide (1023 < v ∧ v ≠ 0xFFFF)) 0x130001, abortIf (decide (v < 1024) && boltOfPort v != boltOfPort p) 0x130010 ]

/-- XCONNECT (R333): another partner is a role change (R134). -/
def State.crossEff (s : State) (p v : Nat) : Eff :=
  check s (namesPort p v)
    (okay (if s.num (Reg.pXconnect p) = v then s else (s.putN (Reg.pXconnect p) v).portRoleChange p))

/-- PARENT (R333). -/
def State.parentEff (s : State) (p v : Nat) : Eff := check s (namesPort p v) (okay (s.putN (Reg.pParent p) v))

/-- FWD_CLASS (R81): another class is a role change (R134). -/
def State.fwdEff (s : State) (p v : Nat) : Eff :=
  check s [abortIf (decide (2 < v)) 0x130001]
    (okay (if s.num (Reg.pFwdClass p) = v then s else (s.putN (Reg.pFwdClass p) v).portRoleChange p))

/-- CT_START (R81 to R83). -/
def execCtStart (sess p v : Nat) (s : State) : Host.Outcome State Fault Refusal :=
  hostWrite sess (portAddr p 0 0x21) v s (s.ranged (Reg.pCtStart p) (decide (1 ≤ v ∧ v ≤ 63)) v)

/-! Overload thresholds (R330, R332, R367) -/

/-- INGRESS_LIMIT, XOFF_THRESH and XON_THRESH, which must keep their order. -/
def State.limitEff (s : State) (p v : Nat) : Eff :=
  s.ranged (Reg.pIngressLimit p) (decide (8 ≤ v ∧ v ≤ 16384 ∧ s.num (Reg.pXoffThresh p) ≤ v)) v
def State.xoffEff (s : State) (p v : Nat) : Eff :=
  s.ranged (Reg.pXoffThresh p) (decide (1 ≤ v ∧ v ≤ s.num (Reg.pIngressLimit p) ∧ s.num (Reg.pXonThresh p) < v)) v
def State.xonEff (s : State) (p v : Nat) : Eff :=
  s.ranged (Reg.pXonThresh p) (decide (v < s.num (Reg.pXoffThresh p))) v

/-- XOFF_XON_THRESHOLD (R367): a threshold takes effect at the next change of INGRESS_BYTES. -/
def execXoffXonThreshold (sess p : Nat) (xon : Bool) (v : Nat) (s : State) : Host.Outcome State Fault Refusal :=
  hostWrite sess (portAddr p 0 (if xon then 0x1B else 0x1A)) v s (if xon then s.xonEff p v else s.xoffEff p v)

/-! Transmit bindings (R238 to R244) -/

/-- Whether a row may be bound as a transmit SA of a port (R239): its fields are not checked while EMPTY. -/
def State.bindable (s : State) (p sa : Nat) : Bool :=
  s.rowState 0x4000 sa == 0
    || (s.num (Reg.saDir sa) == 0 && decide (s.num (Reg.saSuite sa) < 4) && s.num (Reg.saPort sa) == p
        && s.oct (Reg.saSci sa) == s.oct (Reg.pTxSci p))

/-- TX_SA_ANn (R239). An SA that is IN_USE may be bound to a further AN: no refusal is listed for it (log entry 94). -/
def State.bindEff (s : State) (p n v : Nat) : Eff :=
  let k := portKey p 3 (0x11 + n)
  let cur := s.num k
  if v = cur then okay s
  else
    check s
      [ abortIf (n == s.num (Reg.pTxAnInForce p) && cur != 0xFFFFFF && s.rowState 0x4000 cur == 3) 0x120011,
        abortIf (v != 0xFFFFFF && boltOfSa v != boltOfPort p) 0x130010,
        abortIf (v != 0xFFFFFF && !s.bindable p v) 0x130021 ]
      (okay ((s.putN k v).mirror (.binding p (0x11 + n) v)))

/-- TX_SA_AN (R239). -/
def execTxSaAn (sess p n v : Nat) (s : State) : Host.Outcome State Fault Refusal :=
  if n < 4 then hostWrite sess (portAddr p 3 (0x11 + n)) v s (s.bindEff p n v)
  else hostDone sess s (refuse s 0x100001)

/-- TX_AN (R240, R241): the switch point. -/
def State.txAnEff (s : State) (p v : Nat) : Eff :=
  let old := s.num (Reg.pTxAnInForce p)
  if 3 < v then refuse s 0x130001
  else if v = old then okay (s.putN (Reg.pTxAn p) v)
  else
    let sa := s.num (portKey p 3 (0x11 + v))
    if sa ≠ 0xFFFFFF ∧ ¬(s.rowState 0x4000 sa = 1 ∧ s.bindingCounts p sa = true) then refuse s 0x120013
    else
      let was := s.anBinding p
      let s := ((s.putN (Reg.pTxAn p) v).putN (Reg.pTxAnInForce p) v).putN (Reg.pTxSwitched p) s.now96
      let s := if was = 0xFFFFFF then s else s.discardKeystream (boltOfPort p) .e was
      let s := s.raise 0x020010 ((0x3000 + 4 * p + 3) * 256) (p * 16384 + old * 4096 + v * 1024)
      okay (s.mirror (.txAn p v))

/-- TX_AN (R240, R241). -/
def execTxAn (sess p v : Nat) (s : State) : Host.Outcome State Fault Refusal :=
  hostWrite sess (portAddr p 3 0x15) v s (s.txAnEff p v)

/-- TW_SA_PH0 to TW_RX_PH1 (R28, R238), mirrored (R704). -/
def State.phaseRowEff (s : State) (p sub v : Nat) : Eff :=
  check s [abortIf (v != 0xFFFFFF && boltOfSa v != boltOfPort p) 0x130010]
    (okay ((s.putN (portKey p 3 sub) v).mirror (.binding p sub v)))

/-- TW_ARM_FLIP (R267). -/
def execTwArmFlip (sess p : Nat) (s : State) : Host.Outcome State Fault Refusal :=
  hostWrite sess (portAddr p 3 0x24) 1 s (s.twArmEff p 1)

/-- TW_ARM_CANCEL (R267). -/
def execTwArmCancel (sess p : Nat) (s : State) : Host.Outcome State Fault Refusal :=
  hostWrite sess (portAddr p 3 0x24) 2 s (s.twArmEff p 2)

/-! Gate and queue objects (R508, R520) -/

/-- The ADMIN_ objects, mirrored (R704). -/
def State.adminEff (s : State) (p sub v : Nat) : Eff :=
  check s [abortIf (sub == 0x46 && !decide (1 ≤ v ∧ v ≤ 128)) 0x130001]
    (okay ((s.putN (portKey p 3 sub) v).mirror (.gateObj p sub v)))

/-! Bolt objects (R187 to R189, R220 to R222, R304, R305, R316, R322, R323) -/

/-- CM_LEVEL changed (R187 to R189): all unpinned keystream goes, the role changes. -/
def State.setCmLevel (s : State) (b v : Nat) : State :=
  let old := s.num (Reg.bCmLevel b)
  if v = old then s
  else
    let s := ((s.newEpoch b .e).newEpoch b .d).putN (Reg.bCmLevel b) v
    let s := (s.discardAllKeystream b .e).discardAllKeystream b .d
    (s.boltRoleChange b).raise 0x020007 ((0x2000 + 0x100 * b) * 256) (b * 2097152 + old * 524288 + v * 131072)

/-- CM_LEVEL: 0 is a dual-control value (R108, R184). -/
def State.cmEff (s : State) (b v : Nat) : Eff :=
  check s [abortIf (v == 0) 0x140001, abortIf (decide (3 < v)) 0x130001] (okay (s.setCmLevel b v))

/-- CM_LEVEL (R187). -/
def execCmLevel (sess b v : Nat) (s : State) : Host.Outcome State Fault Refusal :=
  hostWrite sess (boltAddr b 5 1) v s (s.cmEff b v)

/-- The PN warning thresholds (R203, R220): an SA already past one is warned of at its next frame. -/
def State.pnWarnEff (s : State) (b : Nat) (xpn : Bool) (v : Nat) : Eff :=
  if xpn then s.ranged (Reg.bPnWarnXpn b) (decide (1 ≤ v ∧ v ≤ 2 ^ 64 - 2)) v
  else s.ranged (Reg.bPnWarn32 b) (decide (1 ≤ v ∧ v ≤ 2 ^ 32 - 2)) v

/-- PN_WARN (R203). -/
def execPnWarn (sess b : Nat) (xpn : Bool) (v : Nat) (s : State) : Host.Outcome State Fault Refusal :=
  hostWrite sess (boltAddr b 5 (if xpn then 2 else 3)) v s (s.pnWarnEff b xpn v)

/-- TW_PANEL_LIMIT (R220 to R222): tributaries at or past a lowered limit stop at once. -/
def State.panelLimitEff (s : State) (b v : Nat) : Eff :=
  check s [abortIf (decide (v < 2 ^ 16 ∨ 2 ^ 60 < v ∨ v ≤ s.num (Reg.bTwPanelWarn b))) 0x130001]
    (let s := s.putN (Reg.bTwPanelLimit b) v
     okay (forEach ((boltPorts b).filter (fun p => s.tribSends p && s.panelBarred p (s.num (Reg.pTribKeyCount p)))) (fun s p => s.panelStop p) s))

/-- TW_PANEL_LIMIT (R222). -/
def execTwPanelLimit (sess b v : Nat) (s : State) : Host.Outcome State Fault Refusal :=
  hostWrite sess (boltAddr b 5 4) v s (s.panelLimitEff b v)

/-- TW_PANEL_WARN (R220, R221). -/
def State.panelWarnEff (s : State) (b v : Nat) : Eff :=
  s.ranged (Reg.bTwPanelWarn b) (decide (v < s.num (Reg.bTwPanelLimit b))) v

/-- POLICY_ACTIVE (R304, R305). -/
def State.policyEff (s : State) (b v : Nat) : Eff :=
  if s.num (Reg.bPolicyActive b) = v then okay s
  else
    check s [abortIf (decide (v < 2) && !s.running (.bank b v)) 0x120014, abortIf (decide (1 < v)) 0x130001]
      (okay (((s.putN (Reg.bPolicyActive b) v).raise 0x050001 ((0x2000 + 0x100 * b) * 256) (b * 2097152 + v * 1048576)).mirror
        (.policyActive b v)))

/-- POLICY_ACTIVE (R305). -/
def execPolicyActive (sess b v : Nat) (s : State) : Host.Outcome State Fault Refusal :=
  hostWrite sess (boltAddr b 9 1) v s (s.policyEff b v)

/-- STN_FLUSH (R316): a local port, or 0xFFFF for all. -/
def State.flushEff (s : State) (b v : Nat) : Eff :=
  check s [abortIf (decide (127 < v ∧ v ≠ 0xFFFF)) 0x130001] (okay (s.flushStations b v))

/-- STN_FLUSH (R316). -/
def execStnFlush (sess b v : Nat) (s : State) : Host.Outcome State Fault Refusal :=
  hostWrite sess (boltAddr b 9 5) v s (s.flushEff b v)

/-- A word of the group-address filter (R322, R323): reserved bits stay 0, a fault is cleared. -/
def State.filterEff (s : State) (b sub v : Nat) : Eff :=
  okay ((s.putN (boltKey b 0x0A sub) (if sub = 0xAB then v / 256 * 256 else v)).clear (groupFault b (sub - 1)))

/-! Lanes (R460, R466 to R468, R480 to R488) -/

/-- LN_RATE (R460): which codes a lane may hold. -/
def State.rateOk (s : State) (n v : Nat) : Bool :=
  if 128 ≤ n then v == 2 else decide (1 ≤ v ∧ v ≤ 5) || (v == 6 && decide (64 ≤ n) && s.hasTwill)

/-- LN_RATE: a conflict with the owner's rate may begin (R461). -/
def State.rateEff (s : State) (n v : Nat) : Eff :=
  check s [abortIf (!s.rateOk n v) 0x130001] (okay ((s.putN (Reg.lnRate n) v).conflictCheck n))

/-- LANE_SLEEP (R480): LN_SLEEP = 1. -/
def execLaneSleep (sess n : Nat) (s : State) : Host.Outcome State Fault Refusal :=
  hostWrite sess (blockAddr 0x1900 256 n 0x15) 1 s (s.sleepEff n 1)

/-- LANE_WAKE (R481): LN_SLEEP = 0. -/
def execLaneWake (sess n : Nat) (s : State) : Host.Outcome State Fault Refusal :=
  hostWrite sess (blockAddr 0x1900 256 n 0x15) 0 s (s.sleepEff n 0)

/-- LN_FFE (R466). -/
def execLnFfe (sess n v : Nat) (s : State) : Host.Outcome State Fault Refusal :=
  hostWrite sess (blockAddr 0x1900 256 n 0x13) v s (s.ffeEff n v)

/-- LN_CTLE (R467, R468). -/
def execLnCtle (sess n v : Nat) (s : State) : Host.Outcome State Fault Refusal :=
  hostWrite sess (blockAddr 0x1900 256 n 0x14) v s (s.ranged (Reg.lnCtle n) (decide (v ≤ 16)) v)

/-! Windows (R114 to R119, R258, R274, R420, R508) -/

/-- The address of a window's OP and SELECT; a number that is no window names no object. -/
def winAddr (win sub : Nat) : Nat := if 0x4000 ≤ win ∧ win < 0x4900 ∧ win % 256 = 0 then win * 256 + sub else 0

/-- SELECT (R117, R135). -/
def execSelect (sess win row : Nat) (s : State) : Host.Outcome State Fault Refusal :=
  hostWrite sess (winAddr win 1) row s (s.selectRow sess win row)

/-- OP_READ (R119). -/
def execOpRead (sess win : Nat) (s : State) : Host.Outcome State Fault Refusal :=
  hostWrite sess (winAddr win 5) 1 s (s.opReadEff sess win)

/-- OP_COMMIT (R119). -/
def execOpCommit (sess win : Nat) (badLine : Option Nat) (s : State) : Host.Outcome State Fault Refusal :=
  hostWrite sess (winAddr win 5) 2 s (s.opCommitEff sess win false badLine)

/-- OP_COMMIT_IF_UNCHANGED (R119, R121). -/
def execOpCommitIfUnchanged (sess win : Nat) (badLine : Option Nat) (s : State) : Host.Outcome State Fault Refusal :=
  hostWrite sess (winAddr win 5) 3 s (s.opCommitEff sess win true badLine)

/-- OP_DELETE (R119). -/
def execOpDelete (sess win : Nat) (s : State) : Host.Outcome State Fault Refusal :=
  hostWrite sess (winAddr win 5) 4 s (s.opDeleteEff sess win)

/-- OP_NEXT (R119). -/
def execOpNext (sess win : Nat) (s : State) : Host.Outcome State Fault Refusal :=
  hostWrite sess (winAddr win 5) 5 s (s.opNextEff sess win)

/-- OP_CLEAR (R119). -/
def execOpClear (sess win : Nat) (s : State) : Host.Outcome State Fault Refusal :=
  hostWrite sess (winAddr win 5) 6 s (s.opClearEff sess win)

/-- TG_FORCE_ACQ (R420): the field written in the staging row and committed to the selected group row (log entry 39). -/
def execTgForceAcq (sess v : Nat) (s : State) : Host.Outcome State Fault Refusal :=
  let r := s.writeNum sess 0x440015 v (okay (s.putN (stage sess 0x4400 0x15) v))
  match r.2 with
  | .ok => hostDone sess r.1 (r.1.writeNum sess 0x440005 2 (r.1.opCommitEff sess 0x4400 false none))
  | _ => hostDone sess s r

/-- Q_IDLE_SLOPE (R508): the field written in the staging row and committed to the selected queue row (log entry 39). -/
def execQIdleSlope (sess v : Nat) (s : State) : Host.Outcome State Fault Refusal :=
  let r := s.writeNum sess 0x450012 v (okay (s.putN (stage sess 0x4500 0x12) v))
  match r.2 with
  | .ok => hostDone sess r.1 (r.1.writeNum sess 0x450005 2 (r.1.opCommitEff sess 0x4500 false none))
  | _ => hostDone sess s r

/-- WRAP (R258, R259). -/
def execWrap (sess v : Nat) (s : State) : Host.Outcome State Fault Refusal := hostWrite sess 0x480015 v s (s.wrapEff sess v)

/-- LEGACY_GO (R274, R275). -/
def execLegacyGo (sess v : Nat) (s : State) : Host.Outcome State Fault Refusal :=
  hostDone sess s (legacyAfter sess (s.writeNum sess 0x133004 v (s.legacyEff sess v)))

end Sys2Proof.Machine
end

