-- ==== Sys2Proof/Machine/Time.lean ====
section
/-! DEFINITION. Machine/Time.lean: device time, timestamp inputs and PPS (R527 to R541), the event queue's head (R146,
R148), and the boundary of a second of device time: latched seconds, DEG, measurements and the events limited to one a
second (R33, R179, R192, R419, R429, R430, R452, R491, R580, R664, R753, R779, R780). -/

namespace Sys2Proof.Machine

/-- Units of device time in one ns. -/
def nsUnits : Nat := 65536000000

/-! Latched seconds (R426, R428 to R430, R664) -/

/-- A lane counter as it stood at the last latch: 0 corrected symbols, 1 uncorrectable codewords. -/
def laneMark (ll i : Nat) : Key := .row 0x2020 ll i

/-- A line lane latches its counts and defects (R426). -/
def State.latchLane (s : State) (ll : Nat) : State :=
  let b := ll / 8
  let l := ll % 8
  let x := s.twLane ll
  let c := s.num (Reg.tlFecCorrSym b l)
  let u := s.num (Reg.tlFecUncorrCw b l)
  let s := ((s.putN (Reg.lsCorrSym b l) (c - s.num (laneMark ll 0))).putN (Reg.lsUncorrCw b l) (u - s.num (laneMark ll 1)))
  let s := ((s.putN (laneMark ll 0) c).putN (laneMark ll 1) u).putN (Reg.lsDefectSec b l) x.secDetected
  s.setTwLane ll { x with secDetected := x.detected }

/-- A tributary latches its eight counts (R428). -/
def State.latchTrib (s : State) (p : Nat) : State :=
  forEach (List.range 8) (fun s i =>
    let n := s.num (portKey p 2 (0x30 + i))
    (s.putN (portKey p 2 (0x40 + i)) (n - s.num (latchMark p i))).putN (latchMark p i) n) s

/-- The 8,192 bytes of a latched second of a bolt (R664). -/
def State.latchEntry (s : State) (b : Nat) : Octets :=
  let w := fun (ty : Ty) (k : Key) => (natToWords ty.words (s.num k)).flatMap (natToBytes 3)
  let bytes := w .time96 (Reg.bLsSecond b) ++ w .u24 (Reg.bLsSeq b) ++ w .bool (Reg.bLsIrregular b)
    ++ (List.range 8).flatMap (fun l => w .u48 (Reg.lsCorrSym b l) ++ w .u48 (Reg.lsUncorrCw b l) ++ w .u8 (Reg.lsDefectSec b l))
    ++ (boltPorts b).flatMap (fun p => (List.range 8).flatMap (fun i =>
        if s.kind p = 4 then w .u48 (portKey p 2 (0x40 + i)) else natToBytes 6 0))
  bytes ++ List.replicate (8192 - bytes.length) 0

/-- A bolt's latch written into the ring of latched seconds (R662, R664). -/
def State.latchRing (s : State) (b : Nat) : State :=
  match s.rangeOf 3 with
  | some (r, true) => s.smWrite r ((b * 900 + s.num (Reg.bLsSeq b) % 900) * 8192) (s.latchEntry b)
  | some (_, false) => (s.count Reg.smStoppedErrors).count Reg.smRingLost
  | none => s

/-- One latch of every bolt: the second it is named by, and whether it is not one plain second. -/
def State.latch (s : State) (sec : Nat) (irregular : Bool) : State :=
  forEach (List.range s.nBolts) (fun s b =>
    let s := (s.putN (Reg.bLsSecond b) (sec * 4294967296)).putN (Reg.bLsSeq b) ((s.num (Reg.bLsSeq b) + 1) % 16777216)
    let s := s.putN (Reg.bLsIrregular b) (if irregular then 1 else 0)
    let s := if s.hasTwill then
        forEach ((boltPorts b).filter (fun p => s.kind p == 4)) State.latchTrib (forEach (rangeFrom (8 * b) 8) State.latchLane s)
      else s
    s.latchRing b) s

/-! What a second held (R179, R419, R432, R580) -/

/-- The DEG judgement of a lane's second (R416, R419). -/
def State.judgeDeg (s : State) (ll : Nat) : State :=
  match s.runningGroup ll with
  | none => s
  | some row =>
    let x := s.twLane ll
    let bad := decide (s.tgNow row 0x11 < x.corrSec + 16 * x.uncorrSec)
    let x := { x with corrSec := 0, uncorrSec := 0, badRun := if bad then x.badRun + 1 else 0,
                      goodRun := if bad then 0 else x.goodRun + 1 }
    let s := s.setTwLane ll x
    if s.tgNow row 0x12 ≤ x.badRun then s.detect row ll (setBit x.detected 0 true)
    else if s.tgNow row 0x13 ≤ x.goodRun then s.detect row ll (setBit x.detected 0 false)
    else s

/-- The events of a tributary's second, the last whose boundary was taken: authentication failures and delineation losses
(R432). -/
def State.tribSecond (s : State) (p : Nat) : State :=
  let t := s.trib p
  let src := (0x3000 + 4 * p + 1) * 256
  let sec := s.time.latched
  let s := if t.authSec = 0 then s else s.raiseIn sec 0x030203 src src (p * 16384 + min t.authSec 16383)
  let s := if t.lostSec = 0 then s else s.raiseIn sec 0x030205 src src (p * 16384 + min t.lostSec 16383)
  if t.authSec = 0 ∧ t.lostSec = 0 then s else s.setTrib p { s.trib p with authSec := 0, lostSec := 0 }

/-- Reseed failures of a pipe since its last event (R179), by bolt and pipe. -/
def reseedFails (b : Nat) (pi : Pipe) : Key := .row 0x2005 b (0x100 + pipeNo pi)

/-- Frames discarded under R580 since the last boundary. -/
def authSecond : Key := .row 0x1101 0 0x101

/-- The events limited to one a second that report what the second held (R179, R580). -/
def State.secondEvents (s : State) : State :=
  let s := forEach (List.range s.nBolts) (fun s b => forEach [Pipe.e, Pipe.d] (fun s pi =>
    let n := s.num (reseedFails b pi)
    if n = 0 then s
    else (s.clear (reseedFails b pi)).raiseIn s.time.latched 0x020008 (b * 2 + pipeNo pi) ((0x2000 + 0x100 * b) * 256)
      (b * 2097152 + pipeNo pi * 1048576 + min n 1048575)) s) s
  let n := s.num authSecond
  if n = 0 then s else (s.clear authSecond).raiseIn s.time.latched 0x070404 0 0x110100 (min n 16777215)

/-- What the second under way held is judged and reported when device time leaves it by a step to `sec` (R419, R432). A second
that a forward step cuts short has ended and is judged for DEG; one that a backward step breaks off has not (log entry 116). -/
def State.leaveSecond (s : State) (sec : Nat) : State :=
  if sec = s.nowSec then s
  else
    let lanes := List.range (8 * s.nBolts)
    let s := if s.nowSec < sec then forEach lanes State.judgeDeg s
      else forEach lanes (fun s ll =>
        let x := s.twLane ll
        if x.corrSec = 0 ∧ x.uncorrSec = 0 then s else s.setTwLane ll { x with corrSec := 0, uncorrSec := 0 }) s
    (forEach ((List.range s.nPorts).filter (fun p => s.kind p == 4)) State.tribSecond s).secondEvents

/-! The steering of device time (R533, R534) -/

/-- Whether the whole second `sec` lies past LS_SECOND, as a latch at it must (R430). -/
def State.latchDue (s : State) (sec : Nat) : Bool :=
  decide (s.num (Reg.bLsSeq 0) = 0 ∨ s.num (Reg.bLsSecond 0) / 4294967296 < sec)

/-- TIME_SET: a step (R430, R518, R529, R533, R622, R779). The second that begins with a step to a whole second is measured
whole. -/
def State.timeSetEff (s : State) (v : Nat) : Eff :=
  let new := time96Ns v
  let size := ((new * nsUnits : Nat) : Int) - s.time.dev
  let back := decide (size < 0)
  let ms := size.natAbs / (1000000 * nsUnits)
  let sec := new / 1000000000
  let forward := decide (s.nowSec < sec) && s.latchDue sec
  let exact := decide (new % 1000000000 = 0)
  let s := s.leaveSecond sec
  let u := { s.time with dev := new * nsUnits, slew := 0, stepped := !exact, irregular := !(forward && exact), rtcCopy := true,
                         latched := sec, ran := 0 }
  let s := s.stepGates (fun s => { s with time := u })
  let s := (s.putN Reg.timeValid 1).count Reg.timeSteps
  let s := s.raise 0x060001 0x120000 ((if back then 8388608 else 0) + min ms 8388607)
  let s := if forward then s.latch sec true else s
  okay (match s.trust.cert with
    | some c => if s.inWindow c then s else s.certEnd 0
    | none => s)

/-- TIME_SET (R533). -/
def execTimeSet (sess : Nat) (words : List Nat) (s : State) : Host.Outcome State Fault Refusal :=
  match Ty.decode .time96 0x120002 words 0 with
  | (.num v, form) => hostDone sess s (s.request sess 0x120002 true v form (s.timeSetEff v))
  | (.oct _, form) => hostDone sess s (s.request sess 0x120002 true 0 form (refuse s 0x130003))

/-- TIME_ADJ: a slew in place of any under way. -/
def State.timeAdjEff (s : State) (v : Nat) : Eff := okay { s with time := { s.time with slew := i24 v * (nsUnits : Int) } }

/-- TIME_ADJ (R533, R534). -/
def execTimeAdj (sess v : Nat) (s : State) : Host.Outcome State Fault Refusal := hostWrite sess 0x120003 v s (s.timeAdjEff v)

/-- TIME_FREQ (R533): every I24 value lies in its range. -/
def execTimeFreq (sess v : Nat) (s : State) : Host.Outcome State Fault Refusal :=
  hostWrite sess 0x120004 v s (okay (s.putN Reg.timeFreq v))

/-- What 1 ns of elapsed time adds to device time: 1 ns at the rate of TIME_FREQ, and 100 ppm of slew as long as some is
left (R533, R534). -/
def State.tickTime (t : TimeUnit) (freq : Nat) : TimeUnit :=
  let share : Int := 6553600
  let part := if 0 ≤ t.slew then min t.slew share else max t.slew (-share)
  let dev := ((t.dev : Int) + nsUnits + i24 freq + part).toNat
  { t with elapsed := t.elapsed + 1, dev := dev, slew := t.slew - part, ran := dev - t.dev }

/-- SLEW_COMPLETE (R533): what is left of a slew forward, no more than 1 ns can add, is applied. What is left of one backward
comes off the next ns, since device time never moves backward under a slew. -/
def execSlewComplete (s : State) : Host.Outcome State Fault Refusal :=
  let x := s.time.slew
  if 0 ≤ x ∧ x ≤ 6553600 then
    done { s with time := { s.time with dev := s.time.dev + x.toNat, slew := 0, ran := s.time.ran + x.toNat } }
  else done s

/-! PPS_OUT (R540, R541) -/

/-- Whether device time reached a whole second plus PPS_OFFSET in what it ran last (R540, R541). -/
def State.ppsDue (s : State) : Bool :=
  let x : Int := (s.time.dev : Int) - i24 (s.num Reg.ppsOffset) * (nsUnits : Int)
  let second : Int := 1000000000 * (nsUnits : Int)
  decide ((x - (s.time.ran : Int)) / second < x / second)

/-- PPS_RISE (R540, R541): device time reaches a whole second plus PPS_OFFSET. A pulse under way lasts its PPS_WIDTH. -/
def execPpsRise (s : State) : Host.Outcome State Fault Refusal :=
  if s.num Reg.ppsEnable = 1 ∧ s.ppsDue = true ∧ s.time.ppsHigh = false then
    done { s with time := { s.time with ran := 0, ppsHigh := true, ppsEnd := s.time.elapsed + s.num Reg.ppsWidth * 1000 } }
  else done s

/-- PPS_FALL (R540, R541): the pulse has lasted PPS_WIDTH. -/
def execPpsFall (s : State) : Host.Outcome State Fault Refusal :=
  if s.time.ppsEnd ≤ s.time.elapsed then done { s with time := { s.time with ppsHigh := false } } else done s

/-- PPS_ENABLE: while it is 0 the pin is low. -/
def State.ppsEff (s : State) (v : Nat) : Eff :=
  let s := s.putN Reg.ppsEnable v
  okay (if v = 0 then { s with time := { s.time with ppsHigh := false } } else s)

/-! Timestamp inputs (R538, R539) -/

/-- What of an input's edge is left when pulses shorter than 2 ns are ignored, with the edge's own pulse `lasts` half
nanoseconds long: the input after it, and whether the edge counts. -/
def TsInput.filter (x : TsInput) (rising : Bool) (lasts : Nat) : TsInput × Bool :=
  let ends := x.glitch == some (!rising)
  if lasts < 4 then ({ x with glitch := if ends then none else some rising }, false)
  else ({ x with glitch := none }, !ends)

/-- TS_IN_EDGE (R538, R539): an edge on an input. -/
def execTsInEdge (i : Nat) (rising : Bool) (edge : EdgeInput) (s : State) : Host.Outcome State Fault Refusal :=
  let e := s.num (Reg.tsiEdge i)
  if i ≥ 4 then done s
  else
    let (x, counts) := (s.tsIn.getD i {}).filter rising edge.lasts
    let s := { s with tsIn := s.tsIn.put i x }
    if counts = false ∨ (if rising then e % 2 = 0 else e / 2 = 0) then done s
    else
      let close : Bool := match x.last with | some t => decide (s.time.elapsed < t + 100) | none => false
      if close || decide (16 ≤ x.queue.length) then done (s.count (Reg.tsiLost i))
      else
        let y : TsInput := { x with queue := x.queue ++ [(x.nextSeq, rising, s.now96, edge.half)], nextSeq := (x.nextSeq + 1) % 8388608,
                                    last := some s.time.elapsed }
        let s := { s with tsIn := s.tsIn.put i y }
        done (if x.queue.isEmpty then s.raise 0x060002 ((0x1210 + i) * 256) (i * 4194304) else s)

/-- TSI_POP: the head's sequence number removes the head. -/
def State.tsiPopEff (s : State) (i v : Nat) : Eff :=
  let x := s.tsIn.getD i {}
  match x.queue with
  | (n, _) :: rest => if n = v then okay { s with tsIn := s.tsIn.put i { x with queue := rest } } else refuse s 0x130005
  | [] => refuse s 0x130005

/-- TSI_POP (R539). -/
def execTsiPop (sess i v : Nat) (s : State) : Host.Outcome State Fault Refusal :=
  hostWrite sess (blockAddr 0x1210 4 i 6) v s (s.tsiPopEff i v)

/-- TC_ERR_MAX (R552): only 0 may be written. -/
def execTcErrMax (sess p v : Nat) (s : State) : Host.Outcome State Fault Refusal :=
  hostWrite sess (portAddr p 1 0x40) v s (s.ranged (Reg.pTcErrMax p) (v == 0) v)

/-! The event queue's head (R146, R148) -/

/-- EVT_POP: the head's sequence number removes the head; the record of dropped ones follows into the space. -/
def State.evtPopEff (s : State) (v : Nat) : Eff :=
  match s.events.queue with
  | r :: rest =>
    if r.seq = v then
      let lost := s.events.dropped
      let s := { s with events := { s.events with queue := rest, dropped := 0 } }
      okay (if lost = 0 then s else s.raise 0x070001 0x140000 (min lost 16777215))
    else refuse s 0x130005
  | [] => refuse s 0x130005

/-- EVT_POP (R148). -/
def execEvtPop (sess v : Nat) (s : State) : Host.Outcome State Fault Refusal := hostWrite sess 0x140004 v s (s.evtPopEff v)

/-! Junction temperature (R753 to R755) -/

/-- TJ_SAMPLE (R753, R755): the hottest sensor, every 1 ms. -/
def execTjSample (tj : Int) (s : State) : Host.Outcome State Fault Refusal :=
  let warn := i24 (s.num Reg.tjWarn)
  let s := s.putN Reg.tjNow (toI24 tj)
  let s := if i24 (s.num Reg.tjPeak) < tj then s.putN Reg.tjPeak (toI24 tj) else s
  if warn ≤ tj ∧ s.tjWarned = false then done (({ s with tjWarned := true } : State).raise 0x0A0004 0x100400 (toI24 tj))
  else if tj ≤ warn - 50 then done { s with tjWarned := false }
  else done s

/-- TJ_PEAK (R753): a write of any value sets it to TJ_NOW. -/
def execTjPeak (sess v : Nat) (s : State) : Host.Outcome State Fault Refusal :=
  hostWrite sess 0x100402 v s (okay (s.putN Reg.tjPeak (s.num Reg.tjNow)))

/-! The boundary of a second -/

/-- The clocks a pipe waited in the second: for keystream (R192), for a sector engine (R452). -/
def State.stallSecond (s : State) (x : Nat × Pipe × Nat × Nat) : State :=
  let (b, pi, ks, se) := x
  if s.nBolts ≤ b then s
  else
    let detail := fun n => b * 2097152 + pipeNo pi * 1048576 + min (n / 1024) 1048575
    let src := (0x2000 + 0x100 * b) * 256
    let s := if ks = 0 then s
      else (s.countBy (match pi with | .e => Reg.bEKsStalls b | .d => Reg.bDKsStalls b) ks).raiseIn s.time.latched 0x020006 (b * 2 + pipeNo pi) src (detail ks)
    if se = 0 ∨ s.hasSector = false then s
    else (s.countBy (match pi with | .e => Reg.bSectorEStalls b | .d => Reg.bSectorDStalls b) se).raiseIn s.time.latched 0x020017 (b * 2 + pipeNo pi) src (detail se)

/-- The island clocks that are measured (R33). -/
def State.clockObject (s : State) (a : Nat) : Bool :=
  s.fitted a && (decide (0x100101 ≤ a ∧ a ≤ 0x100105)
    || (decide (0x2000 ≤ a / 256 ∧ a / 256 < 0x2800) && a / 256 % 256 == 0 && decide (1 ≤ a % 256 ∧ a % 256 ≤ 10)))

/-- A rail outside its tolerance (R746): 3 %, and 5 % for VDD_IO. -/
def railBad (i mv : Nat) : Bool :=
  let nominal := [750, 800, 900, 1200, 1100, 1800].getD i 0
  let pct := if i = 5 then 5 else 3
  decide (mv * 100 < nominal * (100 - pct) ∨ nominal * (100 + pct) < mv * 100)

/-- What is measured once per second (R491, R694, R753, R755, R779, R780). -/
def State.measured (s : State) (m : SecondInput) (whole : Bool) : State :=
  let s := if whole then
      forEach (m.clocks.filter (fun c => s.clockObject c.1)) (fun s c => s.putN (.dev c.1) (c.2 % 16777216)) s
    else s
  let s := forEach ((m.rails.take 6).zipIdx) (fun s r =>
    let s := s.putN (.dev (0x100404 + r.2)) (r.1 % 65536)
    if railBad r.2 r.1 then s.raiseKeyed 0x0A0005 r.2 0x100400 (r.2 * 2097152 + r.1 % 65536) else s) s
  let s := s.putN Reg.bkVbatMv (m.vbat % 65536)
  let s := forEach (m.refPpm.filter (fun r => decide (r.1 < s.nBolts))) (fun s r => s.putN (Reg.bRefPpm r.1) (toI24 r.2)) s
  forEach (m.lanes.filter (fun l => s.lanePresent l.1 && s.num (Reg.lnState l.1) == 3)) (fun s l =>
    (s.putN (Reg.lnRxPpm l.1) (toI24 l.2.1)).putN (Reg.lnSnr l.1) (l.2.2 % 65536)) s

/-- Whether device time stands at a boundary not taken yet. -/
def State.boundaryDue (s : State) : Bool := s.nowSec != s.time.latched

/-- DEVICE_SECOND_BOUNDARY (R429): device time reaches a whole second. -/
def execDeviceSecondBoundary (m : SecondInput) (s : State) : Host.Outcome State Fault Refusal :=
  if s.phase = .reset ∨ s.boundaryDue = false then done s
  else
    let sec := s.nowSec
    let whole := !s.time.stepped
    let late := s.latchDue sec
    let s := forEach ((List.range s.nPorts).filter (fun p => s.kind p == 4)) State.tribSecond s
    let s := if late then s.latch (sec - 1) s.time.irregular else s
    let s := forEach (List.range (8 * s.nBolts)) State.judgeDeg s
    let s := (forEach m.stalls State.stallSecond s).secondEvents
    let s := s.measured m whole
    let s := forEach (s.rowsListed 0x4400) State.tgApply s
    let s := if s.time.rtcCopy ∨ sec % 3600 = 0 then { s with backup := { s.backup with rtc := sec, phase := 0 } } else s
    done { s with time := { s.time with stepped := false, irregular := s.time.irregular && !late, latched := sec, rtcCopy := false } }

/-- GENERATOR_RESEED_RETRY (R179): a pipe's generator reseeds, or fails to. -/
def execGeneratorReseedRetry (b : Nat) (pipe : Pipe) (ok : Bool) (s : State) : Host.Outcome State Fault Refusal :=
  if s.nBolts ≤ b then done s
  else
    let x := s.pipe b pipe
    if ok then done (s.setPipe b pipe { x with genFailed := false, reseeds := x.reseeds + 1, sinceReseed := 0 })
    else if x.genFailed then done (s.count (reseedFails b pipe))
    else done ((s.setPipe b pipe { x with genFailed := true }).raise 0x020008 ((0x2000 + 0x100 * b) * 256)
      (b * 2097152 + pipeNo pipe * 1048576 + 1))

/-- RTC_SECOND_TICK (R529, R687): the backup domain's crystal counts a second, a second after its last or after a copy. The
spec gives the crystal no tolerance: a tick within half a second of the last is none (log entry 117). A domain that has lost
its supply does not count (R692). -/
def execRtcSecondTick (s : State) : Host.Outcome State Fault Refusal :=
  if (s.backup.lost ∧ s.mainPower = false) ∨ s.backup.phase < 500000000 then done s
  else done { s with backup := { s.backup with rtc := (s.backup.rtc + 1) % 2 ^ 64, phase := 0 } }

end Sys2Proof.Machine
end

