-- ==== Sys2Proof/Machine/Dual.lean ====
section
/-! DEFINITION. Machine/Dual.lean: dual control (R150 to R162): proposals, their approval and cancelling, the changes
made under it, and credential enrolment (R607 to R611). -/

namespace Sys2Proof.Machine

/-! The changes under dual control -/

/-- A proposed value read under its target's type (R154, R103 to R105). -/
def dcValue (target : Nat) (bytes : Octets) : Except Nat Val :=
  match Dict.entry target with
  | none => .error 0x100001
  | some e =>
    match e.ty with
    | .octets n => if octetsLengthOk target n bytes.length then .ok (.oct bytes) else .error 0x130003
    | ty =>
      if bytes.length ≠ 3 * ty.words then .error 0x130003
      else
        let v := bytesToNat bytes
        match ty.misfit v with
        | some c => .error c
        | none => .ok (.num v)

/-- The RW objects that have a dual-control value, 0 (R108, R150): CM_LEVEL and TRIB_VERIFY_HOLD. -/
def isCmLevel (target : Nat) : Bool := decide (0x2000 ≤ target / 65536 * 256 ∧ target / 65536 * 256 < 0x2800) && target % 65536 == 0x0501
def isVerifyHold (target : Nat) : Bool :=
  decide (0x3000 ≤ target / 256 ∧ target / 256 < 0x4000) && (target / 256) % 4 == 0 && target % 256 == 0x33

def isLcRequest (target : Nat) : Bool := Key.dev target == Reg.lcRequest

/-- Whether a target with a value is a change under dual control (R150, R154). -/
def dcTarget (target : Nat) (bytes : Octets) : Bool :=
  match Dict.entry target with
  | none => false
  | some e =>
    decide (e.acc = .dc) || isLcRequest target
      || ((isCmLevel target || isVerifyHold target) && (match dcValue target bytes with | .ok v => v == .num 0 | _ => false))

/-- Whether an Ed25519 or an ML-DSA-65 public key is one Retort finds invalid (R608, R638 to R640). -/
def edKeyBad (pub : Octets) : Bool :=
  pub.all (fun b => b == 0) || edNonCanonical pub ||
    (match edDecode pub with
      | none => true
      | some a => edSame (edMul 8 a) edZero)
def mlKeyBad (pub : Octets) : Bool := pub.all (fun b => b == 0)

/-- What stands against a credential value in slot c (R608). -/
def State.enrolAbort (s : State) (c : Nat) (bytes : Octets) : Option Nat :=
  if bytes = [] then
    match s.cred c with
    | none => some 0x130001
    | some (r, _, _) => if s.lc = 5 ∧ bit r 1 = true ∧ s.dcCreds ≤ 2 then some 0x140020 else none
  else
    let role := (bytes.getD 0 0).toNat
    if (s.cred c).isSome then some 0x130090
    else if 32 ≤ role ∨ edKeyBad ((bytes.drop 16).take 32) = true ∨ mlKeyBad (bytes.drop 48) = true then some 0x130001
    else none

/-- A credential enrolled or removed (R608, R611): a removal closes its sessions after the response and ends a debug
certificate it signed. -/
def State.enrol (s : State) (c : Nat) (bytes : Octets) : State :=
  let s := s.save (Reg.credEnrol c) (.oct bytes)
  if bytes = [] then
    let s := forEach (rangeFrom 1 8) (fun s n => if s.num (Reg.sessCred n) = c then s.markClose n 3 else s) s
    match s.trust.cert with
    | some x => if x.kind = 1 ∧ x.index = c then s.certEnd 4 else s
    | none => s
  else s

/-- The credential slot of a CRED_ENROL address. -/
def enrolSlot (target : Nat) : Option Nat :=
  if 0x1380 ≤ target / 256 ∧ target / 256 < 0x1390 ∧ target % 256 = 1 then some (target / 256 - 0x1380) else none

/-- The greatest and least number a DC object takes, from its object table (R154): none without a bound. -/
def dcRange (target : Nat) : Option (Nat × Nat) :=
  let idx := target / 256
  let sub := target % 256
  if Key.dev target = Reg.dcWindow then some (1, 3600)
  else if Key.dev target = Reg.i3cAccess then some (0, 2)
  else if Key.dev target = Reg.dbgPolicy then some (0, 3)
  else if 0x1420 ≤ idx ∧ idx < 0x1429 ∧ sub = 1 then some (0, 4)
  else if 0x1430 ≤ idx ∧ idx < 0x1435 ∧ sub = 1 then some (1, 15)
  else if 0x1430 ≤ idx ∧ idx < 0x1435 ∧ sub = 2 then some (1, 10000000)
  else none

/-- A generation object (R253, R254). -/
def isBlobGen (target : Nat) : Bool :=
  Key.dev target == Reg.blobGenDev || (decide (0x2000 ≤ target / 256 ∧ target / 256 < 0x2800) && target % 65536 == 0x0701)

/-- Every abort of the state and value kinds that a change meets at the present instant (R154, R160). -/
def State.dcAbort (s : State) (target : Nat) (bytes : Octets) : List (Option Nat) :=
  if isLcRequest target then
    [abortIf (s.lc != 5 || !(match dcValue target bytes with | .ok v => v == .num 6 | _ => false)) 0x120030]
  else
    [ s.missing 0 target,
      (match dcValue target bytes with
        | .error c => some c
        | .ok (.oct bs) => (match enrolSlot target with | some c => s.enrolAbort c bs | none => none)
        | .ok (.num v) =>
          if isBlobGen target then abortIf (decide (v ≤ s.num (.dev target))) 0x130001
          else match dcRange target with
            | some (lo, hi) => abortIf (!decide (lo ≤ v ∧ v ≤ hi)) 0x130001
            | none => none) ]

/-- A change made (R154, R160, R184): recorded where it is retained (R113). -/
def State.dcMake (s : State) (target : Nat) (bytes : Octets) : State :=
  match dcValue target bytes with
  | .error _ => s
  | .ok v =>
    if isLcRequest target then s.withdraw 6
    else if isCmLevel target then s.setCmLevel ((target / 65536 * 256 - 0x2000) / 256) 0
    else match enrolSlot target with
      | some c => s.enrol c bytes
      | none => s.save (.dev target) v

/-- A change at approval: refused by any abort of state, value or resource kind it meets, and a level CM0 outside
TEST_OPEN (R160, R184). -/
def State.dcApply (s : State) (target : Nat) (bytes : Octets) : Option State :=
  match firstAbort (abortIf (isCmLevel target && s.lc != 2) 0x110003 :: s.dcAbort target bytes) with
  | some _ => none
  | none => some (s.dcMake target bytes)

/-! Nonces and the proposal block (R151, R155) -/

/-- A fresh proposal nonce: the 16 most recently issued unused ones are kept. -/
def State.dcNonceEff (s : State) : Eff :=
  let (x, s) := s.draw
  let nonce := x % 2 ^ 48
  ({ s with trust := { s.trust with dcNonces := (nonce :: s.trust.dcNonces).take 16 } }, .value (.num nonce))

/-- DC_NONCE_READ (R153). -/
def execDcNonceRead (sess : Nat) (s : State) : Host.Outcome State Fault Refusal := hostRead sess 0x131001 s s.dcNonceEff

/-- The digest both parties sign (R151). -/
def State.dcDigest (s : State) (nonce target : Nat) (bytes : Octets) : Octets :=
  sha512 (ascii "NZ-DC-V1" ++ s.deviceId ++ natToBytes 6 nonce ++ natToBytes 3 target ++ natToBytes 2 bytes.length ++ bytes)

/-! P_ACTION -/

/-- The proposal window as device-time units (R154, R162). -/
def State.dcWindowUnits (s : State) : Nat := s.num Reg.dcWindow * 1000000000 * nsUnits

/-- A P_ACTION write while HOLD_CHANGES is in force meets 0x12_0005 before any check of its own (R160). -/
def State.unlessHeld (s : State) (eff : Eff) : Eff := if s.hold then refuse s 0x120005 else eff

/-- A submission (R154): its checks in the order of R139, of one kind in the order of the list (log entry 124), then the lowest
empty slot. -/
def State.submitEff (s : State) (n : Nat) : Eff :=
  let target := s.num (Reg.pTarget n)
  let bytes := s.oct (Reg.pValue n)
  let nonce := s.num (Reg.pNonce n)
  let c := s.num (Reg.pCred n)
  let digest := s.dcDigest nonce target bytes
  let reach : Option Nat := match s.missing n target with | some 0x130021 => none | x => x
  let first := firstAbort
    [ reach, abortIf (!dcTarget target bytes) 0x110006, abortIf (isCmLevel target && s.lc != 2) 0x110003 ]
  let security := inOrder
    [ abortIf (!s.trust.dcNonces.contains nonce) 0x140004, abortIf (!s.credHas c 1) 0x110004,
      s.jobAbortOr (abortIf (!s.credSigned c digest (s.oct (Reg.pSigEd n)) (s.oct (Reg.pSigMl n))) 0x140002) ]
  let later := firstAbort
    (s.dcAbort target bytes ++
      [ abortIf (s.proposals.any (fun e => e.2.target == target)) 0x170003,
        abortIf (decide (8 ≤ s.proposals.length)) 0x180002 ])
  withJobs 2 2 <| match inOrder [first, security, later], (List.range 8).find? (fun i => (s.proposals.get? i).isNone) with
  | none, some i =>
    let pr : Proposal := ⟨target, bytes, c, digest, s.time.dev, s.time.dev + s.dcWindowUnits, false⟩
    let s : State := { s with proposals := s.proposals.put i pr, trust := { s.trust with dcNonces := s.trust.dcNonces.filter (fun x => x != nonce) } }
    let s := s.putAll [(Reg.slotState i, .num 1), (Reg.slotTarget i, .num target), (Reg.slotDigest i, .oct digest),
      (Reg.slotProposer i, .num c), (Reg.slotOpened i, .num s.now96), (Reg.slotCloses i, .num (time96 (pr.closes / nsUnits)))]
    okay (s.raise 0x070201 ((0x1318 + i) * 256) (i * 2097152 + c * 131072))
  | some a, _ => refuse s a
  | none, none => refuse s 0x180002

/-- The checks that an approval and a cancel share (R152, R154, R156, R157, R159) in the order of R139: the role, an
outstanding slot whose window is open, and both signature halves over the slot's digest. Of several that fail, the first in the
list is returned (log entry 124). -/
def State.slotChecks (s : State) (n : Nat) (approve : Bool) : List (Option Nat) :=
  let i := s.num (Reg.pSlot n)
  let c := s.num (Reg.pCred n)
  let signs := fun (d : Octets) => s.credSigned c d (s.oct (Reg.pSigEd n)) (s.oct (Reg.pSigMl n))
  match s.proposals.get? i with
  | none => [abortIf (!s.credHas c 1) 0x110004, some 0x140004]
  | some p =>
    [ abortIf (!s.credHas c 1) 0x110004,
      abortIf (approve && !decide (p.opened ≤ s.time.dev ∧ s.time.dev < p.closes)) 0x140004,
      abortIf (approve && c == p.proposer) 0x140003,
      s.jobAbortOr (if signs p.digest then none
        else if s.proposals.any (fun e => e.1 != i && signs e.2.digest) then some 0x140005 else some 0x140002) ]

/-- An approval that passes its checks: the change is made, or the proposal ends unmade (R154, R160): reason 2 where reason
3 would hold too (log entry 124). -/
def State.approveEff (s : State) (n : Nat) : Eff :=
  let i := s.num (Reg.pSlot n)
  let c := s.num (Reg.pCred n)
  withJobs 2 2 <| checkInOrder s (s.slotChecks n true)
    (match s.proposals.get? i with
      | none => okay s
      | some p =>
        if p.changed then okay (s.endProposal i 2)
        else match s.dcApply p.target p.value with
          | none => okay (s.endProposal i 3)
          | some t => okay ((t.freeSlot i).raise 0x070202 ((0x1318 + i) * 256) (i * 2097152 + p.proposer * 131072 + c * 8192)))

/-- A cancel that passes its checks (R159). -/
def State.cancelEff (s : State) (n : Nat) : Eff :=
  withJobs 2 2 <| checkInOrder s (s.slotChecks n false) (okay (s.endProposal (s.num (Reg.pSlot n)) 1))

/-- A write of P_ACTION. -/
def State.actionEff (s : State) (n v : Nat) : Eff :=
  s.unlessHeld
    (if v = 1 then s.submitEff n else if v = 2 then s.approveEff n else if v = 3 then s.cancelEff n else refuse s 0x130001)

/-- P_ACTION_SUBMIT (R154). -/
def execPActionSubmit (sess : Nat) (s : State) : Host.Outcome State Fault Refusal := hostWrite sess 0x131108 1 s (s.unlessHeld (s.submitEff sess))

/-- P_ACTION_APPROVE (R154). -/
def execPActionApprove (sess : Nat) (s : State) : Host.Outcome State Fault Refusal := hostWrite sess 0x131108 2 s (s.unlessHeld (s.approveEff sess))

/-- P_ACTION_CANCEL (R159). -/
def execPActionCancel (sess : Nat) (s : State) : Host.Outcome State Fault Refusal := hostWrite sess 0x131108 3 s (s.unlessHeld (s.cancelEff sess))

/-- DC_WINDOW_EXPIRY (R157): at t0 + W the slot is freed. Before that instant, and on an empty slot, it is not due. -/
def execDcWindowExpiry (slot : Nat) (s : State) : Host.Outcome State Fault Refusal :=
  match s.proposals.get? slot with
  | some p => if p.closes ≤ s.time.dev then done (s.endProposal slot 0) else done s
  | none => done s

/-! Direct enrolment (R609) -/

/-- The cases in which CRED_ENROL accepts a direct write. -/
def State.directEnrol (s : State) (n : Nat) : Bool :=
  n == 0 && (s.lc == 4 || s.lc == 2 || (s.lc == 5 && s.trust.rejected && decide (s.dcCreds < 2)))

/-- A direct write of a credential value: form (R105), then R608, then for an enrolment event 0x0B_000B. -/
def State.enrolEff (s : State) (c : Nat) (bytes : Octets) : Eff :=
  check s [s.enrolAbort c bytes]
    (let role := match bytes with | b :: _ => b.toNat | [] => 0
     let t := s.enrol c bytes
     okay (if bytes = [] then t else t.raise 0x0B000B 0x130000 (c * 1048576 + s.lc * 65536 + role * 256)))

/-- The write of CRED_ENROL of slot c: a DC object but for R609. -/
def State.enrolWrite (s : State) (n c : Nat) (bytes : Octets) : Eff :=
  let addr := (0x1380 + c) * 256 + 1
  let adm := s.admission n addr true 0
  let adm := if s.directEnrol n && decide (c < 16) then adm.filter (fun x => x != some 0x140001) else adm
  underAborts s (adm ++ [abortIf (!octetsLengthOk addr 2000 bytes.length) 0x130003]) (s.enrolEff c bytes)

/-- CRED_ENROL_DIRECT (R609). -/
def execCredEnrolDirect (sess c : Nat) (value : Octets) (s : State) : Host.Outcome State Fault Refusal :=
  hostDone sess s (s.enrolWrite sess c value)

end Sys2Proof.Machine
end

