-- ==== Sys2Proof/Machine/Power.lean ====
section
/-! DEFINITION. Machine/Power.lean: power, reset and start-up (R747 to R763, R599, R603, R613 to R615), Flue (R677 to R681),
the backup domain (R687 to R692), alarm commands (R671, R675), and the Hearth pair (R696 to R699). -/

namespace Sys2Proof.Machine

/-! Firmware images (R612 to R615) -/

/-- A slot's size, 32 MiB (R612). -/
def slotBytes : Nat := 33554432

/-- The fields of an image's header: version, SV, payload length, key index, and its whole length. -/
def imageVersion (i : ImageSlot) : Nat := bytesToNat (Mem.readN i.bytes 8 3)
def imageSv (i : ImageSlot) : Nat := bytesToNat (Mem.readN i.bytes 11 2)
def imageLength (i : ImageSlot) : Nat := 64 + bytesToNat (Mem.readN i.bytes 13 4) + 64 + 3309

/-- The digest an image is signed over: its header and payload. -/
def imageDigest (i : ImageSlot) : Octets := sha512 (Mem.readN i.bytes 0 (imageLength i - 3373))

/-- The digest of an image as SLOT_DIGEST and the statement give it: the whole image (log entry 48). -/
def imageHash (i : ImageSlot) : Octets :=
  if i.bytes = [] then (if i.state = 2 then natToBytes 64 (bytesToNat (Config.layout 1 [])) else List.replicate 64 0)
  else sha512 (Mem.readN i.bytes 0 (imageLength i))

/-- The rollback floor: the number of burned floor bits (R613). -/
def State.floor (s : State) : Nat := ((List.range 64).filter (fun i => bit s.otp.floor.toNat i)).length

/-- Why an image is not accepted (R613, R626), none where it is: 2 size, 3 revoked key, 0 signature, 1 rollback. The image
the device was delivered with is accepted as it is (log entry 3). -/
def State.imageFault (s : State) (i : ImageSlot) : Option Nat :=
  if i.bytes = [] then (if i.state = 2 then none else some 0)
  else if slotBytes < imageLength i then some 2
  else
    let key := bytesToNat (Mem.readN i.bytes 17 1)
    let sigAt := imageLength i - 3373
    if s.revoked 0 key && decide (key < 4) then some 3
    else if Mem.readN i.bytes 0 8 ≠ ascii "NZ-FW001" ∨ (Mem.readN i.bytes 18 46).any (fun b => b != 0) = true
        ∨ s.ryminSigned 0 key (imageDigest i) (Mem.readN i.bytes sigAt 64) (Mem.readN i.bytes (sigAt + 64) 3309) = false then
      some 0
    else if imageSv i < s.floor then some 1
    else none

/-- A slot of the boot store. -/
def State.imageSlot (s : State) (k : Nat) : ImageSlot := if k = 0 then s.boot.slot0 else s.boot.slot1
def State.setImageSlot (s : State) (k : Nat) (i : ImageSlot) : State :=
  if k = 0 then { s with boot := { s.boot with slot0 := i } } else { s with boot := { s.boot with slot1 := i } }

/-- A slot judged: verified, written, or empty. -/
def State.judgeSlot (s : State) (k : Nat) : Option Nat × State :=
  let i := s.imageSlot k
  match s.imageFault i with
  | none => (none, s.setImageSlot k { i with state := 2 })
  | some r => (some r, s.setImageSlot k { i with state := if i.bytes = [] then 0 else 1 })

/-- The floor raised toward min(SV, 64), one bit at a time (R615). -/
def State.raiseFloor (s : State) (sv : Nat) : State :=
  let want := min sv 64
  if want ≤ s.floor then s
  else
    let free_ := ((List.range 64).filter (fun i => !bit s.otp.floor.toNat i)).take (want - s.floor)
    { s with otp := { s.otp with floor := s.otp.floor ||| BitVec.ofNat 64 (sumOf (fun i => 2 ^ i) free_) } }

/-! Internal reset (R756 to R759, R763) -/

/-- The device in internal reset: a certificate in force ends, and everything is as R111, R126 and R758 say, but for OTP,
the boot store, the backup domain, the Flue monitors, and the alarms detected and not handled yet. -/
def State.internalReset (s : State) : State :=
  let s := s.certEnd 5
  let held := s.alarm.deferred ++ s.alarm.raised.map (fun r => { r with deferred := true })
  { State.reset with
    part := s.part, siliconStep := s.siliconStep, mainPower := s.mainPower, powerGood := s.powerGood, rstLow := s.rstLow
    otp := s.otp, boot := s.boot, backup := s.backup, flue := s.flue
    alarm := { clock := s.alarm.clock, deferred := held }
    addrSel := s.addrSel, pairId := s.pairId
    free := s.free, serial := s.serial, wire := s.wire, pending := s.pending }

/-- POWER_GOOD_FALL (R747). -/
def execPowerGoodFall (s : State) : Host.Outcome State Fault Refusal :=
  if s.mainPower && s.powerGood then done { s.internalReset with powerGood := false } else done s

/-- RST_N_ASSERT (R756). -/
def execRstNAssert (s : State) : Host.Outcome State Fault Refusal :=
  if s.mainPower then done { s.internalReset with rstLow := true } else done s

/-- MAIN_POWER_LOST (R691, R758): the backup domain records tl; the Flue monitors and the alarms held are lost. -/
def execMainPowerLost (s : State) : Host.Outcome State Fault Refusal :=
  if s.mainPower then
    let s := s.internalReset
    done { s with mainPower := false, powerGood := false, flue := [], alarm := {}, backup := { s.backup with mainPresent := false, tl := s.backup.rtc, report := false } }
  else done s

/-! The backup domain (R687 to R692) -/

/-- The comparators: 0 VBAT_LOW, 1 TEMP_HIGH, 2 SENSE_IN (R694). -/
def Backup.comp (b : Backup) (j : Nat) : Comparator := if j = 0 then b.vbatLow else if j = 1 then b.tempHigh else b.senseIn
def Backup.setComp (b : Backup) (j : Nat) (c : Comparator) : Backup :=
  if j = 0 then { b with vbatLow := c } else if j = 1 then { b with tempHigh := c } else { b with senseIn := c }

/-- A trip: latched with its RTC second if it is the first, counted, and with main power present answered (R689, R690).
Before the event queue starts its event is held (R760, log entry 44). -/
def State.compTrip (s : State) (j : Nat) : State :=
  let c := s.backup.comp j
  let c' : Comparator := { out := true, latched := true, first := if c.latched then c.first else s.backup.rtc, trips := min (c.trips + 1) 255, onBattery := if c.latched then c.onBattery else !s.mainPower }
  let s : State := { s with backup := s.backup.setComp j c' }
  if s.mainPower = false then s
  else if j = 2 then s.raiseAlarm 8 0 false
  else if j = 1 then s.raiseEarly 0x0A0002 0x144000 0
  else s.raiseEarly 0x0A0001 0x144000 (s.num Reg.bkVbatMv)

/-- BK_COMPARATOR_TRIP (R689): an output rises. A lost domain evaluates nothing. -/
def execBkComparatorTrip (j : Nat) (s : State) : Host.Outcome State Fault Refusal :=
  if 3 ≤ j ∨ (s.backup.comp j).out = true ∨ (s.backup.lost = true ∧ s.mainPower = false) then done s else done (s.compTrip j)

/-- BK_COMPARATOR_RELEASE (R688). -/
def execBkComparatorRelease (j : Nat) (s : State) : Host.Outcome State Fault Refusal :=
  if 3 ≤ j then done s else done { s with backup := s.backup.setComp j { s.backup.comp j with out := false } }

/-- The effect of BK_CLEAR (R689). -/
def State.bkClearEff (s : State) (n v : Nat) : Eff :=
  let clr := fun (c : Comparator) => ({ out := c.out } : Comparator)
  check s [abortIf (n == 0) 0x110005, abortIf (v != 1) 0x130001]
    (okay { s with backup := { s.backup with vbatLow := clr s.backup.vbatLow, tempHigh := clr s.backup.tempHigh, senseIn := clr s.backup.senseIn } })

/-- BK_CLEAR (R689). -/
def execBkClear (sess v : Nat) (s : State) : Host.Outcome State Fault Refusal := hostWrite sess 0x144008 v s (s.bkClearEff sess v)

/-- MAIN_POWER_RETURNED (R691, R690, R676): tr is recorded, the alarm unit's count starts, and the comparators are
evaluated at once. -/
def execMainPowerReturned (senseHigh tempHigh vbatLow : Bool) (s : State) : Host.Outcome State Fault Refusal :=
  if s.mainPower then done s
  else
    let s : State := { s with mainPower := true, backup := { s.backup with mainPresent := true, tr := s.backup.rtc, report := true }, alarm := {} }
    let look := fun (s : State) (j : Nat) (high : Bool) =>
      if high then s.compTrip j else { s with backup := s.backup.setComp j { s.backup.comp j with out := false } }
    done (look (look (look s 0 vbatLow) 1 tempHigh) 2 senseHigh)

/-- VBAT_COLLAPSE (R692). -/
def execVbatCollapse (s : State) : Host.Outcome State Fault Refusal :=
  if s.mainPower then done s else done { s with backup := { mainPresent := false, lost := true } }

/-! Flue (R677 to R681) -/

/-- FLUE_DETECTOR_FIRE (R680): a detector whose output was released asserts it. With a firing of the other detector less
than 1 µs before, it completes an agreeing event; otherwise it is an event of its own (R679). -/
def execFlueDetectorFire (kind : Nat) (detB : Bool) (s : State) : Host.Outcome State Fault Refusal :=
  let x := s.flueKind kind
  if 5 ≤ kind ∨ s.mainPower = false ∨ (if detB then x.outB else x.outA) = true then done s
  else
    let t := s.alarm.clock
    let x := if detB then { x with outB := true } else { x with outA := true }
    match x.waiting.find? (fun w => w.2 != detB && decide (t < w.1 + 1000)) with
    | some w => done (s.setFlue kind { x with waiting := x.waiting.erase w })
    | none => done ((s.setFlue kind { x with waiting := x.waiting ++ [(t, detB)] }).flueEvent kind t)

/-- FLUE_DETECTOR_RELEASE (R677). -/
def execFlueDetectorRelease (kind : Nat) (detB : Bool) (s : State) : Host.Outcome State Fault Refusal :=
  let x := s.flueKind kind
  if 5 ≤ kind ∨ s.mainPower = false then done s
  else done (s.setFlue kind (if detB then { x with outB := false } else { x with outA := false }))

/-- FLUE_LONE_RECOGNISED (R681): 1 µs after a firing with no agreement. -/
def execFlueLoneRecognised (kind : Nat) (s : State) : Host.Outcome State Fault Refusal :=
  let x := s.flueKind kind
  match x.waiting.find? (fun w => decide (w.1 + 1000 ≤ s.alarm.clock)) with
  | none => done s
  | some w => done ((s.setFlue kind { x with waiting := x.waiting.erase w }).flueLone kind w.1 w.2)

/-! Alarm commands (R671, R675) -/

/-- A mask written to ALM_ACK: its bits name alarms 0 to 8 (R777). -/
def State.almAckEff (s : State) (mask : Nat) : Eff :=
  let p := s.num Reg.almPending
  check s [abortIf (decide (512 ≤ mask)) 0x130001] (okay (s.putN Reg.almPending (p - (p &&& mask))))

/-- ALM_ACK (R671). -/
def execAlmAck (sess mask : Nat) (s : State) : Host.Outcome State Fault Refusal :=
  hostWrite sess 0x141002 mask s (s.almAckEff mask)

/-- A write of ALM_HOLD_CLEAR (R675). -/
def State.holdClearEff (s : State) (n v : Nat) : Eff :=
  check s [abortIf (n == 0) 0x110005, abortIf (!s.sessHas n 1) 0x110004, abortIf (v != 1) 0x130001] (okay (s.putN Reg.almHold 0))

/-- ALM_HOLD_CLEAR (R675). -/
def execAlmHoldClear (sess v : Nat) (s : State) : Host.Outcome State Fault Refusal :=
  hostWrite sess 0x141004 v s (s.holdClearEff sess v)

/-! Mesh keys (R724) -/

/-- A mesh key blob unwrapped: bolt byte 0xFF and key type 2, under BLOB_GEN_DEV. `ref` is the staging slot. -/
def State.meshUnwrap (s : State) (blob : Octets) (ref : Nat) : Option Octets × State :=
  match s.unwrapBlob blob 0xFF (s.num Reg.blobGenDev) with
  | .error step => (none, s.unwrapFailed none step 0x152000 ref)
  | .ok k => (if k.1 = 2 then some k.2.2.2 else none, s)

/-- The retained mesh blobs unwrapped again at a start. -/
def State.meshStart (s : State) : State :=
  let load := fun (s : State) (k : Key) => if s.oct k = [] then (none, s) else s.meshUnwrap (s.oct k) 0
  let (cur, s) := load s meshBlobCur
  let (next, s) := load s meshBlobNext
  { s with mesh := { s.mesh with cur := cur, next := next } }

/-! Start-up (R760, R761) -/

/-- An Ember slot burned: the bits drawn, then the marker, where the burn succeeds. -/
def State.emberBurn (s : State) (k : Nat) (bits : Nat) (ok : Bool) : State :=
  let m : BitVec 8 := if ok then 0xA5#8 else 0#8
  if k = 0 then { s with otp := { s.otp with ember0 := s.otp.ember0 ||| BitVec.ofNat 256 bits, marker0 := s.otp.marker0 ||| m } }
  else { s with otp := { s.otp with ember1 := s.otp.ember1 ||| BitVec.ofNat 256 bits, marker1 := s.otp.marker1 ||| m } }

/-- Whether an Ember slot is wholly unburned. A slot that an earlier attempt touched is passed over (log entry 45). -/
def State.emberFree (s : State) (k : Nat) : Bool :=
  if k = 0 then s.otp.marker0 == 0 && s.otp.ember0 == 0 else s.otp.marker1 == 0 && s.otp.ember1 == 0

/-- Ember at a start in ISSUED with no valid slot (R599): drawn, and burned into the lowest free slot, or else the other. -/
def State.emberStart (s : State) (ok0 ok1 : Bool) : State :=
  let attempt := fun (s : State) (k : Nat) (ok : Bool) =>
    if s.lc = 4 ∧ s.ember.isNone = true ∧ s.emberFree k = true then
      let (x, s) := s.draw
      s.emberBurn k (x % 2 ^ 256) ok
    else s
  attempt (attempt s 0 ok0) 1 ok1

/-- The jobs that end in FAULT as the identity keys are regenerated (R636, R644), in order: ED_KEYGEN comes first, and the
regeneration is repeated once. -/
def identityFaulted (st : StartInput) : List Nat :=
  let n := min st.idFaults 2
  let ml := min st.idMl n
  List.replicate (n - ml) 0x0A ++ List.replicate ml 0x04

/-- The identity keys regenerated by two jobs of Retort, ED_KEYGEN and MLDSA_KEYGEN (R601, R760), with one more where one of
them is repeated (R644): they are counted, and each FAULT is, with alarm 6 (R643, R650; log entry 129). -/
def State.identityJobs (s : State) (st : StartInput) : State :=
  if s.ember.isNone then s
  else
    let ops := identityFaulted st
    forEach ops (fun s _ => s.raiseAlarm 6 0 false)
      ((s.countBy Reg.rtJobs (if ops = [] ∨ ops = [0x0A, 0x0A] then 2 else 3)).countBy Reg.rtFaults ops.length)

/-- The events of those faults (R643, R651). -/
def State.identityEvents (s : State) (st : StartInput) : List (Nat × Nat × Nat) :=
  if s.ember.isNone then [] else (identityFaulted st).map (fun op => (0x080101, 0x170000, 0xF * 1048576 + op * 65536))

/-- The device identity burned at the first start in ISSUED that has the identity keys (R602). -/
def State.identityStart (s : State) : State :=
  if s.lc = 4 ∧ s.hearth.idKeys = true ∧ s.otp.deviceId = 0 then
    let id := (sha512 (ascii "NZ-DEVID" ++ s.idPubEd ++ s.idPubMl)).take 32
    { s with otp := { s.otp with deviceId := BitVec.ofNat 256 (bytesToNat id) } }
  else s

/-- Whether a copy of the configuration record is accepted (R603): by its tag from ISSUED on. At the first start in
ISSUED, a copy written while no Ember existed carries no tag and is taken (R112; log entry 58). -/
def State.cfgAccepted (s : State) (first : Bool) (c : CfgCopy) : Bool :=
  decide (s.lc < 4) || (s.kduReady && (c.tag == s.cfgTag c.content || (first && c.tag == [])))

/-- The configuration record verified and its values in force (R603, R760): the newest copy whose tag verifies. -/
def State.configStart (s : State) (first : Bool) : State :=
  let newest := if s.boot.newest = 0 then s.boot.copy0 else s.boot.copy1
  let other := if s.boot.newest = 0 then s.boot.copy1 else s.boot.copy0
  if s.cfgAccepted first newest then
    let s := s.putAll newest.content
    if first && newest.tag == [] then s.record else s
  else if s.cfgAccepted first other then ({ s with boot := { s.boot with newest := 1 - s.boot.newest } } : State).putAll other.content
  else { s with trust := { s.trust with rejected := true } }

/-- Hot-Join requested once (R563). -/
def State.hotJoinCheck (s : State) : State :=
  if s.phase = .ready ∧ s.num Reg.i3cDynAddr = 0 ∧ s.i3c.hotJoin = true ∧ s.i3c.joinSent = false then
    ({ s with i3c := { s.i3c with joinSent := true } } : State).emit .hotJoin
  else s

/-- The events entered when the event queue starts, after the alarms' records: those held, then those of the start. -/
def State.startEvents (s : State) (evs : List (Nat × Nat × Nat)) : State :=
  let early := s.events.early
  let s : State := { s with events := { s.events with early := [] } }
  forEach (early ++ evs) (fun s e => s.raise e.1 e.2.1 e.2.2) s

/-- The backup domain's report at a start (R690 to R692). -/
def backupEvents (b : Backup) : List (Nat × Nat × Nat) :=
  (if b.report then [(0x080301, 0x144000, min (b.tr - b.tl) 0xFFFFFF)] else [])
  ++ ((List.range 3).filter (fun j => (b.comp j).onBattery)).map (fun j => (0x080302, 0x144000, j * 4194304 + (b.comp j).trips * 16384))
  ++ (if b.lost then [(0x0A0003, 0x144000, 0)] else [])

/-- Firmware on a verified slot, from the step of R760 at which verification completes to Hearth ready. `evs` are events
of the start made so far. -/
def State.bootFirmware (s : State) (slot : Nat) (evs : List (Nat × Nat × Nat)) : State :=
  let st := s.hearth.start.getD ⟨0, 0, [], true, true, 0, 0⟩
  let image := imageHash (s.imageSlot slot)
  let s : State := { s with hearth := { s.hearth with active := 0, slotA := slot, slotB := slot, imageA := image, imageB := image, ucode := image } }
  let sv := imageSv (s.imageSlot slot)
  let s := if slot = s.boot.preferred then s.raiseFloor sv else s
  let evs := if s.floor = 64 then evs ++ [(0x0B0006, 0x136000, sv * 256)] else evs
  let s := s.emberStart st.burnOk0 st.burnOk1
  let evs := if (s.lc = 4 ∨ s.lc = 5) ∧ s.ember.isNone = true then
      evs ++ [(0x0B0009, 0x130000, s.otp.marker0.toNat * 65536 + s.otp.marker1.toNat * 256)] else evs
  let first := s.lc == 4 && s.otp.deviceId == 0
  let evs := evs ++ s.identityEvents st
  let s := s.identityJobs st
  let s : State := { s with hearth := { s.hearth with idKeys := s.ember.isSome && decide (st.idFaults < 2) } }
  let s := s.identityStart
  let s := s.configStart first
  let evs := if s.trust.rejected then evs ++ [(0x0B000A, 0x130000, 0)] else evs
  let s := if s.lc = 1 ∨ s.lc = 3 then s.emptyCreds else s
  let evs := if s.lc = 15 then evs ++ [(0x0B0002, 0x130000, s.lcResume * 1048576 % 16777216)] else evs
  let evs := evs ++ backupEvents s.backup
  let b := s.backup
  let quiet := fun (c : Comparator) => { c with onBattery := false }
  let s : State := { s with phase := .ready, backup := { b with report := false, lost := false, vbatLow := quiet b.vbatLow, tempHigh := quiet b.tempHigh, senseIn := quiet b.senseIn } }
  let s := s.answerDeferred
  let s := s.startEvents evs
  let s := forEach (List.range s.part.sideChannels) (fun s c =>
    if s.num (Reg.smChEnable c) = 1 then s.putN (Reg.smChState c) 1 else s) s
  let s := s.meshStart
  let s := if s.num Reg.pairJoin = 1 then s.setRole 1 6 else s
  (s.putN Reg.hearthBanked 1).hotJoinCheck

/-- Kindling (R614): the preferred slot, or else the other, or recovery. -/
def State.kindling (s : State) : State :=
  let p := s.boot.preferred
  match s.judgeSlot p with
  | (none, s) => s.bootFirmware p []
  | (some r, s) =>
    match s.judgeSlot (1 - p) with
    | (none, s) => s.bootFirmware (1 - p) [(0x0B0007, 0x136000, p * 8388608 + r * 1048576)]
    | (some _, s) => { s with phase := .recovery }

/-- INTERNAL_RESET_END (R760): straps sampled, UPTIME at 0 and device time from the RTC (R529), the erasures of R596
repeated, the detectors stimulated (R678), then Kindling. -/
def execInternalResetEnd (st : StartInput) (s : State) : Host.Outcome State Fault Refusal :=
  if s.phase = .reset ∧ s.mainPower = true then
    let s : State := if s.backup.lost then { s with backup := { s.backup with rtc := 0, phase := 0 } } else s
    let sec := s.backup.rtc
    let s : State := { s with powerGood := true, rstLow := false, addrSel := st.addrSel % 4, pairId := st.pairId % 2, hearth := { s.hearth with start := some st }, time := { dev := sec * 1000000000 * nsUnits, latched := sec }, backup := { s.backup with bkState := if s.backup.lost then 1 else 0 } }
    let s := if s.lc = 15 ∧ (s.lcResume = 6 ∨ s.lcResume = 7) then s.zeroiseWorking.emberErase else s
    let s := forEach (st.stuck.dedup.filter (fun d => d.1 < 5)) (fun s d => s.raiseAlarm 5 d.1 true) s
    done s.kindling
  else done s

/-! The Hearth pair (R696 to R699) -/

/-- A handshake refused: REFUSE with the code, event 0x07_0403, the session freed (R581, R583). -/
def State.refuseHandshake (s : State) (n code : Nat) : State :=
  let x := s.session n
  let c := match x.hs with | some h => h.cred | none => 0
  let s := match x.via with
    | some via => s.sendClear via 8 n (natToBytes 3 code)
    | none => s
  ((s.freeSession n).count Reg.handshakeFails).raise 0x070403 ((0x1110 + n) * 256) (n * 1048576 + c % 16 * 65536 + code % 256 * 256)

/-- What every switch-over and restart loses at once: keys in staging (R259, R275), issued nonces (R155, R696, log entry
46), and handshakes under way (R583). -/
def State.hearthLost (s : State) : State :=
  let s := forEach (List.range 9) (fun s n => (s.clear (.ses n 0x480011)).clear (Reg.legacyKey n)) s
  let s : State := { s with trust := { s.trust with dcNonces := [], dbgNonce := none } }
  forEach (rangeFrom 1 8) (fun s n => if s.num (Reg.sessState n) = 1 then s.refuseHandshake n 0x150010 else s) s

/-- Every cursor and staging row lost (R137), and PC_SAMPLED (R737). The proposal block, which R153 likens to a staging row, is
none and stays (log entry 101). -/
def State.cursorsLost (s : State) : State :=
  let s := s.clearWhere (fun k => match k with
    | .ses _ a => decide (0x4000 ≤ a / 256 ∧ a / 256 < 0x4900) || a == 0x180201
    | .cur _ _ _ => true
    | _ => false)
  let open_ := (List.range 9).filter (fun n => n == 0 || s.num (Reg.sessState n) == 2)
  forEach open_ (fun s n => forEach [0x4000, 0x4100, 0x4200, 0x4300, 0x4400, 0x4500, 0x4600, 0x4700, 0x4800] (fun s w =>
    s.putN (.cur n w 1) 1) s) s

/-- HEARTH_SWITCHES, HEARTH_LAST and event 0x09_0001 (R726, R728). -/
def State.hearthNoted (s : State) (cause : Nat) (restart : Bool) : State :=
  let s := (s.count Reg.hearthSwitches).putN Reg.hearthLast s.now96
  s.raise 0x090001 0x150000 (s.hearth.active * 8388608 + cause * 1048576 + (if restart then 524288 else 0))

/-- A switch-over begins (R697, R698): the banked core becomes active, and the gap lasts until SWITCH_OVER_COMPLETE. -/
def State.switchOver (s : State) (cause : Nat) : State :=
  let s : State := { s with hearth := { s.hearth with gap := true, active := 1 - s.hearth.active } }
  ((s.putN Reg.hearthBanked 0).hearthNoted cause false).hearthLost

/-- A restart of both cores from the preferred image (R699): outstanding proposals and firmware steps are lost. -/
def State.kindlingRestart (s : State) (cause : Nat) : State :=
  let p := s.boot.preferred
  let image := imageHash (s.imageSlot p)
  let s : State := { s with hearth := { s.hearth with restarting := true, gap := false, active := 0, slotA := p, slotB := p, halted := false, imageA := image, imageB := image } }
  let s := ((s.putN Reg.hearthBanked 0).putN Reg.fwStep 0).hearthNoted cause true
  let s := forEach (List.range 8) (fun s i => s.freeSlot i) s
  s.hearthLost.healthCheck

/-- The active core fails (R697, R699). -/
def State.coreFails (s : State) (cause : Nat) : State :=
  if s.phase ≠ .ready ∨ s.hearth.restarting = true then s
  else if s.num Reg.hearthBanked = 2 then s.switchOver cause else s.kindlingRestart cause

/-- WATCHDOG_EXPIRY (R697). -/
def execWatchdogExpiry (s : State) : Host.Outcome State Fault Refusal := done (s.coreFails 0)

/-- HEARTH_MEMORY_ERROR (R697). -/
def execHearthMemoryError (s : State) : Host.Outcome State Fault Refusal := done (s.coreFails 1)

/-- A write of HEARTH_CMD (R697). -/
def State.hearthCmdEff (s : State) (v : Nat) : Eff :=
  check s [abortIf (s.num Reg.hearthBanked != 2) 0x1200B0, abortIf (v != 1) 0x130001] (okay (s.switchOver 2))

/-- HEARTH_CMD (R697). The switch-over follows the response. -/
def execHearthCmd (sess v : Nat) (s : State) : Host.Outcome State Fault Refusal :=
  hostWrite sess 0x150002 v s (s.hearthCmdEff v)

/-- SWITCH_OVER_COMPLETE (R698, R137): the gap ends, and the core that was active loads again (log entry 47). -/
def execSwitchOverComplete (s : State) : Host.Outcome State Fault Refusal :=
  if s.hearth.gap then
    done (({ s with hearth := { s.hearth with gap := false } } : State).cursorsLost.putN Reg.hearthBanked 1)
  else done s

/-- KINDLING_RESTART_COMPLETE (R699). -/
def execKindlingRestartComplete (s : State) : Host.Outcome State Fault Refusal :=
  if s.hearth.restarting then
    done (({ s with hearth := { s.hearth with restarting := false } } : State).cursorsLost.putN Reg.hearthBanked 1)
  else done s

/-- HEARTH_BANKED_IN_STEP (R760). A halted core does not come into step. -/
def execHearthBankedInStep (s : State) : Host.Outcome State Fault Refusal :=
  if s.num Reg.hearthBanked = 1 ∧ s.hearth.halted = false ∧ s.hearth.gap = false then done (s.putN Reg.hearthBanked 2)
  else done s

end Sys2Proof.Machine
end

