-- ==== Sys2Proof/Machine/Trust.lean ====
section
/-! DEFINITION. Machine/Trust.lean: life-cycle transitions (R592 to R598), the identity certificate and statement (R604 to
R606), debug certificates and the debug window (R617 to R623), firmware steps (R612 to R616, R665), and host access to
side memory (R653, R666). -/

namespace Sys2Proof.Machine

/-! Life cycle (R595, R598) -/

/-- Whether a test token is used: one of its two bits is burned (R591). -/
def State.tokenUsed (s : State) (i : Nat) : Bool := s.otp.tokens.toNat / 4 ^ i % 4 != 0
def State.tokensUsed (s : State) : Nat := ((List.range 16).filter s.tokenUsed).length

/-- Into TEST_OPEN: the lowest unused token is burned (R595). -/
def State.openTest (s : State) : State :=
  match (List.range 16).find? (fun i => !s.tokenUsed i) with
  | none => s
  | some i =>
    let s : State := { s with otp := { s.otp with tokens := s.otp.tokens ||| BitVec.ofNat 32 (3 * 4 ^ i) } }
    (s.raise 0x0B0003 0x130000 (s.tokensUsed * 524288)).lcMove 2

/-- Whether commissioning is complete (R595). -/
def State.commissioned (s : State) : Bool :=
  s.ember.isSome && s.num Reg.idcState == 1 && decide (2 ≤ s.dcCreds)

/-- A session's write of LC_REQUEST (R595, R598); TEST_UNLOCK is a right of the session that accepted the certificate (R621). -/
def State.lcEff (s : State) (n v : Nat) : Eff :=
  let lc := s.lc
  let no := refuse s 0x120030
  let cm0 := (List.range s.nBolts).any (fun b => s.num (Reg.bCmLevel b) == 0)
  if lc = 15 then
    if v = s.lcResume ∧ v ≠ 0xFF then okay (if v = 6 ∨ v = 7 then s.withdraw v else s.lcMove v) else no
  else if lc = 0 then (if v = 1 then okay (s.lcMove 1) else no)
  else if lc = 1 then
    if v = 2 then
      check s [abortIf (!bit (s.rightsOf n) 6) 0x140034, abortIf (s.tokensUsed == 16) 0x180030] (okay s.openTest)
    else if v = 7 then okay (s.withdraw 7)
    else no
  else if lc = 2 then
    if v = 1 ∨ v = 3 then check s [abortIf cm0 0x120010] (okay (s.lcMove v)) else no
  else if lc = 3 then
    if v = 4 then okay (s.lcMove 4) else if v = 7 then okay (s.withdraw 7) else no
  else if lc = 4 then
    if v = 5 then check s [abortIf (!s.commissioned) 0x120033] (okay (s.lcMove 5))
    else if v = 6 ∨ v = 7 then okay (s.withdraw v)
    else no
  else if lc = 5 then (if v = 6 then refuse s 0x140001 else no)
  else if lc = 6 then (if v = 7 then okay (s.withdraw 7) else no)
  else no

/-- LC_REQUEST_TEST_LOCKED (R595). -/
def execLcRequestTestLocked (sess : Nat) (s : State) : Host.Outcome State Fault Refusal := hostWrite sess 0x130001 1 s (s.lcEff sess 1)
/-- LC_REQUEST_TEST_OPEN (R595). -/
def execLcRequestTestOpen (sess : Nat) (s : State) : Host.Outcome State Fault Refusal := hostWrite sess 0x130001 2 s (s.lcEff sess 2)
/-- LC_REQUEST_FACTORY (R595). -/
def execLcRequestFactory (sess : Nat) (s : State) : Host.Outcome State Fault Refusal := hostWrite sess 0x130001 3 s (s.lcEff sess 3)
/-- LC_REQUEST_ISSUED (R595). -/
def execLcRequestIssued (sess : Nat) (s : State) : Host.Outcome State Fault Refusal := hostWrite sess 0x130001 4 s (s.lcEff sess 4)
/-- LC_REQUEST_SERVICE (R595). -/
def execLcRequestService (sess : Nat) (s : State) : Host.Outcome State Fault Refusal := hostWrite sess 0x130001 5 s (s.lcEff sess 5)
/-- LC_REQUEST_RETURN (R595, R596). -/
def execLcRequestReturn (sess : Nat) (s : State) : Host.Outcome State Fault Refusal := hostWrite sess 0x130001 6 s (s.lcEff sess 6)
/-- LC_REQUEST_END (R595, R596). -/
def execLcRequestEnd (sess : Nat) (s : State) : Host.Outcome State Fault Refusal := hostWrite sess 0x130001 7 s (s.lcEff sess 7)
/-- LC_RESUME_BURN (R598): a write of any code to LC_REQUEST. -/
def execLcResumeBurn (sess v : Nat) (s : State) : Host.Outcome State Fault Refusal := hostWrite sess 0x130001 v s (s.lcEff sess v)

/-! Identity (R604 to R606) -/

/-- A write of IDC_INSTALL (R605). -/
def State.idcEff (s : State) (v : Nat) : Eff :=
  let info := s.oct Reg.idcInfo
  let own := s.hasIdentity && info.take 8 == ascii "NZ-IDC01" && (info.drop 8).take 32 == s.deviceId
    && (info.drop 40).take 8 == natToBytes 8 s.otp.dieId.toNat
  let signed := s.ryminSigned 1 (info.getD 66 0).toNat (sha512 (info ++ s.idPubEd ++ s.idPubMl)) (s.oct Reg.idcSigEd) (s.oct Reg.idcSigMl)
  check s [ abortIf (s.num Reg.idcState == 1) 0x110001, abortIf (s.lc != 4) 0x110003, abortIf (v != 1) 0x130001 ]
    (withJobs 2 2 <| match (if own then s.jobAbortOr (abortIf (!signed) 0x140002) else some 0x140002) with
      | some c => refuse s c
      | none => okay (s.saveN Reg.idcState 1))

/-- IDC_INSTALL (R605). -/
def execIdcInstall (sess v : Nat) (s : State) : Host.Outcome State Fault Refusal := hostWrite sess 0x132006 v s (s.idcEff v)

/-- The digest of the Retort microcode in use; the section's place in its image is not given (log entry 7). -/
def State.ucodeHash (s : State) : Octets := natToBytes 64 (bytesToNat (Config.layout 2 s.hearth.ucode))

/-- The version of the Retort microcode in use (R631), which the section holds at a place that is not given (log entry 7). -/
def State.ucodeVersion (s : State) : Nat := bytesToNat (Config.layout 5 s.hearth.ucode) % 16777216

/-- The SHA-512 of the active core's image, as verified when the core loaded it (R606). -/
def State.activeImage (s : State) : Octets := if s.hearth.active = 0 then s.hearth.imageA else s.hearth.imageB

/-- An ML-DSA-65 signature under the identity key, a RETRY repeated (R606, R578); free bytes where each of the repeats
modelled ends in RETRY (log entry 6). -/
def State.mlSignature (s : State) (msg : Octets) : Nat → Octets × State
  | 0 => s.drawBytes 3309
  | n + 1 =>
    let (rnd, s) := s.drawBytes 32
    match Config.mlSign (s.derive "NZ-ID-MLDSA65" [] 32) msg rnd with
    | some sig => (sig, s)
    | none => State.mlSignature s msg n

/-- A digest signed by both identity keys. -/
def State.identitySign (s : State) (digest : Octets) : Octets × Octets × State :=
  let (ml, s) := s.mlSignature digest 8
  (edSignature (s.derive "NZ-ID-ED25519" [] 32) digest, ml, s)

/-- The body of an identity statement over a nonce (R606). -/
def State.statement (s : State) (nonce : Octets) : Octets :=
  let b2n := fun (x : Bool) (i : Nat) => if x then 2 ^ i else 0
  let flags := b2n (s.floor == 64) 0 + b2n s.evidenceFull 1 + b2n (s.hearth.active == 1) 2
    + b2n (s.num Reg.timeValid == 1) 3 + b2n s.trust.rejected 4
  let newest := if s.boot.newest = 0 then s.boot.copy0 else s.boot.copy1
  ascii "NZ-STMT1" ++ s.deviceId ++ natToBytes 8 s.otp.dieId.toNat ++ natToBytes 3 s.part.code ++ natToBytes 1 s.siliconStep
    ++ natToBytes 4 s.otp.codeword.toNat ++ natToBytes 1 s.lc ++ natToBytes 1 s.tokensUsed ++ natToBytes 1 s.floor
    ++ natToBytes 1 flags ++ natToBytes 2 s.evidenceCount ++ natToBytes 3 (s.num Reg.blobGenDev)
    ++ (List.range 8).flatMap (fun b => natToBytes 3 (if b < s.nBolts then s.num (Reg.bBlobGen b) else 0))
    ++ natToBytes 12 s.now96 ++ natToBytes 9 s.time.elapsed ++ s.activeImage ++ s.ucodeHash
    ++ sha512 (storeBytes newest.content)
    ++ (match s.trust.cert with | some c => c.digest | none => List.replicate 64 0) ++ nonce

/-- A write of STMT_GO (R606). -/
def State.stmtEff (s : State) (n v : Nat) : Eff :=
  check s [abortIf (!s.hasIdentity) 0x110003, abortIf (v != 1) 0x130001]
    (withJobs 1 2 <| if s.retort.disagree then refuse s 0x180040 else
     let body := s.statement (s.oct (Reg.stmtNonce n))
     let (ed, ml, s) := s.identitySign (sha512 body)
     okay (s.putAll [(Reg.stmtBody n, .oct body), (Reg.stmtSigEd n, .oct ed), (Reg.stmtSigMl n, .oct ml)]))

/-- STMT_GO (R606). -/
def execStmtGo (sess v : Nat) (s : State) : Host.Outcome State Fault Refusal := hostWrite sess 0x132102 v s (s.stmtEff sess v)

/-! Debug certificates (R617 to R622) -/

/-- A read of DBG_NONCE (R621). -/
def State.dbgNonceEff (s : State) : Eff :=
  let (nonce, s) := s.drawBytes 16
  ({ s with trust := { s.trust with dbgNonce := some (nonce, s.time.elapsed) } }, .value (.oct nonce))

/-- DBG_NONCE_READ (R621). -/
def execDbgNonceRead (sess : Nat) (s : State) : Host.Outcome State Fault Refusal := hostRead sess 0x134001 s s.dbgNonceEff

/-- A field of a debug certificate's body (R619). -/
def certField (body : Octets) (off n : Nat) : Nat := bytesToNat ((body.drop off).take n)

/-- Whether a signer kind is accepted in the present state, and an operator credential holds DEBUG (R620). -/
def State.signerOk (s : State) (kind index : Nat) : Bool :=
  let policy := if s.lc = 4 ∨ s.lc = 5 then s.num Reg.dbgPolicy else 1
  if kind = 0 then bit policy 0 else kind == 1 && bit policy 1 && s.credHas index 3

/-- The acceptance of the session's staged certificate: checks in the order of R621. -/
def State.dbgAccept (s : State) (n : Nat) : Eff :=
  let body := s.oct (Reg.dbgBody n)
  let kind := certField body 83 1
  let index := certField body 84 1
  let nb := time96Ns (certField body 56 12)
  let na := time96Ns (certField body 68 12)
  let rights := certField body 80 3
  let fresh : Bool := match s.trust.dbgNonce with
    | some (x, t) => x == (body.drop 40).take 16 && decide (s.time.elapsed < t + 600000000000)
    | none => false
  let digest := sha512 body
  let ed := s.oct (Reg.dbgSigEd n)
  let ml := s.oct (Reg.dbgSigMl n)
  let signed := body.length == 85 && body.take 8 == ascii "NZ-DBG01" &&
    (if kind = 0 then s.ryminSigned 2 index digest ed ml else s.credSigned index digest ed ml)
  withJobs 2 2 <| checkInOrder s
    [ abortIf s.trust.cert.isSome 0x120032,
      abortIf (!s.signerOk kind index) 0x140031,
      abortIf ((body.drop 8).take 32 != s.deviceId) 0x140032,
      abortIf (!fresh) 0x140004,
      abortIf (decide (128 ≤ rights)) 0x130001,
      abortIf (((s.lc == 4 || s.lc == 5) && s.num Reg.timeValid != 1) || !decide (nb ≤ s.nowNs ∧ s.nowNs < na)) 0x140033,
      s.jobAbortOr (abortIf (!signed) 0x140002) ]
    (let c : Cert := ⟨n, nb, na, rights, kind, index, digest⟩
     let s : State := { s with trust := { s.trust with cert := some c, dbgNonce := none } }
     okay (s.raise 0x0B0004 0x134000 (kind * 8388608 + index % 16 * 524288 + rights)))

/-- A write of DBG_CMD. Ending is accepted where no certificate is in force, with nothing to end. -/
def State.dbgCmdEff (s : State) (n v : Nat) : Eff :=
  if v = 1 then s.dbgAccept n else if v = 2 then okay (s.certEnd 1) else refuse s 0x130001

/-- DBG_CMD_ACCEPT (R621). -/
def execDbgCmdAccept (sess : Nat) (s : State) : Host.Outcome State Fault Refusal := hostWrite sess 0x134006 1 s (s.dbgCmdEff sess 1)

/-- DBG_CMD_END (R622). -/
def execDbgCmdEnd (sess : Nat) (s : State) : Host.Outcome State Fault Refusal := hostWrite sess 0x134006 2 s (s.dbgCmdEff sess 2)

/-- DBG_CERT_EXPIRY (R622): device time is found outside the certificate's window. -/
def execDbgCertExpiry (s : State) : Host.Outcome State Fault Refusal :=
  match s.trust.cert with
  | some c => if s.inWindow c then done s else done (s.certEnd 0)
  | none => done s

/-! The debug window (R617, R623) -/

/-- The life-cycle states in which a memory is readable (R617): 0 SA store, 1 OTP, 2 table SRAMs, 3 side memory, 4 boot
store, 5 the banked Hearth core. -/
def memStates (mem : Nat) : List Nat := if mem = 0 ∨ mem = 5 then [0, 2, 3, 6] else [0, 2, 3, 4, 5, 6]

/-- The refusal of a memory to a session (R617, R621, R623). -/
def State.memAbort (s : State) (n mem : Nat) : List (Option Nat) :=
  [ abortIf (!(memStates mem).contains s.lc) 0x110003,
    abortIf (s.lc != 0 && !bit (s.rightsOf n) (memRight mem)) 0x140034 ]

/-- The OTP array as words (R591): Ember reads as 0. -/
def State.otpWords (s : State) : List Nat :=
  natToWords 2 s.otp.codeword.toNat ++ natToWords 2 s.otp.tokens.toNat ++ natToWords 3 s.otp.floor.toNat
    ++ natToWords 1 (s.otp.marker0.toNat * 256 + s.otp.marker1.toNat) ++ List.replicate 22 0
    ++ natToWords 1 s.otp.revoked.toNat ++ natToWords 3 s.otp.dieId.toNat ++ natToWords 11 s.otp.deviceId.toNat
    ++ natToWords 2 s.otp.mgmtMac.toNat ++ natToWords 11 s.otp.evidence.toNat

/-! Side-memory lines as the DRAM holds them (R656, R658) -/

/-- Key i of a range: 0 and 1 the XTS halves, 2 the tag key, 3 the IV key. -/
def State.rangeKey (s : State) (r i : Nat) : Octets := natToBytes 32 (Config.freeNat ((s.sm.getD r {}).draw + i))

/-- The address block of line k. -/
def State.lineBlock (s : State) (r k : Nat) : Nat := r * 2 ^ 120 + s.num (Reg.rngChannel r) * 2 ^ 112 + k % 2 ^ 40

/-- A line's ciphertext; the tweak is the address block as a little-endian value, as in R443 (log entry 104). -/
def State.lineCipher (s : State) (r k : Nat) : Octets :=
  xts true (s.rangeKey r 0 ++ s.rangeKey r 1) (natToLe (s.lineBlock r k) 16) (s.smRead r (64 * k) 64)

/-- A line's tag. -/
def State.lineTag (s : State) (r k : Nat) : Octets :=
  let a := s.lineBlock r k
  let c := s.lineCipher r k
  let iv := bytesToNat (aes (s.rangeKey r 3) (natToBytes 16 ((blocksOf 4 c).foldl (· ^^^ ·) a))) / 2 ^ 32
  (gcmTag (s.rangeKey r 2) iv (natToBytes 16 a ++ c) []).take 8

/-- A byte of the DRAM of a channel inside a RUNNING range's data or tag region; none elsewhere, and in a line that no longer
matches its tag. -/
def State.dramByte (s : State) (ch off : Nat) : Option Byte :=
  let base := fun (r : Nat) => s.num (Reg.rngBase r) * 1048576
  let size := fun (r : Nat) => s.num (Reg.rngSize r) * 1048576
  let sound := fun (r k : Nat) (bs : Unit → Octets) (i : Nat) => if (s.sm.getD r {}).bad.contains k then none else (bs ())[i]?
  match (List.range 8).find? (fun r => s.running (.range r) && s.num (Reg.rngChannel r) == ch
      && decide (base r ≤ off ∧ off < base r + size r / 8 * 9)) with
  | none => none
  | some r =>
    let d := off - base r
    if d < size r then sound r (d / 64) (fun _ => s.lineCipher r (d / 64)) (d % 64)
    else sound r ((d - size r) / 8) (fun _ => s.lineTag r ((d - size r) / 8)) ((d - size r) % 8)

/-- The odd-parity bit of a 24-bit word (R38). -/
def oddParity (w : Nat) : Nat := (((List.range 24).filter (fun i => bit w i)).length + 1) % 2

/-- The window and row that a word address of the SA store or the table SRAMs lies in (R623), with tables as event 0x01_0002
numbers them; none for the group filter, whose words are no window's rows, and for a place that holds no row. -/
def State.rawRow (s : State) (mem a : Nat) : Option (Nat × Nat) :=
  if mem = 0 then some (0x4000, a / 32)
  else
    let b := a / 2 ^ 25
    let table := a / 2 ^ 21 % 16
    let r := a % 2 ^ 21 / 32
    if s.nBolts ≤ b then none
    else if table = 0 then some (0x4000, b * 8192 + r)
    else if table = 1 then some (0x4100, b * 32768 + r)
    else if table = 2 then some (0x4200, b * 8192 + r)
    else if table = 3 then some (0x4200, b * 8192 + 4096 + r)
    else if table = 4 then some (0x4300, b * 65536 + r)
    else if table = 6 then some (0x4500, b * 1024 + r)
    else if table = 7 then some (0x4600, b * 32768 + r)
    else if table = 8 then some (0x4700, r)
    else none

/-- What a row holds, its keys left out, which read as 0 (R617). -/
def State.rowBytes (s : State) (win row : Nat) : Octets :=
  storeBytes (s.objs.filter (fun e => match e.1 with
    | .row w r f => w == win && r == row && f != 0x100 && f != 0x107
    | _ => false))

/-- A word of a bolt's group filter at an address in it, and whether it is marked faulted. -/
def State.groupRaw (s : State) (a : Nat) : Octets × Bool :=
  let b := a / 2 ^ 25
  let r := a % 2 ^ 21 / 32
  if a / 2 ^ 21 % 16 = 5 ∧ r < 171 then (natToBytes 3 (s.num (boltKey b 0x0A (1 + r))), s.num (groupFault b r) != 0)
  else ([], false)

/-- A word of the SA store or the table SRAMs, and the parity bit stored with it (R38): a free one in a faulted row. -/
def State.rawWord (s : State) (mem a : Nat) : Nat × Nat :=
  let (held, faulted) := match s.rawRow mem a with
    | some (win, row) => (s.rowBytes win row, s.rowState win row == 2)
    | none => s.groupRaw a
  let w := (Config.rawWord mem a held).toNat
  (w, if faulted then (Config.rawWord (mem + 8) a held).toNat % 2 else oddParity w)

/-- A byte of a memory read raw at an offset past an address, where the rules fix it: side memory, and the image slots of
the boot store one after the other (log entry 49). The rest is free: no rule gives its layout (log entry 7). -/
def State.rawByte (s : State) (mem addr i : Nat) : Option Byte :=
  if mem = 3 then s.dramByte (addr / 2 ^ 40 % 256) (addr % 2 ^ 40 + i)
  else
    let a := addr + i
    if 2 * slotBytes ≤ a then none
    else
      let x := s.imageSlot (a / slotBytes)
      if x.bytes = [] ∧ x.state = 2 then none else some (Mem.rd x.bytes (a % slotBytes))

/-- The 32 words of a word memory from an address, each with its parity bit (R623): SA store, OTP, table SRAMs. -/
def State.rawWords (s : State) (mem addr : Nat) : List (Nat × Nat) :=
  (List.range 32).map (fun i =>
    if mem = 1 then
      let w := (s.otpWords[addr + i]?).getD (Config.rawWord 1 (addr + i) []).toNat
      (w, oddParity w)
    else s.rawWord mem (addr + i))

/-- A read of DBG_DATA (R623): 96 bytes, DBG_ADDR past them, and the parity bits of the words where the memory has them. -/
def State.dbgDataEff (s : State) (n : Nat) : Eff :=
  let mem := s.num Reg.dbgMem
  let addr := s.num Reg.dbgAddr
  check s (s.memAbort n mem)
    (if mem = 3 ∨ mem = 4 then
      let (fill, s1) := s.drawBytes 96
      let bytes := (List.range 96).map (fun i => (s.rawByte mem addr i).getD (fill.getD i 0))
      let (x, s2) := s1.draw
      ((s2.putN Reg.dbgAddr ((addr + 96) % 2 ^ 48)).putN Reg.dbgPar (x % 2 ^ 32), .value (.oct bytes))
    else
      let ws := s.rawWords mem addr
      ((s.putN Reg.dbgAddr ((addr + 32) % 2 ^ 48)).putN Reg.dbgPar (ws.foldl (fun a w => 2 * a + w.2) 0),
        .value (.oct (ws.flatMap (fun w => natToBytes 3 w.1)))))

/-- DBG_DATA_READ (R623). -/
def execDbgDataRead (sess : Nat) (s : State) : Host.Outcome State Fault Refusal := hostRead sess 0x134103 s (s.dbgDataEff sess)

/-- A write of DBG_HEARTH (R624): the banked core halted, which takes it out of step, or resumed, when it loads again (log
entry 50). -/
def State.dbgHearthEff (s : State) (n v : Nat) : Eff :=
  check s (s.memAbort n 5 ++ [abortIf (v != 1 && v != 2) 0x130001])
    (if v = 1 then okay (({ s with hearth := { s.hearth with halted := true } } : State).putN Reg.hearthBanked 0)
     else if s.hearth.halted then okay (({ s with hearth := { s.hearth with halted := false } } : State).putN Reg.hearthBanked 1)
     else okay s)

/-- DBG_HEARTH_HALT (R624). -/
def execDbgHearthHalt (sess : Nat) (s : State) : Host.Outcome State Fault Refusal := hostWrite sess 0x134105 1 s (s.dbgHearthEff sess 1)
/-- DBG_HEARTH_RESUME (R624). -/
def execDbgHearthResume (sess : Nat) (s : State) : Host.Outcome State Fault Refusal := hostWrite sess 0x134105 2 s (s.dbgHearthEff sess 2)

/-! Firmware (R612 to R616, R665) -/

/-- The role that a network session needs for firmware (R616). -/
def State.fwRole (s : State) (n : Nat) : Option Nat := abortIf (n != 0 && !s.sessHas n 4) 0x110004

/-- The slot that firmware steps work on. -/
def State.newSlot (s : State) : Nat := 1 - s.boot.preferred

/-- A step completed: FW_STEP and event 0x0B_0008. -/
def State.fwStepDone (s : State) (v : Nat) : State :=
  (s.putN Reg.fwStep v).raise 0x0B0008 0x136000 (v * 1048576 + s.newSlot * 524288)

/-- The line of a range, if one, that a write covers in part and whose tag fails (R661). -/
def State.partFails (s : State) (r off n : Nat) : Option Nat :=
  (s.sm.getD r {}).bad.find? (fun k => decide (off < 64 * k + 64 ∧ 64 * k < off + n ∧ ¬(off ≤ 64 * k ∧ 64 * k + 64 ≤ off + n)))

/-- A chunk written at FW_CHUNK_OFF (R616, R661, R665): into a RUNNING staging range, or else the boot store. -/
def State.chunkEff (s : State) (n : Nat) (bytes : Octets) : Eff :=
  let off := s.num Reg.fwChunkOff
  check s [s.fwRole n, abortIf (decide (slotBytes < off + bytes.length)) 0x130001]
    (match s.rangeOf 5 with
      | some (r, true) =>
        (match s.partFails r off bytes.length with
          | some k => (s.tagFailure r k true, .abort 0x140050)
          | none => okay (s.smWrite r off bytes))
      | _ =>
        let i := s.imageSlot s.newSlot
        okay (s.setImageSlot s.newSlot { bytes := Mem.writeAll i.bytes off bytes, state := 1 }))

/-- FW_CHUNK (R616). -/
def execFwChunk (sess : Nat) (value : Octets) (s : State) : Host.Outcome State Fault Refusal :=
  hostDone sess s (s.request sess 0x136005 true 0 (abortIf (!octetsLengthOk 0x136005 3072 value.length) 0x130003) (s.chunkEff sess value))

/-- The image that VERIFY judges: staged in side memory, or in the slot (R665). A line that fails its tag is named. -/
def State.stagedImage (s : State) (badLine : Option Nat) : Except (State × Nat) ImageSlot :=
  match s.rangeOf 5 with
  | some (r, true) =>
    let i : ImageSlot := { bytes := (s.sm.getD r {}).data.filter (fun c => decide (c.1 < slotBytes)), state := 1 }
    match s.lineFails r 0 ((max 64 (min slotBytes (imageLength i)) + 63) / 64) badLine with
    | some k => .error ((s.setImageSlot s.newSlot { s.imageSlot s.newSlot with state := 1 }).tagFailure r k false, 0x140050)
    | none => .ok i
  | _ => .ok (s.imageSlot s.newSlot)

/-- VERIFY (R613, R614, R616, R644). In recovery the image that verifies is booted after the response. -/
def State.fwVerifyEff (s : State) (badLine : Option Nat) : Eff :=
  let st := s.num Reg.fwStep
  let k := s.newSlot
  if 2 ≤ st ∧ st ≤ 5 then refuse s 0x120031
  else match s.stagedImage badLine with
    | .error (s, c) => (s, .abort c)
    | .ok i =>
      withJobs 2 2 <| if s.retort.disagree then refuse s 0x180040 else
      match s.imageFault i with
      | some _ => (s.setImageSlot k { s.imageSlot k with state := 1 }, .abort 0x140036)
      | none =>
        let s := s.setImageSlot k { i with state := 2 }
        if s.phase = .recovery then
          let s : State := { s with boot := { s.boot with preferred := k } }
          okay ((s.bootFirmware k [(0x0B0008, 0x136000, 1048576 + k * 524288)]).putN Reg.fwStep 1)
        else okay (s.fwStepDone 1)

/-- The banked core restarted on a slot's image, in step again when the request has taken effect (R616, R562). -/
def State.loadBanked (s : State) (slot : Nat) : State :=
  let h := { s.hearth with halted := false }
  let image := imageHash (s.imageSlot slot)
  let h := if h.active = 0 then { h with slotB := slot, imageB := image } else { h with slotA := slot, imageA := image }
  ({ s with hearth := h } : State).putN Reg.hearthBanked 2

/-- ABANDON: both cores back on the preferred image, through a switch-over where the active core runs another. -/
def State.fwAbandonNow (s : State) : State :=
  let p := s.boot.preferred
  let running := if s.hearth.active = 0 then s.hearth.slotA else s.hearth.slotB
  let s := (s.loadBanked p).fwStepDone 7
  if running = p then s
  else
    let image := imageHash (s.imageSlot p)
    ({ s with hearth := { s.hearth with slotA := p, slotB := p, imageA := image, imageB := image } } : State).switchOver 3

/-- A write of FW_CMD (R616). -/
def State.fwEff (s : State) (n v : Nat) (badLine : Option Nat) : Eff :=
  let st := s.num Reg.fwStep
  let verified := (s.imageSlot s.newSlot).state == 2
  let order := fun (ok : Bool) (r : State) => check s [abortIf (!ok) 0x120031] (okay r)
  let eff :=
    if v = 1 then s.fwVerifyEff badLine
    else if v = 2 then
      order (st == 1 && verified) ((s.loadBanked s.newSlot).fwStepDone 2)
    else if v = 3 then order (st == 2) ((s.fwStepDone 3).switchOver 3)
    else if v = 4 then order (st == 3 && verified) ((s.loadBanked s.newSlot).fwStepDone 4)
    else if v = 5 then order (st == 4) ((s.fwStepDone 5).switchOver 3)
    else if v = 6 then
      order (st == 5 && verified)
        (let k := s.newSlot
         let s := s.fwStepDone 6
         ({ s with boot := { s.boot with preferred := k } } : State).raiseFloor (imageSv (s.imageSlot k)))
    else if v = 7 then order (decide (2 ≤ st ∧ st ≤ 5)) s.fwAbandonNow
    else if v = 8 then order (!decide (2 ≤ st ∧ st ≤ 5)) ((s.setImageSlot s.newSlot {}).fwStepDone 8)
    else refuse s 0x130001
  underAborts s [s.fwRole n] eff

/-- The outcome of a firmware step. -/
def fwWrite (n v : Nat) (badLine : Option Nat) (s : State) : Host.Outcome State Fault Refusal :=
  hostWrite n 0x136006 v s (s.fwEff n v badLine)

/-- FW_VERIFY (R616). -/
def execFwVerify (sess : Nat) (badLine : Option Nat) (s : State) : Host.Outcome State Fault Refusal := fwWrite sess 1 badLine s
/-- FW_LOAD_BANKED (R616). -/
def execFwLoadBanked (sess : Nat) (s : State) : Host.Outcome State Fault Refusal := fwWrite sess 2 none s
/-- FW_SWITCH (R616). -/
def execFwSwitch (sess : Nat) (s : State) : Host.Outcome State Fault Refusal := fwWrite sess 3 none s
/-- FW_LOAD_OTHER (R616). -/
def execFwLoadOther (sess : Nat) (s : State) : Host.Outcome State Fault Refusal := fwWrite sess 4 none s
/-- FW_REVERT (R616). -/
def execFwRevert (sess : Nat) (s : State) : Host.Outcome State Fault Refusal := fwWrite sess 5 none s
/-- FW_COMMIT (R616). -/
def execFwCommit (sess : Nat) (s : State) : Host.Outcome State Fault Refusal := fwWrite sess 6 none s
/-- FW_ABANDON (R616). -/
def execFwAbandon (sess : Nat) (s : State) : Host.Outcome State Fault Refusal := fwWrite sess 7 none s
/-- FW_ERASE (R616). -/
def execFwErase (sess : Nat) (s : State) : Host.Outcome State Fault Refusal := fwWrite sess 8 none s

/-! Side memory (R653, R666) -/

/-- A write of SM_CH_ENABLE (R653). A channel that is enabled already is not trained again. -/
def State.chEnableEff (s : State) (c v : Nat) : Eff :=
  let busy := (List.range 8).any (fun r => s.num (Reg.rngChannel r) == c && s.fnState (.range r) != 0)
  if v = 0 then check s [abortIf busy 0x120001] (okay ((s.saveN (Reg.smChEnable c) 0).putN (Reg.smChState c) 0))
  else if s.num (Reg.smChEnable c) = 1 then okay s
  else okay ((s.saveN (Reg.smChEnable c) 1).putN (Reg.smChState c) 1)

/-- SM_CH_ENABLE (R653). -/
def execSmChEnable (sess c v : Nat) (s : State) : Host.Outcome State Fault Refusal :=
  hostWrite sess (blockAddr 0x1600 2 c 1) v s (s.chEnableEff c v)

/-- SM_CHANNEL_TRAINED (R653): of a channel in training. -/
def execSmChannelTrained (c : Nat) (ok : Bool) (s : State) : Host.Outcome State Fault Refusal :=
  if s.part.sideChannels ≤ c ∨ s.num (Reg.smChState c) ≠ 1 then done s
  else if ok then done (s.putN (Reg.smChState c) 2)
  else done ((s.putN (Reg.smChState c) 3).raise 0x070601 ((0x1600 + c) * 256) (c * 8388608))

/-- An access through SM_ACC_DATA (R666, R662): what it may reach, then the access. -/
def State.accEff (s : State) (n : Nat) (write : Bool) (act : Nat → Nat → Eff) : Eff :=
  let r := s.num (Reg.smAccRange n)
  let off := s.num (Reg.smAccOff n)
  let use := s.num (Reg.rngUse r)
  check s [abortIf (use == 5 || (write && decide (2 ≤ use ∧ use ≤ 4))) 0x110001]
    (if s.running (.range r) = false then (s.count Reg.smStoppedErrors, .abort 0x120050)
     else check s [abortIf (off % 64 != 0 || decide (s.num (Reg.rngSize r) * 1048576 < off + 192)) 0x130001] (act r off))

/-- A write of SM_ACC_DATA: three whole lines, which reads none of them (R661). -/
def State.accWriteEff (s : State) (n : Nat) (bytes : Octets) : Eff :=
  s.accEff n true (fun r off => okay ((s.smWrite r off bytes).putN (Reg.smAccOff n) (off + 192)))

/-- A read of SM_ACC_DATA: every line's tag verified before any byte is used (R660). -/
def State.accReadEff (s : State) (n : Nat) (badLine : Option Nat) : Eff :=
  s.accEff n false (fun r off =>
    match s.lineFails r (off / 64) 3 badLine with
    | some k => (s.tagFailure r k false, .abort 0x140050)
    | none => (s.putN (Reg.smAccOff n) (off + 192), .value (.oct (s.smRead r off 192))))

/-- SM_ACC_DATA_WRITE (R666). A whole line is never read first, so a bad line changes nothing. -/
def execSmAccDataWrite (sess : Nat) (value : Octets) (_badLine : Option Nat) (s : State) : Host.Outcome State Fault Refusal :=
  hostDone sess s (s.request sess 0x162003 true 0 (abortIf (value.length != 192) 0x130003) (s.accWriteEff sess value))

/-- SM_ACC_DATA_READ (R666). -/
def execSmAccDataRead (sess : Nat) (badLine : Option Nat) (s : State) : Host.Outcome State Fault Refusal :=
  hostRead sess 0x162003 s (s.accReadEff sess badLine)

end Sys2Proof.Machine
end

