-- ==== Sys2Proof/Machine/Retort.lean ====
section
/-! DEFINITION. Machine/Retort.lean: the jobs of Retort (R627 to R651). -/

namespace Sys2Proof.Machine

/-- The operand lengths that an operation allows (R633). -/
def jobLengths (op a b c : Nat) : Bool :=
  let msg := decide (b ≤ 3072)
  if op = 1 ∨ op = 5 then a == 32 && msg && c == 0
  else if op = 2 then a == 32 && msg && c == 64
  else if op = 3 then a == 32 && (b == 32 || b == 0) && c == 0
  else if op = 4 then (a == 32 || a == 0) && b == 0 && c == 0
  else if op = 6 then a == 1952 && msg && c == 3309
  else if op = 7 then (a == 64 || a == 0) && b == 0 && c == 0
  else if op = 8 then a == 1184 && b == 0 && c == 0
  else if op = 9 then a == 64 && b == 1088 && c == 0
  else a == 32 && b == 0 && c == 0

def allZero (bs : Octets) : Bool := bs.all (fun b => b == 0)

/-- What a job computes (R633 to R642): its status, its results and the state that has drawn its randomness. -/
def State.jobRun (s : State) (j : Job) : Nat × Octets × Octets × State :=
  let zero : Nat × Octets × Octets × State := (3, [], [], s)
  if j.op = 1 then (if allZero j.a then zero else (0, edSignature j.a j.b, [], s))
  else if j.op = 2 then (edVerifyStatus j.a j.b j.c, [], [], s)
  else if j.op = 3 then
    let u := if j.b = [] then xBase else j.b
    let st := x25519Status j.a u
    (st, if st = 0 then x25519 j.a u else [], [], s)
  else if j.op = 4 then
    let (seed, s1) := if j.a = [] then s.drawBytes 32 else (j.a, s)
    if allZero seed then zero else (0, Config.mlPub seed, seed, s1)
  else if j.op = 5 then
    if allZero j.a then zero
    else
      let (rnd, s1) := s.drawBytes 32
      match Config.mlSign j.a j.b rnd with
      | some sig => (0, sig, [], s1)
      | none => (2, [], [], s1)
  else if j.op = 6 then (mlVerifyStatus j.a j.b j.c, [], [], s)
  else if j.op = 7 then
    let (seed, s1) := if j.a = [] then s.drawBytes 64 else (j.a, s)
    if allZero seed then zero else (0, Config.kemPub seed, seed, s1)
  else if j.op = 8 then
    if allZero j.a then zero
    else if kemKeyOk j.a = false then (5, [], [], s)
    else
      let (m, s1) := s.drawBytes 32
      let r := Config.kemEncaps j.a m
      (0, r.1, r.2, s1)
  else if j.op = 9 then (if allZero j.a then zero else (0, Config.kemDecaps j.a j.b, [], s))
  else if allZero j.a then zero
  else (0, edPublic j.a, [], s)

/-- JOB_GO = 1 (R647, R649): the slot's job is queued, and the results of the one before are erased. -/
def State.jobSubmit (s : State) (n : Nat) : Eff :=
  let st := s.num (Reg.jobState n)
  let op := s.num (Reg.jobOp n)
  let a := s.oct (Reg.jobInA n)
  let b := s.oct (Reg.jobInB n)
  let c := s.oct (Reg.jobInC n)
  check s
    [ abortIf (decide (1 ≤ st ∧ st ≤ 3)) 0x120040,
      abortIf (!decide (1 ≤ op ∧ op ≤ 10)) 0x130001,
      abortIf (!jobLengths op a.length b.length c.length) 0x130003 ]
    (let s : State := { s with retort := { s.retort with queue := s.retort.queue ++ [⟨.host n, op, a, b, c⟩] } }
     let s := ((s.clear (Reg.jobOutA n)).clear (Reg.jobOutB n)).putN (Reg.jobState n) 1
     let s := (s.clear (Reg.jobStatus n)).clear (Reg.jobStarted n)
     okay (s.putN (Reg.jobSeq n) ((s.num (Reg.jobSeq n) + 1) % 16777216)))

/-- A write of JOB_GO (R645, R647). -/
def State.jobGoEff (s : State) (n v : Nat) : Eff :=
  if v = 1 then s.jobSubmit n else if v = 2 then okay (s.jobAbort n) else refuse s 0x130001

/-- JOB_GO_SUBMIT (R647). -/
def execJobGoSubmit (sess : Nat) (s : State) : Host.Outcome State Fault Refusal := hostWrite sess 0x170105 1 s (s.jobGoEff sess 1)

/-- JOB_GO_ABORT (R645). -/
def execJobGoAbort (sess : Nat) (s : State) : Host.Outcome State Fault Refusal := hostWrite sess 0x170105 2 s (s.jobGoEff sess 2)

/-- A host job with the operands of its slot at its start (R629). Operands written since its submission that its operation does
not take leave those submitted (log entry 120). -/
def State.slotJob (s : State) (n : Nat) (j : Job) : Job :=
  let a := s.oct (Reg.jobInA n)
  let b := s.oct (Reg.jobInB n)
  let c := s.oct (Reg.jobInC n)
  if jobLengths j.op a.length b.length c.length then { j with a := a, b := b, c := c } else j

/-- JOB_START (R628, R629): with no job running or being erased, the first in the queue starts. -/
def execJobStart (s : State) : Host.Outcome State Fault Refusal :=
  match s.retort.queue, s.retort.running, s.retort.clearing with
  | j :: rest, none, none =>
    let j := match j.owner with | .host n => s.slotJob n j | _ => j
    let s : State := { s with retort := { s.retort with queue := rest, running := some j, since := s.time.elapsed } }
    match j.owner with
    | .host n => done ((s.putN (Reg.jobState n) 2).putN (Reg.jobStarted n) s.now96)
    | _ => done s
  | _, _, _ => done s

/-- The run time of a job in ns (R636): an internal job's message is a digest. -/
def jobTime (j : Job) : Nat :=
  let m := match j.owner with | .host _ => j.b.length | .closed _ _ => j.b.length | _ => 64
  let per := if j.op = 1 then 128 else if j.op = 2 ∨ j.op = 5 ∨ j.op = 6 then 64 else 0
  [0, 460000, 710000, 340000, 210000, 3600000, 320000, 140000, 160000, 210000, 360000].getD j.op 0
    + per * ((m - 64 + 127) / 128)

/-- The session number of a job's fault record (R651). -/
def jobSession (j : Job) : Nat :=
  match j.owner with
  | .host n => n
  | .closed n _ => n
  | _ => 15

/-- An internal job that gave no result fails its handshake (R644). -/
def State.jobFails (s : State) (j : Job) : State :=
  match j.owner with
  | .hello n => s.refuseHandshake n 0x150010
  | .auth n => s.refuseHandshake n 0x150010
  | _ => s

/-- JOB_COMPLETE (R636, R643): the running job ends with its status, its run time over to within 1 µs. Where the two
computations disagree it ends in FAULT: event 0x08_0101, and alarm 6. With no job in Retort, a disagreement is that of the next
request's own job (log entry 79). -/
def execJobComplete (disagree : Bool) (s : State) : Host.Outcome State Fault Refusal :=
  match s.retort.running with
  | none =>
    if disagree = true ∧ s.retort.queue = [] ∧ s.retort.clearing = none then
      done { s with retort := { s.retort with disagree := true } }
    else done s
  | some j =>
    if s.time.elapsed + 1000 < s.retort.since + jobTime j then done s
    else
    let s : State := { s with retort := { s.retort with running := none } }
    if disagree then
      let s := s.jobDone j 0x0F [] []
      let s := s.raise 0x080101 0x170000 (jobSession j * 1048576 + j.op % 16 * 65536)
      done ((s.raiseAlarm 6 0 false).jobFails j)
    else
      match j.owner with
      | .host _ =>
        let (st, outA, outB, s) := s.jobRun j
        done (s.jobDone j st outA outB)
      | _ => done (s.jobDone j 0 [] [])

/-- JOB_ABORT_ERASED (R645): 16 µs after the abort the operand memory is erased, and the aborted job's status is written. -/
def execJobAbortErased (s : State) : Host.Outcome State Fault Refusal :=
  match s.retort.clearing with
  | none => done s
  | some j =>
    if s.time.elapsed < s.retort.since + 16000 then done s
    else done ((({ s with retort := { s.retort with clearing := none } } : State).jobDone j 0x0E [] []).jobFails j)

end Sys2Proof.Machine
end

