-- ==== Sys2Proof/Machine/Pair.lean ====
section
/-! DEFINITION. Machine/Pair.lean: the commands of the pair unit and the mirror link (R700 to R719). -/

namespace Sys2Proof.Machine

/-! The mirror link (R702, R703, R710) -/

/-- Event 0x09_0103: PAIR_LINK and the failing step. -/
def State.linkEvent (s : State) (step : Nat) : State :=
  s.raise 0x090103 0x151000 (s.num Reg.pairLink * 4194304 + step * 524288)

/-- The link is down: its keys are gone, unused marks end (R708), and the peer memory stays valid only where `keep`. -/
def State.linkDown (s : State) (keep : Bool) : State :=
  let was := s.num Reg.pairLink
  let s := ((s.putN Reg.pairLink 0).putN Reg.pairSync 0).clearUnused
  let s : State := { s with pair := { s.pair with keyOut := [], keyIn := [], wrapKey := [], memoryValid := s.pair.memoryValid && keep, requested := false } }
  if was = 0 then s else s.linkEvent 0

/-- The pair private keys (R601). -/
def State.pairX (s : State) : Octets := s.derive "NZ-PAIR-X25519" [] 32
def State.pairKemSeed (s : State) : Octets := s.derive "NZ-PAIR-MLKEM768" [] 64

/-- An attempt at the link has failed at a step; the next is due a second later (R702). -/
def State.attemptFails (s : State) (step : Nat) : State :=
  ({ s.putN Reg.pairLink 0 with pair := { s.pair with attemptAt := s.time.elapsed + 1000000000 } } : State).linkEvent step

/-- MIRROR_LINK_ATTEMPT (R702), when it is due: both mirror lanes locked at code 2 and the partner there, or step 1 fails. -/
def execMirrorLinkAttempt (ok : Bool) (s : State) : Host.Outcome State Fault Refusal :=
  if s.phase ≠ .ready ∨ s.num Reg.pairJoin = 0 ∨ s.num Reg.pairLink ≠ 0 ∨ s.time.elapsed < s.pair.attemptAt then done s
  else if ok && s.laneReport 128 == 0 && s.laneReport 129 == 0 then done ((s.putN Reg.pairLink 1).linkEvent 0)
  else done (s.attemptFails 1)

/-- What the partner presented in step 2 (R702, R604): a Rymin certificate of the PAIR_PEER_DEVID device, of the same part,
under the other PAIR_ID; this device must have its own certificate to show. -/
def State.peerCertified (s : State) (x : PeerHello) : Bool :=
  x.idcInfo.length == 67 && x.idcInfo.take 8 == ascii "NZ-IDC01"
    && s.ryminSigned 1 (x.idcInfo.getD 66 0).toNat (sha512 (x.idcInfo ++ x.edPub ++ x.mlPub)) x.idcSigEd x.idcSigMl
    && (x.idcInfo.drop 8).take 32 == s.oct Reg.pairPeerDevid
    && bytesToNat ((x.idcInfo.drop 48).take 3) == s.part.code
    && x.pairId != s.pairId && s.num Reg.idcState == 1

/-- What the partner signed in step 3: its pair public keys and its nonce. The layout is not given (log entry 7). -/
def peerSigned (x : PeerHello) : Bool :=
  let msg := Config.layout 3 (x.xPub ++ x.kemPub ++ x.nonce)
  edVerify x.edPub msg x.sigEd && mlVerify x.mlPub msg x.sigMl

/-- An item of peer memory applied to a tributary's own counter (R709): the reported value with the margin, the last value at most (R212), or TRIB_PC_START
for an unused item. A device that holds a counter keeps it. -/
def State.tribMemory (s : State) (p : Nat) (mem : Option Report) : State :=
  if s.kind p ≠ 4 ∨ s.pcNext p ≠ 0 then s
  else match mem with
    | some r => if r.unused then s.putN (unusedTrib p) 1 else s.setPcNext p (min (r.value + 1048576) (2 ^ 76 - 1))
    | none => (s.count Reg.mirrorRefused).raise 0x090104 0x151000 (2 * 2097152 + p)

/-- The roles settled when the link comes up (R713). -/
def State.linkRoles (s : State) : State :=
  if s.role = 1 ∧ ((s.pair.peerRole = 1 ∧ s.pairId = 0) ∨ s.pair.peerRole = 0) then s.setRole 2 0
  else if s.role = 2 ∧ s.pair.peerRole = 2 ∧ s.pairId = 1 then s.giveUp true 1 7
  else s.resync

/-- MIRROR_LINK_UP (R702, R708, R709): steps 2 to 4, then peer memories returned, reports, PARTITION cleared, roles, and a
resync. -/
def execMirrorLinkUp (peer : PeerHello) (s : State) : Host.Outcome State Fault Refusal :=
  if s.num Reg.pairLink ≠ 1 then done s
  else if s.peerCertified peer = false then done (s.attemptFails 2)
  else if peerSigned peer = false ∨ s.kduReady = false ∨ (s.pairId = 0 ∧ kemKeyOk peer.kemPub = false) then done (s.attemptFails 3)
  else if x25519Status s.pairX peer.xPub ≠ 0 then done (s.attemptFails 4)
  else
    let (own, s) := s.drawBytes 16
    let (m, s) := s.drawBytes 32
    let shared := if s.pairId = 0 then (Config.kemEncaps peer.kemPub m).2 else Config.kemDecaps s.pairKemSeed peer.kemCt
    let salt := if s.pairId = 0 then own ++ peer.nonce else peer.nonce ++ own
    let keys := hkdf512 salt (x25519 s.pairX peer.xPub ++ shared) (ascii "NZ-PAIR-KEYS") 96
    let k0 := keys.take 32
    let k1 := (keys.drop 32).take 32
    let s : State := { s with pair := { s.pair with
      keyOut := if s.pairId = 0 then k0 else k1, keyIn := if s.pairId = 0 then k1 else k0, wrapKey := keys.drop 64
      txCount := 1, peerRole := peer.role, peerGen := peer.roleGen, peerHealthy := peer.healthy
      relinquished := false, heardAt := s.time.elapsed, beatAt := s.time.elapsed } }
    let s := ((s.putN Reg.pairLink 2).linkEvent 0).setPartition false
    let s := s.pairSend (.peerMemory s.mirrorIv s.pair.memoryValid s.freshMemory)
    let s := s.refreshMemory peer.reports
    let s := forEach (peer.memory.filter (fun r => r.kind == 1 && peer.memoryValid)) (fun s r => s.tribMemory r.item (some r)) s
    done (s.update (.reports s.ownReports)).linkRoles

/-! Roles by command (R713, R715) -/

/-- A write of PAIR_JOIN (R713): 1 takes a Cold device to Banked; 0 takes any device to Cold, a Lit one relinquishing
first, and ends the link. -/
def State.pairJoinEff (s : State) (v : Nat) : Eff :=
  if v = 1 then
    if s.num Reg.pairJoin = 1 then okay s else okay ((s.saveN Reg.pairJoin 1).setRole 1 6)
  else
    let s := if s.role = 2 then s.giveUp false 0 6 else s.setRole 0 6
    okay ((s.linkDown s.pair.relinquished).saveN Reg.pairJoin 0)

/-- PAIR_JOIN_SET (R713). -/
def execPairJoinSet (sess : Nat) (s : State) : Host.Outcome State Fault Refusal := hostWrite sess 0x151001 1 s (s.pairJoinEff 1)
/-- PAIR_JOIN_CLEAR (R713). -/
def execPairJoinClear (sess : Nat) (s : State) : Host.Outcome State Fault Refusal := hostWrite sess 0x151001 0 s (s.pairJoinEff 0)

/-- The device is on its way to Lit (R714): line egress idles until it is, and WITNESS is driven. -/
def State.becomeLit (s : State) (cause : Nat) : State :=
  { s with pair := { s.pair with becoming := some (cause, s.time.elapsed), claiming := none, witnessDrive := s.num Reg.pairWitnessWired == 1 } }

/-- A claim of WITNESS begins (R714). `cause` 2 follows a heartbeat loss, 3 a TAKE. -/
def State.claimWitness (s : State) (cause : Nat) : State :=
  { s with pair := { s.pair with claiming := some s.time.elapsed, claimCause := cause } }

/-- TAKE (R713, R715): over the link the partner is asked to hand over, and a partner that is not Lit, with nothing to hand
over, learns of the request (R719); without the link the device claims WITNESS, or becomes Lit at once where it is not wired, and the peer memory is
stale (R710). -/
def State.takeEff (s : State) : Eff :=
  let overLink := s.linked && s.pair.peerHealthy
  let alone := !s.linked && (s.num Reg.pairWitnessWired == 0 || s.pair.witnessHigh)
  check s [abortIf (!(s.role == 1 && (overLink || alone))) 0x1200B2]
    (if s.linked then
       let s : State := { s with pair := { s.pair with requested := true, claimCause := 3 } }
       let s := s.heartbeat false false true
       okay (if s.pair.peerRole = 2 then s else s.becomeLit 3)
     else
       let s : State := { s with pair := { s.pair with memoryValid := false } }
       if s.num Reg.pairWitnessWired = 1 then okay (s.claimWitness 3) else okay (s.becomeLit 2))

/-- GIVE (R713, R715). -/
def State.giveEff (s : State) : Eff :=
  check s [abortIf (!(s.role == 2 && s.linked && s.pair.peerHealthy)) 0x1200B2] (okay (s.giveUp true 1 3))

/-- A write of PAIR_CMD. -/
def State.pairCmdEff (s : State) (v : Nat) : Eff := if v = 1 then s.takeEff else if v = 2 then s.giveEff else refuse s 0x130001

/-- PAIR_CMD_TAKE (R713). -/
def execPairCmdTake (sess : Nat) (s : State) : Host.Outcome State Fault Refusal := hostWrite sess 0x151006 1 s (s.pairCmdEff 1)
/-- PAIR_CMD_GIVE (R715). -/
def execPairCmdGive (sess : Nat) (s : State) : Host.Outcome State Fault Refusal := hostWrite sess 0x151006 2 s (s.pairCmdEff 2)

/-! Heartbeats (R703) -/

/-- HEARTBEAT_SEND (R703), every 1 µs. -/
def execHeartbeatSend (s : State) : Host.Outcome State Fault Refusal :=
  if s.linked = true ∧ s.pair.beatAt + 1000 ≤ s.time.elapsed then
    done (({ s with pair := { s.pair with beatAt := s.time.elapsed } } : State).heartbeat false false s.pair.requested)
  else done s

/-- A request to hand over received (R713, R719): a Lit device gives up the role, and the secondary's own TAKE yields to the
primary's. -/
def State.handoverAsked (s : State) : State :=
  if s.role = 2 then s.giveUp true 1 3
  else if s.pairId = 1 ∧ s.pair.requested = true then
    { s with pair := { s.pair with requested := false, becoming := none, witnessDrive := false } }
  else s

/-- HEARTBEAT_RECEIVED (R703, R713, R715, R719). A partner that has given up the role stays marked so until it is Lit again
(R710). A Lit device whose partner has begun a full resync sends all mirrored content anew (R705; log entry 121). -/
def execHeartbeatReceived (hb : Heartbeat) (s : State) : Host.Outcome State Fault Refusal :=
  if s.linked = false ∨ hb.valid = false then done s
  else
    let behind := s.role == 2 && s.num Reg.pairSync == 2 && s.pair.peerSync == 2 && hb.sync == 1
    let s : State := { s with pair := { s.pair with
      heardAt := s.time.elapsed, peerRole := hb.role, peerGen := hb.roleGen, peerHealthy := hb.healthy, peerSync := hb.sync } }
    let s := s.hear hb.reports
    let s := if behind then s.resync else s
    if hb.relinquish ∨ hb.handover then
      let s : State := { s with pair := { s.pair with relinquished := true } }
      if s.role = 1 ∧ s.healthy = true ∧ s.pair.becoming.isNone = true then
        done (s.becomeLit (if hb.relinquish then 1 else if s.pair.requested then s.pair.claimCause else 3))
      else done s
    else
      let s : State := { s with pair := { s.pair with relinquished := s.pair.relinquished && hb.role != 2 } }
      done (if hb.request then s.handoverAsked else s)

/-- HEARTBEAT_LOSS (R703, R710, R713, R718), 10 µs after the last valid heartbeat: the link is down; a healthy Banked device with WITNESS wired claims it, any
other keeps its role in PARTITION. A takeover under way goes on (R719). -/
def execHeartbeatLoss (s : State) : Host.Outcome State Fault Refusal :=
  if s.linked = false ∨ s.time.elapsed < s.pair.heardAt + 10000 then done s
  else
    let claims := s.role == 1 && s.num Reg.pairWitnessWired == 1 && s.healthy && s.pair.becoming.isNone
    let s := s.linkDown (s.pair.relinquished || claims)
    if claims then done (s.claimWitness 2)
    else if s.pair.becoming.isSome then done s
    else done (s.setPartition true)

/-- WITNESS_CLAIM_DONE (R714): the pin sampled for 10 µs, and 20 µs more on the secondary. -/
def execWitnessClaimDone (stayedHigh : Bool) (s : State) : Host.Outcome State Fault Refusal :=
  match s.pair.claiming with
  | none => done s
  | some t =>
    if s.time.elapsed < t + 10000 + 20000 * s.pairId then done s
    else
      let s : State := { s with pair := { s.pair with claiming := none, witnessHigh := stayedHigh } }
      if stayedHigh then done (s.becomeLit 2)
      else
        let s : State := { s with pair := { s.pair with memoryValid := s.pair.memoryValid && s.pair.relinquished } }
        done (if s.pair.claimCause = 2 then s.setPartition true else s)

/-- TAKEOVER_COMPLETE (R714): within 50 µs of detection the device is Lit. -/
def execTakeoverComplete (s : State) : Host.Outcome State Fault Refusal :=
  match s.pair.becoming with
  | none => done s
  | some (cause, _) => done (({ s with pair := { s.pair with requested := false } } : State).setRole 2 cause)

/-! Mirror updates (R704 to R706, R709) -/

/-- An update not applied: event 0x09_0104 with its reason, counted where R706 and R709 say. -/
def State.mirrorRefuse (s : State) (reason item : Nat) : State :=
  let s := if reason = 3 then s else s.count Reg.mirrorRefused
  s.raise 0x090104 0x151000 (reason * 2097152 + item % 65536)

/-- The SA number or port that an item concerns; 0 for an item with neither. -/
def mirrorItemNo : MirrorItem → Nat
  | .saRow row _ _ _ => row
  | .saDelete row => row
  | .emRow _ _ => 0
  | .emDelete _ => 0
  | .binding p _ _ => p
  | .txAn p _ => p
  | .arm p _ => p
  | .flip p _ _ => p
  | .policyActive _ _ => 0
  | .gateRow _ _ _ => 0
  | .gateObj p _ _ => p
  | .tribCounter p _ => p
  | .reports _ => 0

/-- A field among those of a mirrored row. -/
def fieldNum (fields : List (Nat × Val)) (f : Nat) : Nat :=
  match fields.find? (fun e => e.1 == f) with
  | some (_, .num n) => n
  | _ => 0
def fieldOct (fields : List (Nat × Val)) (f : Nat) : Octets :=
  match fields.find? (fun e => e.1 == f) with
  | some (_, .oct bs) => bs
  | _ => []

/-- A mirrored SA row (R704, R706, R709): its SCI and SSCI become this device's own, its counter comes from what the partner
remembers of this device, E at most (R201, R204), and a row held already keeps its counter and state. -/
def State.applySaRow (s : State) (row : Nat) (fields : List (Nat × Val)) (wrapped : Octets) (mem : Option Report) : State :=
  let p := fieldNum fields 0x13
  let suite := fieldNum fields 0x11
  let tx := fieldNum fields 0x10 == 0
  let held := s.rowState 0x4000 row
  let own := tx && decide (suite < 4)
  let sci := s.oct (Reg.pTxSci p)
  let ssci := s.num (Reg.pTxSsci p)
  let clash := own && (if suite < 2 then sci == fieldOct fields 0x14 else ssci % 2 ^ 32 == fieldNum fields 0x16 % 2 ^ 32)
  let fresh := decide (wrapped ≠ []) && (held == 0 || held == 7)
  if s.rowExists 0x4000 row = false then s
  else if clash then s.mirrorRefuse 1 row
  else if tx = true ∧ held = 0 ∧ mem = none then s.mirrorRefuse 2 row
  else
    match (if fresh then kwpUnwrap s.pair.wrapKey wrapped else some []) with
    | none => s.mirrorRefuse 3 row
    | some key =>
      let pn := if tx then (if held ≠ 0 then s.num (Reg.saPn row)
          else match mem with
            | some r => if r.unused then 1 else if own then min (r.value + 1048576) (suiteE suite) else r.value + 1048576
            | none => 1)
        else if held ≠ 0 then max (s.num (Reg.saPn row)) (fieldNum fields 0x18) else fieldNum fields 0x18
      let s := if held = 0 then s.clearRow 0x4000 row else s
      let s := s.putAll (fields.map (fun e => (Key.row 0x4000 row e.1, e.2)))
      let s := if own then (s.putO (Reg.saSci row) sci).putN (Reg.saSsci row) ssci else s
      let s := s.putN (Reg.saPn row) pn
      let s := if fresh then (s.putO (.row 0x4000 row 0x100) (key.take (key.length - 16))).keyMarked row (key.take (key.length - 16))
        else s
      let s := if held = 0 ∧ own = true then s.putN (unusedRow row) 1 else s
      let s := if fresh then s.setRowState 0x4000 row 1
        else if held = 0 then s.setRowState 0x4000 row 7
        else s.bumpVersion 0x4000 row
      let s := if own && held == 0 then s.pnExhaust row else s
      s.count Reg.mirrorUpdates

/-- A flip of the partner's tributary made here too (R704). -/
def State.applyFlip (s : State) (p phase mf : Nat) : State :=
  let old := s.num (Reg.pTwTxPhase p)
  let s := ((s.putN (Reg.pTwTxPhase p) phase).putN (Reg.pTwTxFlipMf p) mf).putN (Reg.pTwTxState p) 0
  if old = phase then s
  else
    let s := s.discardKeystream (boltOfPort p) .e (keyOwner (s.txPhaseRow p old))
    let s := (s.putN (Reg.pTribKeyCount p) 0).putN (panelsUnder (s.txPhaseRow p phase)) 0
    s.setTrib p { s.trib p with flipped := true, releasing := some old, stopped := (s.trib p).stopped && s.counterSpent p }

/-- An item applied (R704). -/
def State.applyItem (s : State) (it : MirrorItem) : State :=
  let n := fun (s : State) => s.count Reg.mirrorUpdates
  match it with
  | .saRow row fields wrapped mem => s.applySaRow row fields wrapped mem
  | .saDelete row => n (if s.rowState 0x4000 row = 0 then s else s.saEmptied row 0)
  | .emRow row fields => n ((s.putAll (fields.map (fun e => (Key.row 0x4100 row e.1, e.2)))).setRowState 0x4100 row 1)
  | .emDelete row => n ((s.clearRow 0x4100 row).bumpVersion 0x4100 row)
  | .binding p sub value => n (s.putN (portKey p 3 sub) value)
  | .txAn p an => n (s.txAnEff p an).1
  | .arm p on => n (s.twArmEff p (if on then 1 else 2)).1
  | .flip p phase mf => n (s.applyFlip p phase mf)
  | .policyActive b k => n (s.policyEff b k).1
  | .gateRow row fields valid =>
    n (if valid then (s.putAll (fields.map (fun e => (Key.row 0x4600 row e.1, e.2)))).setRowState 0x4600 row 1
       else (s.clearRow 0x4600 row).bumpVersion 0x4600 row)
  | .gateObj p sub value => n (s.putN (portKey p 3 sub) value)
  | .tribCounter p mem => n (s.tribMemory p mem)
  | .reports rs => n (s.refreshMemory rs)

/-- MIRROR_UPDATE_RECEIVED (R705): reports are taken in any role; an item by a Banked device, in the role generation it was
sent for. -/
def execMirrorUpdateReceived (u : MirrorUpdate) (s : State) : Host.Outcome State Fault Refusal :=
  if s.linked = false then done s
  else
    let s : State := { s with pair := { s.pair with peerGen := u.senderGen } }
    if u.receiverGen ≠ s.num Reg.pairRoleGen then
      done (((s.count Reg.mirrorRoleDiscards).raise 0x090104 0x151000 (mirrorItemNo u.item % 65536)).resync)
    else match u.item with
      | .reports _ => done (s.applyItem u.item)
      | _ => if s.role = 1 then done (s.applyItem u.item) else done s

/-- RESYNC_COMPLETE (R705). -/
def execResyncComplete (s : State) : Host.Outcome State Fault Refusal :=
  if s.linked = true ∧ s.num Reg.pairSync = 1 then done (s.putN Reg.pairSync 2) else done s

/-- COUNTER_REPORT (R708): every 100 µs on a Lit device. -/
def execCounterReport (s : State) : Host.Outcome State Fault Refusal :=
  if s.pair.reportAt + 100000 ≤ s.time.elapsed then
    done (({ s with pair := { s.pair with reportAt := s.time.elapsed } } : State).mirror (.reports s.ownReports))
  else done s

/-- PAIR_HOLDOFF_EXPIRY (R716): the primary asks its partner to hand over. -/
def execPairHoldoffExpiry (s : State) : Host.Outcome State Fault Refusal :=
  match s.pair.holdoff with
  | none => done s
  | some t =>
    if s.revertReady = true ∧ t + s.num Reg.pairHoldoff * 1000000000 ≤ s.time.elapsed then
      let s : State := { s with pair := { s.pair with requested := true, claimCause := 4 } }
      done (s.heartbeat false false true)
    else done s

/-- PAIR_WITNESS_WIRED written: WITNESS is driven low while the device is Lit or on its way to Lit, where it is wired (R714). A
device that lets WITNESS go before the link has returned has not held it, and its peer memory is stale (R710). -/
def State.witnessWired (s : State) (v : Nat) : State :=
  let s := s.saveN Reg.pairWitnessWired v
  let keep := decide (v = 1) || s.linked || s.pair.relinquished
  { s with pair := { s.pair with witnessDrive := v == 1 && (s.role == 2 || s.pair.becoming.isSome), memoryValid := s.pair.memoryValid && keep } }

/-- PAIR_WATCH written: the device's health follows (R717). -/
def State.watchWritten (s : State) (v : Nat) : State := (s.saveN Reg.pairWatch v).healthCheck

/-- PAIR_WATCH_TIMEOUT (R717): every line lane of the bolt has reported LOS or LOL for 10 ms. -/
def execPairWatchTimeout (b : Nat) (s : State) : Host.Outcome State Fault Refusal :=
  if s.boltLinesBad b = true ∧ s.pair.linesBad.getD b s.time.elapsed + 10000000 ≤ s.time.elapsed ∧ b < s.nBolts
      ∧ s.pair.watchBad.contains b = false then
    done ({ s with pair := { s.pair with watchBad := s.pair.watchBad ++ [b] } } : State).healthCheck
  else done s

end Sys2Proof.Machine
end

