-- ==== Sys2Proof/Machine/Counters.lean ====
section
/-! DEFINITION. Machine/Counters.lean: the performance counters (R729 to R737) and the tracer's host objects (R742). -/

namespace Sys2Proof.Machine

/-- The events of R731's table. -/
def countedEvents : List Nat :=
  [0x000, 0x001, 0x002, 0x010, 0x011, 0x012, 0x013, 0x020, 0x021, 0x022, 0x023, 0x024, 0x025, 0x026, 0x027, 0x030, 0x031,
   0x040, 0x041, 0x042, 0x043, 0x050, 0x051, 0x052, 0x060, 0x061, 0x070, 0x071, 0x080, 0x081, 0x090, 0x091, 0x092,
   0x0A0, 0x0A1, 0x0B0]

/-- PC_SEL_i and PC_VAL_i of a bolt (R744). -/
def pcSelKey (b i : Nat) : Key := pcKey b (1 + i)
def pcValKey (b i : Nat) : Key := pcKey b (0x11 + i)

/-- The instant (UPTIME) from which a counter counts what the islands supply in every clock. -/
def pcSince (b i : Nat) : Key := .row 0x1810 b (0x100 + i)

/-- What class `k` of a pipe added from an elapsed instant to now (log entry 11). -/
def State.slotsSince (s : State) (pipe k since : Nat) : Nat :=
  Config.slotCount pipe k s.time.elapsed - Config.slotCount pipe k since

/-- The clocks and the four slot classes of a pipe from an elapsed instant to now: each slot of each clock is in exactly
one class (R732, R733). In order: clocks, retired, wasted, front-starved, back-starved. -/
def State.slotClasses (s : State) (pipe since : Nat) : Nat × Nat × Nat × Nat × Nat :=
  let c := s.slotsSince pipe 0 since
  let r := min (s.slotsSince pipe 1 since) (6 * c)
  let w := min (s.slotsSince pipe 2 since) (6 * c - r)
  let k := min (s.slotsSince pipe 3 since) (6 * c - r - w)
  (c, r, w, 6 * c - r - w - k, k)

/-- What a counter that selects an event of the islands' clocks has counted from an elapsed instant to now. -/
def State.clockedSince (s : State) (b ev since : Nat) : Nat :=
  let e := 2 * b
  let d := 2 * b + 1
  if ev = 0x001 then (s.slotClasses e since).1
  else if ev = 0x002 then (s.slotClasses d since).1
  else if ev = 0x020 then (s.slotClasses e since).2.1
  else if ev = 0x021 then (s.slotClasses e since).2.2.1
  else if ev = 0x022 then (s.slotClasses e since).2.2.2.1
  else if ev = 0x023 then (s.slotClasses e since).2.2.2.2
  else if ev = 0x024 then (s.slotClasses d since).2.1
  else if ev = 0x025 then (s.slotClasses d since).2.2.1
  else if ev = 0x026 then (s.slotClasses d since).2.2.2.1
  else if ev = 0x027 then (s.slotClasses d since).2.2.2.2
  else if ev = 0x070 then min (s.slotsSince e 4 since) (s.slotClasses e since).1
  else if ev = 0x071 then min (s.slotsSince d 4 since) (s.slotClasses d since).1
  else if ev = 0x0A0 then s.slotsSince e 5 since
  else if ev = 0x0A1 then s.slotsSince e 6 since
  else 0

/-- The value of counter i of a bolt, saturating (R53, R729). -/
def State.pcValue (s : State) (b i : Nat) : Nat :=
  min (s.num (pcValKey b i) + s.clockedSince b (s.num (pcSelKey b i)) (s.num (pcSince b i))) 281474976710655

/-- Counter i of a bolt set to 0 at this instant. -/
def State.pcZero (s : State) (b i : Nat) : State := (s.putN (pcValKey b i) 0).putN (pcSince b i) s.time.elapsed

/-- PC_SEL_i (R730, R731). -/
def State.pcSelEff (s : State) (b i v : Nat) : Eff :=
  check s [abortIf (!countedEvents.contains v || ((v == 0x0A0 || v == 0x0A1) && !s.hasSector)) 0x130001]
    (okay ((s.putN (pcSelKey b i) v).pcZero b i))

/-- PC_SEL (R730, R731). -/
def execPcSel (sess b i v : Nat) (s : State) : Host.Outcome State Fault Refusal :=
  hostWrite sess (if i < 16 then blockAddr 0x1810 8 b (1 + i) else 0) v s (s.pcSelEff b i v)

/-- PC_CLEAR (R734): every counter of the mask set to 0 at one instant. -/
def State.pcClearEff (s : State) (b mask : Nat) : Eff :=
  okay (forEach ((List.range 16).filter (fun i => bit mask i)) (fun s i => s.pcZero b i) s)

/-- PC_CLEAR (R734). -/
def execPcClear (sess b mask : Nat) (s : State) : Host.Outcome State Fault Refusal :=
  hostWrite sess (blockAddr 0x1810 8 b 0x21) mask s (s.pcClearEff b mask)

/-- A read of PC_VAL_i (R735): the counter at one instant, which PC_SAMPLED then holds. -/
def State.pcReadEff (s : State) (sess b i : Nat) : Eff :=
  (s.putN (Reg.pcSampled sess) s.now96, .value (.num (s.pcValue b i)))

/-- PC_VAL_READ (R735, R736). -/
def execPcValRead (sess b i : Nat) (s : State) : Host.Outcome State Fault Refusal :=
  hostRead sess (if i < 16 then blockAddr 0x1810 8 b (0x11 + i) else 0) s (s.pcReadEff sess b i)

/-! Tracer records (R742) -/

/-- Whether the record of a number is still held and already written. -/
def State.traceHeld (s : State) (n : Nat) : Bool :=
  let back := (s.num Reg.trNextSeq + 16777216 - n) % 16777216
  decide (1 ≤ back ∧ back ≤ 1024) && (s.tracer.ring.get? (n % 1024)).isSome

/-- TR_SEL_SEQ (R742). -/
def State.traceSelEff (s : State) (sess v : Nat) : Eff :=
  check s [abortIf (!s.traceHeld v) 0x1300C0] (okay (s.putN (Reg.trSelSeq sess) v))

/-- TR_RECORD (R742): the selected record, while it is held. -/
def State.traceReadEff (s : State) (sess : Nat) : Eff :=
  let n := s.num (Reg.trSelSeq sess)
  check s [abortIf (!s.traceHeld n) 0x1300C0] (s, .value (.oct (s.tracer.ring.getD (n % 1024) [])))

end Sys2Proof.Machine
end

