-- ==== Sys2Proof/Machine/MeshOps.lean ====
section
/-! DEFINITION. Machine/MeshOps.lean: the mesh's keys, epochs, hellos and neighbours (R720, R721, R724, R725). -/

namespace Sys2Proof.Machine

/-- MESH_ID (R720): refused while any Twill group or tributary is not STOPPED. -/
def State.meshIdEff (s : State) (v : Nat) : Eff :=
  let busy := (List.range s.nBolts).any (fun b => (List.range 8).any (fun g => !s.stopped (.group b g)))
    || (List.range s.nPorts).any (fun p => s.kind p == 4 && !s.stopped (.port p))
  check s [abortIf busy 0x120001, abortIf (decide (1023 < v)) 0x130001] (okay (s.saveN Reg.meshId v))

/-- MESH_ID (R720). -/
def execMeshId (sess v : Nat) (s : State) : Host.Outcome State Fault Refusal := hostWrite sess 0x152001 v s (s.meshIdEff v)

/-- A key taken from a staging slot (R724, R251): as the current key if none is held, else as the next. -/
def State.meshKeyLoadEff (s : State) (v : Nat) : Eff :=
  if 63 < v then refuse s 0x130001
  else
    let blob := s.oct (Reg.blob v)
    match s.unwrapBlob blob 0xFF (s.num Reg.blobGenDev) with
    | .error step => refuse (s.unwrapFailed none step 0x152000 v) 0x140011
    | .ok k =>
      if k.1 ≠ 2 then refuse s 0x130022
      else if s.mesh.cur.isNone then
        okay (({ s with mesh := { s.mesh with cur := some k.2.2.2 } } : State).save meshBlobCur (.oct blob))
      else okay (({ s with mesh := { s.mesh with next := some k.2.2.2 } } : State).save meshBlobNext (.oct blob))

/-- MESH_KEY_LOAD (R724). -/
def execMeshKeyLoad (sess v : Nat) (s : State) : Host.Outcome State Fault Refusal :=
  hostWrite sess 0x152003 v s (s.meshKeyLoadEff v)

/-- The advance to the next epoch (R724). -/
def State.meshAdvance (s : State) : State :=
  let blob := s.oct meshBlobNext
  let e := s.num Reg.meshEpoch + 1
  let s : State := { s with mesh := { s.mesh with cur := s.mesh.next, next := none } }
  let s := ((s.putO meshBlobCur blob).clear meshBlobNext).saveN Reg.meshEpoch e
  s.raise 0x090201 0x152000 e

/-- MESH_ADVANCE (R724): 1 advances. -/
def State.meshAdvanceEff (s : State) (v : Nat) : Eff :=
  check s
    [ abortIf (v != 1) 0x130001, abortIf s.mesh.next.isNone 0x1200B3, abortIf (s.num Reg.meshEpoch == 0xFFFFFF) 0x1800B0 ]
    (okay s.meshAdvance)

/-- MESH_ADVANCE (R724). -/
def execMeshAdvance (sess v : Nat) (s : State) : Host.Outcome State Fault Refusal :=
  hostWrite sess 0x152005 v s (s.meshAdvanceEff v)

/-! Hellos and neighbours (R725, R726) -/

/-- MESH_HELLO_SEND (R725): a hello on each mesh port, under the current key. -/
def execMeshHelloSend (s : State) : Host.Outcome State Fault Refusal :=
  match s.mesh.cur with
  | none => done s
  | some key =>
    if s.phase ≠ .ready ∨ s.hearth.gap = true ∨ s.hearth.restarting = true then done s
    else
      let body := meshBody 0xFFFF s.meshIdNow (s.num Reg.meshHops) (s.num Reg.meshEpoch) []
      done (forEach ((List.range s.nPorts).filter s.meshPort) (fun s p => s.meshOut p (body ++ meshMac key body)) s)

/-- Whether MESH_NEIGHBOURS lists a mesh ID. -/
def State.neighbour (s : State) (m : Nat) : Bool :=
  decide (m < 1024) && bit ((s.oct Reg.meshNeighbours).getD (m / 8) 0).toNat (7 - m % 8)

/-- Whether a mesh ID was heard within MESH_DEAD. -/
def State.heardLately (s : State) (m : Nat) : Bool :=
  match s.mesh.heard.get? m with
  | some t => decide (s.time.elapsed < t + s.num Reg.meshDead * 1000000000)
  | none => false

/-- MESH_HEARD: bit m at byte m / 8, bit 7 - m % 8. -/
def State.meshHeard (s : State) : Octets :=
  (List.range 128).map (fun i => BitVec.ofNat 8
    (sumOf (fun k => if s.neighbour (8 * i + k) && s.heardLately (8 * i + k) then 2 ^ (7 - k) else 0) (List.range 8)))

/-- A valid hello heard: PARTITION clears when every neighbour declared silent has been heard again. -/
def State.meshHello (s : State) (m : Nat) : State :=
  let was := s.mesh.dead
  let dead := was.filter (fun d => d != m && s.neighbour d)
  let s : State := { s with mesh := { s.mesh with heard := s.mesh.heard.put m s.time.elapsed, dead := dead } }
  if was ≠ [] ∧ dead = [] then s.raise 0x090102 0x152000 (4194304 + m * 4096) else s

/-- MESH_NEIGHBOUR_DEAD (R725): a listed neighbour has sent no valid hello for MESH_DEAD seconds. Each silent neighbour
declares the partition by an event of its own, once. -/
def execMeshNeighbourDead (m : Nat) (s : State) : Host.Outcome State Fault Refusal :=
  let last := s.mesh.heard.getD m 0
  if s.phase ≠ .ready ∨ s.neighbour m = false ∨ s.mesh.dead.contains m = true
      ∨ s.time.elapsed < last + s.num Reg.meshDead * 1000000000 then done s
  else
    let s : State := { s with mesh := { s.mesh with dead := s.mesh.dead ++ [m] } }
    done (s.raise 0x090102 0x152000 (8388608 + 4194304 + m * 4096))

end Sys2Proof.Machine
end

