-- ==== Sys2Proof/Machine/Transport.lean ====
section
/-! DEFINITION. Machine/Transport.lean: the objects of the transports that do more than hold a value (R582, R586, R587). -/

namespace Sys2Proof.Machine

/-- SESS_CLOSE (R582, R586): 1 closes the session, after the response. -/
def State.sessCloseEff (s : State) (k v : Nat) : Eff :=
  check s [abortIf (k == 0 || v != 1) 0x130001] (okay (s.markClose k 1))

/-- SESS_CLOSE (R582). -/
def execSessClose (sess k v : Nat) (s : State) : Host.Outcome State Fault Refusal :=
  hostWrite sess (blockAddr 0x1110 9 k 6) v s (s.sessCloseEff k v)

/-- T1S_ENABLE (R562, R568, R582): at 0 its sessions close after the response; what is queued by then still goes out, and the
port is silent from then on (log entry 66). -/
def State.t1sEff (s : State) (v : Nat) : Eff :=
  let s := s.saveN Reg.t1sEnable v
  okay (if v = 0 then forEach (rangeFrom 1 4) (fun s n => s.markClose n 4) { s with t1s := { s.t1s with plain := [], ending := true } } else s)

/-- T1S_ENABLE (R568, R582). -/
def execT1sEnable (sess v : Nat) (s : State) : Host.Outcome State Fault Refusal := hostWrite sess 0x110103 v s (s.t1sEff v)

/-- MGMT_IN (R582, R587): at 0 the sessions of the port close. -/
def State.mgmtInEff (s : State) (p v : Nat) : Eff :=
  let s := s.putN (Reg.pMgmtIn p) v
  okay (if v = 0 then forEach (rangeFrom 5 4) (fun s n =>
    if s.num (Reg.sessPort n) = p then s.markClose n 4 else s) s else s)

/-- MGMT_IN (R587). -/
def execMgmtIn (sess p v : Nat) (s : State) : Host.Outcome State Fault Refusal :=
  hostWrite sess (portAddr p 0 0x2B) v s (s.mgmtInEff p v)

/-- SILSY_ETYPE (R586): which EtherTypes it accepts; the new one is in use after the response. -/
def State.etypeEff (s : State) (v : Nat) : Eff :=
  check s [abortIf (decide (v < 0x0600) || ([0x8808, 0x888E, 0x88E5, 0x88F7] : List Nat).contains v) 0x130001] (okay (s.putN etypeNext v))

/-- SILSY_ETYPE (R586). -/
def execSilsyEtype (sess v : Nat) (s : State) : Host.Outcome State Fault Refusal := hostWrite sess 0x110102 v s (s.etypeEff v)

end Sys2Proof.Machine
end

