-- ==== Sys2Proof/Machine/Writes.lean ====
section
/-! DEFINITION. Machine/Writes.lean: a write of any object (R103 to R108, R777): which effect the object gives it, and what
values it takes. -/

namespace Sys2Proof.Machine

/-- The objects held per session (R114, R153, R273, R606, R624, R647, R667, R744). -/
def perSession (addr : Nat) : Bool :=
  let idx := addr / 256
  let sub := addr % 256
  (decide (0x4000 ≤ idx ∧ idx < 0x4900) && (sub == 1 || sub == 4 || sub == 6 || decide (0x10 ≤ sub)))
    || idx == 0x1311 || addr == 0x133002 || addr == 0x132101 || decide (0x132103 ≤ addr ∧ addr ≤ 0x132105)
    || decide (0x134003 ≤ addr ∧ addr ≤ 0x134005) || idx == 0x1701 || addr == 0x162001 || addr == 0x162002
    || addr == 0x180101 || addr == 0x180102 || addr == 0x180201

/-- Where an object's value is kept for a session. -/
def objKey (n addr : Nat) : Key := if perSession addr then .ses n addr else .dev addr

/-- A plain write: the value is kept, and recorded where it is retained (R113). -/
def State.keep (s : State) (n addr : Nat) (v : Val) : Eff := okay (s.save (objKey n addr) v)

/-- A plain write of a number from a range (log entry 52). -/
def State.within (s : State) (n addr v lo hi : Nat) : Eff :=
  check s [abortIf (decide (v < lo ∨ hi < v)) 0x130001] (s.keep n addr (.num v))

/-- A plain write of a signed number from a range. -/
def State.withinI (s : State) (n addr v : Nat) (lo hi : Int) : Eff :=
  check s [abortIf (decide (i24 v < lo ∨ hi < i24 v)) 0x130001] (s.keep n addr (.num v))

/-- A number written to object `k:sub` of a port. -/
def State.portWrite (s : State) (n p k sub addr v : Nat) : Eff :=
  if k = 0 then
    if sub = 0x10 then s.kindEff p v
    else if sub = 0x11 then s.within n addr v 0 7
    else if sub = 0x12 then s.within n addr v 1 14
    else if sub = 0x13 then s.parentEff p v
    else if sub = 0x14 then s.keep n addr (.num v)
    else if sub = 0x15 then s.crossEff p v
    else if sub = 0x16 then s.within n addr v 64 16000
    else if sub = 0x17 then s.within n addr v 0 1
    else if sub = 0x18 then s.within n addr v 0 2
    else if sub = 0x19 then s.limitEff p v
    else if sub = 0x1A then s.xoffEff p v
    else if sub = 0x1B then s.xonEff p v
    else if sub = 0x1D then s.within n addr v 1 65535
    else if sub = 0x1F then s.within n addr v 0 2
    else if sub = 0x20 then s.fwdEff p v
    else if sub = 0x21 then s.within n addr v 1 63
    else if sub = 0x22 then s.within n addr v 400 40000
    else if sub = 0x25 then s.within n addr v 0 1
    else if sub = 0x27 then s.within n addr v 0 1000000
    else if sub = 0x2A then s.within n addr v 1 65535
    else if sub = 0x2B then s.mgmtInEff p v
    else if sub = 0x30 then s.within n addr v 0 7
    else if sub = 0x31 then s.within n addr v 1 3
    else if sub = 0x32 then check s [abortIf (decide (3 < v ∧ v ≠ 0xFF)) 0x130001] (s.keep n addr (.num v))
    else if sub = 0x33 then check s [abortIf (v == 0) 0x140001] (s.keep n addr (.num v))
    else if sub = 0x36 then s.within n addr v 16 4096
    else s.keep n addr (.num v)
  else if k = 1 then s.within n addr v 0 0
  else if 0x11 ≤ sub ∧ sub ≤ 0x14 then s.bindEff p (sub - 0x11) v
  else if sub = 0x15 then s.txAnEff p v
  else if sub = 0x18 then check s [abortIf (decide (2 ^ 32 ≤ v)) 0x130001] (s.keep n addr (.num v))
  else if 0x20 ≤ sub ∧ sub ≤ 0x23 then s.phaseRowEff p sub v
  else if sub = 0x24 then s.twArmEff p v
  else if sub = 0x40 then s.within n addr v 0 3
  else if sub = 0x41 then s.withinI n addr v (-32) 127
  else if sub = 0x42 then s.within n addr v 1 255
  else if 0x44 ≤ sub ∧ sub ≤ 0x46 then s.adminEff p sub v
  else s.keep n addr (.num v)

/-- A number written to object `off:sub` of a bolt. -/
def State.boltWrite (s : State) (n b off sub addr v : Nat) : Eff :=
  if off = 5 then
    if sub = 1 then s.cmEff b v
    else if sub = 2 then s.pnWarnEff b true v
    else if sub = 3 then s.pnWarnEff b false v
    else if sub = 4 then s.panelLimitEff b v
    else s.panelWarnEff b v
  else if off = 9 then
    if sub = 1 then s.policyEff b v
    else if sub = 2 then s.within n addr v 0 1000000
    else if sub = 3 then s.within n addr v 1 65535
    else if sub = 4 then s.within n addr v 1 3600
    else s.flushEff b v
  else if off = 0x0A then s.filterEff b sub v
  else s.keep n addr (.num v)

/-- A number written to a window: the cursor, an operation, or a staging field, which is checked when it is committed. The
operands of WRAP are committed nowhere and are checked at the write (R258). -/
def State.windowWrite (s : State) (n win sub addr v : Nat) : Eff :=
  if sub = 1 then s.selectRow n win v
  else if sub = 5 then s.opEff n win v none
  else if addr = 0x480015 then s.wrapEff n v
  else if addr = 0x480012 then check s [abortIf (!(decide (v < 8) || v == 0xFF)) 0x130001] (s.keep n addr (.num v))
  else if addr = 0x480013 then s.within n addr v 1 4
  else s.keep n addr (.num v)

/-- A number written to an object of a lane. -/
def State.laneWrite (s : State) (n lane sub addr v : Nat) : Eff :=
  if sub = 0x10 then s.rateEff lane v
  else if sub = 0x11 ∨ sub = 0x12 ∨ sub = 0x16 then s.within n addr v 0 3
  else if sub = 0x13 then s.ffeEff lane v
  else if sub = 0x14 then s.within n addr v 0 16
  else if sub = 0x15 then s.sleepEff lane v
  else s.within n addr v 0 2

/-- SM_CH_SIZE (R653): only while the channel is disabled. -/
def State.chSizeEff (s : State) (n c addr v : Nat) : Eff :=
  check s [ abortIf (s.num (Reg.smChEnable c) == 1) 0x120001,
    abortIf (!([0, 8192, 16384, 32768] : List Nat).contains v) 0x130001 ] (s.keep n addr (.num v))

/-- An object of a side-memory range (R654, R657). -/
def State.rangeWrite (s : State) (n sub addr v : Nat) : Eff :=
  if sub = 0x10 then s.within n addr v 0 6
  else if sub = 0x11 then s.within n addr v 0 1
  else if sub = 0x13 then check s [abortIf (v % 8 != 0) 0x130001] (s.keep n addr (.num v))
  else s.keep n addr (.num v)

/-- A number written to any other object of the device. -/
def State.deviceWrite (s : State) (n addr v : Nat) : Eff :=
  if addr = 0x100402 then okay (s.putN Reg.tjPeak (s.num Reg.tjNow))
  else if addr = 0x100403 then s.withinI n addr v (-400) 1600
  else if addr = 0x110102 then s.etypeEff v
  else if addr = 0x110103 then s.t1sEff v
  else if addr = 0x110105 then s.within n addr v 10 65535
  else if addr = 0x120002 then s.timeSetEff v
  else if addr = 0x120003 then s.timeAdjEff v
  else if addr = 0x122001 then s.ppsEff v
  else if addr = 0x122002 then s.within n addr v 1 500000
  else if addr = 0x130001 then s.lcEff n v
  else if addr = 0x131104 then s.within n addr v 0 15
  else if addr = 0x131107 then s.within n addr v 0 7
  else if addr = 0x131108 then s.actionEff n v
  else if addr = 0x132006 then s.idcEff v
  else if addr = 0x132102 then s.stmtEff n v
  else if addr = 0x134006 then s.dbgCmdEff n v
  else if addr = 0x134101 then s.within n addr v 0 4
  else if addr = 0x134105 then s.dbgHearthEff n v
  else if addr = 0x136004 then check s [abortIf (v % 3072 != 0) 0x130001] (s.keep n addr (.num v))
  else if addr = 0x136006 then s.fwEff n v none
  else if addr = 0x140004 then s.evtPopEff v
  else if addr = 0x141002 then s.almAckEff v
  else if addr = 0x141004 then s.holdClearEff n v
  else if addr = 0x144008 then s.bkClearEff n v
  else if addr = 0x150002 then s.hearthCmdEff v
  else if addr = 0x151001 then s.pairJoinEff v
  else if addr = 0x151003 then okay (s.witnessWired v)
  else if addr = 0x151005 then okay (s.watchWritten v)
  else if addr = 0x151004 then s.within n addr v 1 3600
  else if addr = 0x151006 then s.pairCmdEff v
  else if addr = 0x152001 then s.meshIdEff v
  else if addr = 0x152003 then s.meshKeyLoadEff v
  else if addr = 0x152005 then s.meshAdvanceEff v
  else if addr = 0x152006 then s.within n addr v 2 63
  else if addr = 0x152007 then s.within n addr v 1 3600
  else if addr = 0x162001 then s.within n addr v 0 7
  else if addr = 0x170105 then s.jobGoEff n v
  else if addr = 0x180002 then s.within n addr v 0 20
  else if addr = 0x180004 then s.within n addr v 0 3
  else if addr = 0x180101 then s.traceSelEff n v
  else s.keep n addr (.num v)

/-- The effect of a number written to an object (R107). The debug memories of 0x6000 have no layout in the rules: a write
to them does nothing (log entry 7). -/
def State.numWrite (s : State) (n addr v : Nat) : Eff :=
  let idx := addr / 256
  let sub := addr % 256
  if 0x6000 ≤ idx ∧ idx < 0x7000 then okay s
  else if isFnCtrl addr then s.fnWrite n addr v
  else if 0x3000 ≤ idx ∧ idx < 0x4000 then s.portWrite n ((idx - 0x3000) / 4) ((idx - 0x3000) % 4) sub addr v
  else if 0x2000 ≤ idx ∧ idx < 0x2800 then s.boltWrite n ((idx - 0x2000) / 256) (idx % 256) sub addr v
  else if 0x4000 ≤ idx ∧ idx < 0x4900 then s.windowWrite n idx sub addr v
  else if 0x1900 ≤ idx ∧ idx < 0x1A00 then s.laneWrite n (idx - 0x1900) sub addr v
  else if 0x1110 ≤ idx ∧ idx < 0x1119 then s.sessCloseEff (idx - 0x1110) v
  else if 0x1210 ≤ idx ∧ idx < 0x1214 then
    (if sub = 6 then s.tsiPopEff (idx - 0x1210) v else s.within n addr v 0 3)
  else if 0x1600 ≤ idx ∧ idx < 0x1602 then
    (if sub = 1 then s.chEnableEff (idx - 0x1600) v else s.chSizeEff n (idx - 0x1600) addr v)
  else if 0x1610 ≤ idx ∧ idx < 0x1618 then s.rangeWrite n sub addr v
  else if 0x1810 ≤ idx ∧ idx < 0x1818 then
    (if sub = 0x21 then s.pcClearEff (idx - 0x1810) v else s.pcSelEff (idx - 0x1810) (sub - 1) v)
  else if 0x1580 ≤ idx ∧ idx < 0x15C0 then
    check s [abortIf (decide (1023 < v ∧ v ≠ 0xFFFF)) 0x130001] (s.keep n addr (.num v))
  else s.deviceWrite n addr v

/-- MESH_NEIGHBOURS (R725): PARTITION clears where no listed neighbour is left silent. -/
def State.neighboursEff (s : State) (n : Nat) (bytes : Octets) : Eff :=
  let s := (s.keep n 0x152101 (.oct bytes)).1
  match s.mesh.dead with
  | [] => okay s
  | d :: _ =>
    let dead := s.mesh.dead.filter s.neighbour
    let s : State := { s with mesh := { s.mesh with dead := dead } }
    okay (if dead = [] then s.raise 0x090102 0x152000 (4194304 + d * 4096) else s)

/-- The effect of bytes written to an object. -/
def State.octWrite (s : State) (n addr : Nat) (bytes : Octets) : Eff :=
  let idx := addr / 256
  if addr = 0x136005 then s.chunkEff n bytes
  else if addr = 0x162003 then s.accWriteEff n bytes
  else if addr = 0x152101 then s.neighboursEff n bytes
  else if 0x132003 ≤ addr ∧ addr ≤ 0x132005 then
    check s [abortIf (s.num Reg.idcState == 1) 0x110001] (s.keep n addr (.oct bytes))
  else if 0x3000 ≤ idx ∧ idx < 0x4000 ∧ (idx - 0x3000) % 4 = 0 ∧ addr % 256 = 0x35 then
    check s [abortIf (decide (16 ≤ (bytes.getD 0 0).toNat)) 0x130001] (s.keep n addr (.oct bytes))
  else s.keep n addr (.oct bytes)

/-- A write of words to an object, under everything that decides a request (R103 to R108, R139). -/
def State.writeEff (s : State) (n addr : Nat) (words : List Nat) (pad : Nat) : Eff :=
  let ty := match Dict.entry addr with | some e => e.ty | none => .u24
  let (v, form) := if 0x600000 ≤ addr ∧ addr < 0x700000 then (Val.num 0, none) else ty.decode addr words pad
  match v with
  | .num x =>
    if addr = 0x133004 then legacyAfter n (s.request n addr true x form (s.legacyEff n x))
    else s.request n addr true x form (s.numWrite n addr x)
  | .oct bytes =>
    if 0x1380 ≤ addr / 256 ∧ addr / 256 < 0x1390 ∧ addr % 256 = 1 then s.enrolWrite n (addr / 256 - 0x1380) bytes
    else s.request n addr true 0 form (s.octWrite n addr bytes)

/-- OBJECT_WRITE (R107). -/
def execObjectWrite (sess addr : Nat) (words : List Nat) (pad : Nat) (s : State) : Host.Outcome State Fault Refusal :=
  hostDone sess s (s.writeEff sess addr words pad)

end Sys2Proof.Machine
end

