-- ==== Sys2Proof/Machine/Reads.lean ====
section
/-! DEFINITION. Machine/Reads.lean: a read of any object (R107, R777): the value it holds, or what the device computes at the
read. -/

namespace Sys2Proof.Machine

def b2n (x : Bool) : Nat := if x then 1 else 0

/-- Rows now marked faulted in a bolt (R52): its table rows, its group-filter words, and the streams whose fault it
found. -/
def State.rowsFaulted (s : State) (b : Nat) : Nat :=
  let wins := [0x4000, 0x4100, 0x4200, 0x4300, 0x4400, 0x4500, 0x4600]
  sumOf (fun w => ((s.rowsListed w).filter (fun r => rowBolt w r == some b && s.rowState w r == 2)).length) wins
    + ((List.range 171).filter (fun i => s.num (groupFault b i) != 0)).length
    + ((s.rowsListed 0x4700).filter (fun r => s.rowState 0x4700 r == 2 && s.num (streamFault r) == b + 1)).length

/-- The hot slots of a pipe that hold keystream (R79). -/
def PipeState.hotUsed (x : PipeState) : Nat := (x.hot.filter (fun h => decide (0 < h.count))).length

/-- PAUSED_BY_PEER (R364): bit q for a priority, bit 0 alone for PAUSE. -/
def State.pausedByPeer (s : State) (p : Nat) : Nat :=
  if ((s.port p).peerPause.get? 8).isSome then 1
  else sumOf (fun q => if ((s.port p).peerPause.get? q).isSome then 2 ^ q else 0) (List.range 8)

/-- What a read of object `k:sub` of a port gives where it is computed. -/
def State.portRead (s : State) (p k sub : Nat) : Option Val :=
  if k = 0 ∧ sub = 1 then none
  else if k = 1 then
    if 0x10 ≤ sub ∧ sub ≤ 0x12 then some (s.rd (portKey (s.interfaceOf p) 1 sub))
    else if sub = 0x13 then some (.num (min (s.ingressBytes p) 16777215))
    else if sub = 0x15 then some (.num (s.pausedByPeer p))
    else if sub = 0x30 then some (.num (s.tribSlots p).length)
    else none
  else if k = 3 then
    if sub = 0x4B then some (.num (s.gateMask p))
    else if sub = 0x4C then some (.num (if s.num (Reg.pOperLen p) = 0 then 0 else (s.gateAt p 1 s.nowNs).1))
    else none
  else none

/-- What a read of object `off:sub` of a bolt gives where it is computed. -/
def State.boltRead (s : State) (b off sub : Nat) : Option Val :=
  if 0x20 ≤ off ∧ off < 0x28 then
    let l := off - 0x20
    let inGroup := (List.range 8).any (fun g => s.running (.group b g) && bit (s.num (Reg.tgLanes (b * 1024 + g))) l)
    if !inGroup then some (.num 0)
    else if sub = 1 then some (.num (s.tlStatusNow (8 * b + l)))
    else none
  else if off = 2 ∧ sub = 5 then some (.num (s.rowsFaulted b))
  else if off = 3 ∧ sub = 1 then some (.num (s.pipe b .e).hotUsed)
  else if off = 3 ∧ sub = 2 then some (.num (s.pipe b .d).hotUsed)
  else if off = 6 ∧ sub = 9 then
    some (.num (min (s.dummyRounds b .e + s.dummyRounds b .d) 281474976710655))
  else if off = 9 ∧ sub = 6 then
    some (.num ((s.rowsListed 0x4300).filter (fun r => r / 65536 == b && s.rowState 0x4300 r == 1)).length)
  else none

/-- A read of FN_CTRL or FN_STATE in a window (R777, R778). With a calendar or reserved row selected FN_STATE reads 0xFF, and
FN_CTRL 0, which the spec does not state (log entry 95). -/
def State.windowFnEff (s : State) (n win sub : Nat) : Eff :=
  match s.fnSeen n win with
  | .error c => refuse s c
  | .ok none => (s, .value (.num (if sub = 9 then 0xFF else 0)))
  | .ok (some f) => (s, .value (.num (if sub = 9 then s.fnState f else s.num (fnCodeKey f))))

/-- Whether an address is FN_CTRL or FN_STATE of a window whose rows are functions (R778). -/
def windowFn (addr : Nat) : Bool :=
  ([0x4400, 0x4600, 0x4700] : List Nat).contains (addr / 256) && (addr % 256 == 8 || addr % 256 == 9)

/-- What a read of a window's object gives a session (R116, R288). -/
def State.windowRead (s : State) (n win sub : Nat) : Option Val :=
  let row := s.cursor n win
  let held := row != 0xFFFFFF
  if sub = 2 then some (.num (if held then s.rowStateNow win row else 0))
  else if sub = 3 then some (.num (if held then s.num (.row win row 3) else 0))
  else if win = 0x4100 ∧ sub = 0x13 then
    some (.num (emBucketOf (s.oct (stage n win 0x10)) (s.num (stage n win 0x11))))
  else if win = 0x4300 ∧ sub = 0x16 then
    some (.num (stationBucket (s.num (stage n win 0x10)) (bytesToNat (s.oct (stage n win 0x11)))))
  else none

/-- LN_STATUS (R489) and LN_OWNER (R490). -/
def State.lnStatusNow (s : State) (n : Nat) : Nat :=
  let x := s.lane n
  b2n x.signal * 8388608 + b2n (s.num (Reg.lnState n) == 3) * 4194304 + b2n (s.rateConflict n) * 2097152
    + b2n (s.laneRefFault n) * 1048576 + b2n x.prbsSync * 524288 + b2n x.kept * 262144
def State.lnOwnerNow (s : State) (n : Nat) : Nat :=
  match s.lanePort n with
  | some p => 4194304 + p * 4096
  | none => match s.laneGroup n with
    | some g => 8388608 + g * 512
    | none => if s.mirrorLane n then 12582912 else 0

/-- SLOT_STATE of an image slot (R616): what verification found, then running, then preferred. -/
def State.imageState (s : State) (k : Nat) : Nat :=
  let i := s.imageSlot k
  if i.state ≠ 2 then i.state
  else if s.boot.preferred = k then 4
  else if s.hearth.slotA = k ∨ s.hearth.slotB = k then 3
  else 2

/-- BK_COMP and BK_LATCHED (R694). -/
def State.bkCompNow (s : State) : Nat :=
  let b := s.backup
  b2n b.vbatLow.out * 8 + b2n b.mainPresent * 4 + b2n b.tempHigh.out * 2 + b2n b.senseIn.out
def State.bkLatchedNow (s : State) : Nat :=
  let b := s.backup
  b2n b.vbatLow.latched * 8 + b2n b.tempHigh.latched * 2 + b2n b.senseIn.latched

/-- PAIR_STATUS (R727). -/
def State.pairStatusNow (s : State) : Nat :=
  b2n s.pair.partition * 8388608 + b2n s.healthy * 4194304 + b2n s.pair.peerHealthy * 2097152
    + b2n s.pair.witnessDrive * 1048576 + b2n (s.pair.witnessHigh && !s.pair.witnessDrive) * 524288
    + b2n s.pair.memoryValid * 262144 + s.pair.peerRole * 65536

/-- What a read of an object of the device gives where it is computed. -/
def State.deviceRead (s : State) (n addr : Nat) : Option Val :=
  if addr = 0x100002 then some (.num s.part.code)
  else if addr = 0x100003 then some (.num s.siliconStep)
  else if addr = 0x100004 then some (.num s.part.presence)
  else if addr = 0x100201 then some (.num s.time.elapsed)
  else if addr = 0x100301 then some (.num s.lc)
  else if addr = 0x100302 then some (.num s.otp.codeword.toNat)
  else if addr = 0x100303 then some (.num s.tokensUsed)
  else if addr = 0x100304 then some (.num s.otp.dieId.toNat)
  else if addr = 0x100305 then some (.oct s.deviceId)
  else if addr = 0x110001 then some (.num (0x58 + s.addrSel % 4))
  else if addr = 0x110101 then some (.oct (natToBytes 6 s.otp.mgmtMac.toNat))
  else if addr = 0x110201 then some (.num n)
  else if addr = 0x111001 then some (.num 2)
  else if addr = 0x120001 then some (.num s.now96)
  else if addr = 0x120007 then some (.num (toI24 (Int.tdiv s.time.slew (nsUnits : Int))))
  else if addr = 0x130002 then some (.num s.lcResume)
  else if addr = 0x131003 then some (.num s.proposals.length)
  else if addr = 0x132001 then some (.oct (if s.hasIdentity then s.idPubEd else List.replicate 32 0))
  else if addr = 0x132002 then some (.oct (if s.hasIdentity then s.idPubMl else List.replicate 1952 0))
  else if addr = 0x134007 then some (.num s.rightsNow)
  else if addr = 0x134008 then some (.num (match s.trust.cert with | some c => time96 c.notAfter | none => 0))
  else if addr = 0x136001 then some (.num s.hearth.active)
  else if addr = 0x136002 then some (.num s.floor)
  else if addr = 0x136003 then some (.num (b2n (s.floor == 64)))
  else if addr = 0x140001 then some (.num s.events.queue.length)
  else if addr = 0x140002 then
    some (.oct (match s.events.queue with | r :: _ => r.bytes | [] => List.replicate 21 0))
  else if addr = 0x140003 then some (.num (match s.events.queue with | r :: _ => r.seq | [] => 0))
  else if addr = 0x141005 then some (.num s.evidenceCount)
  else if addr = 0x141006 then some (.num (b2n s.evidenceFull))
  else if addr = 0x144001 then some (.num s.backup.rtc)
  else if addr = 0x144002 then some (.num s.backup.bkState)
  else if addr = 0x144004 then some (.num s.bkCompNow)
  else if addr = 0x144005 then some (.num s.bkLatchedNow)
  else if addr = 0x144006 then some (.num s.backup.tl)
  else if addr = 0x144007 then some (.num (s.backup.tr - s.backup.tl))
  else if addr = 0x151009 then some (.num s.pairId)
  else if addr = 0x15100C then some (.num s.pairStatusNow)
  else if addr = 0x152001 then some (.num s.meshIdNow)
  else if addr = 0x152004 then some (.num (b2n s.mesh.cur.isSome * 2 + b2n s.mesh.next.isSome))
  else if addr = 0x152102 then some (.oct s.meshHeard)
  else if addr = 0x170001 then some (.num s.ucodeVersion)
  else if addr = 0x170002 then some (.oct s.ucodeHash)
  else if addr = 0x170003 then some (.num s.retort.queue.length)
  else none

/-- What a read of an object gives where it is computed at the read; none where it is stored. -/
def State.computed (s : State) (n addr : Nat) : Option Val :=
  let idx := addr / 256
  let sub := addr % 256
  if isFnCtrl addr ∧ ¬(0x4000 ≤ idx ∧ idx < 0x4900) then none
  else if 0x3000 ≤ idx ∧ idx < 0x4000 then s.portRead ((idx - 0x3000) / 4) ((idx - 0x3000) % 4) sub
  else if 0x2000 ≤ idx ∧ idx < 0x2800 then s.boltRead ((idx - 0x2000) / 256) (idx % 256) sub
  else if 0x4000 ≤ idx ∧ idx < 0x4900 then s.windowRead n idx sub
  else if 0x1900 ≤ idx ∧ idx < 0x1A00 then
    (if sub = 0x21 then some (.num (s.lnStatusNow (idx - 0x1900)))
     else if sub = 0x22 then some (.num (s.lnOwnerNow (idx - 0x1900)))
     else if sub = 0x25 then some (.num (s.ctleInForce (idx - 0x1900))) else none)
  else if 0x1210 ≤ idx ∧ idx < 0x1214 then
    let q := (s.tsIn.getD (idx - 0x1210) {}).queue
    (if sub = 2 then some (.num q.length)
     else match q with
      | (seq, rising, t, half) :: _ =>
        if sub = 3 then some (.num t)
        else if sub = 4 then some (.num (if half then 0x8000 else 0))
        else if sub = 5 then some (.num (b2n rising * 8388608 + seq))
        else none
      | [] => none)
  else if 0x1361 ≤ idx ∧ idx < 0x1363 then
    let i := s.imageSlot (idx - 0x1361)
    (if sub = 1 then some (.num (s.imageState (idx - 0x1361)))
     else if sub = 2 then some (.num (imageVersion i))
     else if sub = 3 then some (.num (imageSv i))
     else if sub = 4 then some (.oct (imageHash i))
     else none)
  else if 0x1380 ≤ idx ∧ idx < 0x1390 then
    let c := idx - 0x1380
    (if sub = 2 then some (.num (match s.cred c with | some (r, _, _) => r | none => 0))
     else if sub = 3 then
      some (.oct (match s.cred c with
        | some _ => (sha512 ((s.oct (Reg.credEnrol c)).drop 16)).take 32
        | none => List.replicate 32 0))
     else none)
  else if 0x1430 ≤ idx ∧ idx < 0x1435 then
    let x := s.flueKind (idx - 0x1430)
    (if sub = 6 then some (.num (b2n x.outA * 2 + b2n x.outB)) else none)
  else if 0x1441 ≤ idx ∧ idx < 0x1444 then
    let c := s.backup.comp (idx - 0x1441)
    (if sub = 1 then some (.num c.first) else if sub = 2 then some (.num c.trips) else none)
  else s.deviceRead n addr

/-- The effect of a read of an object: reads that do something, values computed, and stored values. A command object reads
its failing code, which only FN_CTRL keeps. -/
def State.readValue (s : State) (n addr : Nat) : Eff :=
  let idx := addr / 256
  if 0x6000 ≤ idx ∧ idx < 0x7000 then
    let (x, s) := s.draw
    (s, .value (.num (x % 16777216)))
  else if windowFn addr then s.windowFnEff n idx (addr % 256)
  else if addr = 0x131001 then s.dcNonceEff
  else if addr = 0x134001 then s.dbgNonceEff
  else if addr = 0x134103 then s.dbgDataEff n
  else if addr = 0x162003 then s.accReadEff n none
  else if addr = 0x180102 then s.traceReadEff n
  else if 0x1810 ≤ idx ∧ idx < 0x1818 ∧ 0x11 ≤ addr % 256 ∧ addr % 256 ≤ 0x20 then s.pcReadEff n (idx - 0x1810) (addr % 256 - 0x11)
  else match s.computed n addr with
    | some v => (s, .value v)
    | none => (s, .value (s.rd (objKey n addr)))

/-- A read of an object under everything that decides a request (R107, R139). -/
def State.readEff (s : State) (n addr : Nat) : Eff := s.request n addr false 0 none (s.readValue n addr)

end Sys2Proof.Machine
end

