-- ==== Sys2Proof/Machine/Serve.lean ====
section
/-! DEFINITION. Machine/Serve.lean: Silsy requests, from their arrival to their response (R554 to R562). -/

namespace Sys2Proof.Machine

/-! The parts of a message (R554, R555, R558) -/

def msgOp (m : Octets) : Nat := fieldAt m 0 3 / 2097152
def msgTag (m : Octets) : Nat := fieldAt m 0 3 / 16384 % 128
def msgPad (m : Octets) : Nat := fieldAt m 0 3 / 4096 % 4
def msgLen (m : Octets) : Nat := fieldAt m 0 3 % 4096
def msgAddr (m : Octets) : Nat := fieldAt m 3 3
def msgValue (m : Octets) : List Nat := bytesToWords ((m.drop 6).take (m.length - 9))
def msgTrailer (m : Octets) : Nat := fieldAt m (m.length - 3) 3

/-- Whether an object holds an OCTETS value. -/
def octetsObject (addr : Nat) : Bool :=
  match Dict.entry addr with
  | some e => (match e.ty with | .octets _ => true | _ => false)
  | none => false

/-- What is malformed about a request (R559). A PAD of 3, and a PAD of a value without words, fit no value of R557. -/
def msgMalformed (m : Octets) : Bool :=
  decide (m.length % 3 ≠ 0)
    || (msgOp m != 1 && msgOp m != 2)
    || (msgOp m == 1 && msgLen m != 0)
    || decide (1103 < msgLen m) || decide (m.length ≠ 3 * (msgLen m + 3))
    || (msgPad m != 0 && (msgLen m == 0 || msgPad m == 3 || !octetsObject (msgAddr m)))
    || msgTrailer m / 256 != 0

/-- The abort a message meets before every abort of R139: its CRC, then its form (R559). Fewer bytes than a message without
value words have no trailer to check. -/
def msgFault (m : Octets) : Option Nat :=
  if m.length < 9 then some 0x150012
  else if crc8 (m.take (m.length - 3)) ≠ msgTrailer m % 256 then some 0x150011
  else if msgMalformed m then some 0x150012
  else none

/-- The abort response to a message: TAG and address as they were received (R556, R559). -/
def abortResponse (m : Octets) (code : Nat) : Octets := silsyMessage 6 (msgTag m) 0 (msgAddr m) [code]

/-- The response to a request that was executed (R556, R557). -/
def response (m : Octets) (a : Answer) : Octets :=
  match a with
  | .abort c => abortResponse m c
  | .ok => silsyMessage 5 (msgTag m) 0 (msgAddr m) []
  | .value v =>
    let ty := match Dict.entry (msgAddr m) with | some e => e.ty | none => .u24
    let (ws, pad) := ty.encode v
    silsyMessage 4 (msgTag m) pad (msgAddr m) ws

/-! Responses -/

/-- A response made ready for private reads (R565), with the IBI that I3C_RESP_IBI asks for (R566). -/
def State.readyI3c (s : State) (bytes : Octets) : State :=
  let s := s.setSession 0 { s.session 0 with unread := bytes }
  if s.num Reg.i3cRespIbi = 1 ∧ s.i3c.intEnabled = true then
    { s with i3c := { s.i3c with respIbi := some [0, 0, 0, msgTag bytes] } }
  else s

/-- A response sent where its request came from: on I3C for session 0, protected in a network session (R574, R579). -/
def State.sendResponse (s : State) (n : Nat) (bytes : Octets) : State :=
  if n = 0 then s.readyI3c bytes else s.sendSecured n 5 bytes

/-- A CRC error answered on I3C is counted (R586). -/
def State.countCrc (s : State) (n code : Nat) : State :=
  if n = 0 ∧ code = 0x150011 then s.count Reg.i3cCrcErrors else s

/-! Requests -/

/-- The effect a request asks for: a read, or a write of its words (R556). -/
def State.requestEff (s : State) (n : Nat) (m : Octets) : Eff :=
  if msgOp m = 1 then s.readEff n (msgAddr m) else s.writeEff n (msgAddr m) (msgValue m) (msgPad m)

/-- A request executed (R560 to R562): one with the TAG of the last completed request gets the stored response again.
An answer that Hearth is busy completes no request. -/
def State.execute (s : State) (n : Nat) (m : Octets) : State :=
  match msgFault m with
  | some c => (s.countCrc n c).sendResponse n (abortResponse m c)
  | none =>
    if (s.session n).lastTag = some (msgTag m) then s.sendResponse n (s.session n).stored
    else
      let r := s.requestEff n m
      let t := answered n r
      let out := response m r.2
      let t := if r.2 = .abort 0x170001 ∨ t.open? n = false then t
        else t.setSession n { t.session n with lastTag := some (msgTag m), stored := out }
      (t.sendResponse n out).afterResponse

/-- The first waiting request of a session is executed, unless Hearth is busy or away (R561, R583). -/
def State.serveOne (s : State) (n : Nat) : State :=
  match (s.session n).waiting with
  | [] => s
  | (via, m) :: rest =>
    if s.answers n = false ∨ s.hearth.gap = true ∨ s.hearth.restarting = true then s
    else
      let x := s.session n
      (s.setSession n { x with waiting := rest, via := if via.isSome then via else x.via }).execute n m

/-- The waiting request that was received first, of whichever session, is executed (R109, R561; log entry 56). -/
def State.serve (s : State) : State :=
  match s.arrivals.find? (fun n => !(s.session n).waiting.isEmpty) with
  | none => { s with arrivals := [] }
  | some n =>
    if s.answers n = false ∨ s.hearth.gap = true ∨ s.hearth.restarting = true then s
    else ({ s with arrivals := s.arrivals.erase n } : State).serveOne n

/-- A request refused before it reaches execution, answered with an abort. A LEGACY_GO write has its side effects all the same
(R275). -/
def State.turnedAway (s : State) (n : Nat) (m : Octets) (c : Nat) : State :=
  if msgFault m = none ∧ msgOp m = 2 ∧ Key.dev (msgAddr m) = Reg.legacyGo then (legacyAfter n (s, .abort c)).1 else s

/-- A whole request received in a session: it waits, or is answered at once where Hearth is busy (R583) or four of a
network session wait already (R561). -/
def State.receive (s : State) (n : Nat) (via : Option Via) (m : Octets) : State :=
  let x := s.session n
  let busy := s.hearth.gap || s.hearth.restarting
  if busy || decide (4 ≤ x.waiting.length) then
    let c := (msgFault m).getD (if busy then 0x170001 else 0x170002)
    (((s.setSession n { x with via := if via.isSome then via else x.via }).turnedAway n m c).countCrc n c).sendResponse n (abortResponse m c)
  else
    let before := if x.waiting.isEmpty then s.arrivals.filter (fun k => k != n) else s.arrivals
    ({ s with arrivals := before ++ [n] } : State).setSession n { x with waiting := x.waiting ++ [(via, m)] }

end Sys2Proof.Machine
end

