-- ==== Sys2Proof/Machine/I3c.lean ====
section
/-! DEFINITION. Machine/I3c.lean: the I3C target (R563 to R567). -/

namespace Sys2Proof.Machine

/-- Whether the target answers on the bus at all: in internal reset it does not (R762). -/
def State.i3cAwake (s : State) : Bool := s.phase != .reset

/-- Whether the target is addressed by a private transfer or a direct CCC: it holds a dynamic address (R563). -/
def State.i3cAddressed (s : State) : Bool := s.i3cAwake && s.num Reg.i3cDynAddr != 0

/-- Whether a request is whole: the words its LEN asks for have come; a LEN above 1,103 asks for none (R559, R565). -/
def msgWhole (m : Octets) : Bool :=
  decide (3 ≤ m.length) && (decide (1103 < msgLen m) || decide (3 * (msgLen m + 3) ≤ m.length))

/-- A private write taken in: it begins a request, discarding what is unread of the last response, or continues one. -/
def State.i3cWrite (s : State) (bytes : Octets) : State :=
  let x := s.session 0
  let s := if x.partialMsg = [] ∧ x.unread ≠ [] then s.count Reg.i3cRespDiscarded else s
  let m := x.partialMsg ++ bytes
  let s := s.setSession 0 { x with unread := [], partialMsg := if msgWhole m then [] else m }
  if msgWhole m then s.receive 0 none m else s

/-- The end of HDR mode: the CCCs but ENTHDR0, and private transfers without a command code, are sent in SDR (log entry 57). -/
def State.leaveHdr (s : State) : State := { s with i3c := { s.i3c with hdr := false } }

/-- A private transfer addressed to the target: in HDR-DDR mode under its command code, another being NACKed; in SDR without
one (R563). The target does not see a transfer in a mode that the bus is not in. -/
def State.privateTransfer (s : State) (code : Option Nat) (own : Nat) (f : State → State) : State :=
  if s.i3cAddressed = false then s
  else match code with
    | none => f s.leaveHdr
    | some c => if s.i3c.hdr = false then s else if c = own then f s else s.emit .nack

/-- I3C_PRIVATE_WRITE (R563, R565): NACKed while a request executes. -/
def execI3cPrivateWrite (w : I3cWrite) (s : State) : Host.Outcome State Fault Refusal :=
  done (s.privateTransfer w.code 0x01 (fun s =>
    if w.bytes = [] then s else if (s.session 0).waiting ≠ [] then s.emit .nack else s.i3cWrite w.bytes))

/-- The next bytes of a ready response, up to the read length; NACKed where none is ready. -/
def State.i3cRead (s : State) (len : Nat) : State :=
  let x := s.session 0
  if x.waiting ≠ [] ∨ x.unread = [] then s.emit .nack
  else
    let n := min len s.i3c.mrl
    (s.setSession 0 { x with unread := x.unread.drop n }).emit (.i3c ((x.unread.take n).map BitVec.toNat))

/-- I3C_PRIVATE_READ (R563, R565). -/
def execI3cPrivateRead (r : I3cRead) (s : State) : Host.Outcome State Fault Refusal :=
  done (s.privateTransfer r.code 0x81 (fun s => s.i3cRead r.len))

/-- IBI_ACCEPTED (R566): a response's IBI goes ahead of an event's. -/
def execIbiAccepted (s : State) : Host.Outcome State Fault Refusal :=
  if s.i3cAddressed = false ∨ s.i3c.intEnabled = false then done s
  else match s.i3c.respIbi with
    | some b => done (({ s with i3c := { s.i3c with respIbi := none } } : State).emit (.ibi b))
    | none =>
      match s.i3c.ibi with
      | some b => done (({ s with i3c := { s.i3c with ibi := none } } : State).emit (.ibi b))
      | none => done s

/-! Common command codes (R563, R564) -/

/-- The provisional ID (R564). The manufacturer ID has no value in the rules: it is an open constant (log entry 7). -/
def State.provisionalId (s : State) : Nat :=
  bytesToNat (Config.layout 4 []) % 32768 * 2 ^ 33 + s.part.code % 65536 * 65536 + s.pairId % 2 * 16384 + s.addrSel % 4 * 4096

/-- A dynamic address taken, 1 to 127. -/
def State.takeAddress (s : State) (dyn : Nat) : State :=
  if 1 ≤ dyn ∧ dyn ≤ 127 then s.putN Reg.i3cDynAddr dyn else s

/-- ENTDAA (R563, R564): a target with no dynamic address sends its provisional ID, BCR and DCR, and takes one. -/
def execEntdaa (dyn : Nat) (s : State) : Host.Outcome State Fault Refusal :=
  if s.i3cAwake = false then done s
  else
    let s := s.leaveHdr
    if s.num Reg.i3cDynAddr ≠ 0 then done s
    else done ((s.emit (.i3c ((natToBytes 6 s.provisionalId).map BitVec.toNat ++ [0x26, 0]))).takeAddress dyn)

/-- SETDASA (R563): to the static address, while the target holds no dynamic one. -/
def execSetdasa (static dyn : Nat) (s : State) : Host.Outcome State Fault Refusal :=
  if s.i3cAwake = false then done s
  else
    let s := s.leaveHdr
    if static ≠ 0x58 + s.addrSel % 4 ∨ s.num Reg.i3cDynAddr ≠ 0 then done s else done (s.takeAddress dyn)

/-- RSTDAA (R563). -/
def execRstdaa (s : State) : Host.Outcome State Fault Refusal :=
  if s.i3cAwake = false then done s else done (s.leaveHdr.putN Reg.i3cDynAddr 0)

/-- Target events enabled or disabled (R563, R566): bit 0 interrupts, bit 3 Hot-Join (log entry 57). -/
def State.i3cEvents (s : State) (bits : Nat) (on : Bool) : State :=
  { s with i3c := { s.i3c with intEnabled := if bit bits 0 then on else s.i3c.intEnabled, hotJoin := if bit bits 3 then on else s.i3c.hotJoin } }

/-- ENEC (R563, R566). -/
def execEnec (bits : Nat) (s : State) : Host.Outcome State Fault Refusal :=
  if s.i3cAwake = false then done s else done (s.leaveHdr.i3cEvents bits true)

/-- DISEC (R563). -/
def execDisec (bits : Nat) (s : State) : Host.Outcome State Fault Refusal :=
  if s.i3cAwake = false then done s else done (s.leaveHdr.i3cEvents bits false)

/-- SETMWL (R565): the controller sets lower values than 3,328. -/
def execSetmwl (v : Nat) (s : State) : Host.Outcome State Fault Refusal :=
  if s.i3cAwake = false then done s
  else
    let s := s.leaveHdr
    done { s with i3c := { s.i3c with mwl := min v 3328 } }

/-- SETMRL (R565). -/
def execSetmrl (v : Nat) (s : State) : Host.Outcome State Fault Refusal :=
  if s.i3cAwake = false then done s
  else
    let s := s.leaveHdr
    done { s with i3c := { s.i3c with mrl := min v 3328 } }

/-- The answer of a direct read CCC. -/
def State.ccc (s : State) (bytes : List Nat) : State := if s.i3cAddressed then s.leaveHdr.emit (.i3c bytes) else s

/-- GETMWL (R564). -/
def execGetmwl (s : State) : Host.Outcome State Fault Refusal := done (s.ccc [s.i3c.mwl / 256, s.i3c.mwl % 256])

/-- GETMRL (R564), with the IBI payload size (log entry 57). -/
def execGetmrl (s : State) : Host.Outcome State Fault Refusal := done (s.ccc [s.i3c.mrl / 256, s.i3c.mrl % 256, 4])

/-- GETPID (R564). -/
def execGetpid (s : State) : Host.Outcome State Fault Refusal :=
  done (s.ccc ((natToBytes 6 s.provisionalId).map BitVec.toNat))

/-- GETBCR (R564). -/
def execGetbcr (s : State) : Host.Outcome State Fault Refusal := done (s.ccc [0x26])

/-- GETDCR (R564). -/
def execGetdcr (s : State) : Host.Outcome State Fault Refusal := done (s.ccc [0])

/-- `n` bytes that no rule states. -/
def State.freeBytes (s : State) (n : Nat) : List Nat × State :=
  let (bs, s) := s.drawBytes n
  (bs.map BitVec.toNat, s)

/-- GETSTATUS (R563): its two bytes are free. -/
def execGetstatus (s : State) : Host.Outcome State Fault Refusal :=
  let (bs, s) := s.freeBytes 2
  done (s.ccc bs)

/-- GETMXDS (R563): its two bytes are free. -/
def execGetmxds (s : State) : Host.Outcome State Fault Refusal :=
  let (bs, s) := s.freeBytes 2
  done (s.ccc bs)

/-- GETCAPS (R564): the first byte names HDR-DDR as the only HDR mode (log entry 57); the rest is free. -/
def execGetcaps (s : State) : Host.Outcome State Fault Refusal :=
  let (bs, s) := s.freeBytes 2
  done (s.ccc (1 :: bs))

/-- ENTHDR0 (R563). -/
def execEnthdr0 (s : State) : Host.Outcome State Fault Refusal :=
  if s.i3cAwake = false then done s else done { s with i3c := { s.i3c with hdr := true } }

/-- UNSUPPORTED_CCC (R563): NACKed when direct, ignored when broadcast. The code is one the table of R563 does not name. -/
def execUnsupportedCcc (_code : Nat) (direct : Bool) (s : State) : Host.Outcome State Fault Refusal :=
  if s.i3cAwake = false then done s
  else if direct = true ∧ s.num Reg.i3cDynAddr ≠ 0 then done (s.leaveHdr.emit .nack) else done s.leaveHdr

end Sys2Proof.Machine
end

