-- ==== Sys2Proof/Machine/Hand.lean ====
section
/-! DEFINITION. Machine/Hand.lean: the frames of network sessions and their handshake (R575 to R585). -/

namespace Sys2Proof.Machine

/-! Where a frame came from -/

/-- The sender's MAC address. -/
def viaMac (v : Via) : Nat := match v with | .t1s m => m | .inband _ m _ _ => m | .mesh _ m _ => m

/-- The arrival port in-band, 0xFFFF on the field network (R586). -/
def viaPort (v : Via) : Nat := match v with | .t1s _ => 0xFFFF | .inband p _ _ _ => p | .mesh p _ _ => p

/-- A token of the in-band bucket: 20,000 a second, depth 64. -/
def State.takeToken (s : State) : Bool × State :=
  let level := min 64000000000 (s.bucket.level + 20000 * (s.time.elapsed - s.bucket.at_))
  if level < 1000000000 then (false, { s with bucket := { level := level, at_ := s.time.elapsed } })
  else (true, { s with bucket := { level := level - 1000000000, at_ := s.time.elapsed } })

/-- A frame under the in-band rate limit (R573). -/
def State.rateLimited (s : State) (f : State → State) : State :=
  match s.takeToken with
  | (true, s) => f s
  | (false, s) => s.count Reg.ibDiscards

/-- A Silsy frame on a port reaches Hearth under MGMT_IN and the in-band rate limit (R571, R573). -/
def State.admitInband (s : State) (p : Nat) (f : State → State) : State :=
  if s.num (Reg.pMgmtIn p) = 0 then s.count Reg.ibDiscards else s.rateLimited f

/-- A Silsy frame on its transport (R568, R571, R573): none comes over a transport or port that is off. One out of a mesh
frame was admitted with it. -/
def State.admitVia (s : State) (via : Via) (f : State → State) : State :=
  if s.phase ≠ .ready then s
  else match via with
    | .t1s _ => if s.num Reg.t1sEnable = 0 then s else f s
    | .inband p _ _ _ =>
      if s.nPorts ≤ p ∨ s.kind p = 0 ∨ s.stopped (.port p) = true ∨ (s.kind p = 4 ∧ s.num (Reg.pTribPayload p) ≠ 3) then s
      else s.admitInband p f
    | .mesh _ _ _ => f s

/-- Whether a frame came from the session's peer: its MAC address, and in-band its port (R580). -/
def State.fromPeer (s : State) (n : Nat) (via : Via) : Bool :=
  bytesToNat (s.oct (Reg.sessPeer n)) == viaMac via && s.num (Reg.sessPort n) == viaPort via

/-- Whether a number is that of a network session in a state. -/
def State.netSession (s : State) (n st : Nat) : Bool := decide (1 ≤ n ∧ n ≤ 8) && s.num (Reg.sessState n) == st

/-- The session numbers of a transport (R578). -/
def viaSessions (v : Via) : List Nat := match v with | .t1s _ => [1, 2, 3, 4] | _ => [5, 6, 7, 8]

/-! Refusals (R581) -/

/-- A HELLO or AUTH refused that no session is held for: REFUSE, HANDSHAKE_FAILS and event 0x07_0403. -/
def State.refuseFrame (s : State) (n cred : Nat) (via : Via) (code : Nat) : State :=
  ((s.sendClear via 8 n (natToBytes 3 code)).count Reg.handshakeFails).raise 0x070403 ((0x1110 + n) * 256)
    (n * 1048576 + cred % 16 * 65536 + code % 256 * 256)

/-! HELLO (R578, R581) -/

/-- The lowest free session of a transport. -/
def State.freeSessionOf (s : State) (via : Via) : Option Nat :=
  (viaSessions via).find? (fun n => s.num (Reg.sessState n) == 0)

/-- The device's jobs of a handshake, in the order they run (R578, R585): X25519 key pair and shared secret, encapsulation,
Ed25519 and ML-DSA-65 signing. Their operands never leave the device. -/
def helloJobs (n : Nat) : List Job := [3, 3, 8, 1, 5].map (fun op => ⟨.hello n, op, [], [], []⟩)

/-- Whether Hearth is in a switch-over or a restart. -/
def State.hearthBusy (s : State) : Bool := s.hearth.gap || s.hearth.restarting

/-- A HELLO received: refused in the order of R581, or given a session. A device whose codeword is INVALID opens none (R597): it
refuses as one without identity keys (log entry 119). -/
def State.helloIn (s : State) (via : Via) (body : Octets) : State :=
  let c := (body.getD 0 0).toNat
  if s.hearthBusy then s.refuseFrame 0 c via 0x170001
  else if s.hasIdentity = false ∨ s.lc = 15 then s.refuseFrame 0 c via 0x110003
  else if s.cred c = none then s.refuseFrame 0 c via 0x140004
  else if s.credHas c 0 = false then s.refuseFrame 0 c via 0x110004
  else match s.freeSessionOf via with
    | none => s.refuseFrame 0 c via 0x180003
    | some n =>
      if body.length ≠ 1233 then s.refuseFrame 0 c via 0x150010
      else
        let s := ((s.putN (Reg.sessState n) 1).putN (Reg.sessCred n) c).putO (Reg.sessPeer n) (natToBytes 6 (viaMac via))
        let s := (s.putN (Reg.sessPort n) (viaPort via)).setSession n
          { via := some via,
            hs := some { cred := c, body := body, reply := [], shared := [], sentAt := none, authSig := none } }
        { s with retort := { s.retort with queue := s.retort.queue ++ helloJobs n } }

/-- HELLO (R578, R581). -/
def execHello (via : Via) (body : Octets) (s : State) : Host.Outcome State Fault Refusal :=
  done (s.admitVia via (fun s => s.helloIn via body))

/-- Whether Retort still holds a job of an owner. -/
def State.jobsOf (s : State) (o : JobOwner) : Bool :=
  s.retort.queue.any (fun j => j.owner == o)
    || (match s.retort.running with | some j => j.owner == o | none => false)
    || (match s.retort.clearing with | some j => j.owner == o | none => false)

/-- T of R578: the HELLO body, the HELLO_REPLY body without its signatures, the device identity. -/
def State.transcript (s : State) (h : Handshake) : Octets := h.body ++ h.reply ++ s.deviceId

/-- HELLO_REPLY made and sent (R578): a public key that Retort refuses, or a low-order result, fails the handshake. -/
def State.helloReply (s : State) (n : Nat) (via : Via) (h : Handshake) : State :=
  let hostX := (h.body.drop 1).take 32
  let hostK := (h.body.drop 33).take 1184
  let (priv, s) := s.drawBytes 32
  if x25519Status priv hostX ≠ 0 ∨ allZero hostK = true ∨ kemKeyOk hostK = false then s.refuseHandshake n 0x150010
  else
    let (m, s) := s.drawBytes 32
    let (ct, secret) := Config.kemEncaps hostK m
    let (nonce, s) := s.drawBytes 16
    let h := { h with reply := x25519 priv xBase ++ ct ++ nonce, shared := x25519 priv hostX ++ secret,
                      sentAt := some s.time.elapsed }
    let (ed, ml, s) := s.identitySign (sha512 (ascii "NZ-SILSY-DEV" ++ s.transcript h))
    (s.setSession n { s.session n with hs := some h }).sendClear via 2 n (h.reply ++ ed ++ ml)

/-- HELLO_REPLY_SENT (R578). -/
def execHelloReplySent (n : Nat) (s : State) : Host.Outcome State Fault Refusal :=
  let x := s.session n
  if s.phase ≠ .ready ∨ s.hearthBusy = true ∨ s.netSession n 1 = false ∨ s.jobsOf (.hello n) = true then done s
  else match x.via, x.hs with
    | some via, some h => if h.sentAt.isSome then done s else done (s.helloReply n via h)
    | _, _ => done s

/-! AUTH (R578, R581) -/

/-- The host's half of a handshake in time: 10 s after HELLO_REPLY. -/
def State.authDue (s : State) (h : Handshake) : Bool :=
  match h.sentAt with
  | some t => decide (s.time.elapsed ≤ t + 10000000000)
  | none => false

/-- An AUTH received: its two verifications are queued, or it is out of order or late and refused. A frame that is not of
the handshake's peer frees nothing (log entry 55). -/
def State.authIn (s : State) (n : Nat) (via : Via) (body : Octets) : State :=
  match (s.session n).hs with
  | some h =>
    if s.netSession n 1 = false ∨ s.fromPeer n via = false then s.refuseFrame 0 0 via 0x150010
    else if h.authSig.isSome ∨ s.authDue h = false ∨ body.length ≠ 3373 then s.refuseHandshake n 0x150010
    else
      let s := s.setSession n { s.session n with hs := some { h with authSig := some (body.take 64, body.drop 64) } }
      { s with retort := { s.retort with queue := s.retort.queue ++ [⟨.auth n, 2, [], [], []⟩, ⟨.auth n, 6, [], [], []⟩] } }
  | none => s.refuseFrame 0 0 via 0x150010

/-- The lengths that a Silsy frame's bytes can have: a frame of the minimum size may be padded (R575). -/
def frameLengths (len least : Nat) : List Nat := if 46 < len then [len] else ((List.range (len + 1)).filter (least ≤ ·)).reverse

/-- A fragment joined to its message (R577): the whole message with its last fragment. `follows` that a DATA fragment's
sequence number follows the one before. -/
def State.joinFragment (s : State) (n frag : Nat) (follows : Bool) (body : Octets) : Option Octets × State :=
  let x := s.session n
  let idx := frag % 128
  let last := decide (128 ≤ frag)
  let lost := (x.nextFrag != 0 && (idx != x.nextFrag || !follows)) || (x.nextFrag == 0 && idx != 0) || decide (8 ≤ idx)
  let s := if lost then s.count Reg.authFails else s
  if idx ≠ 0 ∧ (idx ≠ x.nextFrag ∨ follows = false ∨ 8 ≤ idx) then
    (none, s.setSession n { x with partialMsg := [], nextFrag := 0 })
  else
    let m := if idx = 0 then body else x.partialMsg ++ body
    if last then (some m, s.setSession n { x with partialMsg := [], nextFrag := 0 })
    else (none, s.setSession n { x with partialMsg := m, nextFrag := idx + 1 })

/-- A frame of an AUTH: its fragment joined, and the whole message taken in. One of no handshake under way with its sender is
refused with its last fragment (R581). -/
def State.authFrame (s : State) (n : Nat) (via : Via) (frag : Nat) (body : Octets) : State :=
  if s.netSession n 1 = true ∧ s.fromPeer n via = true then
    match s.joinFragment n frag true body with
    | (some m, s) => s.authIn n via m
    | (none, s) => s
  else if 128 ≤ frag then s.authIn 9 via []
  else s

/-- A message in clear, as the frames it comes in (R573, R577). -/
def State.byFrames (s : State) (via : Via) (m : Octets) (f : State → Nat → Octets → State) : State :=
  forEach (fragments m) (fun s x => s.admitVia via (fun s => f s x.1 x.2)) s

/-- AUTH (R573, R578). -/
def execAuth (n : Nat) (via : Via) (body : Octets) (s : State) : Host.Outcome State Fault Refusal :=
  done (s.byFrames via body (fun s frag bytes => s.authFrame n via frag bytes))

/-- The session opened: its keys (R579), its objects, event 0x07_0401, and AUTH_OK (R578). -/
def State.openSession (s : State) (n : Nat) (h : Handshake) : State :=
  let t := s.transcript h
  let keys := hkdf512 (h.body.drop 1217 ++ h.reply.drop 1120) h.shared (ascii "NZ-SILSY-KEYS" ++ sha512 t) 64
  let s := s.setSession n { via := (s.session n).via, keyIn := keys.take 32, keyOut := keys.drop 32, lastValid := s.time.elapsed }
  let s := (s.putN (Reg.sessState n) 2).putN (Reg.sessOpened n) s.now96
  let s := s.raise 0x070401 ((0x1110 + n) * 256) (n * 1048576 + h.cred % 16 * 65536 + s.num (Reg.sessPort n))
  s.sendSecured n 4 []

/-- AUTH_OK_SENT (R578, R597): both halves must verify. -/
def execAuthOkSent (n : Nat) (s : State) : Host.Outcome State Fault Refusal :=
  if s.phase ≠ .ready ∨ s.hearthBusy = true ∨ s.netSession n 1 = false ∨ s.jobsOf (.auth n) = true then done s
  else match (s.session n).hs with
    | none => done s
    | some h =>
      match h.authSig with
      | none => done s
      | some (ed, ml) =>
        if s.lc ≠ 15 ∧ s.credSigned h.cred (sha512 (ascii "NZ-SILSY-CLI" ++ s.transcript h)) ed ml = true then done (s.openSession n h)
        else done (s.refuseHandshake n 0x150010)

/-- AUTH_TIMEOUT (R581). -/
def execAuthTimeout (n : Nat) (s : State) : Host.Outcome State Fault Refusal :=
  if s.phase ≠ .ready ∨ s.netSession n 1 = false then done s
  else match (s.session n).hs with
    | none => done s
    | some h => if h.sentAt.isNone ∨ h.authSig.isSome ∨ s.authDue h = true then done s else done (s.refuseHandshake n 0x150010)

/-! Protected frames (R577, R579, R580) -/

/-- The body of a protected frame, none where no reading of its length verifies. -/
def openProtected (key fr : Octets) : Option Octets :=
  let iv := fieldAt fr 4 8
  match (frameLengths fr.length 28).find? (fun n =>
      gcmTag key iv (fr.take 12) ((fr.take (n - 16)).drop 12) == (fr.take n).drop (n - 16)) with
  | some n => if n < 28 then none else some (gcmCrypt key iv ((fr.take (n - 16)).drop 12))
  | none => none

/-- A frame discarded under R580. -/
def State.authFail (s : State) : State := (s.count Reg.authFails).count authSecond

/-- A protected frame of an open session accepted, with its body; or discarded (R580). -/
def State.acceptFrame (s : State) (n : Nat) (via : Via) (fr : Octets) : Option Octets × State :=
  let x := s.session n
  let seq := fieldAt fr 4 8
  if s.netSession n 2 = false ∨ s.fromPeer n via = false ∨ seq ≤ x.seqIn then (none, s.authFail)
  else match openProtected x.keyIn fr with
    | none => (none, s.authFail)
    | some body => (some body, s.setSession n { x with seqIn := seq, lastValid := s.time.elapsed })

/-- A DATA frame received: checked, deciphered, joined, and its request taken in. -/
def State.dataIn (s : State) (n : Nat) (via : Via) (fr : Octets) : State :=
  let before := (s.session n).seqIn
  match s.acceptFrame n via fr with
  | (none, s) => s
  | (some body, s) =>
    match s.joinFragment n (fieldAt fr 3 1) (fieldAt fr 4 8 == before + 1) body with
    | (none, s) => s
    | (some m, s) => s.receive n (some via) m

/-- Whether bytes are a Silsy frame of a kind and session (R575). -/
def silsyIs (fr : Octets) (kind n : Nat) : Bool := fieldAt fr 0 1 == 1 && fieldAt fr 1 1 == kind && fieldAt fr 2 1 == n

/-- DATA_FRAME_RECEIVED (R580). -/
def execDataFrameReceived (n : Nat) (via : Via) (fr : Octets) (s : State) : Host.Outcome State Fault Refusal :=
  if silsyIs fr 5 n then done (s.admitVia via (fun s => s.dataIn n via fr)) else done s

/-- A CLOSE frame received (R582). -/
def State.closeIn (s : State) (n : Nat) (via : Via) (fr : Octets) : State :=
  match s.acceptFrame n via fr with
  | (none, s) => s
  | (some _, s) => s.closeSession n 0 false

/-- CLOSE_RECEIVED (R580, R582). -/
def execCloseReceived (n : Nat) (via : Via) (fr : Octets) (s : State) : Host.Outcome State Fault Refusal :=
  if silsyIs fr 6 n then done (s.admitVia via (fun s => s.closeIn n via fr)) else done s

/-- SESSION_IDLE_EXPIRY (R582). -/
def execSessionIdleExpiry (n : Nat) (s : State) : Host.Outcome State Fault Refusal :=
  if s.phase ≠ .ready ∨ s.netSession n 2 = false
      ∨ s.time.elapsed < (s.session n).lastValid + s.num Reg.sessIdle * 1000000000 then done s
  else done (s.closeSession n 2 true)

/-! PLAIN (R570, R584) -/

/-- The answer of a PLAIN request: a read of an identity object, or the abort of R584 (session 9 stands for none), with what a
LEGACY_GO write does though refused (R275). -/
def State.plainEff (s : State) (m : Octets) : Eff :=
  match msgFault m with
  | some c => refuse s c
  | none =>
    if msgOp m = 1 then s.readEff 9 (msgAddr m)
    else
      let r := s.request 9 (msgAddr m) true 0 none (okay s)
      if Key.dev (msgAddr m) = Reg.legacyGo then legacyAfter 9 r else r

/-- A unicast answer to a broadcast PLAIN request, which waits for its random delay (R570). -/
def State.plainLater (s : State) (via : Via) (n : Nat) (body : Octets) : State :=
  let fs := (fragments body).map (fun f => s.ownFrame (viaMac via) none (silsyHeader 7 n f.1 0 ++ f.2))
  if s.num Reg.t1sEnable = 0 then s else { s with t1s := { s.t1s with plain := s.t1s.plain ++ fs } }

/-- A PLAIN message received and answered. -/
def State.plainIn (s : State) (n : Nat) (via : Via) (broadcast : Bool) (m : Octets) : State :=
  let r := s.plainEff m
  let out := response m r.2
  if broadcast then r.1.plainLater via n out else r.1.sendClear via 7 n out

/-- A fragment of a message in clear of no session: session 9 holds what has come of it, from one sender. -/
def State.joinClear (s : State) (via : Via) (frag : Nat) (body : Octets) : Option Octets × State :=
  let x := s.session 9
  s.setSession 9 { x with via := some via } |>.joinFragment 9 frag (x.via == some via) body

/-- A frame of a PLAIN message. -/
def State.plainFrame (s : State) (n : Nat) (via : Via) (broadcast : Bool) (frag : Nat) (body : Octets) : State :=
  match s.joinClear via frag body with
  | (some m, s) => s.plainIn n via broadcast m
  | (none, s) => s

/-- PLAIN_RECEIVED (R570, R573, R584). -/
def execPlainReceived (n : Nat) (via : Via) (broadcast : Bool) (m : Octets) (s : State) : Host.Outcome State Fault Refusal :=
  done (s.byFrames via m (fun s frag bytes => s.plainFrame n via broadcast frag bytes))

/-! Silsy frames by kind (R575, R576) -/

/-- The body of a PLAIN frame: padding ends where its message ends. -/
def plainBody (fr : Octets) : Octets :=
  let b := fr.drop 12
  if fr.length ≤ 46 then b.take (3 * (msgLen b + 3)) else b

/-- A Silsy frame for the device (R576): kinds that the host does not send are ignored; AUTH_OK is one of R580. -/
def State.silsyIn (s : State) (via : Via) (broadcast : Bool) (fr : Octets) : State :=
  let kind := fieldAt fr 1 1
  let n := fieldAt fr 2 1
  let frag := fieldAt fr 3 1
  if fr.length < 12 ∨ fieldAt fr 0 1 ≠ 1 then s
  else if broadcast ∧ kind ≠ 7 then s
  else if kind = 1 then
    match s.joinClear via frag (fr.drop 12) with
    | (some m, s) => s.helloIn via m
    | (none, s) => s
  else if kind = 3 then
    s.authFrame n via frag (fr.drop 12)
  else if kind = 5 then s.dataIn n via fr
  else if kind = 6 then s.closeIn n via fr
  else if kind = 7 then
    s.plainFrame n via broadcast frag (plainBody fr)
  else if kind = 4 then s.authFail
  else s

end Sys2Proof.Machine
end

