-- ==== Sys2Proof/Machine/Net.lean ====
section
/-! DEFINITION. Machine/Net.lean: the field network, in-band Silsy and the mesh, from a frame's arrival on (R569 to R574,
R722, R723). -/

namespace Sys2Proof.Machine

/-! The mesh (R722, R723) -/

/-- The host recorded for a pair of destination and inner session. -/
def State.meshHostOf (s : State) (dst n : Nat) : Option Via :=
  (s.mesh.hosts.find? (fun h => h.1 == dst && h.2.1 == n)).map (fun h => h.2.2)

/-- A host's mesh frame entered into the mesh (R722), from its version byte on: the host is recorded for the destination
and the inner session. -/
def State.meshHost (s : State) (via : Via) (fr : Octets) : State :=
  let dst := fieldAt fr 1 2
  let inner := fr.drop 9
  let n := fieldAt inner 2 1
  let keep := s.mesh.hosts.filter (fun h => !(h.1 == dst && h.2.1 == n))
  let s : State := { s with mesh := { s.mesh with hosts := keep ++ [(dst, n, via)] } }
  if dst = s.meshIdNow then s.silsyIn via false inner else s.meshSend dst inner

/-- Whether an inner frame is an answer of a device: by its kind, and a PLAIN message by its OP (R556, R576). -/
def innerReturns (fr : Octets) : Bool :=
  let kind := fieldAt fr 1 1
  kind == 2 || kind == 4 || kind == 8 || (kind == 7 && decide (4 ≤ fieldAt fr 12 1 / 32))

/-- The inner frame of a mesh frame for this device: returned to the host recorded for its pair (R722), a HELLO_REPLY and a
refusal of a HELLO to the host of the latest HELLO; or the device's own, as in-band Silsy. -/
def State.meshInner (s : State) (p mac src : Nat) (inner : Octets) (whole : Octets) : State :=
  let kind := fieldAt inner 1 1
  let n := fieldAt inner 2 1
  let own := match (s.session n).via with | some (.mesh _ _ x) => decide (x = src ∧ 1 ≤ n ∧ n ≤ 8) | _ => false
  let host := if kind = 2 then s.meshHostOf src 0
    else match s.meshHostOf src n with
      | some h => some h
      | none => if kind = 8 then s.meshHostOf src 0 else none
  let returns := innerReturns inner || ((kind == 5 || kind == 6) && !own && host.isSome)
  if returns then
    match host with
    | some via => s.sendVia via whole
    | none => s
  else s.silsyIn (.mesh p mac src) false inner

/-- The bytes of a mesh frame without its MAC, where some reading of its length verifies under a key (R575, R721). -/
def meshVerified (key fr : Octets) : Option Octets :=
  match (frameLengths fr.length 25).find? (fun n =>
      decide (25 ≤ n) && meshMac key (fr.take (n - 16)) == (fr.take n).drop (n - 16)) with
  | some n => some (fr.take (n - 16))
  | none => none

/-- A verified mesh frame of an epoch in force: its bytes without the MAC, and whole (R723). -/
def State.meshForward (s : State) (p mac : Nat) (body : Octets) (tag : Octets) : State :=
  let dst := fieldAt body 1 2
  let src := fieldAt body 3 2
  let hops := fieldAt body 5 1
  let route := s.num (.dev ((0x1580 + dst / 16) * 256 + 1 + dst % 16))
  if dst = s.meshIdNow then s.meshInner p mac src (body.drop 9) body
  else if dst = 0xFFFF then s.meshHello src
  else if hops ≤ 1 then s.count Reg.meshHopExpired
  else if 1023 < dst ∨ s.nPorts ≤ route ∨ s.meshPort route = false then s.count Reg.meshNoRoute
  else (s.meshOut route (patchAt body 5 (natToBytes 1 (hops - 1)) ++ tag)).count Reg.meshForwarded

/-- A mesh frame received on a line port, from its version byte on: checked in the order of R723. -/
def State.meshIn (s : State) (p : Nat) (tagged : Bool) (mac : Nat) (fr : Octets) : State :=
  let e := fieldAt fr 6 3
  let cur := s.num Reg.meshEpoch
  let key := if e = cur then s.mesh.cur else s.mesh.next
  if s.kind p = 3 ∧ tagged = false then s.count Reg.meshAuthFails
  else if e < cur then s.count Reg.meshStaleEpoch
  else if cur + 1 < e then (s.count Reg.meshJumps).raiseOnce 0x090202 0x152000 (fieldAt fr 3 2 % 1024 * 16384)
  else match key.bind (fun k => meshVerified k fr) with
    | none => s.count Reg.meshAuthFails
    | some body =>
      let s := if e = cur then s else s.meshAdvance
      s.meshForward p mac body ((fr.drop body.length).take 16)

/-! In-band (R571 to R573) -/

/-- A frame handed to Hearth from a port: an Ethernet frame without its FCS (R571 to R573). -/
def State.inbandIn (s : State) (p : Nat) (bs : Octets) (tagged : Bool) : State :=
  let mine := s.silsyFrame bs
  let mesh := s.silsyBroadcast bs
  let fr := bs.drop (etherAt bs 1 12 + 2)
  if s.phase ≠ .ready ∨ s.nPorts ≤ p ∨ s.kind p = 0 ∨ s.stopped (.port p) = true ∨ (mine || mesh) = false then s
  else if s.kind p = 4 ∧ s.num (Reg.pTribPayload p) ≠ 3 then s
  else if mesh = true ∧ silsyVersion bs ≠ 2 then s.count Reg.ibDiscards
  else
    let via : Via := .inband p (frameSrc bs) ((outerTag bs).map (fun t => (fieldAt bs 12 2, t))) tagged
    s.admitInband p (fun s =>
      if mine then s.silsyIn via false fr
      else if s.kind p = 1 ∨ s.kind p = 2 then s.meshHost via fr
      else s.meshIn p tagged (frameSrc bs) fr)

/-- Frames taken off the data path reach Hearth (R355). -/
def State.drainHearth (s : State) : State :=
  let frs := s.hearthIn
  forEach frs (fun s x => s.inbandIn x.1 x.2.1 x.2.2) { s with hearthIn := [] }

/-- INBAND_SILSY_RECEIVED (R571). -/
def execInbandSilsyReceived (p : Nat) (fr : Octets) (tagged : Bool) (s : State) : Host.Outcome State Fault Refusal :=
  done (s.inbandIn p fr tagged)

/-- MESH_FRAME_RECEIVED (R572, R723): on a line port. -/
def execMeshFrameReceived (p : Nat) (tagged : Bool) (fr : Octets) (s : State) : Host.Outcome State Fault Refusal :=
  if s.silsyBroadcast fr = true ∧ silsyVersion fr = 2 ∧ (s.kind p = 3 ∨ s.kind p = 4) then done (s.inbandIn p fr tagged)
  else done s

/-- MESH_HOST_FRAME (R722): a host's mesh frame from its version byte on, from a clear port or the field network. -/
def execMeshHostFrame (via : Via) (fr : Octets) (s : State) : Host.Outcome State Fault Refusal :=
  if s.phase ≠ .ready ∨ fieldAt fr 0 1 ≠ 2 then done s
  else match via with
    | .t1s _ => if s.num Reg.t1sEnable = 0 then done s else done (s.rateLimited (fun s => s.meshHost via fr))
    | .inband p _ _ _ =>
      if s.nPorts ≤ p ∨ (s.kind p ≠ 1 ∧ s.kind p ≠ 2) then done s
      else done (s.admitInband p (fun s => s.meshHost via fr))
    | .mesh _ _ _ => done s

/-! The field network (R569, R570) -/

/-- T1S_FRAME_RECEIVED (R570, R572): an Ethernet frame without its FCS. -/
def execT1sFrameReceived (fr : Octets) (fcsOk : Bool) (s : State) : Host.Outcome State Fault Refusal :=
  let body := fr.drop 14
  let via : Via := .t1s (frameSrc fr)
  if s.phase ≠ .ready ∨ s.num Reg.t1sEnable = 0 ∨ fcsOk = false ∨ fieldAt fr 12 2 ≠ s.num Reg.silsyEtype then done s
  else if frameDst fr = s.otp.mgmtMac.toNat then done (s.silsyIn via false body)
  else if frameDst fr = 0xFFFFFFFFFFFF then
    (if fieldAt body 0 1 = 1 then done (s.silsyIn via true body)
     else if fieldAt body 0 1 = 2 then done (s.rateLimited (fun s => s.meshHost via body))
     else done s)
  else done s

/-- The first waiting frame has gone out on the segment. -/
def State.t1sSent (s : State) : State :=
  match s.t1s.queue with
  | [] => s
  | fr :: rest => ({ s with t1s := { s.t1s with queue := rest, attempts := 0, backoff := none } } : State).emit (.t1s fr)

/-- The frame being sent collides: it backs off r slot times, or is abandoned after 16 attempts (R569). -/
def State.t1sCollides (s : State) : State :=
  match s.t1s.queue with
  | [] => s
  | _ :: rest =>
    let s := s.count Reg.t1sCollisions
    let k := s.t1s.attempts + 1
    if 16 ≤ k then
      ({ s with t1s := { s.t1s with queue := rest, attempts := 0, backoff := none } } : State).count Reg.t1sExcessColl
    else
      let (r, s) := s.draw
      { s with t1s := { s.t1s with attempts := k, backoff := some (r % 2 ^ min k 10) } }

/-- T1S_COLLISION (R569). -/
def execT1sCollision (s : State) : Host.Outcome State Fault Refusal :=
  if s.phase ≠ .ready ∨ s.t1s.backoff.isSome then done s else done s.t1sCollides

/-- T1S_BACKOFF_EXPIRY (R569): the frame goes out, or collides again. -/
def execT1sBackoffExpiry (won : Bool) (s : State) : Host.Outcome State Fault Refusal :=
  if s.phase ≠ .ready ∨ s.t1s.backoff.isNone then done s else if won then done s.t1sSent else done s.t1sCollides

/-- PLAIN_REPLY_DELAY_EXPIRY (R570): the first answer that waits is put on the segment. -/
def execPlainReplyDelayExpiry (s : State) : Host.Outcome State Fault Refusal :=
  match s.t1s.plain with
  | [] => done s
  | fr :: rest => done (({ s with t1s := { s.t1s with plain := rest } } : State).sendT1s fr)

/-! Received traffic, with the frames it hands to Hearth (R355) -/

/-- A received event outside internal reset, with its frames for Hearth. -/
def State.received (s : State) (f : State → State) : State := if s.phase = .reset then s else (f s).drainHearth

/-- CLEAR_FRAME_RECEIVED (R356). -/
def execClearFrameReceived (p : Nat) (rx : RxFrame) (s : State) : Host.Outcome State Fault Refusal :=
  done (s.received (fun s => s.clearIn p rx))

/-- LINE_FRAME_RECEIVED (R350). -/
def execLineFrameReceived (p : Nat) (rx : RxFrame) (s : State) : Host.Outcome State Fault Refusal :=
  done (s.received (fun s => s.lineIn p rx))

/-- KEYSTREAM_MISS_FILLED (R69). -/
def execKeystreamMissFilled (b : Nat) (pipe : Pipe) (s : State) : Host.Outcome State Fault Refusal :=
  done (s.received (fun s => if s.nBolts ≤ b then s else s.fillKey b pipe))

/-- SECTOR_TRANSFORM_DONE (R445, R446). -/
def execSectorTransformDone (b : Nat) (pipe : Pipe) (s : State) : Host.Outcome State Fault Refusal :=
  done (s.received (fun s =>
    if s.nBolts ≤ b ∨ s.hasSector = false then s
    else match pipe with | .e => s.sectorDoneE b | .d => s.sectorDoneD b))

/-- TW_PANEL_RECEIVED (R409). -/
def execTwPanelReceived (p : Nat) (rx : PanelRx) (s : State) : Host.Outcome State Fault Refusal :=
  done (s.received (fun s => s.panelReceived p rx))

end Sys2Proof.Machine
end

