-- ==== Sys2Proof/Machine/Dispatch.lean ====
section
/-! DEFINITION. Machine/Dispatch.lean: one arm per command of the opcode table, each a direct call of its meaning. -/

namespace Sys2Proof.Machine

def exec (i : Instr) (s : State) : Host.Outcome State Fault Refusal :=
  match i with
  | .powerGoodFall => Sys2Proof.Machine.execPowerGoodFall s
  | .rstNAssert => Sys2Proof.Machine.execRstNAssert s
  | .internalResetEnd st => Sys2Proof.Machine.execInternalResetEnd st s
  | .hearthBankedInStep => Sys2Proof.Machine.execHearthBankedInStep s
  | .mainPowerLost => Sys2Proof.Machine.execMainPowerLost s
  | .mainPowerReturned senseHigh tempHigh vbatLow => Sys2Proof.Machine.execMainPowerReturned senseHigh tempHigh vbatLow s
  | .vbatCollapse => Sys2Proof.Machine.execVbatCollapse s
  | .bkComparatorTrip j => Sys2Proof.Machine.execBkComparatorTrip j s
  | .bkClear sess v => Sys2Proof.Machine.execBkClear sess v s
  | .flueDetectorFire kind detB => Sys2Proof.Machine.execFlueDetectorFire kind detB s
  | .flueLoneRecognised kind => Sys2Proof.Machine.execFlueLoneRecognised kind s
  | .almAck sess mask => Sys2Proof.Machine.execAlmAck sess mask s
  | .almHoldClear sess v => Sys2Proof.Machine.execAlmHoldClear sess v s
  | .tjSample tj => Sys2Proof.Machine.execTjSample tj s
  | .watchdogExpiry => Sys2Proof.Machine.execWatchdogExpiry s
  | .hearthMemoryError => Sys2Proof.Machine.execHearthMemoryError s
  | .hearthCmd sess v => Sys2Proof.Machine.execHearthCmd sess v s
  | .switchOverComplete => Sys2Proof.Machine.execSwitchOverComplete s
  | .kindlingRestartComplete => Sys2Proof.Machine.execKindlingRestartComplete s
  | .objectWrite sess addr words pad => Sys2Proof.Machine.execObjectWrite sess addr words pad s
  | .select sess win row => Sys2Proof.Machine.execSelect sess win row s
  | .opRead sess win => Sys2Proof.Machine.execOpRead sess win s
  | .opCommit sess win badLine => Sys2Proof.Machine.execOpCommit sess win badLine s
  | .opCommitIfUnchanged sess win badLine => Sys2Proof.Machine.execOpCommitIfUnchanged sess win badLine s
  | .opDelete sess win => Sys2Proof.Machine.execOpDelete sess win s
  | .opNext sess win => Sys2Proof.Machine.execOpNext sess win s
  | .opClear sess win => Sys2Proof.Machine.execOpClear sess win s
  | .fnStop sess addr => Sys2Proof.Machine.execFnStop sess addr s
  | .fnStart sess addr => Sys2Proof.Machine.execFnStart sess addr s
  | .fnDrainComplete f => Sys2Proof.Machine.execFnDrainComplete f s
  | .fnDrainLimit f => Sys2Proof.Machine.execFnDrainLimit f s
  | .fnStartComplete f => Sys2Proof.Machine.execFnStartComplete f s
  | .evtPop sess v => Sys2Proof.Machine.execEvtPop sess v s
  | .dcNonceRead sess => Sys2Proof.Machine.execDcNonceRead sess s
  | .pActionSubmit sess => Sys2Proof.Machine.execPActionSubmit sess s
  | .pActionApprove sess => Sys2Proof.Machine.execPActionApprove sess s
  | .pActionCancel sess => Sys2Proof.Machine.execPActionCancel sess s
  | .dcWindowExpiry slot => Sys2Proof.Machine.execDcWindowExpiry slot s
  | .clearFrameReceived p rx => Sys2Proof.Machine.execClearFrameReceived p rx s
  | .lineFrameReceived p rx => Sys2Proof.Machine.execLineFrameReceived p rx s
  | .keystreamMissFilled b pipe => Sys2Proof.Machine.execKeystreamMissFilled b pipe s
  | .pauseRepeat p prio => Sys2Proof.Machine.execPauseRepeat p prio s
  | .peerPauseExpiry p prio => Sys2Proof.Machine.execPeerPauseExpiry p prio s
  | .beatParityError e => Sys2Proof.Machine.execBeatParityError e s
  | .sectorTransformDone b pipe => Sys2Proof.Machine.execSectorTransformDone b pipe s
  | .frameDue p => Sys2Proof.Machine.execFrameDue p s
  | .frameSelected p => Sys2Proof.Machine.execFrameSelected p s
  | .classCUnderrun p => Sys2Proof.Machine.execClassCUnderrun p s
  | .frameTxEnd p txTs => Sys2Proof.Machine.execFrameTxEnd p txTs s
  | .gateEdge p => Sys2Proof.Machine.execGateEdge p s
  | .gateTakeover p => Sys2Proof.Machine.execGateTakeover p s
  | .stationLearn b => Sys2Proof.Machine.execStationLearn b s
  | .ageSweepTick b => Sys2Proof.Machine.execAgeSweepTick b s
  | .stnFlush sess b v => Sys2Proof.Machine.execStnFlush sess b v s
  | .stnFlushComplete b => Sys2Proof.Machine.execStnFlushComplete b s
  | .policyActive sess b v => Sys2Proof.Machine.execPolicyActive sess b v s
  | .cmLevel sess b v => Sys2Proof.Machine.execCmLevel sess b v s
  | .pnWarn sess b xpn v => Sys2Proof.Machine.execPnWarn sess b xpn v s
  | .twPanelLimit sess b v => Sys2Proof.Machine.execTwPanelLimit sess b v s
  | .txSaAn sess p n v => Sys2Proof.Machine.execTxSaAn sess p n v s
  | .txAn sess p v => Sys2Proof.Machine.execTxAn sess p v s
  | .saRetired sa => Sys2Proof.Machine.execSaRetired sa s
  | .legacyGo sess v => Sys2Proof.Machine.execLegacyGo sess v s
  | .wrap sess v => Sys2Proof.Machine.execWrap sess v s
  | .twArmFlip sess p => Sys2Proof.Machine.execTwArmFlip sess p s
  | .twArmCancel sess p => Sys2Proof.Machine.execTwArmCancel sess p s
  | .twMultiframeBoundary b g => Sys2Proof.Machine.execTwMultiframeBoundary b g s
  | .twTxPhaseRelease p => Sys2Proof.Machine.execTwTxPhaseRelease p s
  | .twPanelSent p => Sys2Proof.Machine.execTwPanelSent p s
  | .twOverheadReceived ll oh => Sys2Proof.Machine.execTwOverheadReceived ll oh s
  | .twPanelReceived p rx => Sys2Proof.Machine.execTwPanelReceived p rx s
  | .twillDefectTimer ll lom => Sys2Proof.Machine.execTwillDefectTimer ll lom s
  | .tgAcqHoldExpiry b g => Sys2Proof.Machine.execTgAcqHoldExpiry b g s
  | .tgForceAcq sess v => Sys2Proof.Machine.execTgForceAcq sess v s
  | .deviceSecondBoundary m => Sys2Proof.Machine.execDeviceSecondBoundary m s
  | .timeSet sess words => Sys2Proof.Machine.execTimeSet sess words s
  | .timeAdj sess v => Sys2Proof.Machine.execTimeAdj sess v s
  | .timeFreq sess v => Sys2Proof.Machine.execTimeFreq sess v s
  | .ppsRise => Sys2Proof.Machine.execPpsRise s
  | .ppsFall => Sys2Proof.Machine.execPpsFall s
  | .tsInEdge k rising edge => Sys2Proof.Machine.execTsInEdge k rising edge s
  | .tsiPop sess k v => Sys2Proof.Machine.execTsiPop sess k v s
  | .tcErrMax sess p v => Sys2Proof.Machine.execTcErrMax sess p v s
  | .tjPeak sess v => Sys2Proof.Machine.execTjPeak sess v s
  | .laneSignalDetected n => Sys2Proof.Machine.execLaneSignalDetected n s
  | .laneSignalLost n => Sys2Proof.Machine.execLaneSignalLost n s
  | .laneLocked n slow ppm snr => Sys2Proof.Machine.execLaneLocked n slow ppm snr s
  | .laneAcqTimeout n => Sys2Proof.Machine.execLaneAcqTimeout n s
  | .laneLockLost n => Sys2Proof.Machine.execLaneLockLost n s
  | .laneSleep sess n => Sys2Proof.Machine.execLaneSleep sess n s
  | .laneWake sess n => Sys2Proof.Machine.execLaneWake sess n s
  | .laneWakeTxActive n => Sys2Proof.Machine.execLaneWakeTxActive n s
  | .laneWakeTimeout n => Sys2Proof.Machine.execLaneWakeTimeout n s
  | .lnFfe sess n v => Sys2Proof.Machine.execLnFfe sess n v s
  | .lnCtle sess n v => Sys2Proof.Machine.execLnCtle sess n v s
  | .refFaultDeclared b absent => Sys2Proof.Machine.execRefFaultDeclared b absent s
  | .refFaultCleared b => Sys2Proof.Machine.execRefFaultCleared b s
  | .portKind sess p v => Sys2Proof.Machine.execPortKind sess p v s
  | .ctStart sess p v => Sys2Proof.Machine.execCtStart sess p v s
  | .xoffXonThreshold sess p xon v => Sys2Proof.Machine.execXoffXonThreshold sess p xon v s
  | .qIdleSlope sess v => Sys2Proof.Machine.execQIdleSlope sess v s
  | .mgmtIn sess p v => Sys2Proof.Machine.execMgmtIn sess p v s
  | .t1sEnable sess v => Sys2Proof.Machine.execT1sEnable sess v s
  | .silsyEtype sess v => Sys2Proof.Machine.execSilsyEtype sess v s
  | .i3cPrivateWrite w => Sys2Proof.Machine.execI3cPrivateWrite w s
  | .i3cPrivateRead r => Sys2Proof.Machine.execI3cPrivateRead r s
  | .ibiAccepted => Sys2Proof.Machine.execIbiAccepted s
  | .entdaa dyn => Sys2Proof.Machine.execEntdaa dyn s
  | .setdasa static dyn => Sys2Proof.Machine.execSetdasa static dyn s
  | .rstdaa => Sys2Proof.Machine.execRstdaa s
  | .enec bits => Sys2Proof.Machine.execEnec bits s
  | .disec bits => Sys2Proof.Machine.execDisec bits s
  | .setmwl v => Sys2Proof.Machine.execSetmwl v s
  | .setmrl v => Sys2Proof.Machine.execSetmrl v s
  | .getmwl => Sys2Proof.Machine.execGetmwl s
  | .getmrl => Sys2Proof.Machine.execGetmrl s
  | .getpid => Sys2Proof.Machine.execGetpid s
  | .getbcr => Sys2Proof.Machine.execGetbcr s
  | .getdcr => Sys2Proof.Machine.execGetdcr s
  | .getstatus => Sys2Proof.Machine.execGetstatus s
  | .getmxds => Sys2Proof.Machine.execGetmxds s
  | .getcaps => Sys2Proof.Machine.execGetcaps s
  | .enthdr0 => Sys2Proof.Machine.execEnthdr0 s
  | .unsupportedCcc code direct => Sys2Proof.Machine.execUnsupportedCcc code direct s
  | .t1sFrameReceived fr fcsOk => Sys2Proof.Machine.execT1sFrameReceived fr fcsOk s
  | .t1sBackoffExpiry won => Sys2Proof.Machine.execT1sBackoffExpiry won s
  | .inbandSilsyReceived p fr tagged => Sys2Proof.Machine.execInbandSilsyReceived p fr tagged s
  | .hello via body => Sys2Proof.Machine.execHello via body s
  | .helloReplySent n => Sys2Proof.Machine.execHelloReplySent n s
  | .auth n via body => Sys2Proof.Machine.execAuth n via body s
  | .authOkSent n => Sys2Proof.Machine.execAuthOkSent n s
  | .authTimeout n => Sys2Proof.Machine.execAuthTimeout n s
  | .dataFrameReceived n via fr => Sys2Proof.Machine.execDataFrameReceived n via fr s
  | .closeReceived n via fr => Sys2Proof.Machine.execCloseReceived n via fr s
  | .plainReceived n via broadcast msg => Sys2Proof.Machine.execPlainReceived n via broadcast msg s
  | .sessionIdleExpiry n => Sys2Proof.Machine.execSessionIdleExpiry n s
  | .sessClose sess n v => Sys2Proof.Machine.execSessClose sess n v s
  | .meshFrameReceived p tagged fr => Sys2Proof.Machine.execMeshFrameReceived p tagged fr s
  | .meshHostFrame via fr => Sys2Proof.Machine.execMeshHostFrame via fr s
  | .meshHelloSend => Sys2Proof.Machine.execMeshHelloSend s
  | .meshNeighbourDead m => Sys2Proof.Machine.execMeshNeighbourDead m s
  | .meshKeyLoad sess v => Sys2Proof.Machine.execMeshKeyLoad sess v s
  | .meshAdvance sess v => Sys2Proof.Machine.execMeshAdvance sess v s
  | .meshId sess v => Sys2Proof.Machine.execMeshId sess v s
  | .jobGoSubmit sess => Sys2Proof.Machine.execJobGoSubmit sess s
  | .jobGoAbort sess => Sys2Proof.Machine.execJobGoAbort sess s
  | .jobStart => Sys2Proof.Machine.execJobStart s
  | .jobComplete disagree => Sys2Proof.Machine.execJobComplete disagree s
  | .jobAbortErased => Sys2Proof.Machine.execJobAbortErased s
  | .lcRequestTestLocked sess => Sys2Proof.Machine.execLcRequestTestLocked sess s
  | .lcRequestTestOpen sess => Sys2Proof.Machine.execLcRequestTestOpen sess s
  | .lcRequestFactory sess => Sys2Proof.Machine.execLcRequestFactory sess s
  | .lcRequestIssued sess => Sys2Proof.Machine.execLcRequestIssued sess s
  | .lcRequestService sess => Sys2Proof.Machine.execLcRequestService sess s
  | .lcRequestReturn sess => Sys2Proof.Machine.execLcRequestReturn sess s
  | .lcRequestEnd sess => Sys2Proof.Machine.execLcRequestEnd sess s
  | .lcResumeBurn sess v => Sys2Proof.Machine.execLcResumeBurn sess v s
  | .idcInstall sess v => Sys2Proof.Machine.execIdcInstall sess v s
  | .stmtGo sess v => Sys2Proof.Machine.execStmtGo sess v s
  | .dbgNonceRead sess => Sys2Proof.Machine.execDbgNonceRead sess s
  | .dbgCmdAccept sess => Sys2Proof.Machine.execDbgCmdAccept sess s
  | .dbgCmdEnd sess => Sys2Proof.Machine.execDbgCmdEnd sess s
  | .dbgCertExpiry => Sys2Proof.Machine.execDbgCertExpiry s
  | .dbgDataRead sess => Sys2Proof.Machine.execDbgDataRead sess s
  | .dbgHearthHalt sess => Sys2Proof.Machine.execDbgHearthHalt sess s
  | .dbgHearthResume sess => Sys2Proof.Machine.execDbgHearthResume sess s
  | .credEnrolDirect sess c value => Sys2Proof.Machine.execCredEnrolDirect sess c value s
  | .fwChunk sess value => Sys2Proof.Machine.execFwChunk sess value s
  | .fwVerify sess badLine => Sys2Proof.Machine.execFwVerify sess badLine s
  | .fwLoadBanked sess => Sys2Proof.Machine.execFwLoadBanked sess s
  | .fwSwitch sess => Sys2Proof.Machine.execFwSwitch sess s
  | .fwLoadOther sess => Sys2Proof.Machine.execFwLoadOther sess s
  | .fwRevert sess => Sys2Proof.Machine.execFwRevert sess s
  | .fwCommit sess => Sys2Proof.Machine.execFwCommit sess s
  | .fwAbandon sess => Sys2Proof.Machine.execFwAbandon sess s
  | .fwErase sess => Sys2Proof.Machine.execFwErase sess s
  | .smChEnable sess c v => Sys2Proof.Machine.execSmChEnable sess c v s
  | .smChannelTrained c ok => Sys2Proof.Machine.execSmChannelTrained c ok s
  | .smAccDataWrite sess value badLine => Sys2Proof.Machine.execSmAccDataWrite sess value badLine s
  | .smAccDataRead sess badLine => Sys2Proof.Machine.execSmAccDataRead sess badLine s
  | .pcSel sess b k v => Sys2Proof.Machine.execPcSel sess b k v s
  | .pcClear sess b mask => Sys2Proof.Machine.execPcClear sess b mask s
  | .pcValRead sess b k => Sys2Proof.Machine.execPcValRead sess b k s
  | .pairJoinSet sess => Sys2Proof.Machine.execPairJoinSet sess s
  | .pairJoinClear sess => Sys2Proof.Machine.execPairJoinClear sess s
  | .pairCmdTake sess => Sys2Proof.Machine.execPairCmdTake sess s
  | .pairCmdGive sess => Sys2Proof.Machine.execPairCmdGive sess s
  | .mirrorLinkAttempt ok => Sys2Proof.Machine.execMirrorLinkAttempt ok s
  | .mirrorLinkUp peer => Sys2Proof.Machine.execMirrorLinkUp peer s
  | .heartbeatSend => Sys2Proof.Machine.execHeartbeatSend s
  | .heartbeatReceived hb => Sys2Proof.Machine.execHeartbeatReceived hb s
  | .heartbeatLoss => Sys2Proof.Machine.execHeartbeatLoss s
  | .witnessClaimDone stayedHigh => Sys2Proof.Machine.execWitnessClaimDone stayedHigh s
  | .mirrorUpdateReceived u => Sys2Proof.Machine.execMirrorUpdateReceived u s
  | .resyncComplete => Sys2Proof.Machine.execResyncComplete s
  | .counterReport => Sys2Proof.Machine.execCounterReport s
  | .pairHoldoffExpiry => Sys2Proof.Machine.execPairHoldoffExpiry s
  | .pairWatchTimeout b => Sys2Proof.Machine.execPairWatchTimeout b s
  | .pcsAlignmentChange p pcs fec => Sys2Proof.Machine.execPcsAlignmentChange p pcs fec s
  | .linkFaultOrderedSets p kind => Sys2Proof.Machine.execLinkFaultOrderedSets p kind s
  | .patternCheckerSync n sync before levels => Sys2Proof.Machine.execPatternCheckerSync n sync before levels s
  | .flueDetectorRelease kind detB => Sys2Proof.Machine.execFlueDetectorRelease kind detB s
  | .bkComparatorRelease j => Sys2Proof.Machine.execBkComparatorRelease j s
  | .slewComplete => Sys2Proof.Machine.execSlewComplete s
  | .rtcSecondTick => Sys2Proof.Machine.execRtcSecondTick s
  | .generatorReseedRetry b pipe ok => Sys2Proof.Machine.execGeneratorReseedRetry b pipe ok s
  | .t1sCollision => Sys2Proof.Machine.execT1sCollision s
  | .plainReplyDelayExpiry => Sys2Proof.Machine.execPlainReplyDelayExpiry s
  | .takeoverComplete => Sys2Proof.Machine.execTakeoverComplete s

end Sys2Proof.Machine
end

