-- ==== Sys2Proof/Machine/Idle.lean ====
section
/-! DEFINITION. Machine/Idle.lean: what the device does in a nanosecond without a command (log entry 2). -/

namespace Sys2Proof.Machine

/-- The credit of a port's queues is settled where its gate mask has changed (R507). -/
def State.gateTick (s : State) : State :=
  forEach (s.ports.map (fun e => e.1)) (fun s p => if (s.port p).creditMask = s.gateMask p then s else s.settleCredit p) s

/-- A nanosecond of the time unit, which internal reset holds still (R531, R759), and of the alarm unit, which counts from
main power-up (R676), and of the RTC's second (R687). -/
def State.clocks (s : State) : State :=
  let s : State := { s with backup := { s.backup with phase := s.backup.phase + 1 } }
  let s : State := if s.phase = .reset then s else { s with time := State.tickTime s.time (s.num Reg.timeFreq) }
  if s.mainPower then { s with alarm := { s.alarm with clock := s.alarm.clock + 1 } } else s

/-- Alarms of a period that is over are answered (R676). -/
def State.alarmPeriod (s : State) : State := if s.alarm.period = s.alarm.clock / 100 then s else s.closePeriod

/-- The first frame of the field network goes out, where it is not backing off (R569). A port that was turned off takes no
more. -/
def State.t1sIdle (s : State) : State :=
  let s : State := { s with t1s := { s.t1s with ending := false } }
  if s.phase = .ready ∧ s.t1s.backoff = none then s.t1sSent else s

/-- A nanosecond passes: Twill lanes and patterns send, lines that failed are reported, alarms are answered, waiting requests run, frames go on. -/
def State.idle (s : State) : State := s.clocks.gateTick.framers.patterns.badLogged.alarmPeriod.drainHearth.serve.t1sIdle.settle

end Sys2Proof.Machine
end

