-- ==== Sys2Proof/Safety.lean ====
section
/-! DEFINITION. Safety.lean: what counts as a safe state of the device, in the terms the statements use. -/

namespace Sys2Proof.Machine

/-- Storage is in its one canonical form: keys strictly rising, no entry equal to its reset value. -/
abbrev State.StoreWf (s : State) : Prop := Store.wf s.objs = true

/-- The recorded copies of the retained objects are in the canonical form too (R603). -/
abbrev State.CopiesWf (s : State) : Prop :=
  Store.wf s.boot.copy0.content = true ∧ Store.wf s.boot.copy1.content = true

/-- The event queue holds at most 1,024 records (R144). -/
abbrev State.QueueBounded (s : State) : Prop := s.events.queue.length ≤ 1024

/-- Every addressed memory is in its canonical form: the two image slots (R612) and the side-memory ranges (R654). -/
abbrev State.MemoryWf (s : State) : Prop :=
  Mem.wf s.boot.slot0.bytes = true ∧ Mem.wf s.boot.slot1.bytes = true ∧ ∀ e ∈ s.sm, Mem.wf e.2.data = true

/-- Every bit burned in `a` is burned in `b`, and what manufacture wrote is the same (R591). -/
structure Otp.Grows (a b : Otp) : Prop where
  codeword : a.codeword ||| b.codeword = b.codeword
  tokens   : a.tokens ||| b.tokens = b.tokens
  floor    : a.floor ||| b.floor = b.floor
  marker0  : a.marker0 ||| b.marker0 = b.marker0
  marker1  : a.marker1 ||| b.marker1 = b.marker1
  ember0   : a.ember0 ||| b.ember0 = b.ember0
  ember1   : a.ember1 ||| b.ember1 = b.ember1
  evidence : a.evidence ||| b.evidence = b.evidence
  deviceId : a.deviceId ||| b.deviceId = b.deviceId
  revoked  : a.revoked ||| b.revoked = b.revoked
  dieId    : b.dieId = a.dieId
  mgmtMac  : b.mgmtMac = a.mgmtMac

/-! What moves by itself at the end of a step (State.settle): frames on their way, and what they count -/

/-- The counters and states of a port that frames move: the interface and discard counters of R354 to R366, the discards at
the head of a queue (R93, R517), XOFF_STATE, and the transmit phase state of a tributary, which an SA row in use can cancel
(R267). -/
def portTraffic (k sub : Nat) : Bool :=
  (k == 2 && [0x01, 0x02, 0x07, 0x09, 0x0A, 0x0B, 0x0C, 0x0D, 0x0E, 0x11, 0x12, 0x13, 0x14, 0x15, 0x16, 0x18, 0x1B, 0x50, 0x62].contains sub)
    || (k == 1 && sub == 0x14) || (k == 3 && sub == 0x26)

/-- The counters of a bolt that frames move. -/
def boltTraffic (off sub : Nat) : Bool :=
  [(0x03, 0x03), (0x03, 0x04), (0x03, 0x05), (0x03, 0x06), (0x03, 0x07), (0x03, 0x09), (0x04, 0x03), (0x04, 0x05), (0x06, 0x04),
   (0x06, 0x05), (0x06, 0x07), (0x08, 0x01), (0x08, 0x02), (0x0D, 0x03)].contains (off, sub)

/-- The fields of table rows that frames move: state, version, PN, counters, times of use and marks of an SA row, the
hits of a policy row, the counters, deficit and credit of a queue row, the discards of a stream row. -/
def rowTraffic (win field : Nat) : Bool :=
  (win == 0x4000 && [2, 3, 0x18, 0x30, 0x31, 0x32, 0x33, 0x34, 0x35, 0x36, 0x101, 0x104].contains field)
    || (win == 0x4200 && field == 0x16) || (win == 0x4500 && [0x22, 0x32, 0x33, 0x100].contains field)
    || (win == 0x4700 && field == 0x34)

/-- What storage holds that frames on their way can move. Every other object, field and mark is still while they do. -/
def trafficKey : Key → Bool
  | .dev a =>
    (decide (0x300000 ≤ a) && portTraffic (a / 256 % 4) (a % 256))
      || (decide (0x200000 ≤ a ∧ a < 0x280000) && boltTraffic (a / 256 % 256) (a % 256))
      || decide (0x181000 ≤ a ∧ a < 0x181800 ∧ 0x11 ≤ a % 256 ∧ a % 256 ≤ 0x20)
      || [0x110108, 0x140005, 0x151105, 0x152205, 0x162101, 0x162103, 0x162104, 0x162105, 0x180005].contains a
  | .row win _ f => rowTraffic win f
  | _ => false

/-- The state less its storage, its sessions, what frames and records pass through, and the model's own records. -/
def State.still (s : State) : State :=
  { s with objs := [], sessions := [], events := {}, bolts := [], ports := [], tribs := [], sm := [],
           pair := { s.pair with watchBad := [], linesBad := [], holdoff := none }, i3c := { s.i3c with ibi := none },
           t1s := { s.t1s with queue := [] }, tracer := {}, hearthIn := [], free := 0, serial := 0, wire := [] }

/-- `t` is `s` after frames have moved on and records have been announced, and nothing else has happened. -/
structure Follows (s t : State) : Prop where
  keys    : ∀ k, trafficKey k = false → t.rd k = s.rd k
  still   : t.still = s.still
  session : ∀ n, { t.session n with seqOut := 0 } = { s.session n with seqOut := 0 }
  port    : ∀ p, (t.port p).pcs = (s.port p).pcs ∧ (t.port p).fec = (s.port p).fec ∧ (t.port p).admin = (s.port p).admin
  bolt    : ∀ b, (t.bolt b).moves = (s.bolt b).moves ∧ (t.bolt b).flapTold = (s.bolt b).flapTold
              ∧ (t.bolt b).flushes = (s.bolt b).flushes ∧ (t.bolt b).ageAt = (s.bolt b).ageAt
  trib    : ∀ p, { t.trib p with closed := [], building := [], marks := [] } = { s.trib p with closed := [], building := [], marks := [] }
  range   : ∀ r, (t.sm.getD r {}).draw = (s.sm.getD r {}).draw
  records : List.IsPrefix s.events.queue t.events.queue
  wire    : List.IsSuffix s.wire t.wire

/-! How a command completes -/

/-- The command answers a next state, which is `u` after frames have moved on. -/
def Completes (c : Instr) (s u : State) : Prop := ∃ t, exec c s = .next t ∧ Follows u t

/-- A host command of session n completes with `r`: the state it leaves with its answer held in the session and counted
(R562, R586), and what the request leaves for the time after its response done (R582, R586). -/
def Answers (c : Instr) (s : State) (n : Nat) (r : Eff) : Prop := Completes c s (answered n r).afterResponse

/-- The abort of a number that does not fit the type of the object at an address (R105, R139). -/
def writeForm (addr v : Nat) : Option Nat := (match Dict.entry addr with | some e => e.ty | none => .u48).numFit v

/-- Hearth takes a write of the number v to an object from session n: it answers there, no abort of R139's order stands
against the request, and the number fits the object's type. -/
abbrev Serves (s : State) (n addr v : Nat) : Prop :=
  s.answers n = true ∧ firstAbort (s.admission n addr true v ++ [writeForm addr v]) = none

/-- Hearth takes a read of an object from session n. -/
abbrev ServesRead (s : State) (n addr : Nat) : Prop :=
  s.answers n = true ∧ firstAbort (s.admission n addr false 0 ++ [none]) = none

/-- The state in which Hearth handles a Silsy frame that came by `via`, none where it does not come through: while Hearth is
ready, over the field network while that is enabled, in-band over a port that is not off or stopped, a tributary of frames
only, with MGMT_IN set and a token taken (R568, R571, R573). -/
def State.afterVia (s : State) (via : Via) : Option State :=
  if s.phase ≠ .ready then none
  else match via with
    | .t1s _ => if s.num Reg.t1sEnable = 0 then none else some s
    | .inband p _ _ _ =>
      if s.nPorts ≤ p ∨ s.kind p = 0 ∨ s.stopped (.port p) = true ∨ (s.kind p = 4 ∧ s.num (Reg.pTribPayload p) ≠ 3)
        ∨ s.num (Reg.pMgmtIn p) = 0 ∨ s.takeToken.1 = false then none
      else some s.takeToken.2
    | .mesh _ _ _ => some s

end Sys2Proof.Machine
end

