-- ==== Sys2Proof/Certificates/Slice0/Obligations.lean ====
section
/-! DEFINITION. Certificates/Slice0/Obligations.lean: what is claimed of the model, each statement with the rules it rests on.
A host command completes with its answer (`Answers`), an event with the state it leaves (`Completes`): both say that exec answers
a next state, and which, but for frames that move on in the same instant (Safety.lean). -/

open Sys2Proof Sys2Proof.Machine

/-- A step runs the command at the front of the queue. A step of a state with a command at the front of its queue is exec of
that command on the state with the rest of the queue. The queue is the form of the model (log entry 1). (R110, R586) -/
def Obligations.StepRunsFront : Prop :=
  (∀ (c : Instr) (rest : List Instr) (s : State), step { s with pending := c :: rest } = exec c { s with pending := rest })

/-- On an empty queue a step is one nanosecond of idling. A step of a state with an empty queue answers the state after a
nanosecond: the model's choice, log entry 2. (R527, R530) -/
def Obligations.StepIdles : Prop :=
  (∀ s : State, s.pending = [] → step s = .next s.idle)

/-- What State.reset holds. After reset every object reads its default, storage, copies, memories and queue are in form, no
session, frame, record or range exists, the phase is internal reset and the queue of commands is empty. (R111, R126, R144) -/
def Obligations.ResetHolds : Prop :=
  (∀ k, State.reset.rd k = resetVal k)
  ∧ (State.reset.StoreWf ∧ State.reset.CopiesWf ∧ State.reset.QueueBounded ∧ State.reset.MemoryWf ∧ State.reset.phase = .reset
      ∧ State.reset.sessions = [] ∧ State.reset.events.queue = [] ∧ State.reset.sm = [] ∧ State.reset.ports = [] ∧ State.reset.pending = [])
  ∧ (∀ p < 1024, State.reset.fnState (.port p) = 0)

/-- Storage: a write is read back and leaves every other key alone. Reading a key after a write gives the value written at that
key and what was there at every other key; clearing gives the reset value. (R109, R103) -/
def Obligations.StorageReadsBack : Prop :=
  (∀ (s : State) (k x : Key) (v : Val), (s.put k v).rd x = if k = x then v else s.rd x)
  ∧ (∀ (s : State) (k x : Key), (s.clear k).rd x = if k = x then resetVal k else s.rd x)

/-- Side memory: a write is read back and leaves every other byte alone. After a write of bytes at an offset of a range, each
byte of the written span reads as written, every other byte of the range and every other range reads as before. (R658, R666) -/
def Obligations.SideMemoryReadsBack : Prop :=
  (∀ (s : State) (r off : Nat) (bytes : Octets) (a : Nat),
      Mem.rd ((s.smWrite r off bytes).sm.getD r {}).data a
        = if off ≤ a ∧ a < off + bytes.length then bytes.getD (a - off) 0 else Mem.rd (s.sm.getD r {}).data a)
  ∧ (∀ (s : State) (r q off : Nat) (bytes : Octets), q ≠ r → (s.smWrite r off bytes).sm.getD q {} = s.sm.getD q {})

/-- Where several aborts apply, the first of R139 is returned. The abort chosen from a list is one of the list, of a kind that
no other abort of the list precedes, and there is none only where the list holds none; the kinds stand in the order of the
table. (R139) -/
def Obligations.AbortsInOrder : Prop :=
  (∀ (cs : List (Option Nat)) (c : Nat), firstAbort cs = some c → some c ∈ cs ∧ ∀ d, some d ∈ cs → abortRank c ≤ abortRank d)
  ∧ (([0x170001, 0x150002, 0x100001, 0x110003, 0x140001, 0x120005, 0x160001, 0x150004, 0x130001, 0x180002] : List Nat).Pairwise (fun a b => abortRank a < abortRank b)
      ∧ abortRank 0x170002 = abortRank 0x170001 ∧ abortRank 0x150001 = abortRank 0x120005 ∧ abortRank 0x150003 = abortRank 0x120005
      ∧ abortRank 0x170003 = abortRank 0x180002)

/-- A refused request has no effect. Where an abort of R139 stands against a request and the effect has none of its own that
comes before it, the command leaves the state as it was, but for the answer and the count of requests: the effect is not
made. (R110, R139) -/
def Obligations.RefusedRequestHasNoEffect : Prop :=
  (∀ (s : State) (n addr v c : Nat) (e : Eff), s.answers n = true → firstAbort (s.admission n addr true v ++ [writeForm addr v]) = some c →
      (∀ d, e.2 = .abort d → ¬ abortRank d < abortRank c) →
      ∃ t, hostWrite n addr v s e = .next t ∧ Follows (answered n (s, .abort c)).afterResponse t)

/-- The active policy bank cannot be stopped. A STOP of the active policy bank of a bolt is refused with 0x12_0003 and leaves
the state as it was. (R131) -/
def Obligations.ActiveBankCannotStop : Prop :=
  (∀ (s : State) (n a b k : Nat), isFnCtrl a = true → Serves s n a 1 → s.fnAt n a = .ok (.bank b k) → s.num (Reg.bPolicyActive b) = k → Answers (.fnStop n a) s n (s, .abort 0x120003))

/-- TJ_WARN outside its range. A write of TJ_WARN (0x1004:03) below -400 or above 1,600 is refused with 0x13_0001 and leaves the
state as it was. (R754) -/
def Obligations.TjWarnRange : Prop :=
  (∀ (s : State) (n v pad : Nat), v < 2 ^ 24 → i24 v < -400 ∨ 1600 < i24 v → s.answers n = true → firstAbort (s.admission n 0x100403 true v ++ [none]) = none → Answers (.objectWrite n 0x100403 [v] pad) s n (s, .abort 0x130001))

/-- Operations of a window without a selected row. With no row selected READ, COMMIT, COMMIT_IF_UNCHANGED and DELETE are refused
with 0x15_0001, or with 0x15_0003 where a switch-over lost the cursor, and leave the state as it was. (R118, R137) -/
def Obligations.OperationsNeedARow : Prop :=
  (∀ (s : State) (n w : Nat), Serves s n (winAddr w 5) 1 → s.cursor n w = 0xFFFFFF → Answers (.opRead n w) s n (s, .abort (if s.num (.cur n w 1) = 1 then 0x150003 else 0x150001)))
  ∧ (∀ (s : State) (n w : Nat) (bad : Option Nat), Serves s n (winAddr w 5) 2 → s.cursor n w = 0xFFFFFF → Answers (.opCommit n w bad) s n (s, .abort (if s.num (.cur n w 1) = 1 then 0x150003 else 0x150001)))
  ∧ (∀ (s : State) (n w : Nat) (bad : Option Nat), Serves s n (winAddr w 5) 3 → s.cursor n w = 0xFFFFFF → Answers (.opCommitIfUnchanged n w bad) s n (s, .abort (if s.num (.cur n w 1) = 1 then 0x150003 else 0x150001)))
  ∧ (∀ (s : State) (n w : Nat), Serves s n (winAddr w 5) 4 → s.cursor n w = 0xFFFFFF → Answers (.opDelete n w) s n (s, .abort (if s.num (.cur n w 1) = 1 then 0x150003 else 0x150001)))

/-- Every step keeps storage, copies, memories and the event queue in form. From every state whose storage and recorded copies
are in canonical form, whose memories are in canonical form and whose event queue holds at most 1,024 records, a step leads
to such a state. (R111, R144, R603, R612, R654) -/
def Obligations.StepKeepsForm : Prop :=
  (∀ s t : State, s.StoreWf → s.CopiesWf → s.QueueBounded → s.MemoryWf → step s = .next t →
      t.StoreWf ∧ t.CopiesWf ∧ t.QueueBounded ∧ t.MemoryWf)

/-- The life-cycle codeword only gains bits, and its values name the states. Every step leaves every set bit of the 32-bit
codeword set; the codeword reads as the state of the table, TEST_OPEN being TEST_LOCKED's codeword with the open flag, and
every other value as INVALID. (R592) -/
def Obligations.CodewordOnlyBurns : Prop :=
  (∀ s t : State, step s = .next t → s.otp.codeword ||| t.otp.codeword = t.otp.codeword)
  ∧ (∀ s : State, s.lc = (if s.otp.codeword = 0x00000000#32 then 0 else if s.otp.codeword = 0x0000001F#32 then (if s.trust.testOpen then 2 else 1)
        else if s.otp.codeword = 0x000003FF#32 then 3 else if s.otp.codeword = 0x00007FFF#32 then 4 else if s.otp.codeword = 0x000FFFFF#32 then 5
        else if s.otp.codeword = 0x01FFFFFF#32 then 6 else if s.otp.codeword = 0xFFFFFFFF#32 then 7 else 15))

/-- No step clears a bit of the OTP array, and the part never changes. Every step leaves each burned bit of tokens, floor,
markers, Ember, evidence, device identity and revocations burned, and what manufacture wrote, the part and its silicon step
as they are. (R591, R595, R599, R615) -/
def Obligations.OtpOnlyBurns : Prop :=
  (∀ s t : State, step s = .next t → Otp.Grows s.otp t.otp ∧ t.part = s.part ∧ t.siliconStep = s.siliconStep)

/-- Table windows: the cursor, staging and the operations on the selected row. SELECT of an existing row moves the session
cursor; READ copies the row into staging with its version; NEXT moves to the next existing row; CLEAR resets the staging
fields; COMMIT, COMMIT_IF_UNCHANGED and DELETE do the window operation on the selected row where the cursor is good and, for
the conditional commit, the version is the one read. (R117, R118, R119, R121, R135, R137) -/
def Obligations.WindowCommandsComplete : Prop :=
  (∀ (s : State) (n w r : Nat), Serves s n (winAddr w 1) r → s.rowExists w r = true → s.tribRow w r = false → Answers (.select n w r) s n (okay (s.moveCursor n w r)))
  ∧ (∀ (s : State) (n w : Nat), Serves s n (winAddr w 5) 1 → s.cursor n w ≠ 0xFFFFFF → s.tribRow w (s.cursor n w) = false → Answers (.opRead n w) s n (okay ((forEach (rowFields w (s.cursor n w)) (fun t f => t.put (stage n w f) (s.rowField w (s.cursor n w) f)) s).putN (.ses n (w * 256 + 4)) (s.num (.row w (s.cursor n w) 3)))))
  ∧ (∀ (s : State) (n w : Nat), Serves s n (winAddr w 5) 5 → Answers (.opNext n w) s n (okay (s.moveCursor n w (s.nextRow w (if s.cursor n w = 0xFFFFFF then 0 else s.cursor n w + 1)))))
  ∧ (∀ (s : State) (n w : Nat), Serves s n (winAddr w 5) 6 → Answers (.opClear n w) s n (okay (s.clearWhere (fun k => match k with | .ses m a => m == n && a / 256 == w && decide (0x10 ≤ a % 256) | _ => false))))
  ∧ (∀ (s : State) (n w : Nat) (bad : Option Nat), Serves s n (winAddr w 5) 2 → s.cursor n w ≠ 0xFFFFFF → s.num (.cur n w 0) ≠ 1 → s.tribRow w (s.cursor n w) = false → (s.commitRow n w (s.cursor n w) bad).2 = .ok → Answers (.opCommit n w bad) s n (s.commitRow n w (s.cursor n w) bad))
  ∧ (∀ (s : State) (n w : Nat) (bad : Option Nat), Serves s n (winAddr w 5) 3 → s.cursor n w ≠ 0xFFFFFF → s.num (.cur n w 0) ≠ 1 → s.tribRow w (s.cursor n w) = false → s.num (.row w (s.cursor n w) 3) = s.num (.ses n (w * 256 + 4)) → (s.commitRow n w (s.cursor n w) bad).2 = .ok → Answers (.opCommitIfUnchanged n w bad) s n (s.commitRow n w (s.cursor n w) bad))
  ∧ (∀ (s : State) (n w : Nat), Serves s n (winAddr w 5) 4 → s.cursor n w ≠ 0xFFFFFF → s.num (.cur n w 0) ≠ 1 → s.tribRow w (s.cursor n w) = false → (s.deleteRow w (s.cursor n w)).2 = .ok → Answers (.opDelete n w) s n (s.deleteRow w (s.cursor n w)))

/-- Functions: STOP, START, the end of a start and the end of a drain. A STOP or START that the function may take clears its
code and moves it as R127 says; a start that completes runs or fails with its code; a drain with nothing left ends, and at
its limit what is left is discarded with event 0x07_0102. (R124, R127, R128, R129, R131) -/
def Obligations.FunctionCommandsComplete : Prop :=
  (∀ (s : State) (n a : Nat) (f : Fn), isFnCtrl a = true → Serves s n a 1 → s.fnAt n a = .ok f → s.bankActive f = false → Answers (.fnStop n a) s n (okay ((s.clear (fnCodeKey f)).stopFn f)))
  ∧ (∀ (s : State) (n a : Nat) (f : Fn), isFnCtrl a = true → Serves s n a 2 → s.fnAt n a = .ok f → s.uncommissioned f = false → Answers (.fnStart n a) s n (okay ((s.clear (fnCodeKey f)).startFn f)))
  ∧ (∀ (s : State) (f : Fn), s.fnState f = 3 ∨ s.fnState f = 4 → s.drained f = true → Completes (.fnDrainComplete f) s (s.drainEnd f))
  ∧ (∀ (s : State) (f : Fn) (d : Fn × Nat), s.fnState f = 3 ∨ s.fnState f = 4 → s.drains.find? (fun d => decide (d.1 = f)) = some d → d.2 + 100000000 ≤ s.time.elapsed → s.drained f = false → Completes (.fnDrainLimit f) s (((s.drainDiscard f).raise 0x070102 (fnSource f) (fnKind f * 2097152 + fnInstance f % 8192)).drainEnd f))
  ∧ (∀ (s : State) (f : Fn), s.fnState f = 1 → s.num (startCode f) = 0 → Completes (.fnStartComplete f) s ((((s.clear (startCode f)).clear (startHeld f)).setFn f 2).onRunning f))
  ∧ (∀ (s : State) (f : Fn), s.fnState f = 1 → s.num (startCode f) ≠ 0 → Completes (.fnStartComplete f) s (((s.clear (startCode f)).clear (startHeld f)).startFailed f (s.num (startCode f))))
  ∧ (∀ (s : State) (f : Fn), s.fnState f = 5 → s.num (startCode f) = 0 → Completes (.fnStartComplete f) s (((((s.clear (startCode f)).clear (startHeld f)).setFn f 2).onRunning f).beginDrain f))

/-- The on-chip event queue: an event raised, an event dropped, and EVT_POP. While Hearth is ready an event takes the next
sequence number, modulo 2^24; it is queued behind the others where fewer than 1,024 are queued, and dropped and counted
where 1,024 are. EVT_POP with the sequence number of the head removes the head, and where records had been dropped event
0x07_0001 follows with their number, saturating; EVT_POP with any other value, or on an empty queue, is refused with
0x13_0005. (R144, R146, R148) -/
def Obligations.EventQueueCompletes : Prop :=
  (∀ (s : State) (code o d : Nat), s.phase = .ready → s.events.queue.length < 1024 →
      (s.raise code o d).events.queue = s.events.queue ++ [⟨s.events.nextSeq, code, s.now96, o, d % 16777216⟩]
        ∧ (s.raise code o d).events.nextSeq = (s.events.nextSeq + 1) % 16777216)
  ∧ (∀ (s : State) (code o d : Nat), s.phase = .ready → 1024 ≤ s.events.queue.length →
      (s.raise code o d).events.queue = s.events.queue ∧ (s.raise code o d).events.dropped = s.events.dropped + 1
        ∧ (s.raise code o d).events.nextSeq = (s.events.nextSeq + 1) % 16777216)
  ∧ (∀ (s : State) (n : Nat) (r : Record) (rest : List Record), Serves s n 0x140004 r.seq → s.events.queue = r :: rest → s.events.dropped = 0 → Answers (.evtPop n r.seq) s n (okay { s with events := { s.events with queue := rest, dropped := 0 } }))
  ∧ (∀ (s : State) (n : Nat) (r : Record) (rest : List Record), Serves s n 0x140004 r.seq → s.events.queue = r :: rest → s.events.dropped ≠ 0 → Answers (.evtPop n r.seq) s n (okay (({ s with events := { s.events with queue := rest, dropped := 0 } } : State).raise 0x070001 0x140000 (min s.events.dropped 16777215))))
  ∧ (∀ (s : State) (n v : Nat), Serves s n 0x140004 v → (∀ r ∈ s.events.queue.head?, r.seq ≠ v) → Answers (.evtPop n v) s n (s, .abort 0x130005))

/-- Dual control: nonces, submissions, approvals, cancels and the end of a window. A nonce read gives a free value and keeps the
16 newest; a submission that stands takes the lowest empty slot when both signature halves verify and is refused otherwise;
an approval by another credential makes the change, a cancel ends the proposal, and so does the end of its window. (R152,
R153, R154, R156, R157, R159, R160) -/
def Obligations.DualControlCompletes : Prop :=
  (∀ (s : State) (n : Nat), ServesRead s n 0x131001 → Answers (.dcNonceRead n) s n ({ s with free := s.free + 1, trust := { s.trust with dcNonces := (Config.freeNat s.free % 2 ^ 48 :: s.trust.dcNonces).take 16 } }, .value (.num (Config.freeNat s.free % 2 ^ 48))))
  ∧ (∀ (s : State) (n i : Nat), Serves s n 0x131108 1 → s.hold = false → dcTarget (s.num (Reg.pTarget n)) (s.oct (Reg.pValue n)) = true → s.missing n (s.num (Reg.pTarget n)) = none → ¬(isCmLevel (s.num (Reg.pTarget n)) = true ∧ s.lc ≠ 2) → s.trust.dcNonces.contains (s.num (Reg.pNonce n)) = true → s.credHas (s.num (Reg.pCred n)) 1 = true → firstAbort (s.dcAbort (s.num (Reg.pTarget n)) (s.oct (Reg.pValue n))) = none → s.proposals.any (fun e => e.2.target == s.num (Reg.pTarget n)) = false → s.proposals.length < 8 → (List.range 8).find? (fun i => (s.proposals.get? i).isNone) = some i → s.retort.disagree = false → Answers (.pActionSubmit n) s n
      (let target := s.num (Reg.pTarget n)
       let bytes := s.oct (Reg.pValue n)
       let c := s.num (Reg.pCred n)
       let digest := s.dcDigest (s.num (Reg.pNonce n)) target bytes
       if s.credSigned c digest (s.oct (Reg.pSigEd n)) (s.oct (Reg.pSigMl n)) then
         let pr : Proposal := ⟨target, bytes, c, digest, s.time.dev, s.time.dev + s.dcWindowUnits, false⟩
         let t : State := { s with proposals := s.proposals.put i pr, trust := { s.trust with dcNonces := s.trust.dcNonces.filter (fun x => x != s.num (Reg.pNonce n)) } }
         okay (((t.putAll [(Reg.slotState i, .num 1), (Reg.slotTarget i, .num target), (Reg.slotDigest i, .oct digest), (Reg.slotProposer i, .num c),
           (Reg.slotOpened i, .num t.now96), (Reg.slotCloses i, .num (time96 (pr.closes / nsUnits)))]).raise 0x070201 ((0x1318 + i) * 256) (i * 2097152 + c * 131072)).countBy Reg.rtJobs 2)
       else refuse (s.countBy Reg.rtJobs 2) 0x140002))
  ∧ (∀ (s : State) (n : Nat) (p : Proposal), Serves s n 0x131108 2 → s.hold = false → s.proposals.get? (s.num (Reg.pSlot n)) = some p → p.opened ≤ s.time.dev → s.time.dev < p.closes → s.credHas (s.num (Reg.pCred n)) 1 = true → s.num (Reg.pCred n) ≠ p.proposer → p.changed = false → firstAbort (abortIf (isCmLevel p.target && s.lc != 2) 0x110003 :: s.dcAbort p.target p.value) = none → s.proposals.any (fun e => e.1 != s.num (Reg.pSlot n)) = false → s.retort.disagree = false → Answers (.pActionApprove n) s n
      (let i := s.num (Reg.pSlot n)
       let c := s.num (Reg.pCred n)
       if s.credSigned c p.digest (s.oct (Reg.pSigEd n)) (s.oct (Reg.pSigMl n)) then
         okay ((((s.dcMake p.target p.value).freeSlot i).raise 0x070202 ((0x1318 + i) * 256) (i * 2097152 + p.proposer * 131072 + c * 8192)).countBy Reg.rtJobs 2)
       else refuse (s.countBy Reg.rtJobs 2) 0x140002))
  ∧ (∀ (s : State) (n : Nat) (p : Proposal), Serves s n 0x131108 3 → s.hold = false → s.proposals.get? (s.num (Reg.pSlot n)) = some p → s.credHas (s.num (Reg.pCred n)) 1 = true → s.proposals.any (fun e => e.1 != s.num (Reg.pSlot n)) = false → s.retort.disagree = false → Answers (.pActionCancel n) s n
      (if s.credSigned (s.num (Reg.pCred n)) p.digest (s.oct (Reg.pSigEd n)) (s.oct (Reg.pSigMl n)) then okay ((s.endProposal (s.num (Reg.pSlot n)) 1).countBy Reg.rtJobs 2)
       else refuse (s.countBy Reg.rtJobs 2) 0x140002))
  ∧ (∀ (s : State) (i : Nat) (p : Proposal), s.proposals.get? i = some p → p.closes ≤ s.time.dev → Completes (.dcWindowExpiry i) s ((s.freeSlot i).raise 0x070203 ((0x1318 + i) * 256) (i * 2097152 + p.proposer * 131072)))

/-- Power and reset inputs: internal reset begins, and the backup domain records or loses the time. With main power on,
POWER_GOOD_FALL, RST_N_ASSERT and MAIN_POWER_LOST complete in internal reset with the pin or rail recorded; a main power
loss also records tl and forgets the Flue monitors and the alarms held; VBAT_COLLAPSE without main power loses the backup
domain; everything else of the state follows internal reset. (R747, R756, R691, R692, R758) -/
def Obligations.PowerLossCompletes : Prop :=
  (∀ (s : State), s.mainPower = true → s.powerGood = true → Completes .powerGoodFall s { s.internalReset with powerGood := false })
  ∧ (∀ (s : State), s.mainPower = true → Completes .rstNAssert s { s.internalReset with rstLow := true })
  ∧ (∀ (s : State), s.mainPower = true → Completes .mainPowerLost s { s.internalReset with mainPower := false, powerGood := false, flue := [], alarm := {}, backup := { s.internalReset.backup with mainPresent := false, tl := s.internalReset.backup.rtc, report := false } })
  ∧ (∀ (s : State), s.mainPower = false → Completes .vbatCollapse s { s with backup := { mainPresent := false, lost := true } })

/-- Internal reset: every object at its reset value, and only what the rules keep is kept. The state that internal reset leaves
reads the reset value at every key, is in phase reset with no session, frame, record or range, and keeps OTP, the boot
store, the backup domain, the Flue monitors, the part and the pins. (R111, R126, R758, R603) -/
def Obligations.InternalResetForgets : Prop :=
  (∀ s : State,
    (∀ k, s.internalReset.rd k = resetVal k) ∧ s.internalReset.phase = .reset ∧ s.internalReset.sessions = [] ∧ s.internalReset.bolts = []
      ∧ s.internalReset.ports = [] ∧ s.internalReset.events.queue = [] ∧ s.internalReset.sm = [] ∧ s.internalReset.proposals = []
      ∧ s.internalReset.trust.cert = none ∧ s.internalReset.otp = s.otp ∧ s.internalReset.boot = s.boot
      ∧ s.internalReset.backup = s.backup ∧ s.internalReset.flue = s.flue ∧ s.internalReset.part = s.part
      ∧ s.internalReset.mainPower = s.mainPower ∧ s.internalReset.pending = s.pending)

/-- Return of main power, the end of internal reset, and the Hearth pair coming back. MAIN_POWER_RETURNED with no comparator
high records tr and starts the alarm unit afresh; INTERNAL_RESET_END samples the straps, sets UPTIME to 0 and device time to
the RTC, which starts at 0 in a backup domain that lost its supply (log entry 81), and goes on to Kindling; a switch-over
and a Kindling restart end with the cursors lost and the banked core loading; the banked core comes into step. (R691, R760,
R698, R699) -/
def Obligations.PowerReturnCompletes : Prop :=
  (∀ (s : State), s.mainPower = false → Completes (.mainPowerReturned false false false) s
      { s with mainPower := true, alarm := {}, backup := { s.backup with mainPresent := true, tr := s.backup.rtc, report := true, vbatLow := { s.backup.vbatLow with out := false }, tempHigh := { s.backup.tempHigh with out := false }, senseIn := { s.backup.senseIn with out := false } } })
  ∧ (∀ (s : State) (st : StartInput) (l : Bool), s.phase = .reset → s.mainPower = true → st.stuck = [] → s.lc ≠ 15 → s.backup.lost = l → Completes (.internalResetEnd st) s
      ({ s with powerGood := true, rstLow := false, addrSel := st.addrSel % 4, pairId := st.pairId % 2, hearth := { s.hearth with start := some st }, time := { dev := (if l then 0 else s.backup.rtc) * 1000000000 * nsUnits, latched := if l then 0 else s.backup.rtc }, backup := { s.backup with rtc := if l then 0 else s.backup.rtc, phase := if l then 0 else s.backup.phase, bkState := if l then 1 else 0 } } : State).kindling)
  ∧ (∀ (s : State), s.hearth.gap = true → Completes .switchOverComplete s (({ s with hearth := { s.hearth with gap := false } } : State).cursorsLost.putN Reg.hearthBanked 1))
  ∧ (∀ (s : State), s.hearth.restarting = true → Completes .kindlingRestartComplete s (({ s with hearth := { s.hearth with restarting := false } } : State).cursorsLost.putN Reg.hearthBanked 1))
  ∧ (∀ (s : State), s.num Reg.hearthBanked = 1 → s.hearth.halted = false → s.hearth.gap = false → Completes .hearthBankedInStep s (s.putN Reg.hearthBanked 2))

/-- A failing Hearth core: switch-over to a core in step, or a Kindling restart. A watchdog expiry and a memory error of the
active core begin a switch-over where the banked core is in step and a Kindling restart where it is not, each with its
cause; HEARTH_CMD = 1 begins a switch-over after its response. (R697, R698, R699) -/
def Obligations.CoreFailureCompletes : Prop :=
  (∀ (s : State), s.phase = .ready → s.hearth.restarting = false → s.num Reg.hearthBanked = 2 → Completes .watchdogExpiry s (s.switchOver 0))
  ∧ (∀ (s : State), s.phase = .ready → s.hearth.restarting = false → s.num Reg.hearthBanked ≠ 2 → Completes .watchdogExpiry s (s.kindlingRestart 0))
  ∧ (∀ (s : State), s.phase = .ready → s.hearth.restarting = false → s.num Reg.hearthBanked = 2 → Completes .hearthMemoryError s (s.switchOver 1))
  ∧ (∀ (s : State), s.phase = .ready → s.hearth.restarting = false → s.num Reg.hearthBanked ≠ 2 → Completes .hearthMemoryError s (s.kindlingRestart 1))
  ∧ (∀ (s : State) (n : Nat), Serves s n 0x150002 1 → s.num Reg.hearthBanked = 2 → Answers (.hearthCmd n 1) s n (okay (s.switchOver 2)))

/-- The backup domain: its clock, its comparators and their clearing. Each second of the crystal adds one to the RTC while the
domain lives; a trip sets the output, latches, records the first RTC second and counts; a release only drops the output;
BK_CLEAR from a network session clears all three records and keeps the outputs. (R687, R688, R689, R690) -/
def Obligations.BackupDomainCompletes : Prop :=
  (∀ (s : State), ¬(s.backup.lost = true ∧ s.mainPower = false) → 500000000 ≤ s.backup.phase → Completes .rtcSecondTick s { s with backup := { s.backup with rtc := (s.backup.rtc + 1) % 2 ^ 64, phase := 0 } })
  ∧ (∀ (s : State) (j : Nat), j < 3 → (s.backup.comp j).out = false → s.mainPower = false → s.backup.lost = false → Completes (.bkComparatorTrip j) s
      { s with backup := s.backup.setComp j { out := true, latched := true, first := if (s.backup.comp j).latched then (s.backup.comp j).first else s.backup.rtc, trips := min ((s.backup.comp j).trips + 1) 255, onBattery := if (s.backup.comp j).latched then (s.backup.comp j).onBattery else true } })
  ∧ (∀ (s : State) (j : Nat), j < 3 → Completes (.bkComparatorRelease j) s { s with backup := s.backup.setComp j { s.backup.comp j with out := false } })
  ∧ (∀ (s : State) (n : Nat), Serves s n 0x144008 1 → n ≠ 0 → Answers (.bkClear n 1) s n (okay { s with backup := { s.backup with vbatLow := { out := s.backup.vbatLow.out }, tempHigh := { out := s.backup.tempHigh.out }, senseIn := { out := s.backup.senseIn.out } } }))

/-- The Flue detectors and the host side of the alarms. A detector whose output was released asserts it; where a firing of the
other detector of its kind less than 1 microsecond old waits, the two agree and that firing waits no longer; where none
does, the firing is an event of its kind at its instant and waits to be agreed with. A release drops the output. A firing
that has waited 1 microsecond is recognised as lone. ALM_ACK clears the bits of ALM_PENDING that its mask names;
ALM_HOLD_CLEAR = 1 from a network session with the DUAL_CONTROL role ends the hold, and is refused on session 0 and without
the role. (R671, R675, R679, R680, R681) -/
def Obligations.AlarmInputsComplete : Prop :=
  (∀ (s : State) (k : Nat) (d : Bool), k < 5 → s.mainPower = true → (if d then (s.flueKind k).outB else (s.flueKind k).outA) = false → (s.flueKind k).waiting.find? (fun w => w.2 != d && decide (s.alarm.clock < w.1 + 1000)) = none → Completes (.flueDetectorFire k d) s
      ((s.setFlue k { (if d then { s.flueKind k with outB := true } else { s.flueKind k with outA := true } : FlueKind) with waiting := (s.flueKind k).waiting ++ [(s.alarm.clock, d)] }).flueEvent k s.alarm.clock))
  ∧ (∀ (s : State) (k : Nat) (d : Bool) (w : Nat × Bool), k < 5 → s.mainPower = true → (if d then (s.flueKind k).outB else (s.flueKind k).outA) = false → (s.flueKind k).waiting.find? (fun w => w.2 != d && decide (s.alarm.clock < w.1 + 1000)) = some w → Completes (.flueDetectorFire k d) s
      (s.setFlue k { (if d then { s.flueKind k with outB := true } else { s.flueKind k with outA := true } : FlueKind) with waiting := (s.flueKind k).waiting.erase w }))
  ∧ (∀ (s : State) (k : Nat) (d : Bool), k < 5 → s.mainPower = true → Completes (.flueDetectorRelease k d) s
      (s.setFlue k (if d then { s.flueKind k with outB := false } else { s.flueKind k with outA := false })))
  ∧ (∀ (s : State) (k : Nat) (w : Nat × Bool), (s.flueKind k).waiting.find? (fun w => decide (w.1 + 1000 ≤ s.alarm.clock)) = some w → Completes (.flueLoneRecognised k) s ((s.setFlue k { s.flueKind k with waiting := (s.flueKind k).waiting.erase w }).flueLone k w.1 w.2))
  ∧ (∀ (s : State) (n m : Nat), Serves s n 0x141002 m → m < 512 → Answers (.almAck n m) s n (okay (s.putN Reg.almPending (s.num Reg.almPending - (s.num Reg.almPending &&& m)))))
  ∧ (∀ (s : State) (n : Nat), Serves s n 0x141004 1 → n ≠ 0 → s.sessHas n 1 = true → Answers (.almHoldClear n 1) s n (okay (s.putN Reg.almHold 0)))
  ∧ (∀ (s : State) (n : Nat), Serves s n 0x141004 1 → n = 0 ∨ s.sessHas n 1 = false → Answers (.almHoldClear n 1) s n (s, .abort (if n = 0 then 0x110005 else 0x110004)))

/-- The temperature sensor: a sample, its warning with hysteresis, and a write of TJ_PEAK. Each sample sets TJ_NOW, and TJ_PEAK
where it is above it; where it is at TJ_WARN or above and no warning stands, it raises event 0x0A_0004 with TJ_NOW and the
warning stands; at 5.0 degrees below TJ_WARN or lower the warning stands no longer; else nothing more. A write of any value
to TJ_PEAK sets it to TJ_NOW. (R753, R755) -/
def Obligations.TemperatureCompletes : Prop :=
  (∀ (s : State) (tj : Int), Completes (.tjSample tj) s
      (let u := s.putN Reg.tjNow (toI24 tj)
       let u := if i24 (s.num Reg.tjPeak) < tj then u.putN Reg.tjPeak (toI24 tj) else u
       if i24 (s.num Reg.tjWarn) ≤ tj ∧ s.tjWarned = false then ({ u with tjWarned := true } : State).raise 0x0A0004 0x100400 (toI24 tj)
       else if tj ≤ i24 (s.num Reg.tjWarn) - 50 then { u with tjWarned := false } else u))
  ∧ (∀ (s : State) (n v : Nat), Serves s n 0x100402 v → Answers (.tjPeak n v) s n (okay (s.putN Reg.tjPeak (s.num Reg.tjNow))))

/-- The egress scheduler: selection, due frames, underruns, the end of a frame, and gates. On a free link a PAUSE or PFC frame
goes first and else the scheduler selects; a due class D frame starts and the overdue ones are marked late; an underrun
spoils the frame, counts it, and a class C one raises CT_START until 63; the end of a frame counts it, charges it and frees
it; a gate edge settles credit and a takeover at its time puts the admin list in operation. (R83, R85, R86, R88, R90, R362,
R500, R507, R511, R515) -/
def Obligations.SchedulerCompletes : Prop :=
  (∀ (s : State) (p : Nat) (c : Octets) (rest : List Octets), s.ownsLanes p = true → (s.port p).control = c :: rest → (s.port p).sending = none → s.num (Reg.pLinkUp p) = 1 → s.num (Reg.pFaultRx p) = 0 → Completes (.frameSelected p) s (((s.setPort p { s.port p with control := rest }).count (Reg.pPauseTx p)).emit (.control p c)))
  ∧ (∀ (s : State) (p : Nat), s.ownsLanes p = true → (s.port p).control = [] → s.linkFree p = true → Completes (.frameSelected p) s (s.select p))
  ∧ (∀ (s : State) (p : Nat), s.ownsLanes p = true → Completes (.frameDue p) s
      (let t := s.purge p
       match t.pickDue p with
       | some (q, k) => (if t.linkFree p && (t.port p).control.isEmpty then t.startFrame p q k false else t).markLate p
       | none => t.markLate p))
  ∧ (∀ (s : State) (p : Nat) (x : Sending), (s.port p).sending = some x → x.frame.cls = 0 → x.ct < 63 → x.ct * 256 < x.frame.line → x.frame.sector = none → s.num (Reg.pCtStart x.port) < 63 → Completes (.classCUnderrun p) s
      (let t := ((s.spoil p).count (Reg.bCUnderruns (boltOfPort x.port))).count (Reg.pCUnderruns x.port)
       if t.num (Reg.pCtStart x.port) < 63 then
         (t.putN (Reg.pCtStart x.port) (t.num (Reg.pCtStart x.port) + 1)).raise 0x010003 ((0x3000 + 4 * x.port) * 256) (x.port * 16384 + (t.num (Reg.pCtStart x.port) + 1))
       else t))
  ∧ (∀ (s : State) (p : Nat) (x : Sending), (s.port p).sending = some x → x.frame.cls = 2 → x.frame.late = false → Completes (.classCUnderrun p) s
      ((((s.spoil p).count (Reg.bDUnderruns (boltOfPort x.port))).count (Reg.pDUnderruns x.port)).raiseKeyed 0x010004 (x.port * 4 + 2) ((0x3000 + 4 * x.port + 2) * 256) (x.port * 16384 + 8192)))
  ∧ (∀ (s : State) (p ts : Nat) (x : Sending), (s.port p).sending = some x → Completes (.frameTxEnd p ts) s
      (let f := x.frame
       let t := s.settleCredit x.port
       let t := t.setPort p { t.port p with sending := none }
       let t := ((t.countTx f).count (Reg.qTxFrames (queueRow x.port f.queue))).countBy (Reg.qTxOctets (queueRow x.port f.queue)) f.line
       let len := (f.line : Int) + x.extra
       let t := t.chargeCredit x.port f.queue len
       let t := if f.cls = 0 ∧ t.strictQ x.port f.queue = false then
           let t := if ((t.port x.port).queue f.queue).isEmpty then t else t.setDeficit x.port f.queue (t.deficit x.port f.queue - len)
           t.chargeLink p x.port len
         else t
       let t := t.queueEmptied x.port f.queue
       let stamp := (ts : Int) + i24 (t.num (Reg.pTsTxAdj p)) * 65536 / 1000
       let t := ((t.tcMeasure f stamp).emit (.frame p f.bytes (!(f.bad || f.poison)))).sendPcs p (f.bytes ++ fcsBytes f.bytes (f.bad || f.poison))
       (t.traceEnd (f.leaves stamp) false).pauseAfter f))
  ∧ (∀ (s : State) (p : Nat), Completes (.gateEdge p) s (s.settleCredit p))
  ∧ (∀ (s : State) (p : Nat), (s.port p).admin = true → time96Ns (s.num (Reg.pTakeoverTime p)) ≤ s.nowNs → Completes (.gateTakeover p) s (s.takeover p))

/-- PAUSE and PFC timers, and the station table: learning, ageing, flushing. A PAUSE is sent again when half its time has passed
with the count at or above XON_THRESH; a partner pause ends at its time; the arbiter serves the oldest learn request of a
bolt; an age tick retires learned rows at AGE_TIME and ages the others; STN_FLUSH removes learned entries and its completion
raises event 0x05_0004. (R311, R314, R316, R362, R363, R364) -/
def Obligations.PauseAndStationsComplete : Prop :=
  (∀ (s : State) (p prio t : Nat), (s.port p).pausedAt.get? prio = some t → s.pauses p prio = true → t * s.portRate p + s.num (Reg.pPauseQuanta p) * 256000 ≤ s.time.elapsed * s.portRate p → Completes (.pauseRepeat p prio) s
      (let t := s.sendPause p prio (s.num (Reg.pPauseQuanta p))
       t.setPort p { t.port p with pausedAt := (t.port p).pausedAt.put prio t.time.elapsed }))
  ∧ (∀ (s : State) (p prio t : Nat), (s.port p).peerPause.get? prio = some t → t ≤ s.time.elapsed → Completes (.peerPauseExpiry p prio) s (s.setPort p { s.port p with peerPause := (s.port p).peerPause.del prio }))
  ∧ (∀ (s : State) (b : Nat) (r : LearnReq) (rest : List LearnReq), (s.bolt b).learn = r :: rest → Completes (.stationLearn b) s ((s.setBolt b { s.bolt b with learn := rest }).serveLearn b r))
  ∧ (∀ (s : State) (b : Nat), b < s.nBolts → (s.bolt b).ageAt + 1000000000 ≤ s.time.elapsed → Completes (.ageSweepTick b) s
      (let u := (s.setBolt b { s.bolt b with ageAt := (s.bolt b).ageAt + 1000000000 }).serveAll b
       let limit := u.num (Reg.bAgeTime b)
       let t := u.pc b 0x081 33280
       forEach (t.rowsListed 0x4300) (fun t row =>
         if row / 65536 ≠ b ∨ t.rowState 0x4300 row ≠ 1 ∨ t.num (Reg.stnStatic row) = 1 then t
         else if limit ≠ 0 ∧ limit ≤ t.num (Reg.stnAge row) then (t.stationEmpty row).count (Reg.bStnAged b)
         else (t.count (Reg.stnAge row)).bumpVersion 0x4300 row) t))
  ∧ (∀ (s : State) (n b v : Nat), Serves s n (boltAddr b 9 5) v → v ≤ 127 ∨ v = 0xFFFF → Answers (.stnFlush n b v) s n (okay (s.flushStations b v)))
  ∧ (∀ (s : State) (b n : Nat) (rest : List Nat), (s.bolt b).flushes = n :: rest → Completes (.stnFlushComplete b) s ((s.setBolt b { s.bolt b with flushes := rest }).raise 0x050004 ((0x2000 + 0x100 * b) * 256) (b * 2097152 + min n 65535)))

/-- Parity errors of beats and rows, and the reseeding of a generator. A parity error at a checking point of a bolt asks for a
replay, which is counted and marks what it sends again; where what was replayed fails again, the error is persistent: it is
counted, has its effect at its point, and event 0x01_0001 names the pipe, the point, and the first interface it poisoned. A
reseed that succeeds clears the failure and counts; a first failure raises event 0x02_0008; a further one is counted. (R41,
R42, R43, R47, R49, R54, R179) -/
def Obligations.ErrorsOfABoltComplete : Prop :=
  (∀ (s : State) (e : ParityError) (c : Crossing), e.b < s.nBolts → refFits e.point e.at_ = true → ((s.pipe e.b e.pipe).point e.point).crossing e.at_ = some c → ((s.pipe e.b e.pipe).point e.point).failed ≠ some c → Completes (.beatParityError e) s
      (let ps := s.pipe e.b e.pipe
       let x := ps.point e.point
       let t := s.setPipe e.b e.pipe { ps with points := ps.points.put e.point (x.fail c).2 }
       ((t.count (Reg.bReplays e.b)).pc e.b (0x030 + pipeNo e.pipe) 1).replays e x c))
  ∧ (∀ (s : State) (e : ParityError) (c : Crossing), e.b < s.nBolts → refFits e.point e.at_ = true → ((s.pipe e.b e.pipe).point e.point).crossing e.at_ = some c → ((s.pipe e.b e.pipe).point e.point).failed = some c → Completes (.beatParityError e) s
      (let ps := s.pipe e.b e.pipe
       let x := ps.point e.point
       let t := (s.setPipe e.b e.pipe { ps with points := ps.points.put e.point { x with failed := none } }).count (Reg.bPersistent e.b)
       (t.persists e x c).2.raise 0x010001 ((0x2000 + 0x100 * e.b) * 256)
         (e.b * 2097152 + pipeNo e.pipe * 1048576 + e.point % 16 * 65536
           + (match (t.persists e x c).1 with | some p => 1024 + p % 1024 | none => 0))))
  ∧ (∀ (s : State) (b : Nat) (pipe : Pipe), b < s.nBolts → Completes (.generatorReseedRetry b pipe true) s (s.setPipe b pipe { s.pipe b pipe with genFailed := false, reseeds := (s.pipe b pipe).reseeds + 1, sinceReseed := 0 }))
  ∧ (∀ (s : State) (b : Nat) (pipe : Pipe), b < s.nBolts → (s.pipe b pipe).genFailed = false → Completes (.generatorReseedRetry b pipe false) s ((s.setPipe b pipe { s.pipe b pipe with genFailed := true }).raise 0x020008 ((0x2000 + 0x100 * b) * 256) (b * 2097152 + pipeNo pipe * 1048576 + 1)))
  ∧ (∀ (s : State) (b : Nat) (pipe : Pipe), b < s.nBolts → (s.pipe b pipe).genFailed = true → Completes (.generatorReseedRetry b pipe false) s (s.count (reseedFails b pipe)))

/-- Bindings, the switch of association number, the end of a retired row, the arm of a flip, wrapped and legacy keys. TX_SA_ANn
keeps a binding that R239 allows, writes nothing where the row is bound already, and is refused with 0x13_0010 for an SA of
another bolt and 0x13_0021 for one that may not be bound. TX_AN switches to an AN with no SA bound, or with an INSTALLED one
whose binding counts, records the time, discards the keystream of the SA left and raises event 0x02_0010; the AN in force is
only stored; any other is refused with 0x12_0013. A RETIRING row with no frame left is emptied. TW_ARM = 1 arms where the
other phase has an INSTALLED row and is refused with 0x12_0013 where it has none; = 2 cancels. WRAP stores the wrapped key
in the slot and the staged BLOB and erases the clear one. A legacy key makes its row INSTALLED, is erased, and the attempt
raises event 0x07_0301. (R232, R239, R240, R241, R258, R259, R267, R274, R275) -/
def Obligations.SecurityAssociationCommandsComplete : Prop :=
  (∀ (s : State) (n p a v : Nat), a < 4 → Serves s n (portAddr p 3 (0x11 + a)) v → v ≠ s.num (portKey p 3 (0x11 + a)) → ¬(a = s.num (Reg.pTxAnInForce p) ∧ s.num (portKey p 3 (0x11 + a)) ≠ 0xFFFFFF ∧ s.rowState 0x4000 (s.num (portKey p 3 (0x11 + a))) = 3) → v = 0xFFFFFF ∨ (boltOfSa v = boltOfPort p ∧ s.bindable p v = true) → Answers (.txSaAn n p a v) s n (okay ((s.putN (portKey p 3 (0x11 + a)) v).mirror (.binding p (0x11 + a) v))))
  ∧ (∀ (s : State) (n p a : Nat), a < 4 → Serves s n (portAddr p 3 (0x11 + a)) (s.num (portKey p 3 (0x11 + a))) → Answers (.txSaAn n p a (s.num (portKey p 3 (0x11 + a)))) s n (okay s))
  ∧ (∀ (s : State) (n p a v : Nat), a < 4 → Serves s n (portAddr p 3 (0x11 + a)) v → v ≠ s.num (portKey p 3 (0x11 + a)) → s.rowState 0x4000 (s.num (portKey p 3 (0x11 + a))) ≠ 3 → v ≠ 0xFFFFFF → boltOfSa v ≠ boltOfPort p ∨ s.bindable p v = false → Answers (.txSaAn n p a v) s n (s, .abort (if boltOfSa v ≠ boltOfPort p then 0x130010 else 0x130021)))
  ∧ (∀ (s : State) (n p v : Nat), Serves s n (portAddr p 3 0x15) v → v ≤ 3 → v ≠ s.num (Reg.pTxAnInForce p) → s.num (portKey p 3 (0x11 + v)) = 0xFFFFFF ∨ (s.rowState 0x4000 (s.num (portKey p 3 (0x11 + v))) = 1 ∧ s.bindingCounts p (s.num (portKey p 3 (0x11 + v))) = true) → Answers (.txAn n p v) s n
      (let old := s.num (Reg.pTxAnInForce p)
       let was := s.anBinding p
       let t := ((s.putN (Reg.pTxAn p) v).putN (Reg.pTxAnInForce p) v).putN (Reg.pTxSwitched p) s.now96
       let t := if was = 0xFFFFFF then t else t.discardKeystream (boltOfPort p) .e was
       okay ((t.raise 0x020010 ((0x3000 + 4 * p + 3) * 256) (p * 16384 + old * 4096 + v * 1024)).mirror (.txAn p v))))
  ∧ (∀ (s : State) (n p : Nat), Serves s n (portAddr p 3 0x15) (s.num (Reg.pTxAnInForce p)) → s.num (Reg.pTxAnInForce p) ≤ 3 → Answers (.txAn n p (s.num (Reg.pTxAnInForce p))) s n (okay (s.putN (Reg.pTxAn p) (s.num (Reg.pTxAnInForce p)))))
  ∧ (∀ (s : State) (n p v : Nat), Serves s n (portAddr p 3 0x15) v → v ≤ 3 → v ≠ s.num (Reg.pTxAnInForce p) → s.num (portKey p 3 (0x11 + v)) ≠ 0xFFFFFF → ¬(s.rowState 0x4000 (s.num (portKey p 3 (0x11 + v))) = 1 ∧ s.bindingCounts p (s.num (portKey p 3 (0x11 + v))) = true) → Answers (.txAn n p v) s n (s, .abort 0x120013))
  ∧ (∀ (s : State) (sa : Nat), s.rowState 0x4000 sa = 4 → s.saBusy sa = false → Completes (.saRetired sa) s (s.saEmptied sa 0))
  ∧ (∀ (s : State) (n p : Nat), Serves s n (portAddr p 3 0x24) 1 → s.num (Reg.pTwTxState p) ≠ 1 → s.rowState 0x4000 (s.txPhaseRow p (1 - s.num (Reg.pTwTxPhase p))) = 1 → Answers (.twArmFlip n p) s n (okay (((s.putN (Reg.pTwTxState p) 1).setTrib p { s.trib p with armedAt := s.time.elapsed }).mirror (.arm p true))))
  ∧ (∀ (s : State) (n p : Nat), Serves s n (portAddr p 3 0x24) 1 → s.num (Reg.pTwTxState p) ≠ 1 → s.rowState 0x4000 (s.txPhaseRow p (1 - s.num (Reg.pTwTxPhase p))) ≠ 1 → Answers (.twArmFlip n p) s n (s, .abort 0x120013))
  ∧ (∀ (s : State) (n p : Nat), Serves s n (portAddr p 3 0x24) 2 → s.num (Reg.pTwTxState p) = 1 → Answers (.twArmCancel n p) s n (okay ((s.putN (Reg.pTwTxState p) 0).mirror (.arm p false))))
  ∧ (∀ (s : State) (n row : Nat), Serves s n 0x480015 1 → n ≠ 0 → s.sessHas n 2 = true → s.kduReady = true → s.noRow n 0x4800 = none → s.cursor n 0x4800 = row → keyTypeLength (s.num (stage n 0x4800 0x13)) ≠ 0 → (s.oct (stage n 0x4800 0x11)).length = keyTypeLength (s.num (stage n 0x4800 0x13)) → s.num (stage n 0x4800 0x12) = 0xFF ∨ s.num (stage n 0x4800 0x12) < s.nBolts → Answers (.wrap n 1) s n
      (let blob := s.wrapBlob (s.num (stage n 0x4800 0x12)) (s.num (stage n 0x4800 0x13)) (s.num (stage n 0x4800 0x14)) (s.oct (stage n 0x4800 0x11))
       ((((s.putO (Reg.blob row) blob).setRowState 0x4800 row 1).putO (stage n 0x4800 0x10) blob).clear (stage n 0x4800 0x11), .ok)))
  ∧ (∀ (s : State) (n : Nat), Serves s n 0x133004 1 → s.num Reg.legacyEnable ≠ 0 → s.lc = 5 → s.num Reg.legacySa < s.nSas → s.rowState 0x4000 (s.num Reg.legacySa) = 7 → ((s.oct (Reg.legacyKey n)).length = 16 ∧ (s.num (Reg.saSuite (s.num Reg.legacySa)) = 0 ∨ s.num (Reg.saSuite (s.num Reg.legacySa)) = 2)) ∨ ((s.oct (Reg.legacyKey n)).length = 32 ∧ (s.num (Reg.saSuite (s.num Reg.legacySa)) = 1 ∨ s.num (Reg.saSuite (s.num Reg.legacySa)) = 3)) → Answers (.legacyGo n 1) s n
      (let sa := s.num Reg.legacySa
       let t := (((s.putO (.row 0x4000 sa 0x100) (s.oct (Reg.legacyKey n))).putN (Reg.saKeyId sa) 0xFFFFFFFFFFFF).setRowState 0x4000 sa 1).count Reg.legacyUses
       let t := t.mirror (t.saItem sa)
       ((t.clear (Reg.legacyKey n)).raise 0x070301 0x133000 (t.num Reg.legacySa % 65536), .ok)))

/-- Received frames and panels: what each arrival does on the path it takes. On a clear interface that is up, a frame shorter
than 64 bytes is counted in RUNTS and one with a bad FCS in FCS_ERRORS, and goes no further; a frame of its own port or sub-
port that meets none of checks 1 to 5 goes on to classification; a STOPPED interface counts STOPPED_DISCARDS. On a line
interface a frame with EtherType 0x88E5 goes to the exact match, and one of the wrong length is counted in RUNTS. A
keystream fill lets the first frame that waits for one pass; a sector transform done lets the first frame that waits for it
go on, in either pipe. A panel with a unit out of an uncorrectable codeword is counted in PANELS_FEC_LOST and not verified;
another is decrypted with the counter that follows the last verified one. (R69, R340, R350, R356, R409, R411, R445, R446) -/
def Obligations.FrameArrivalCompletes : Prop :=
  (∀ (s : State) (p : Nat) (rx : RxFrame), s.phase ≠ .reset → p < s.nPorts → s.kind p = 1 → s.fnState (.port p) ≠ 0 → s.num (Reg.pLinkUp p) = 1 → (s.port p).arriving.first = false → 60 ≤ rx.bytes.length → rx.fcsOk = true → rx.bytes.length + 4 ≤ (s.arrives p .e rx).2.num (Reg.pMaxFrame p) → fieldAt rx.bytes 12 2 ≠ 0x8808 → ((s.arrives p .e rx).2.silsyFrame rx.bytes || (s.arrives p .e rx).2.silsyBroadcast rx.bytes) = false → groupMac (frameDst rx.bytes) = false → (((s.arrives p .e rx).2.parsed p .e rx (s.port p).arriving.poison).2).fnState (.port ((s.arrives p .e rx).2.assigned p rx.bytes)) = 2 → Completes (.clearFrameReceived p rx) s
      (let q := (s.arrives p .e rx).2.assigned p rx.bytes
       let (seen, t) := (s.arrives p .e rx).2.parsed p .e rx (s.port p).arriving.poison
       (t.classifyE q p rx (t.saOfHead p (earlyHead rx.bytes (s.port p).lastHead seen)) (s.port p).arriving none).drainHearth))
  ∧ (∀ (s : State) (p : Nat) (rx : RxFrame), s.phase ≠ .reset → p < s.nPorts → s.kind p = 1 → s.fnState (.port p) ≠ 0 → s.num (Reg.pLinkUp p) = 1 → rx.bytes.length < 60 → Completes (.clearFrameReceived p rx) s ((s.arrives p .e rx).2.count (Reg.pRunts p)).drainHearth)
  ∧ (∀ (s : State) (p : Nat) (rx : RxFrame), s.phase ≠ .reset → p < s.nPorts → s.kind p = 1 → s.fnState (.port p) ≠ 0 → s.num (Reg.pLinkUp p) = 1 → (s.port p).arriving.first = false → 60 ≤ rx.bytes.length → rx.fcsOk = false → rx.started = false → rx.final = false → Completes (.clearFrameReceived p rx) s ((s.arrives p .e rx).2.count (Reg.pFcsErrors p)).drainHearth)
  ∧ (∀ (s : State) (p : Nat) (rx : RxFrame), s.phase ≠ .reset → p < s.nPorts → s.kind p = 1 → s.fnState (.port p) = 0 → Completes (.clearFrameReceived p rx) s (s.count (Reg.pStoppedDiscards p)).drainHearth)
  ∧ (∀ (s : State) (p : Nat) (rx : RxFrame), s.phase ≠ .reset → p < s.nPorts → s.kind p = 3 → s.ownsLanes p = true → s.fnState (.port p) ≠ 0 → s.num (Reg.pLinkUp p) = 1 → (s.port p).arriving.first = false → 60 ≤ rx.bytes.length → rx.bytes.length ≤ 16028 → rx.fcsOk = true → fieldAt rx.bytes 12 2 = 0x88E5 → Completes (.lineFrameReceived p rx) s ((s.arrives p .d rx).2.lineParsed p rx (s.port p).arriving (s.port p).lastHead false).drainHearth)
  ∧ (∀ (s : State) (p : Nat) (rx : RxFrame), s.phase ≠ .reset → p < s.nPorts → s.kind p = 3 → s.ownsLanes p = true → s.fnState (.port p) ≠ 0 → s.num (Reg.pLinkUp p) = 1 → rx.bytes.length < 60 → Completes (.lineFrameReceived p rx) s ((s.arrives p .d rx).2.count (Reg.pRunts p)).drainHearth)
  ∧ (∀ (s : State) (b : Nat) (pipe : Pipe), s.phase ≠ .reset → b < s.nBolts → Completes (.keystreamMissFilled b pipe) s
      ((s.setPipe b pipe { s.pipe b pipe with fifo := fillFirst (s.pipe b pipe).fifo }).drain b pipe).drainHearth)
  ∧ (∀ (s : State) (b : Nat) (f : Frame) (n : Nat) (rest : List Frame), s.phase ≠ .reset → b < s.nBolts → s.hasSector = true → (s.pipe b .d).after = f :: rest → f.stage = .waitSector → f.stream = some n → (s.setPipe b .d { s.pipe b .d with after := rest }).engineClosed n b = none → Completes (.sectorTransformDone b .d) s
      (let (bs, t) := (s.setPipe b .d { s.pipe b .d with after := rest }).sectorTransform n false f.bytes
       let f := { f with bytes := bs, stream := none }
       (((t.crosses f 3 []).gateD f).releaseAfter b (rest.length + 1)).drainHearth))
  ∧ (∀ (s : State) (b : Nat), s.phase ≠ .reset → b < s.nBolts → s.hasSector = true → Completes (.sectorTransformDone b .e) s (s.sectorDoneE b).drainHearth)
  ∧ (∀ (s : State) (p : Nat) (rx : PanelRx) (us : List RxUnit) (u : State), s.phase ≠ .reset → s.tribRunning p = true → s.num (Reg.pTribDelineated p) ≠ 0 → (s.tribLanes p).any (fun l => s.hardDefect (lineOf (boltOfPort p) l)) = false → s.delineate p (s.rxUnits p rx) ((s.trib p).pointers.length + 1) = (some us, u) → us.any (fun x => x.unit.isNone) = true → Completes (.twPanelReceived p rx) s
      ((u.count (Reg.pPanelsFecLost p)).panelSkipped p).drainHearth)
  ∧ (∀ (s : State) (p : Nat) (rx : PanelRx) (us : List RxUnit) (u : State), s.phase ≠ .reset → s.tribRunning p = true → s.num (Reg.pTribDelineated p) ≠ 0 → (s.tribLanes p).any (fun l => s.hardDefect (lineOf (boltOfPort p) l)) = false → s.delineate p (s.rxUnits p rx) ((s.trib p).pointers.length + 1) = (some us, u) → us.any (fun x => x.unit.isNone) = false → rx.short = false → (u.trib p).rxPoison = false → Completes (.twPanelReceived p rx) s
      (let units := us.filterMap (fun x => x.unit)
       (u.panelEnters p units).panelOpen p (units.take 64) (us.map (fun x => x.ts)) (units.getD 64 0)).drainHearth)

/-- Twill transmit: panels sent or withheld, the multiframe boundary, the release of an old phase. A tributary that sends closes
panels ahead; the panel begun is sent to its end, and where none is begun the next is begun first: sealed under the row of
its phase once it has its keystream; where that row has no key for Twill the client data is discarded and counted; at a
limit the tributary stops with its events and the panel is withheld. A multiframe boundary advances the counter of the group
and gives every tributary of the group its chance to flip. The release of an old phase empties its row, unless it is EMPTY
or FAULTED, with event 0x02_0014. (R209, R211, R222, R232, R267, R268, R380, R402) -/
def Obligations.TwillTransmitCompletes : Prop :=
  (∀ (s : State) (p : Nat) (u : State), s.tribSends p = true → u = s.closeAhead p 2 → (u.trib p).line ≠ [] → Completes (.twPanelSent p) s (u.panelDone p))
  ∧ (∀ (s : State) (p row phase : Nat) (u : State), s.tribSends p = true → u = s.closeAhead p 2 → (u.trib p).line = [] → phase = u.panelPhase p false → row = u.txPhaseRow p phase → u.panelReady p = true → u.panelKey row = false → Completes (.twPanelSent p) s ((u.keyless p row).panelFinish p))
  ∧ (∀ (s : State) (p row phase : Nat) (u : State), s.tribSends p = true → u = s.closeAhead p 2 → (u.trib p).line = [] → phase = u.panelPhase p false → row = u.txPhaseRow p phase → u.panelReady p = true → u.panelKey row = true → u.panelBarred p (u.phaseCount p phase) = true → Completes (.twPanelSent p) s (((u.panelStop p).withhold p).panelFinish p))
  ∧ (∀ (s : State) (p row phase : Nat) (u v : State) (claim : Claim), s.tribSends p = true → u = s.closeAhead p 2 → (u.trib p).line = [] → phase = u.panelPhase p false → row = u.txPhaseRow p phase → u.panelReady p = true → u.panelKey row = true → u.panelBarred p (u.phaseCount p phase) = false → u.claimSlot (boltOfPort p) .e (keyOwner row) (u.pcNext p + 1) (if decide (u.phaseCount p phase + 1 < u.num (Reg.bTwPanelLimit (boltOfPort p)) ∧ u.pcNext p + 1 < 2 ^ 76 - 1) then 32 else 0) [u.pcNext p] = (claim, v) → claim ≠ .wait → Completes (.twPanelSent p) s ((v.sendPanel p row phase claim).panelFinish p))
  ∧ (∀ (s : State) (b g : Nat), g < 8 → s.running (.group b g) = true → Completes (.twMultiframeBoundary b g) s
      (let row := b * 1024 + g
       let x := (s.grp row).nextMulti
       forEach ((s.setGrp row x).groupTribs row) (fun t p => t.txFlip p x.mfc) (s.setGrp row x)))
  ∧ (∀ (s : State) (p ph : Nat) (u : State), (s.trib p).releasing = some ph → u = (match (s.trib p).begun with | some (_, old) => if old = ph then s.panelFinish p else s | none => s) → Completes (.twTxPhaseRelease p) s
      (((u.setTrib p { u.trib p with releasing := none }).phaseReleased (s.txPhaseRow p ph)).raise 0x020014 ((0x3000 + 4 * p + 3) * 256) (p * 16384 + ph * 8192)))

/-- Twill receive: overhead units, defect timers, and the end of ACQUIRE. An overhead unit on a line lane of a running group has
what the FEC made of its codewords counted and is read after descrambling; one with a wrong OH_CRC moves the alignments, the
skew and the error counters and nothing else. A frame alignment that has lasted 3 ms declares or clears LOF; a lost
multiframe alignment or a spread over 4,000 ns that has lasted 3 ms declares LOM, and both good for 3 ms clear it. ACQUIRE
ends after a hold without a hard defect, with event 0x03_0204. TG_FORCE_ACQ is committed to the selected group row. (R375,
R414, R415, R416, R419, R420) -/
def Obligations.TwillReceiveCompletes : Prop :=
  (∀ (s : State) (ll row : Nat) (oh : OverheadRx), s.runningGroup ll = some row → Completes (.twOverheadReceived ll oh) s
      (((s.farEnd (64 + ll) oh.cws).fecCount ll oh.cws).overheadIn row ll (s.overheadWord ll oh) oh))
  ∧ (∀ (s : State) (row ll w : Nat) (oh : OverheadRx), ohCrcOk w = false →
      s.overheadIn row ll w oh =
      (let (x, wrong) := frameAlign (s.twLane ll) (field w 255 208 == 0x7AE5C41F0B69) (field w 207 205) s.time.elapsed
       let x := multiAlign x false (field w 172 165) (field w 204 173) s.time.elapsed
       let t := s.setTwLane ll { x with base := x.base + 8191 }
       let t := forEach (t.groupLanes row) (fun t l =>
         let y := t.twLane (lineOf (ll / 8) l)
         if y.spreadBad = decide (4000 < oh.spread) then t
         else t.setTwLane (lineOf (ll / 8) l) { y with spreadBad := decide (4000 < oh.spread), spreadSince := s.time.elapsed }) t
       let t := t.putN (Reg.tgSkewNs row) (min oh.spread 65535)
       (if wrong then t.count (Reg.tlFasErrors (ll / 8) (ll % 8)) else t).count (Reg.tlOhCrcErrors (ll / 8) (ll % 8))))
  ∧ (∀ (s : State) (ll row : Nat), s.runningGroup ll = some row → (s.twLane ll).faSince + 3000000 ≤ s.time.elapsed → Completes (.twillDefectTimer ll false) s (s.detect row ll (setBit (s.twLane ll).detected 2 (!(s.twLane ll).inFrame))))
  ∧ (∀ (s : State) (ll row : Nat), s.runningGroup ll = some row → bit (s.twLane ll).detected 1 = false → ((s.twLane ll).inMulti = false ∧ (s.twLane ll).mfSince + 3000000 ≤ s.time.elapsed) ∨ ((s.twLane ll).spreadBad = true ∧ (s.twLane ll).spreadSince + 3000000 ≤ s.time.elapsed) → Completes (.twillDefectTimer ll true) s ((s.setTwLane ll { s.twLane ll with lomSpread := (s.twLane ll).inMulti || !decide ((s.twLane ll).mfSince + 3000000 ≤ s.time.elapsed) }).detect row ll (setBit (s.twLane ll).detected 1 true)))
  ∧ (∀ (s : State) (ll row : Nat), s.runningGroup ll = some row → (s.twLane ll).inMulti = true → (s.twLane ll).spreadBad = false → (s.twLane ll).mfSince + 3000000 ≤ s.time.elapsed → (s.twLane ll).spreadSince + 3000000 ≤ s.time.elapsed → Completes (.twillDefectTimer ll true) s (s.detect row ll (setBit (s.twLane ll).detected 1 false)))
  ∧ (∀ (s : State) (b g : Nat), g < 8 → s.running (.group b g) = true → s.num (Reg.tgRegime (b * 1024 + g)) = 1 → s.tgNow (b * 1024 + g) 0x15 = 0 → (s.groupLanes (b * 1024 + g)).all (fun l => !s.hardDefect (lineOf b l)) = true → (s.grp (b * 1024 + g)).acqSince + s.tgNow (b * 1024 + g) 0x14 * 1000000 ≤ s.time.elapsed → Completes (.tgAcqHoldExpiry b g) s
      ((((s.putN (Reg.tgRegime (b * 1024 + g)) 0).bumpVersion 0x4400 (b * 1024 + g)).raise 0x030204 0x440000 (b * 2097152 + g * 262144)).judgeGroup (b * 1024 + g)))
  ∧ (∀ (s : State) (n v : Nat) (t : State), t = s.putN (stage n 0x4400 0x15) v → Serves s n 0x440015 v → Serves t n 0x440005 2 → t.cursor n 0x4400 ≠ 0xFFFFFF → t.num (.cur n 0x4400 0) ≠ 1 → t.tribRow 0x4400 (t.cursor n 0x4400) = false → (t.commitRow n 0x4400 (t.cursor n 0x4400) none).2 = .ok → Completes (.tgForceAcq n v) s (answered n (t.commitRow n 0x4400 (t.cursor n 0x4400) none)).afterResponse)

/-- Lanes: signal, lock, acquisition, wake, reference faults and pattern checkers. A signal in NO_SIGNAL starts an acquisition,
and in the other states that look for one it is noted; its loss ends in NO_SIGNAL. A lock within 250 ppm, from an
acquisition between its settling and its bound, or within 2.5 ms from a wake with its settings kept and its transmitter
active, leads to LOCKED with the offset and quality stored. A missed acquisition is counted and starts again; a lost lock is
counted and leads to acquisition. In a wake the transmitter becomes active after 1 ms; a wake without lock goes on as
NO_SIGNAL, and where equalisation had been kept it is counted with event 0x04_0003. A reference fault is counted, raised,
and moves the running lanes that do not sleep to REF_FAULT; during a fault the kind is stored; its end moves them to
NO_SIGNAL. A checker that loses its synchronisation forgets its place; one that has it compares the levels received. (R471,
R472, R473, R474, R478, R481, R482, R485) -/
def Obligations.LaneEventsComplete : Prop :=
  (∀ (s : State) (n : Nat), s.lanePresent n = true → s.num (Reg.lnState n) = 1 → Completes (.laneSignalDetected n) s (((s.setLane n { s.lane n with signal := true }).acquire n).setLaneState n 2))
  ∧ (∀ (s : State) (n : Nat), s.lanePresent n = true → s.num (Reg.lnState n) = 2 ∨ s.num (Reg.lnState n) = 3 ∨ s.num (Reg.lnState n) = 5 → Completes (.laneSignalDetected n) s (s.setLane n { s.lane n with signal := true }))
  ∧ (∀ (s : State) (n : Nat), s.lanePresent n = true → s.num (Reg.lnState n) = 1 ∨ s.num (Reg.lnState n) = 2 ∨ s.num (Reg.lnState n) = 3 ∨ s.num (Reg.lnState n) = 5 → Completes (.laneSignalLost n) s ((s.setLane n { (s.lane n).unsynced with signal := false }).setLaneState n 1))
  ∧ (∀ (s : State) (n : Nat) (slow : Bool) (ppm snr : Nat), ppm ≤ 25000 → s.num (Reg.lnState n) = 2 → s.acqFrom n + settleTime ≤ s.time.elapsed → s.time.elapsed ≤ s.acqFrom n + acqBound → Completes (.laneLocked n slow ppm snr) s
      ((((s.setLane n { s.lane n with kept := false, signal := true, wake := if (s.lane n).txActive then none else (s.lane n).wake }).setLaneState n 3).putN (Reg.lnRxPpm n) (toI24 (if slow then -(ppm : Int) else ppm))).putN (Reg.lnSnr n) (min snr 65535)))
  ∧ (∀ (s : State) (n w : Nat) (slow : Bool) (ppm snr : Nat), ppm ≤ 25000 → s.num (Reg.lnState n) = 5 → (s.lane n).txActive = true → (s.lane n).kept = true → (s.lane n).wake = some w → s.time.elapsed ≤ w + 2500000 → Completes (.laneLocked n slow ppm snr) s
      ((((s.setLane n { s.lane n with kept := false, signal := true, wake := none }).setLaneState n 3).putN (Reg.lnRxPpm n) (toI24 (if slow then -(ppm : Int) else ppm))).putN (Reg.lnSnr n) (min snr 65535)))
  ∧ (∀ (s : State) (n : Nat), s.num (Reg.lnState n) = 2 → s.acqFrom n + acqBound ≤ s.time.elapsed → Completes (.laneAcqTimeout n) s ((s.acquire n).count (Reg.lnAcqRetries n)))
  ∧ (∀ (s : State) (n : Nat), s.num (Reg.lnState n) = 3 → Completes (.laneLockLost n) s (((s.acquire n).count (Reg.lnLockLosses n)).setLaneState n 2))
  ∧ (∀ (s : State) (n w : Nat), (s.lane n).wake = some w → (s.lane n).txActive = false → w + 1000000 ≤ s.time.elapsed → Completes (.laneWakeTxActive n) s (s.setLane n { s.lane n with txActive := true, txLevel := 0, txUnits := [], wake := if (s.lane n).kept || s.num (Reg.lnState n) == 5 then (s.lane n).wake else none }))
  ∧ (∀ (s : State) (n w : Nat), (s.lane n).wake = some w → (s.lane n).txActive = true → (s.lane n).kept = true → s.num (Reg.lnState n) = 5 → w + 2500000 ≤ s.time.elapsed → n < 130 → Completes (.laneWakeTimeout n) s
      ((((s.count (Reg.lnWakeSlow n)).raise 0x040003 ((0x1900 + n) * 256) (n * 65536)).setLane n { s.lane n with kept := false, wake := none, signal := false }).setLaneState n 1))
  ∧ (∀ (s : State) (n w : Nat), (s.lane n).wake = some w → (s.lane n).txActive = true → (s.lane n).kept = false → s.num (Reg.lnState n) = 5 → Completes (.laneWakeTimeout n) s
      ((s.setLane n { s.lane n with kept := false, wake := none, signal := false }).setLaneState n 1))
  ∧ (∀ (s : State) (b : Nat) (absent : Bool), b < s.nBolts → s.num (Reg.bRefState b) = 0 → Completes (.refFaultDeclared b absent) s
      (let kind := if absent then 1 else 2
       let t := ((s.putN (Reg.bRefState b) kind).count (Reg.bRefFaults b)).raise 0x040002 ((0x2000 + 0x100 * b + 0x0E) * 256) (b * 2097152 + 1048576 + kind * 262144)
       forEach (t.runningLanes b) (fun t n =>
         if t.num (Reg.lnState n) = 4 then t
         else (t.setLane n { (t.lane n).unsynced with signal := false, wake := none }).setLaneState n 6) t))
  ∧ (∀ (s : State) (b : Nat) (absent : Bool), b < s.nBolts → s.num (Reg.bRefState b) ≠ 0 → Completes (.refFaultDeclared b absent) s (s.putN (Reg.bRefState b) (if absent then 1 else 2)))
  ∧ (∀ (s : State) (b : Nat), b < s.nBolts → s.num (Reg.bRefState b) ≠ 0 → Completes (.refFaultCleared b) s
      (let t := (s.putN (Reg.bRefState b) 0).raise 0x040002 ((0x2000 + 0x100 * b + 0x0E) * 256) (b * 2097152)
       forEach (t.runningLanes b) (fun t n => if t.num (Reg.lnState n) = 6 then (t.setLane n { t.lane n with txActive := true }).setLaneState n 1 else t) t))
  ∧ (∀ (s : State) (n before : Nat) (levels : List Nat), s.num (Reg.lnPattern n) ≠ 0 → s.num (Reg.lnState n) = 3 → Completes (.patternCheckerSync n false before levels) s
      ((s.farEnd n [⟨before, levels⟩]).setLane n ((s.farEnd n [⟨before, levels⟩]).lane n).unsynced))
  ∧ (∀ (s : State) (n before : Nat) (levels : List Nat), s.num (Reg.lnPattern n) ≠ 0 → s.num (Reg.lnState n) = 3 → s.num (Reg.lnLoopback n) = 0 → Completes (.patternCheckerSync n true before levels) s
      ((s.setLane n { s.lane n with prbsSync := true }).checkLevels n before levels))

/-- Lane objects: sleep and wake, transmit FFE and receive CTLE. LN_SLEEP = 1 on a locked lane keeps its equaliser and sleeps
it, and on a sleeping or disabled one is only stored; LN_SLEEP = 0 on a sleeping lane wakes it, to REF_FAULT where the
reference is faulted; LN_FFE stores the two taps with MAIN what they leave of 64, modulo 64 (log entry 122), and is refused
with 0x13_0001 where a tap is out of its range; LN_CTLE stores 0 to 16. (R466, R467, R480, R481) -/
def Obligations.LaneCommandsComplete : Prop :=
  (∀ (s : State) (n k : Nat), k < 128 → Serves s n (blockAddr 0x1900 256 k 0x15) 1 → s.num (Reg.lnState k) = 3 → Answers (.laneSleep n k) s n (okay (((s.putN (Reg.lnSleep k) 1).setLane k { (s.lane k).unsynced with kept := true, signal := false, txActive := false, wake := none }).setLaneState k 4)))
  ∧ (∀ (s : State) (n k : Nat), k < 128 → Serves s n (blockAddr 0x1900 256 k 0x15) 1 → s.num (Reg.lnState k) = 0 ∨ s.num (Reg.lnState k) = 4 → Answers (.laneSleep n k) s n (okay (s.putN (Reg.lnSleep k) 1)))
  ∧ (∀ (s : State) (n k : Nat), k < 128 → Serves s n (blockAddr 0x1900 256 k 0x15) 0 → s.num (Reg.lnState k) = 4 → Answers (.laneWake n k) s n
      (let t := s.putN (Reg.lnSleep k) 0
       let u := (t.setLane k { t.lane k with since := t.time.elapsed, txActive := false, wake := if t.laneRefFault k then none else some t.time.elapsed }).laneReacquire k
       okay (u.setLaneState k (if t.laneRefFault k then 6 else 5))))
  ∧ (∀ (s : State) (n k v : Nat), Serves s n (blockAddr 0x1900 256 k 0x13) v → v / 65536 % 64 ≤ 16 → v / 256 % 64 ≤ 24 → Answers (.lnFfe n k v) s n (okay (s.putN (Reg.lnFfe k) (v / 65536 % 64 * 65536 + v / 256 % 64 * 256 + (64 - v / 65536 % 64 - v / 256 % 64) % 64))))
  ∧ (∀ (s : State) (n k v : Nat), Serves s n (blockAddr 0x1900 256 k 0x13) v → 16 < v / 65536 % 64 ∨ 24 < v / 256 % 64 → Answers (.lnFfe n k v) s n (s, .abort 0x130001))
  ∧ (∀ (s : State) (n k v : Nat), Serves s n (blockAddr 0x1900 256 k 0x14) v → v ≤ 16 → Answers (.lnCtle n k v) s n (okay (s.putN (Reg.lnCtle k) v)))

/-- Port and bolt objects: kind, thresholds, levels and limits. PORT_KIND to another kind, 0 to 4, clears the objects whose
presence depends on the kind, mirrors the bindings undone and changes the role of the port, and to the same kind changes
nothing; CT_START stores 1 to 63, XON_THRESH a value below XOFF_THRESH, XOFF_THRESH one above XON_THRESH up to
INGRESS_LIMIT, the PN warnings a value in range, and each other value of them is refused with 0x13_0001; CM_LEVEL changes
the level to 1 to 3 and refuses 0 with 0x14_0001; TW_PANEL_LIMIT stores 2^16 to 2^60 above the warning and stops the
tributaries at it; POLICY_ACTIVE moves to a RUNNING bank with event 0x05_0001, keeps the one in force, and is refused with
0x12_0014 for one that does not run; a queue idle slope is staged and committed; a change of alignment evaluates the link;
the ordered sets received are stored while the link is up. (R82, R187, R203, R222, R305, R331, R367, R508) -/
def Obligations.PortAndBoltObjectsComplete : Prop :=
  (∀ (s : State) (n p v : Nat), Serves s n (portAddr p 0 0x10) v → v ≤ 4 → s.kind p ≠ v → Answers (.portKind n p v) s n
      (let u := (forEach (kindKeys p) (fun s k => s.clear k) s).putN (Reg.pPortKind p) v
       let t := (u.setTrib p {}).setPort p { u.port p with peerPause := [] }
       let t := forEach (List.range 8) (fun s i => s.clear (latchMark p i)) t
       let t := forEach bindingSubs (fun u f => if u.num (portKey p 3 f) = s.num (portKey p 3 f) then u else u.mirror (.binding p f (u.num (portKey p 3 f)))) t
       okay (t.portRoleChange p)))
  ∧ (∀ (s : State) (n p : Nat), Serves s n (portAddr p 0 0x10) (s.kind p) → s.kind p ≤ 4 → Answers (.portKind n p (s.kind p)) s n (okay s))
  ∧ (∀ (s : State) (n p v : Nat), Serves s n (portAddr p 0 0x21) v → 1 ≤ v → v ≤ 63 → Answers (.ctStart n p v) s n (okay (s.putN (Reg.pCtStart p) v)))
  ∧ (∀ (s : State) (n p v : Nat), Serves s n (portAddr p 0 0x21) v → v = 0 ∨ 63 < v → Answers (.ctStart n p v) s n (s, .abort 0x130001))
  ∧ (∀ (s : State) (n p v : Nat), Serves s n (portAddr p 0 0x1B) v → v < s.num (Reg.pXoffThresh p) → Answers (.xoffXonThreshold n p true v) s n (okay (s.putN (Reg.pXonThresh p) v)))
  ∧ (∀ (s : State) (n p v : Nat), Serves s n (portAddr p 0 0x1B) v → s.num (Reg.pXoffThresh p) ≤ v → Answers (.xoffXonThreshold n p true v) s n (s, .abort 0x130001))
  ∧ (∀ (s : State) (n p v : Nat), Serves s n (portAddr p 0 0x1A) v → v = 0 ∨ s.num (Reg.pIngressLimit p) < v ∨ v ≤ s.num (Reg.pXonThresh p) → Answers (.xoffXonThreshold n p false v) s n (s, .abort 0x130001))
  ∧ (∀ (s : State) (n p v : Nat), Serves s n (portAddr p 0 0x1A) v → 1 ≤ v → v ≤ s.num (Reg.pIngressLimit p) → s.num (Reg.pXonThresh p) < v → Answers (.xoffXonThreshold n p false v) s n (okay (s.putN (Reg.pXoffThresh p) v)))
  ∧ (∀ (s : State) (n b v : Nat), Serves s n (boltAddr b 5 1) v → 1 ≤ v → v ≤ 3 → Answers (.cmLevel n b v) s n (okay (s.setCmLevel b v)))
  ∧ (∀ (s : State) (n b : Nat), Serves s n (boltAddr b 5 1) 0 → Answers (.cmLevel n b 0) s n (s, .abort 0x140001))
  ∧ (∀ (s : State) (n b v : Nat), Serves s n (boltAddr b 5 2) v → 1 ≤ v → v ≤ 2 ^ 64 - 2 → Answers (.pnWarn n b true v) s n (okay (s.putN (Reg.bPnWarnXpn b) v)))
  ∧ (∀ (s : State) (n b v : Nat), Serves s n (boltAddr b 5 3) v → 1 ≤ v → v ≤ 2 ^ 32 - 2 → Answers (.pnWarn n b false v) s n (okay (s.putN (Reg.bPnWarn32 b) v)))
  ∧ (∀ (s : State) (n b v : Nat), Serves s n (boltAddr b 5 4) v → 2 ^ 16 ≤ v → v ≤ 2 ^ 60 → s.num (Reg.bTwPanelWarn b) < v → Answers (.twPanelLimit n b v) s n
      (let t := s.putN (Reg.bTwPanelLimit b) v
       okay (forEach ((boltPorts b).filter (fun p => t.tribSends p && t.panelBarred p (t.num (Reg.pTribKeyCount p)))) (fun t p => t.panelStop p) t)))
  ∧ (∀ (s : State) (n b v : Nat), Serves s n (boltAddr b 9 1) v → v < 2 → s.running (.bank b v) = true → s.num (Reg.bPolicyActive b) ≠ v → Answers (.policyActive n b v) s n
      (okay (((s.putN (Reg.bPolicyActive b) v).raise 0x050001 ((0x2000 + 0x100 * b) * 256) (b * 2097152 + v * 1048576)).mirror (.policyActive b v))))
  ∧ (∀ (s : State) (n b : Nat), Serves s n (boltAddr b 9 1) (s.num (Reg.bPolicyActive b)) → Answers (.policyActive n b (s.num (Reg.bPolicyActive b))) s n (okay s))
  ∧ (∀ (s : State) (n b v : Nat), Serves s n (boltAddr b 9 1) v → v < 2 → s.running (.bank b v) = false → s.num (Reg.bPolicyActive b) ≠ v → Answers (.policyActive n b v) s n (s, .abort 0x120014))
  ∧ (∀ (s : State) (n v : Nat) (t : State), t = s.putN (stage n 0x4500 0x12) v → Serves s n 0x450012 v → Serves t n 0x450005 2 → t.cursor n 0x4500 ≠ 0xFFFFFF → t.num (.cur n 0x4500 0) ≠ 1 → t.tribRow 0x4500 (t.cursor n 0x4500) = false → (t.commitRow n 0x4500 (t.cursor n 0x4500) none).2 = .ok → Completes (.qIdleSlope n v) s (answered n (t.commitRow n 0x4500 (t.cursor n 0x4500) none)).afterResponse)
  ∧ (∀ (s : State) (p : Nat) (pcs fec : Bool), p < s.nPorts → Completes (.pcsAlignmentChange p pcs fec) s ((s.setPort p { s.port p with pcs := pcs, fec := fec }).linkEval p))
  ∧ (∀ (s : State) (p kind : Nat), s.ownsLanes p = true → s.num (Reg.pLinkUp p) = 1 → kind < 3 → Completes (.linkFaultOrderedSets p kind) s (s.putN (Reg.pFaultRx p) kind))

/-- Device time: set, slew, frequency, the second, the pulse output and the time inputs. TIME_SET steps device time to a value,
ends a slew, sets TIME_VALID, counts the step, raises event 0x06_0001 with the sign and the size of the step in ms, and
latches the counters where a whole second is passed; TIME_ADJ puts a slew in place of any under way, and what is left of one
forward, where it is at most 6,553,600 units of time, applied at its end; TIME_FREQ is stored; the pulse rises while enabled
where device time has reached a whole second plus PPS_OFFSET, for its width, and falls; an edge on an enabled input, of a
pulse of 2 ns or more, is queued with its time and its half, and raises event 0x06_0002 where the queue was empty, or is
counted in TSI_LOST where the queue is full or the last edge is less than 100 ns old, and of a shorter pulse nothing is
queued or counted; TSI_POP with the number of the head removes it and with another is refused with 0x13_0005; TC_ERR_MAX is
cleared by 0. (R529, R533, R538, R539, R540, R552) -/
def Obligations.DeviceTimeCommandsComplete : Prop :=
  (∀ (s : State) (n v : Nat) (words : List Nat), s.answers n = true → Ty.decode .time96 0x120002 words 0 = (.num v, none) → firstAbort (s.admission n 0x120002 true v ++ [none]) = none → Answers (.timeSet n words) s n
      (let new := time96Ns v
       let size := ((new * nsUnits : Nat) : Int) - s.time.dev
       let whole := decide (new % 1000000000 = 0)
       let forward := decide (s.nowSec < new / 1000000000) && s.latchDue (new / 1000000000)
       let u := { (s.leaveSecond (new / 1000000000)).time with dev := new * nsUnits, slew := 0, stepped := !whole, irregular := !(forward && whole), rtcCopy := true, latched := new / 1000000000, ran := 0 }
       let t := ((((s.leaveSecond (new / 1000000000)).stepGates (fun t => { t with time := u })).putN Reg.timeValid 1).count Reg.timeSteps).raise 0x060001 0x120000
         ((if decide (size < 0) then 8388608 else 0) + min (size.natAbs / (1000000 * nsUnits)) 8388607)
       let t := if forward then t.latch (new / 1000000000) true else t
       okay (match t.trust.cert with
         | some c => if t.inWindow c then t else t.certEnd 0
         | none => t)))
  ∧ (∀ (s : State) (n v : Nat), Serves s n 0x120003 v → Answers (.timeAdj n v) s n (okay { s with time := { s.time with slew := i24 v * (nsUnits : Int) } }))
  ∧ (∀ (s : State) (n v : Nat), Serves s n 0x120004 v → Answers (.timeFreq n v) s n (okay (s.putN Reg.timeFreq v)))
  ∧ (∀ (s : State), 0 ≤ s.time.slew → s.time.slew ≤ 6553600 → Completes .slewComplete s { s with time := { s.time with dev := s.time.dev + s.time.slew.toNat, slew := 0, ran := s.time.ran + s.time.slew.toNat } })
  ∧ (∀ (s : State), s.num Reg.ppsEnable = 1 → s.ppsDue = true → s.time.ppsHigh = false → Completes .ppsRise s { s with time := { s.time with ran := 0, ppsHigh := true, ppsEnd := s.time.elapsed + s.num Reg.ppsWidth * 1000 } })
  ∧ (∀ (s : State), s.time.ppsEnd ≤ s.time.elapsed → Completes .ppsFall s { s with time := { s.time with ppsHigh := false } })
  ∧ (∀ (s : State) (k lasts : Nat) (rising half : Bool) (x : TsInput), k < 4 → (if rising then s.num (Reg.tsiEdge k) % 2 else s.num (Reg.tsiEdge k) / 2) ≠ 0 → s.tsIn.getD k {} = x → 4 ≤ lasts → x.glitch ≠ some (!rising) → (∀ t, x.last = some t → t + 100 ≤ s.time.elapsed) → x.queue.length < 16 → Completes (.tsInEdge k rising ⟨half, lasts⟩) s
      (let y : TsInput := { queue := x.queue ++ [(x.nextSeq, rising, s.now96, half)], nextSeq := (x.nextSeq + 1) % 8388608, last := some s.time.elapsed }
       let t : State := { s with tsIn := (s.tsIn.put k { x with glitch := none }).put k y }
       if x.queue.isEmpty then t.raise 0x060002 ((0x1210 + k) * 256) (k * 4194304) else t))
  ∧ (∀ (s : State) (k lasts : Nat) (rising half : Bool) (x : TsInput), k < 4 → (if rising then s.num (Reg.tsiEdge k) % 2 else s.num (Reg.tsiEdge k) / 2) ≠ 0 → s.tsIn.getD k {} = x → 4 ≤ lasts → x.glitch ≠ some (!rising) → 16 ≤ x.queue.length ∨ (∃ t, x.last = some t ∧ s.time.elapsed < t + 100) → Completes (.tsInEdge k rising ⟨half, lasts⟩) s
      (({ s with tsIn := s.tsIn.put k { x with glitch := none } } : State).count (Reg.tsiLost k)))
  ∧ (∀ (s : State) (k lasts : Nat) (rising half : Bool), k < 4 → lasts < 4 → Completes (.tsInEdge k rising ⟨half, lasts⟩) s
      { s with tsIn := s.tsIn.put k { s.tsIn.getD k {} with glitch := if (s.tsIn.getD k {}).glitch = some (!rising) then none else some rising } })
  ∧ (∀ (s : State) (n k v : Nat) (y : Bool × Nat × Bool) (rest : List (Nat × Bool × Nat × Bool)), Serves s n (blockAddr 0x1210 4 k 6) v → (s.tsIn.getD k {}).queue = (v, y) :: rest → Answers (.tsiPop n k v) s n (okay { s with tsIn := s.tsIn.put k { s.tsIn.getD k {} with queue := rest } }))
  ∧ (∀ (s : State) (n k v : Nat), Serves s n (blockAddr 0x1210 4 k 6) v → (∀ r ∈ (s.tsIn.getD k {}).queue.head?, r.1 ≠ v) → Answers (.tsiPop n k v) s n (s, .abort 0x130005))
  ∧ (∀ (s : State) (n p : Nat), Serves s n (portAddr p 1 0x40) 0 → Answers (.tcErrMax n p 0) s n (okay (s.putN (Reg.pTcErrMax p) 0)))

/-- The second of device time. At a boundary not taken yet every tributary and every counter set is given its second, the
degradations are judged, values that waited for the second take force, and the RTC is set from device time on the hour or
after a step. (R429, R434, R687) -/
def Obligations.SecondBoundaryCompletes : Prop :=
  (∀ (s : State) (m : SecondInput), s.phase ≠ .reset → s.boundaryDue = true → Completes (.deviceSecondBoundary m) s
      (let sec := s.nowSec
       let late := s.latchDue sec
       let t := forEach ((List.range s.nPorts).filter (fun p => s.kind p == 4)) State.tribSecond s
       let t := if late then t.latch (sec - 1) t.time.irregular else t
       let t := forEach (List.range (8 * t.nBolts)) State.judgeDeg t
       let t := ((forEach m.stalls State.stallSecond t).secondEvents).measured m (!s.time.stepped)
       let t := forEach (t.rowsListed 0x4400) State.tgApply t
       let t := if t.time.rtcCopy ∨ sec % 3600 = 0 then { t with backup := { t.backup with rtc := sec, phase := 0 } } else t
       { t with time := { t.time with stepped := false, irregular := t.time.irregular && !late, latched := sec, rtcCopy := false } }))

/-- I3C private transfers and in-band interrupts. With a dynamic address a private write in SDR is taken while no request waits
and is NACKed else, a private read in SDR gives the next unread bytes up to the read length; in HDR both do the same under
the codes 0x01 and 0x81, and another code is NACKed; and an accepted IBI gives the byte of a response before that of an
event. (R562, R565, R566) -/
def Obligations.I3cTransfersComplete : Prop :=
  (∀ (s : State) (bytes : Octets), s.i3cAddressed = true → bytes ≠ [] → (s.session 0).waiting = [] → Completes (.i3cPrivateWrite ⟨none, bytes⟩) s
      (let x := s.leaveHdr.session 0
       let t := if x.partialMsg = [] ∧ x.unread ≠ [] then s.leaveHdr.count Reg.i3cRespDiscarded else s.leaveHdr
       let m := x.partialMsg ++ bytes
       let t := t.setSession 0 { x with unread := [], partialMsg := if msgWhole m then [] else m }
       if msgWhole m then t.receive 0 none m else t))
  ∧ (∀ (s : State) (bytes : Octets), s.i3cAddressed = true → bytes ≠ [] → (s.session 0).waiting ≠ [] → Completes (.i3cPrivateWrite ⟨none, bytes⟩) s (s.leaveHdr.emit .nack))
  ∧ (∀ (s : State) (len : Nat), s.i3cAddressed = true → (s.session 0).waiting = [] → (s.session 0).unread ≠ [] → Completes (.i3cPrivateRead ⟨none, len⟩) s
      ((s.leaveHdr.setSession 0 { s.leaveHdr.session 0 with unread := (s.leaveHdr.session 0).unread.drop (min len s.leaveHdr.i3c.mrl) }).emit (.i3c (((s.leaveHdr.session 0).unread.take (min len s.leaveHdr.i3c.mrl)).map BitVec.toNat))))
  ∧ (∀ (s : State) (c : Nat) (bytes : Octets), s.i3cAddressed = true → s.i3c.hdr = true → c ≠ 0x01 → Completes (.i3cPrivateWrite ⟨some c, bytes⟩) s (s.emit .nack))
  ∧ (∀ (s : State) (c len : Nat), s.i3cAddressed = true → s.i3c.hdr = true → c ≠ 0x81 → Completes (.i3cPrivateRead ⟨some c, len⟩) s (s.emit .nack))
  ∧ (∀ (s : State) (b : List Nat), s.i3cAddressed = true → s.i3c.intEnabled = true → s.i3c.respIbi = some b → Completes .ibiAccepted s (({ s with i3c := { s.i3c with respIbi := none } } : State).emit (.ibi b)))
  ∧ (∀ (s : State) (b : List Nat), s.i3cAddressed = true → s.i3c.intEnabled = true → s.i3c.respIbi = none → s.i3c.ibi = some b → Completes .ibiAccepted s (({ s with i3c := { s.i3c with ibi := none } } : State).emit (.ibi b)))
  ∧ (∀ (s : State) (bytes : Octets), s.i3cAddressed = true → s.i3c.hdr = true → bytes ≠ [] → (s.session 0).waiting = [] → Completes (.i3cPrivateWrite ⟨some 0x01, bytes⟩) s
      (let x := s.session 0
       let t := if x.partialMsg = [] ∧ x.unread ≠ [] then s.count Reg.i3cRespDiscarded else s
       let m := x.partialMsg ++ bytes
       let t := t.setSession 0 { x with unread := [], partialMsg := if msgWhole m then [] else m }
       if msgWhole m then t.receive 0 none m else t))
  ∧ (∀ (s : State) (len : Nat), s.i3cAddressed = true → s.i3c.hdr = true → (s.session 0).waiting = [] → (s.session 0).unread ≠ [] → Completes (.i3cPrivateRead ⟨some 0x81, len⟩) s
      ((s.setSession 0 { s.session 0 with unread := (s.session 0).unread.drop (min len s.i3c.mrl) }).emit (.i3c (((s.session 0).unread.take (min len s.i3c.mrl)).map BitVec.toNat))))

/-- I3C common command codes that set: addresses, events, lengths, HDR. ENTDAA gives the provisional ID and takes an address,
SETDASA takes one at the static address, RSTDAA gives it up; ENEC and DISEC set the event enables; SETMWL and SETMRL set
lengths up to 3,328; ENTHDR0 enters HDR; an unsupported direct code is NACKed. (R563, R564, R565) -/
def Obligations.I3cAddressingCompletes : Prop :=
  (∀ (s : State) (dyn : Nat), s.i3cAwake = true → s.num Reg.i3cDynAddr = 0 → 1 ≤ dyn → dyn ≤ 127 → Completes (.entdaa dyn) s ((s.leaveHdr.emit (.i3c ((natToBytes 6 s.provisionalId).map BitVec.toNat ++ [0x26, 0]))).putN Reg.i3cDynAddr dyn))
  ∧ (∀ (s : State) (dyn : Nat), s.i3cAwake = true → s.num Reg.i3cDynAddr = 0 → 1 ≤ dyn → dyn ≤ 127 → Completes (.setdasa (0x58 + s.addrSel % 4) dyn) s (s.leaveHdr.putN Reg.i3cDynAddr dyn))
  ∧ (∀ (s : State), s.i3cAwake = true → Completes .rstdaa s (s.leaveHdr.putN Reg.i3cDynAddr 0))
  ∧ (∀ (s : State) (bits : Nat), s.i3cAwake = true → Completes (.enec bits) s { s with i3c := { s.i3c with hdr := false, intEnabled := if bit bits 0 then true else s.i3c.intEnabled, hotJoin := if bit bits 3 then true else s.i3c.hotJoin } })
  ∧ (∀ (s : State) (bits : Nat), s.i3cAwake = true → Completes (.disec bits) s { s with i3c := { s.i3c with hdr := false, intEnabled := if bit bits 0 then false else s.i3c.intEnabled, hotJoin := if bit bits 3 then false else s.i3c.hotJoin } })
  ∧ (∀ (s : State) (v : Nat), s.i3cAwake = true → Completes (.setmwl v) s { s with i3c := { s.i3c with hdr := false, mwl := min v 3328 } })
  ∧ (∀ (s : State) (v : Nat), s.i3cAwake = true → Completes (.setmrl v) s { s with i3c := { s.i3c with hdr := false, mrl := min v 3328 } })
  ∧ (∀ (s : State), s.i3cAwake = true → Completes .enthdr0 s { s with i3c := { s.i3c with hdr := true } })
  ∧ (∀ (s : State) (code : Nat), s.i3cAwake = true → s.num Reg.i3cDynAddr ≠ 0 → Completes (.unsupportedCcc code true) s (s.leaveHdr.emit .nack))
  ∧ (∀ (s : State) (code : Nat), s.i3cAwake = true → Completes (.unsupportedCcc code false) s s.leaveHdr)

/-- I3C common command codes that read. A target with a dynamic address answers GETMWL and GETMRL with its lengths, GETPID with
its provisional ID, GETBCR with 0x26, GETDCR with 0, and GETSTATUS, GETMXDS and GETCAPS with bytes that no rule states
(GETCAPS after its first). (R563, R564, R565) -/
def Obligations.I3cReadsComplete : Prop :=
  (∀ (s : State), s.i3cAddressed = true → Completes .getmwl s (s.leaveHdr.emit (.i3c [s.i3c.mwl / 256, s.i3c.mwl % 256])))
  ∧ (∀ (s : State), s.i3cAddressed = true → Completes .getmrl s (s.leaveHdr.emit (.i3c [s.i3c.mrl / 256, s.i3c.mrl % 256, 4])))
  ∧ (∀ (s : State), s.i3cAddressed = true → Completes .getpid s (s.leaveHdr.emit (.i3c ((natToBytes 6 s.provisionalId).map BitVec.toNat))))
  ∧ (∀ (s : State), s.i3cAddressed = true → Completes .getbcr s (s.leaveHdr.emit (.i3c [0x26])))
  ∧ (∀ (s : State), s.i3cAddressed = true → Completes .getdcr s (s.leaveHdr.emit (.i3c [0])))
  ∧ (∀ (s : State), s.i3cAddressed = true → Completes .getstatus s (({ s with free := s.free + 1 } : State).leaveHdr.emit (.i3c ((natToBytes 2 (Config.freeNat s.free % 256 ^ 2)).map BitVec.toNat))))
  ∧ (∀ (s : State), s.i3cAddressed = true → Completes .getmxds s (({ s with free := s.free + 1 } : State).leaveHdr.emit (.i3c ((natToBytes 2 (Config.freeNat s.free % 256 ^ 2)).map BitVec.toNat))))
  ∧ (∀ (s : State), s.i3cAddressed = true → Completes .getcaps s (({ s with free := s.free + 1 } : State).leaveHdr.emit (.i3c (1 :: (natToBytes 2 (Config.freeNat s.free % 256 ^ 2)).map BitVec.toNat))))

/-- Management objects: the field network, in-band ports, the EtherType, closing a session, a plain object write. T1S_ENABLE = 0
marks the four sessions of the port to close, with no plain answer left to send and its end begun; MGMT_IN = 0 marks the in-
band sessions of its port; SILSY_ETYPE takes force after the response; SESS_CLOSE = 1 marks the session; OBJECT_WRITE does
what its object does with the value its words spell. (R107, R568, R582, R586, R587) -/
def Obligations.ManagementObjectsComplete : Prop :=
  (∀ (s : State) (n : Nat), Serves s n 0x110103 0 → Answers (.t1sEnable n 0) s n (okay (forEach (rangeFrom 1 4) (fun t m => t.markClose m 4) { s.saveN Reg.t1sEnable 0 with t1s := { (s.saveN Reg.t1sEnable 0).t1s with plain := [], ending := true } })))
  ∧ (∀ (s : State) (n : Nat), Serves s n 0x110103 1 → Answers (.t1sEnable n 1) s n (okay (s.saveN Reg.t1sEnable 1)))
  ∧ (∀ (s : State) (n p : Nat), Serves s n (portAddr p 0 0x2B) 0 → Answers (.mgmtIn n p 0) s n (okay (forEach (rangeFrom 5 4) (fun t m => if t.num (Reg.sessPort m) = p then t.markClose m 4 else t) (s.putN (Reg.pMgmtIn p) 0))))
  ∧ (∀ (s : State) (n p : Nat), Serves s n (portAddr p 0 0x2B) 1 → Answers (.mgmtIn n p 1) s n (okay (s.putN (Reg.pMgmtIn p) 1)))
  ∧ (∀ (s : State) (n v : Nat), Serves s n 0x110102 v → 0x0600 ≤ v → v ∉ ([0x8808, 0x888E, 0x88E5, 0x88F7] : List Nat) → Answers (.silsyEtype n v) s n (okay (s.putN etypeNext v)))
  ∧ (∀ (s : State) (n k : Nat), Serves s n (blockAddr 0x1110 9 k 6) 1 → k ≠ 0 → Answers (.sessClose n k 1) s n (okay (s.markClose k 1)))
  ∧ (∀ (s : State) (n addr v : Nat) (words : List Nat) (pad : Nat) (e : Entry), s.answers n = true → addr < 0x600000 → addr ≠ 0x133004 → Dict.entry addr = some e → e.ty.decode addr words pad = (.num v, none) → firstAbort (s.admission n addr true v ++ [none]) = none → Answers (.objectWrite n addr words pad) s n (s.numWrite n addr v))

/-- Frames from the networks: field network, in-band, mesh, and the transmission of the field network. A frame of the field
network with the EtherType of Silsy goes to Silsy where it names the MAC of the device, and where it is broadcast to Silsy
or the mesh by its version byte; one with a wrong FCS is dropped. A frame from a port goes through the in-band checks
(State.inbandIn), a mesh frame on a line port too. A collision without a backoff under way starts one, a lost backoff
collides again, a won one sends the first frame of the queue; a plain answer is queued when its delay ends; a mesh frame of
a host goes to the mesh over the field network, and over a clear port that lets it in. (R569, R570, R571, R572, R722, R723) -/
def Obligations.FieldNetworkCompletes : Prop :=
  (∀ (s : State) (fr : Octets), s.phase = .ready → s.num Reg.t1sEnable ≠ 0 → fieldAt fr 12 2 = s.num Reg.silsyEtype → frameDst fr = s.otp.mgmtMac.toNat → Completes (.t1sFrameReceived fr true) s (s.silsyIn (.t1s (frameSrc fr)) false (fr.drop 14)))
  ∧ (∀ (s : State) (fr : Octets), s.phase = .ready → s.num Reg.t1sEnable ≠ 0 → fieldAt fr 12 2 = s.num Reg.silsyEtype → frameDst fr ≠ s.otp.mgmtMac.toNat → frameDst fr = 0xFFFFFFFFFFFF → fieldAt (fr.drop 14) 0 1 = 1 → Completes (.t1sFrameReceived fr true) s (s.silsyIn (.t1s (frameSrc fr)) true (fr.drop 14)))
  ∧ (∀ (s : State) (fr : Octets), s.phase = .ready → s.num Reg.t1sEnable ≠ 0 → fieldAt fr 12 2 = s.num Reg.silsyEtype → frameDst fr ≠ s.otp.mgmtMac.toNat → frameDst fr = 0xFFFFFFFFFFFF → fieldAt (fr.drop 14) 0 1 = 2 → Completes (.t1sFrameReceived fr true) s (s.rateLimited (fun u => u.meshHost (.t1s (frameSrc fr)) (fr.drop 14))))
  ∧ (∀ (s : State) (fr : Octets), Completes (.t1sFrameReceived fr false) s s)
  ∧ (∀ (s : State), s.phase = .ready → s.t1s.backoff = none → Completes .t1sCollision s s.t1sCollides)
  ∧ (∀ (s : State) (r : Nat) (fr : Octets) (rest : List Octets), s.phase = .ready → s.t1s.backoff = some r → s.t1s.queue = fr :: rest → Completes (.t1sBackoffExpiry true) s (({ s with t1s := { s.t1s with queue := rest, attempts := 0, backoff := none } } : State).emit (.t1s fr)))
  ∧ (∀ (s : State) (r : Nat), s.phase = .ready → s.t1s.backoff = some r → Completes (.t1sBackoffExpiry false) s s.t1sCollides)
  ∧ (∀ (s : State) (fr : Octets) (rest : List Octets), s.t1s.plain = fr :: rest → Completes .plainReplyDelayExpiry s (({ s with t1s := { s.t1s with plain := rest } } : State).sendT1s fr))
  ∧ (∀ (s : State) (p : Nat) (fr : Octets) (tagged : Bool), Completes (.inbandSilsyReceived p fr tagged) s (s.inbandIn p fr tagged))
  ∧ (∀ (s : State) (p : Nat) (fr : Octets) (tagged : Bool), s.silsyBroadcast fr = true → silsyVersion fr = 2 → s.kind p = 3 ∨ s.kind p = 4 → Completes (.meshFrameReceived p tagged fr) s (s.inbandIn p fr tagged))
  ∧ (∀ (s : State) (m : Nat) (fr : Octets), s.phase = .ready → fieldAt fr 0 1 = 2 → s.num Reg.t1sEnable ≠ 0 → Completes (.meshHostFrame (.t1s m) fr) s (s.rateLimited (fun u => u.meshHost (.t1s m) fr)))
  ∧ (∀ (s : State) (p m : Nat) (q : Option Nat) (x : Bool) (fr : Octets), s.phase = .ready → fieldAt fr 0 1 = 2 → p < s.nPorts → s.kind p = 1 ∨ s.kind p = 2 → Completes (.meshHostFrame (.inband p m q x) fr) s (s.admitInband p (fun u => u.meshHost (.inband p m q x) fr)))

/-- The handshake of a network session. A HELLO that comes through its transport and names a credential with the VIEW role takes
a free session and queues its Retort jobs, and one that meets a check of R581 is refused with the code of the first it
meets; when its jobs are done HELLO_REPLY goes out; an AUTH of its three frames, in order and in time, queues its two
verifications, and one of a single frame, too short, refuses the handshake; when they are done the session opens where both
halves verify and the handshake is refused otherwise; a handshake whose AUTH has not come in time is refused with 0x15_0010.
(R568, R571, R573, R578, R579, R581) -/
def Obligations.HandshakeCompletes : Prop :=
  (∀ (s : State) (via : Via) (body : Octets) (m : Nat) (u : State), s.afterVia via = some u → u.hearthBusy = false → u.hasIdentity = true → u.lc ≠ 15 → u.cred (body.getD 0 0).toNat ≠ none → u.credHas (body.getD 0 0).toNat 0 = true → u.freeSessionOf via = some m → body.length = 1233 → Completes (.hello via body) s
      (let c := (body.getD 0 0).toNat
       let t := ((u.putN (Reg.sessState m) 1).putN (Reg.sessCred m) c).putO (Reg.sessPeer m) (natToBytes 6 (viaMac via))
       let t := (t.putN (Reg.sessPort m) (viaPort via)).setSession m { via := some via, hs := some { cred := c, body := body, reply := [], shared := [], sentAt := none, authSig := none } }
       { t with retort := { t.retort with queue := t.retort.queue ++ helloJobs m } }))
  ∧ (∀ (s : State) (via : Via) (body : Octets) (u : State), s.afterVia via = some u → u.hearthBusy = true ∨ u.hasIdentity = false ∨ u.lc = 15 ∨ u.cred (body.getD 0 0).toNat = none ∨ u.credHas (body.getD 0 0).toNat 0 = false ∨ u.freeSessionOf via = none → Completes (.hello via body) s (u.refuseFrame 0 (body.getD 0 0).toNat via
      (if u.hearthBusy = true then 0x170001 else if u.hasIdentity = false ∨ u.lc = 15 then 0x110003 else if u.cred (body.getD 0 0).toNat = none then 0x140004
       else if u.credHas (body.getD 0 0).toNat 0 = false then 0x110004 else 0x180003)))
  ∧ (∀ (s : State) (m : Nat) (via : Via) (h : Handshake), s.phase = .ready → s.hearthBusy = false → s.netSession m 1 = true → s.jobsOf (.hello m) = false → (s.session m).via = some via → (s.session m).hs = some h → h.sentAt = none → Completes (.helloReplySent m) s (s.helloReply m via h))
  ∧ (∀ (s : State) (m x : Nat) (body : Octets) (h : Handshake), s.phase = .ready → s.num Reg.t1sEnable ≠ 0 → s.netSession m 1 = true → s.fromPeer m (.t1s x) = true → (s.session m).hs = some h → (s.session m).nextFrag = 0 → h.authSig = none → s.authDue h = true → body.length = 3373 → ∃ t, exec (.auth m (.t1s x) body) s = .next t
      ∧ (t.session m).hs = some { h with authSig := some (body.take 64, body.drop 64) }
      ∧ t.retort.queue = s.retort.queue ++ [⟨.auth m, 2, [], [], []⟩, ⟨.auth m, 6, [], [], []⟩])
  ∧ (∀ (s : State) (m : Nat) (via : Via) (body : Octets) (h : Handshake) (u : State), s.afterVia via = some u → body.length ≤ 1440 → (u.session m).hs = some h → u.netSession m 1 = true → u.fromPeer m via = true → (u.session m).nextFrag = 0 → Completes (.auth m via body) s ((u.setSession m { u.session m with partialMsg := [], nextFrag := 0 }).refuseHandshake m 0x150010))
  ∧ (∀ (s : State) (m : Nat) (h : Handshake) (ed ml : Octets), s.phase = .ready → s.hearthBusy = false → s.netSession m 1 = true → s.jobsOf (.auth m) = false → (s.session m).hs = some h → h.authSig = some (ed, ml) → s.lc ≠ 15 → Completes (.authOkSent m) s
      (if s.credSigned h.cred (sha512 (ascii "NZ-SILSY-CLI" ++ s.transcript h)) ed ml then s.openSession m h else s.refuseHandshake m 0x150010))
  ∧ (∀ (s : State) (m : Nat) (h : Handshake), s.phase = .ready → s.netSession m 1 = true → (s.session m).hs = some h → h.sentAt ≠ none → h.authSig = none → s.authDue h = false → Completes (.authTimeout m) s (s.refuseHandshake m 0x150010))

/-- Frames of an open session, its close, its idle end, and PLAIN. A DATA frame of a session that comes through and passes its
checks is deciphered and joined to what came before, and where it completes a message the request is taken in; one that does
not pass leaves what the checks leave; a CLOSE frame that passes closes the session, with no CLOSE in answer; a session idle
for its time is closed by the device with reason 2; a PLAIN message of one frame is answered at once, or after a delay where
it was broadcast. (R570, R577, R580, R582, R584) -/
def Obligations.SessionTrafficCompletes : Prop :=
  (∀ (s : State) (m : Nat) (via : Via) (fr body : Octets) (u t : State), s.afterVia via = some u → silsyIs fr 5 m = true → u.acceptFrame m via fr = (some body, t) → Completes (.dataFrameReceived m via fr) s
      (match t.joinFragment m (fieldAt fr 3 1) (fieldAt fr 4 8 == (u.session m).seqIn + 1) body with
       | (none, v) => v
       | (some msg, v) => v.receive m (some via) msg))
  ∧ (∀ (s : State) (m : Nat) (via : Via) (fr : Octets) (u t : State), s.afterVia via = some u → silsyIs fr 5 m = true → u.acceptFrame m via fr = (none, t) → Completes (.dataFrameReceived m via fr) s t)
  ∧ (∀ (s : State) (m : Nat) (via : Via) (fr body : Octets) (u t : State), s.afterVia via = some u → silsyIs fr 6 m = true → u.acceptFrame m via fr = (some body, t) → Completes (.closeReceived m via fr) s (t.closeSession m 0 false))
  ∧ (∀ (s : State) (m : Nat) (via : Via) (fr : Octets) (u t : State), s.afterVia via = some u → silsyIs fr 6 m = true → u.acceptFrame m via fr = (none, t) → Completes (.closeReceived m via fr) s t)
  ∧ (∀ (s : State) (m : Nat), s.phase = .ready → s.netSession m 2 = true → (s.session m).lastValid + s.num Reg.sessIdle * 1000000000 ≤ s.time.elapsed → Completes (.sessionIdleExpiry m) s (s.closeSession m 2 true))
  ∧ (∀ (s : State) (m : Nat) (via : Via) (msg : Octets) (u v : State), s.afterVia via = some u → msg.length ≤ 1440 → u.joinClear via 128 msg = (some msg, v) → Completes (.plainReceived m via false msg) s ((v.plainEff msg).1.sendClear via 7 m (response msg (v.plainEff msg).2)))
  ∧ (∀ (s : State) (m : Nat) (via : Via) (msg : Octets) (u v : State), s.afterVia via = some u → msg.length ≤ 1440 → u.joinClear via 128 msg = (some msg, v) → Completes (.plainReceived m via true msg) s ((v.plainEff msg).1.plainLater via m (response msg (v.plainEff msg).2)))

/-- The mesh: its ID, its keys, its hellos and its neighbours. MESH_ID is kept while no Twill group or tributary runs; a key is
taken from a staging slot as current or next; MESH_ADVANCE advances; hellos under the current key go out on each mesh port;
a neighbour silent for MESH_DEAD seconds is dead, with event 0x09_0102. (R720, R724, R725) -/
def Obligations.MeshCommandsComplete : Prop :=
  (∀ (s : State) (n v : Nat), Serves s n 0x152001 v → v ≤ 1023 → (List.range s.nBolts).any (fun b => (List.range 8).any (fun g => !s.stopped (.group b g))) = false → (List.range s.nPorts).any (fun p => s.kind p == 4 && !s.stopped (.port p)) = false → Answers (.meshId n v) s n (okay (s.saveN Reg.meshId v)))
  ∧ (∀ (s : State) (n v : Nat) (k : Nat × Nat × Nat × Octets), Serves s n 0x152003 v → v ≤ 63 → s.unwrapBlob (s.oct (Reg.blob v)) 0xFF (s.num Reg.blobGenDev) = .ok k → k.1 = 2 → s.mesh.cur = none → Answers (.meshKeyLoad n v) s n (okay (({ s with mesh := { s.mesh with cur := some k.2.2.2 } } : State).save meshBlobCur (.oct (s.oct (Reg.blob v))))))
  ∧ (∀ (s : State) (n v : Nat) (k : Nat × Nat × Nat × Octets), Serves s n 0x152003 v → v ≤ 63 → s.unwrapBlob (s.oct (Reg.blob v)) 0xFF (s.num Reg.blobGenDev) = .ok k → k.1 = 2 → s.mesh.cur ≠ none → Answers (.meshKeyLoad n v) s n (okay (({ s with mesh := { s.mesh with next := some k.2.2.2 } } : State).save meshBlobNext (.oct (s.oct (Reg.blob v))))))
  ∧ (∀ (s : State) (n : Nat) (key : Octets), Serves s n 0x152005 1 → s.mesh.next = some key → s.num Reg.meshEpoch ≠ 0xFFFFFF → Answers (.meshAdvance n 1) s n (okay s.meshAdvance))
  ∧ (∀ (s : State) (key : Octets), s.mesh.cur = some key → s.phase = .ready → s.hearth.gap = false → s.hearth.restarting = false → Completes .meshHelloSend s
      (let body := meshBody 0xFFFF s.meshIdNow (s.num Reg.meshHops) (s.num Reg.meshEpoch) []
       forEach ((List.range s.nPorts).filter s.meshPort) (fun t p => t.meshOut p (body ++ meshMac key body)) s))
  ∧ (∀ (s : State) (m : Nat), s.phase = .ready → s.neighbour m = true → s.mesh.dead.contains m = false → s.mesh.heard.getD m 0 + s.num Reg.meshDead * 1000000000 ≤ s.time.elapsed → Completes (.meshNeighbourDead m) s
      (({ s with mesh := { s.mesh with dead := s.mesh.dead ++ [m] } } : State).raise 0x090102 0x152000 (8388608 + 4194304 + m * 4096)))

/-- Life-cycle transitions. LC_REQUEST makes the transition that its state allows: from VIRGIN to TEST_LOCKED; from TEST_LOCKED
to TEST_OPEN under the TEST_UNLOCK right of the session with a token left; from TEST_OPEN to TEST_LOCKED or FACTORY where no
bolt is at level CM0; from FACTORY to ISSUED; from ISSUED to SERVICE where the device is commissioned, and to RETURN; to END
from TEST_LOCKED, FACTORY, ISSUED and RETURN; the last two withdraw the identity. In SERVICE a direct request of RETURN is
refused with 0x14_0001. In INVALID a write of LC_RESUME completes the interrupted burn. (R592, R594, R595, R596, R598) -/
def Obligations.LifeCycleCompletes : Prop :=
  (∀ (s : State) (n : Nat), Serves s n 0x130001 1 → s.lc = 0 → Answers (.lcRequestTestLocked n) s n (okay (s.lcMove 1)))
  ∧ (∀ (s : State) (n : Nat), Serves s n 0x130001 2 → s.lc = 1 → bit (s.rightsOf n) 6 = true → s.tokensUsed ≠ 16 → Answers (.lcRequestTestOpen n) s n (okay (s.openTest)))
  ∧ (∀ (s : State) (n : Nat), Serves s n 0x130001 1 → s.lc = 2 → (List.range s.nBolts).any (fun b => s.num (Reg.bCmLevel b) == 0) = false → Answers (.lcRequestTestLocked n) s n (okay (s.lcMove 1)))
  ∧ (∀ (s : State) (n : Nat), Serves s n 0x130001 3 → s.lc = 2 → (List.range s.nBolts).any (fun b => s.num (Reg.bCmLevel b) == 0) = false → Answers (.lcRequestFactory n) s n (okay (s.lcMove 3)))
  ∧ (∀ (s : State) (n : Nat), Serves s n 0x130001 4 → s.lc = 3 → Answers (.lcRequestIssued n) s n (okay (s.lcMove 4)))
  ∧ (∀ (s : State) (n : Nat), Serves s n 0x130001 5 → s.lc = 4 → s.commissioned = true → Answers (.lcRequestService n) s n (okay (s.lcMove 5)))
  ∧ (∀ (s : State) (n : Nat), Serves s n 0x130001 6 → s.lc = 4 → Answers (.lcRequestReturn n) s n (okay (s.withdraw 6)))
  ∧ (∀ (s : State) (n : Nat), Serves s n 0x130001 6 → s.lc = 5 → Answers (.lcRequestReturn n) s n (s, .abort 0x140001))
  ∧ (∀ (s : State) (n : Nat), Serves s n 0x130001 7 → s.lc = 1 ∨ s.lc = 3 ∨ s.lc = 4 ∨ s.lc = 6 → Answers (.lcRequestEnd n) s n (okay (s.withdraw 7)))
  ∧ (∀ (s : State) (n v : Nat), Serves s n 0x130001 v → s.lc = 15 → v = s.lcResume → v ≠ 0xFF → Answers (.lcResumeBurn n v) s n (okay (if v = 6 ∨ v = 7 then s.withdraw v else s.lcMove v)))

/-- Identity: the certificate, statements, and direct enrolment. In ISSUED, with none installed, IDC_INSTALL keeps a staged
certificate that names this device under a Rymin signature, and is refused with 0x14_0002 where the signature fails; STMT_GO
signs the statement of a nonce; where R609 lets CRED_ENROL be written directly, an enrolment that R608 accepts is stored
with event 0x0B_000B, and a removal is made. (R605, R606, R609) -/
def Obligations.TrustCommandsComplete : Prop :=
  (∀ (s : State) (n : Nat), Serves s n 0x132006 1 → s.num Reg.idcState ≠ 1 → s.lc = 4 → s.hasIdentity = true → (s.oct Reg.idcInfo).take 8 = ascii "NZ-IDC01" → ((s.oct Reg.idcInfo).drop 8).take 32 = s.deviceId → ((s.oct Reg.idcInfo).drop 40).take 8 = natToBytes 8 s.otp.dieId.toNat → s.retort.disagree = false → Answers (.idcInstall n 1) s n
      (if s.ryminSigned 1 ((s.oct Reg.idcInfo).getD 66 0).toNat (sha512 (s.oct Reg.idcInfo ++ s.idPubEd ++ s.idPubMl)) (s.oct Reg.idcSigEd) (s.oct Reg.idcSigMl) then okay ((s.saveN Reg.idcState 1).countBy Reg.rtJobs 2)
       else refuse (s.countBy Reg.rtJobs 2) 0x140002))
  ∧ (∀ (s : State) (n : Nat), Serves s n 0x132102 1 → s.hasIdentity = true → s.retort.disagree = false → Answers (.stmtGo n 1) s n
      (let (ed, ml, t) := s.identitySign (sha512 (s.statement (s.oct (Reg.stmtNonce n))))
       okay ((t.putAll [(Reg.stmtBody n, .oct (s.statement (s.oct (Reg.stmtNonce n)))), (Reg.stmtSigEd n, .oct ed), (Reg.stmtSigMl n, .oct ml)]).countBy Reg.rtJobs 2)))
  ∧ (∀ (s : State) (c : Nat) (r : Byte) (rest : Octets), s.answers 0 = true → c < 16 → s.directEnrol 0 = true → firstAbort ((s.admission 0 ((0x1380 + c) * 256 + 1) true 0).filter (fun x => x != some 0x140001) ++ [abortIf (!octetsLengthOk ((0x1380 + c) * 256 + 1) 2000 (r :: rest).length) 0x130003]) = none → s.enrolAbort c (r :: rest) = none → Answers (.credEnrolDirect 0 c (r :: rest)) s 0 (okay ((s.enrol c (r :: rest)).raise 0x0B000B 0x130000 (c * 1048576 + s.lc * 65536 + r.toNat * 256))))
  ∧ (∀ (s : State) (c : Nat), s.answers 0 = true → c < 16 → s.directEnrol 0 = true → firstAbort ((s.admission 0 ((0x1380 + c) * 256 + 1) true 0).filter (fun x => x != some 0x140001) ++ [abortIf (!octetsLengthOk ((0x1380 + c) * 256 + 1) 2000 0) 0x130003]) = none → s.enrolAbort c [] = none → Answers (.credEnrolDirect 0 c []) s 0 (okay (s.enrol c [])))

/-- Debug: nonce, certificate, memory reads, the halted core. A read of the debug nonce gives a free value, which is kept with
its time. A certificate that names the device and the last nonce within 600 s, by a signer that counts, with rights below
128 while none is in force, at a time within its window, comes into force with event 0x0B_0004 where its form is right and
its signatures verify, and is refused with 0x14_0002 otherwise. A write of 2 ends the certificate, and so does a time
outside its window. A read of DBG_DATA by a session that may read the memory gives 32 words from DBG_ADDR with their parity
bits, or 96 bytes of a byte memory, and moves DBG_ADDR past them; what no rule fixes of them is free. DBG_HEARTH halts the
banked core and resumes it. (R617, R621, R622, R623, R624) -/
def Obligations.DebugCommandsComplete : Prop :=
  (∀ (s : State) (n : Nat), ServesRead s n 0x134001 → Answers (.dbgNonceRead n) s n
      ({ s with free := s.free + 1, trust := { s.trust with dbgNonce := some (natToBytes 16 (Config.freeNat s.free % 256 ^ 16), s.time.elapsed) } }, .value (.oct (natToBytes 16 (Config.freeNat s.free % 256 ^ 16)))))
  ∧ (∀ (s : State) (n t : Nat) (x : Octets), Serves s n 0x134006 1 → s.trust.cert = none → s.signerOk (certField (s.oct (Reg.dbgBody n)) 83 1) (certField (s.oct (Reg.dbgBody n)) 84 1) = true → ((s.oct (Reg.dbgBody n)).drop 8).take 32 = s.deviceId → s.trust.dbgNonce = some (x, t) → x = ((s.oct (Reg.dbgBody n)).drop 40).take 16 → s.time.elapsed < t + 600000000000 → certField (s.oct (Reg.dbgBody n)) 80 3 < 128 → (s.lc ≠ 4 ∧ s.lc ≠ 5) ∨ s.num Reg.timeValid = 1 → time96Ns (certField (s.oct (Reg.dbgBody n)) 56 12) ≤ s.nowNs ∧ s.nowNs < time96Ns (certField (s.oct (Reg.dbgBody n)) 68 12) → s.retort.disagree = false → Answers (.dbgCmdAccept n) s n
      (let body := s.oct (Reg.dbgBody n)
       let kind := certField body 83 1
       let index := certField body 84 1
       let c : Cert := ⟨n, time96Ns (certField body 56 12), time96Ns (certField body 68 12), certField body 80 3, kind, index, sha512 body⟩
       if (body.length == 85 && body.take 8 == ascii "NZ-DBG01" && (if kind = 0 then s.ryminSigned 2 index (sha512 body) (s.oct (Reg.dbgSigEd n)) (s.oct (Reg.dbgSigMl n)) else s.credSigned index (sha512 body) (s.oct (Reg.dbgSigEd n)) (s.oct (Reg.dbgSigMl n)))) = true then
         okay ((({ s with trust := { s.trust with cert := some c, dbgNonce := none } } : State).raise 0x0B0004 0x134000 (kind * 8388608 + index % 16 * 524288 + certField body 80 3)).countBy Reg.rtJobs 2)
       else refuse (s.countBy Reg.rtJobs 2) 0x140002))
  ∧ (∀ (s : State) (n : Nat), Serves s n 0x134006 2 → Answers (.dbgCmdEnd n) s n (okay (s.certEnd 1)))
  ∧ (∀ (s : State) (c : Cert), s.trust.cert = some c → s.inWindow c = false → Completes .dbgCertExpiry s (s.certEnd 0))
  ∧ (∀ (s : State) (n : Nat), ServesRead s n 0x134103 → firstAbort (s.memAbort n (s.num Reg.dbgMem)) = none → s.num Reg.dbgMem ≠ 3 ∧ s.num Reg.dbgMem ≠ 4 → Answers (.dbgDataRead n) s n
      (let ws := s.rawWords (s.num Reg.dbgMem) (s.num Reg.dbgAddr)
       ((s.putN Reg.dbgAddr ((s.num Reg.dbgAddr + 32) % 2 ^ 48)).putN Reg.dbgPar (ws.foldl (fun a w => 2 * a + w.2) 0),
         .value (.oct (ws.flatMap (fun w => natToBytes 3 w.1))))))
  ∧ (∀ (s : State) (n : Nat), ServesRead s n 0x134103 → firstAbort (s.memAbort n (s.num Reg.dbgMem)) = none → s.num Reg.dbgMem = 3 ∨ s.num Reg.dbgMem = 4 → Answers (.dbgDataRead n) s n
      (let (fill, t) := s.drawBytes 96
       let bytes := (List.range 96).map (fun i => (s.rawByte (s.num Reg.dbgMem) (s.num Reg.dbgAddr) i).getD (fill.getD i 0))
       let (x, u) := t.draw
       ((u.putN Reg.dbgAddr ((s.num Reg.dbgAddr + 96) % 2 ^ 48)).putN Reg.dbgPar (x % 2 ^ 32), .value (.oct bytes))))
  ∧ (∀ (s : State) (n : Nat), Serves s n 0x134105 1 → firstAbort (s.memAbort n 5) = none → Answers (.dbgHearthHalt n) s n (okay (({ s with hearth := { s.hearth with halted := true } } : State).putN Reg.hearthBanked 0)))
  ∧ (∀ (s : State) (n : Nat), Serves s n 0x134105 2 → firstAbort (s.memAbort n 5) = none → s.hearth.halted = true → Answers (.dbgHearthResume n) s n (okay (({ s with hearth := { s.hearth with halted := false } } : State).putN Reg.hearthBanked 1)))

/-- Firmware: chunks and the steps of an update. A chunk is written to the boot store at its offset, or to a RUNNING staging
range; VERIFY judges the staged image; LOAD_BANKED, SWITCH, LOAD_OTHER, REVERT and COMMIT make their steps in order, COMMIT
raising the floor and making the new slot preferred; ABANDON and ERASE end an update. (R613, R615, R616, R665) -/
def Obligations.FirmwareCommandsComplete : Prop :=
  (∀ (s : State) (n : Nat) (bytes : Octets), s.answers n = true → firstAbort (s.admission n 0x136005 true 0 ++ [abortIf (!octetsLengthOk 0x136005 3072 bytes.length) 0x130003]) = none → s.fwRole n = none → s.num Reg.fwChunkOff + bytes.length ≤ slotBytes → s.rangeOf 5 = none → Answers (.fwChunk n bytes) s n
      (okay (s.setImageSlot s.newSlot { bytes := Mem.writeAll (s.imageSlot s.newSlot).bytes (s.num Reg.fwChunkOff) bytes, state := 1 })))
  ∧ (∀ (s : State) (n r : Nat) (bytes : Octets), s.answers n = true → firstAbort (s.admission n 0x136005 true 0 ++ [abortIf (!octetsLengthOk 0x136005 3072 bytes.length) 0x130003]) = none → s.fwRole n = none → s.num Reg.fwChunkOff + bytes.length ≤ slotBytes → s.rangeOf 5 = some (r, true) → s.partFails r (s.num Reg.fwChunkOff) bytes.length = none → Answers (.fwChunk n bytes) s n (okay (s.smWrite r (s.num Reg.fwChunkOff) bytes)))
  ∧ (∀ (s : State) (n : Nat) (bad : Option Nat), Serves s n 0x136006 1 → s.fwRole n = none → ¬(2 ≤ s.num Reg.fwStep ∧ s.num Reg.fwStep ≤ 5) → s.retort.disagree = false → Answers (.fwVerify n bad) s n
      (match s.stagedImage bad with
       | .error (t, c) => (t, .abort c)
       | .ok im =>
         match s.imageFault im with
         | some _ => ((s.setImageSlot s.newSlot { s.imageSlot s.newSlot with state := 1 }).countBy Reg.rtJobs 2, .abort 0x140036)
         | none =>
           let t := s.setImageSlot s.newSlot { im with state := 2 }
           if t.phase = .recovery then
             let u : State := { t with boot := { t.boot with preferred := s.newSlot } }
             okay (((u.bootFirmware s.newSlot [(0x0B0008, 0x136000, 1048576 + s.newSlot * 524288)]).putN Reg.fwStep 1).countBy Reg.rtJobs 2)
           else okay ((t.fwStepDone 1).countBy Reg.rtJobs 2)))
  ∧ (∀ (s : State) (n : Nat), Serves s n 0x136006 2 → s.fwRole n = none → s.num Reg.fwStep = 1 → (s.imageSlot s.newSlot).state = 2 → Answers (.fwLoadBanked n) s n (okay ((s.loadBanked s.newSlot).fwStepDone 2)))
  ∧ (∀ (s : State) (n : Nat), Serves s n 0x136006 3 → s.fwRole n = none → s.num Reg.fwStep = 2 → Answers (.fwSwitch n) s n (okay ((s.fwStepDone 3).switchOver 3)))
  ∧ (∀ (s : State) (n : Nat), Serves s n 0x136006 4 → s.fwRole n = none → s.num Reg.fwStep = 3 → (s.imageSlot s.newSlot).state = 2 → Answers (.fwLoadOther n) s n (okay ((s.loadBanked s.newSlot).fwStepDone 4)))
  ∧ (∀ (s : State) (n : Nat), Serves s n 0x136006 5 → s.fwRole n = none → s.num Reg.fwStep = 4 → Answers (.fwRevert n) s n (okay ((s.fwStepDone 5).switchOver 3)))
  ∧ (∀ (s : State) (n : Nat), Serves s n 0x136006 6 → s.fwRole n = none → s.num Reg.fwStep = 5 → (s.imageSlot s.newSlot).state = 2 → Answers (.fwCommit n) s n (okay (let t := s.fwStepDone 6
       ({ t with boot := { t.boot with preferred := s.newSlot } } : State).raiseFloor (imageSv (t.imageSlot s.newSlot)))))
  ∧ (∀ (s : State) (n : Nat), Serves s n 0x136006 7 → s.fwRole n = none → 2 ≤ s.num Reg.fwStep → s.num Reg.fwStep ≤ 5 → Answers (.fwAbandon n) s n (okay (s.fwAbandonNow)))
  ∧ (∀ (s : State) (n : Nat), Serves s n 0x136006 8 → s.fwRole n = none → ¬(2 ≤ s.num Reg.fwStep ∧ s.num Reg.fwStep ≤ 5) → Answers (.fwErase n) s n (okay ((s.setImageSlot s.newSlot {}).fwStepDone 8)))

/-- Retort: a job submitted, started, completed, aborted. A job of an operation 1 to 10 with operands of the right lengths, on a
slot with none waiting or running, is queued and its old results erased; JOB_GO = 2 aborts the job of the session; the first
job, a host job or an internal one, starts when none runs or is erased; a job whose run time is over to within 1 microsecond
ends with its status and results, or in FAULT with event 0x08_0101 and alarm 6 where its computations disagree; 16
microseconds after an abort the aborted job ends with its status. (R628, R636, R643, R645, R647) -/
def Obligations.RetortCommandsComplete : Prop :=
  (∀ (s : State) (n : Nat), Serves s n 0x170105 1 → ¬(1 ≤ s.num (Reg.jobState n) ∧ s.num (Reg.jobState n) ≤ 3) → 1 ≤ s.num (Reg.jobOp n) ∧ s.num (Reg.jobOp n) ≤ 10 → jobLengths (s.num (Reg.jobOp n)) (s.oct (Reg.jobInA n)).length (s.oct (Reg.jobInB n)).length (s.oct (Reg.jobInC n)).length = true → Answers (.jobGoSubmit n) s n
      (let t : State := { s with retort := { s.retort with queue := s.retort.queue ++ [⟨.host n, s.num (Reg.jobOp n), s.oct (Reg.jobInA n), s.oct (Reg.jobInB n), s.oct (Reg.jobInC n)⟩] } }
       let t := ((((t.clear (Reg.jobOutA n)).clear (Reg.jobOutB n)).putN (Reg.jobState n) 1).clear (Reg.jobStatus n)).clear (Reg.jobStarted n)
       okay (t.putN (Reg.jobSeq n) ((t.num (Reg.jobSeq n) + 1) % 16777216))))
  ∧ (∀ (s : State) (n : Nat), Serves s n 0x170105 2 → Answers (.jobGoAbort n) s n (okay (s.jobAbort n)))
  ∧ (∀ (s : State) (n : Nat) (j : Job) (rest : List Job), s.retort.queue = j :: rest → s.retort.running = none → s.retort.clearing = none → j.owner = .host n → Completes .jobStart s
      (let t : State := { s with retort := { s.retort with queue := rest, running := some (s.slotJob n j), since := s.time.elapsed } }
       (t.putN (Reg.jobState n) 2).putN (Reg.jobStarted n) s.now96))
  ∧ (∀ (s : State) (j : Job) (rest : List Job), s.retort.queue = j :: rest → s.retort.running = none → s.retort.clearing = none → (∀ n, j.owner ≠ .host n) → Completes .jobStart s { s with retort := { s.retort with queue := rest, running := some j, since := s.time.elapsed } })
  ∧ (∀ (s : State) (j : Job), s.retort.running = some j → s.retort.since + jobTime j ≤ s.time.elapsed + 1000 → Completes (.jobComplete true) s
      (let t : State := { s with retort := { s.retort with running := none } }
       (((t.jobDone j 0x0F [] []).raise 0x080101 0x170000 (jobSession j * 1048576 + j.op % 16 * 65536)).raiseAlarm 6 0 false).jobFails j))
  ∧ (∀ (s : State) (n : Nat) (j : Job), s.retort.running = some j → j.owner = .host n → s.retort.since + jobTime j ≤ s.time.elapsed + 1000 → Completes (.jobComplete false) s
      (let (st, outA, outB, t) := ({ s with retort := { s.retort with running := none } } : State).jobRun j
       t.jobDone j st outA outB))
  ∧ (∀ (s : State) (n : Nat) (j : Job), s.retort.running = some j → j.owner = .hello n ∨ j.owner = .auth n → s.retort.since + jobTime j ≤ s.time.elapsed + 1000 → Completes (.jobComplete false) s (({ s with retort := { s.retort with running := none } } : State).jobDone j 0 [] []))
  ∧ (∀ (s : State) (j : Job), s.retort.clearing = some j → s.retort.since + 16000 ≤ s.time.elapsed → Completes .jobAbortErased s ((({ s with retort := { s.retort with clearing := none } } : State).jobDone j 0x0E [] []).jobFails j))

/-- Side memory: channels and accesses through SM_ACC_DATA. Enabling a channel starts its training, and disabling one that no
RUNNING range uses stops it; training ends in READY, or in FAILED with event 0x07_0601; a write of 192 bytes through
SM_ACC_DATA to a RUNNING range of a use the host may write, and a read of a range the host may reach, at an offset that is a
multiple of 64 within the range, move them and the offset; a read of a line that fails its tag is refused with 0x14_0050 and
reported. (R653, R660, R661, R666) -/
def Obligations.SideMemoryCommandsComplete : Prop :=
  (∀ (s : State) (n c : Nat), Serves s n (blockAddr 0x1600 2 c 1) 1 → s.num (Reg.smChEnable c) ≠ 1 → Answers (.smChEnable n c 1) s n (okay ((s.saveN (Reg.smChEnable c) 1).putN (Reg.smChState c) 1)))
  ∧ (∀ (s : State) (n c : Nat), Serves s n (blockAddr 0x1600 2 c 1) 0 → (List.range 8).any (fun r => s.num (Reg.rngChannel r) == c && s.fnState (.range r) != 0) = false → Answers (.smChEnable n c 0) s n (okay ((s.saveN (Reg.smChEnable c) 0).putN (Reg.smChState c) 0)))
  ∧ (∀ (s : State) (c : Nat), c < s.part.sideChannels → s.num (Reg.smChState c) = 1 → Completes (.smChannelTrained c true) s (s.putN (Reg.smChState c) 2))
  ∧ (∀ (s : State) (c : Nat), c < s.part.sideChannels → s.num (Reg.smChState c) = 1 → Completes (.smChannelTrained c false) s ((s.putN (Reg.smChState c) 3).raise 0x070601 ((0x1600 + c) * 256) (c * 8388608)))
  ∧ (∀ (s : State) (n r off : Nat) (bytes : Octets) (bad : Option Nat), s.answers n = true → firstAbort (s.admission n 0x162003 true 0 ++ [abortIf (bytes.length != 192) 0x130003]) = none → s.num (Reg.smAccRange n) = r → s.num (Reg.smAccOff n) = off → s.num (Reg.rngUse r) < 2 ∨ 5 < s.num (Reg.rngUse r) → s.running (.range r) = true → off % 64 = 0 → off + 192 ≤ s.num (Reg.rngSize r) * 1048576 → Answers (.smAccDataWrite n bytes bad) s n (okay ((s.smWrite r off bytes).putN (Reg.smAccOff n) (off + 192))))
  ∧ (∀ (s : State) (n r off : Nat) (bad : Option Nat), ServesRead s n 0x162003 → s.num (Reg.smAccRange n) = r → s.num (Reg.smAccOff n) = off → s.num (Reg.rngUse r) ≠ 5 → s.running (.range r) = true → off % 64 = 0 → off + 192 ≤ s.num (Reg.rngSize r) * 1048576 → s.lineFails r (off / 64) 3 bad = none → Answers (.smAccDataRead n bad) s n (s.putN (Reg.smAccOff n) (off + 192), .value (.oct (s.smRead r off 192))))
  ∧ (∀ (s : State) (n r off k : Nat) (bad : Option Nat), ServesRead s n 0x162003 → s.num (Reg.smAccRange n) = r → s.num (Reg.smAccOff n) = off → s.num (Reg.rngUse r) ≠ 5 → s.running (.range r) = true → off % 64 = 0 → off + 192 ≤ s.num (Reg.rngSize r) * 1048576 → s.lineFails r (off / 64) 3 bad = some k → Answers (.smAccDataRead n bad) s n (s.tagFailure r k false, .abort 0x140050))

/-- Performance counters: selection, clearing, reading. PC_SEL of a listed event selects it and zeroes the counter; PC_CLEAR
zeroes the counters of its mask; a read of PC_VAL gives the counter and stamps PC_SAMPLED. (R730, R731, R734, R735) -/
def Obligations.PerformanceCountersComplete : Prop :=
  (∀ (s : State) (n b i v : Nat), i < 16 → Serves s n (blockAddr 0x1810 8 b (1 + i)) v → countedEvents.contains v = true → v ≠ 0x0A0 ∧ v ≠ 0x0A1 → Answers (.pcSel n b i v) s n (okay ((s.putN (pcSelKey b i) v).pcZero b i)))
  ∧ (∀ (s : State) (n b mask : Nat), Serves s n (blockAddr 0x1810 8 b 0x21) mask → Answers (.pcClear n b mask) s n (okay (forEach ((List.range 16).filter (fun i => bit mask i)) (fun t i => t.pcZero b i) s)))
  ∧ (∀ (s : State) (n b i : Nat), i < 16 → ServesRead s n (blockAddr 0x1810 8 b (0x11 + i)) → Answers (.pcValRead n b i) s n (s.putN (Reg.pcSampled n) s.now96, .value (.num (s.pcValue b i))))

/-- The mirror link: attempts, authentication, resync and reports. A joined device whose two mirror lanes are locked begins to
authenticate, and step 1 fails where the partner is not there; the partner is judged by its certificate, its signature and
its key share in that order, each failure ending the attempt at its step, the next one being due a second later; then the
keys are derived, the link is up with event, PARTITION is cleared, peer memories are exchanged, reports sent and roles
settled. A mirror update for another role generation is discarded, counted and raised, and a resync asked for; reports are
taken in any role and the deletion of an SA by a Banked device; a resync completes; the reports of the device are mirrored.
(R702, R705, R708, R709) -/
def Obligations.MirrorLinkCompletes : Prop :=
  (∀ (s : State), s.phase = .ready → s.num Reg.pairJoin ≠ 0 → s.num Reg.pairLink = 0 → s.pair.attemptAt ≤ s.time.elapsed → s.laneReport 128 = 0 → s.laneReport 129 = 0 → Completes (.mirrorLinkAttempt true) s ((s.putN Reg.pairLink 1).linkEvent 0))
  ∧ (∀ (s : State), s.phase = .ready → s.num Reg.pairJoin ≠ 0 → s.num Reg.pairLink = 0 → s.pair.attemptAt ≤ s.time.elapsed → Completes (.mirrorLinkAttempt false) s (s.attemptFails 1))
  ∧ (∀ (s : State) (x : PeerHello), s.num Reg.pairLink = 1 → Completes (.mirrorLinkUp x) s
      (if s.peerCertified x = false then s.attemptFails 2
       else if peerSigned x = false ∨ s.kduReady = false ∨ (s.pairId = 0 ∧ kemKeyOk x.kemPub = false) then s.attemptFails 3
       else if x25519Status s.pairX x.xPub ≠ 0 then s.attemptFails 4
       else
         let (own, t) := s.drawBytes 16
         let (m, t) := t.drawBytes 32
         let shared := if t.pairId = 0 then (Config.kemEncaps x.kemPub m).2 else Config.kemDecaps t.pairKemSeed x.kemCt
         let salt := if t.pairId = 0 then own ++ x.nonce else x.nonce ++ own
         let keys := hkdf512 salt (x25519 t.pairX x.xPub ++ shared) (ascii "NZ-PAIR-KEYS") 96
         let k0 := keys.take 32
         let k1 := (keys.drop 32).take 32
         let t : State := { t with pair := { t.pair with keyOut := if t.pairId = 0 then k0 else k1, keyIn := if t.pairId = 0 then k1 else k0, wrapKey := keys.drop 64, txCount := 1, peerRole := x.role, peerGen := x.roleGen, peerHealthy := x.healthy, relinquished := false, heardAt := t.time.elapsed, beatAt := t.time.elapsed } }
         let t := ((t.putN Reg.pairLink 2).linkEvent 0).setPartition false
         let t := t.pairSend (.peerMemory t.mirrorIv t.pair.memoryValid t.freshMemory)
         let t := t.refreshMemory x.reports
         let t := forEach (x.memory.filter (fun r => r.kind == 1 && x.memoryValid)) (fun t r => t.tribMemory r.item (some r)) t
         (t.update (.reports t.ownReports)).linkRoles))
  ∧ (∀ (s : State) (u : MirrorUpdate), s.linked = true → u.receiverGen ≠ s.num Reg.pairRoleGen → Completes (.mirrorUpdateReceived u) s
      (((({ s with pair := { s.pair with peerGen := u.senderGen } } : State).count Reg.mirrorRoleDiscards).raise 0x090104 0x151000 (mirrorItemNo u.item % 65536)).resync))
  ∧ (∀ (s : State) (gen : Nat) (rs : List Report), s.linked = true → Completes (.mirrorUpdateReceived ⟨gen, s.num Reg.pairRoleGen, .reports rs⟩) s
      (({ s with pair := { s.pair with peerGen := gen } } : State).applyItem (.reports rs)))
  ∧ (∀ (s : State) (gen row : Nat), s.linked = true → s.role = 1 → Completes (.mirrorUpdateReceived ⟨gen, s.num Reg.pairRoleGen, .saDelete row⟩) s
      (({ s with pair := { s.pair with peerGen := gen } } : State).applyItem (.saDelete row)))
  ∧ (∀ (s : State), s.linked = true → s.num Reg.pairSync = 1 → Completes .resyncComplete s (s.putN Reg.pairSync 2))
  ∧ (∀ (s : State), s.pair.reportAt + 100000 ≤ s.time.elapsed → Completes .counterReport s (({ s with pair := { s.pair with reportAt := s.time.elapsed } } : State).mirror (.reports s.ownReports)))

/-- The pair: joining, heartbeats, WITNESS, takeover and revert. PAIR_JOIN = 1 takes a device that has not joined to Banked, and
= 0 takes any to Cold and its link down. TAKE on a Banked device asks a healthy Lit partner to hand over, takes over from
one that is not Lit, and without the link claims WITNESS or becomes Lit at once where it is not wired; GIVE on a Lit device
with a healthy partner gives the role up. A heartbeat goes out; one received stores what the partner says; a request makes a
Lit device give up, and a relinquishing partner makes a healthy Banked one Lit. A loss takes the link down; a healthy Banked
device with WITNESS wired claims it, and one that is not Banked goes on in PARTITION. A claim that held ends in a takeover,
one that did not is given up; a takeover that completes makes the device Lit; the end of the hold-off asks for the role
back; a bolt whose lines have been lost for 10 ms is watched, and the health judged. (R703, R710, R713, R714, R715, R716,
R717, R718) -/
def Obligations.PairRolesComplete : Prop :=
  (∀ (s : State) (n : Nat), Serves s n 0x151001 1 → s.num Reg.pairJoin ≠ 1 → Answers (.pairJoinSet n) s n (okay ((s.saveN Reg.pairJoin 1).setRole 1 6)))
  ∧ (∀ (s : State) (n : Nat), Serves s n 0x151001 0 → Answers (.pairJoinClear n) s n
      (let t := if s.role = 2 then s.giveUp false 0 6 else s.setRole 0 6
       okay ((t.linkDown t.pair.relinquished).saveN Reg.pairJoin 0)))
  ∧ (∀ (s : State) (n : Nat), Serves s n 0x151006 1 → s.role = 1 → s.linked = true → s.pair.peerHealthy = true → s.pair.peerRole = 2 → Answers (.pairCmdTake n) s n (okay (({ s with pair := { s.pair with requested := true, claimCause := 3 } } : State).heartbeat false false true)))
  ∧ (∀ (s : State) (n : Nat), Serves s n 0x151006 1 → s.role = 1 → s.linked = false → s.num Reg.pairWitnessWired = 0 → Answers (.pairCmdTake n) s n (okay (({ s with pair := { s.pair with memoryValid := false } } : State).becomeLit 2)))
  ∧ (∀ (s : State) (n : Nat), Serves s n 0x151006 1 → s.role = 1 → s.linked = true → s.pair.peerHealthy = true → s.pair.peerRole ≠ 2 → Answers (.pairCmdTake n) s n (okay ((({ s with pair := { s.pair with requested := true, claimCause := 3 } } : State).heartbeat false false true).becomeLit 3)))
  ∧ (∀ (s : State) (n : Nat), Serves s n 0x151006 1 → s.role = 1 → s.linked = false → s.num Reg.pairWitnessWired = 1 → s.pair.witnessHigh = true → Answers (.pairCmdTake n) s n (okay (({ s with pair := { s.pair with memoryValid := false } } : State).claimWitness 3)))
  ∧ (∀ (s : State) (n : Nat), Serves s n 0x151006 2 → s.role = 2 → s.linked = true → s.pair.peerHealthy = true → Answers (.pairCmdGive n) s n (okay (s.giveUp true 1 3)))
  ∧ (∀ (s : State), s.linked = true → s.pair.beatAt + 1000 ≤ s.time.elapsed → Completes .heartbeatSend s (({ s with pair := { s.pair with beatAt := s.time.elapsed } } : State).heartbeat false false s.pair.requested))
  ∧ (∀ (s : State) (hb : Heartbeat) (u : State), s.linked = true → hb.valid = true → hb.relinquish = false → hb.handover = false → hb.request = false → (s.role == 2 && s.num Reg.pairSync == 2 && s.pair.peerSync == 2 && hb.sync == 1) = false → u = ({ s with pair := { s.pair with heardAt := s.time.elapsed, peerRole := hb.role, peerGen := hb.roleGen, peerHealthy := hb.healthy, peerSync := hb.sync } } : State).hear hb.reports → Completes (.heartbeatReceived hb) s { u with pair := { u.pair with relinquished := u.pair.relinquished && hb.role != 2 } })
  ∧ (∀ (s : State) (hb : Heartbeat) (u : State), s.linked = true → hb.valid = true → hb.relinquish = false → hb.handover = false → hb.request = true → (s.role == 2 && s.num Reg.pairSync == 2 && s.pair.peerSync == 2 && hb.sync == 1) = false → u = ({ s with pair := { s.pair with heardAt := s.time.elapsed, peerRole := hb.role, peerGen := hb.roleGen, peerHealthy := hb.healthy, peerSync := hb.sync } } : State).hear hb.reports → s.role = 2 → Completes (.heartbeatReceived hb) s (({ u with pair := { u.pair with relinquished := u.pair.relinquished && hb.role != 2 } } : State).giveUp true 1 3))
  ∧ (∀ (s : State) (hb : Heartbeat) (u : State), s.linked = true → hb.valid = true → hb.relinquish = true → s.role = 1 → s.healthy = true → s.pair.becoming = none → (s.role == 2 && s.num Reg.pairSync == 2 && s.pair.peerSync == 2 && hb.sync == 1) = false → u = ({ s with pair := { s.pair with heardAt := s.time.elapsed, peerRole := hb.role, peerGen := hb.roleGen, peerHealthy := hb.healthy, peerSync := hb.sync } } : State).hear hb.reports → Completes (.heartbeatReceived hb) s (({ u with pair := { u.pair with relinquished := true } } : State).becomeLit 1))
  ∧ (∀ (s : State), s.linked = true → s.role = 1 → s.num Reg.pairWitnessWired = 1 → s.healthy = true → s.pair.becoming = none → s.pair.heardAt + 10000 ≤ s.time.elapsed → Completes .heartbeatLoss s ((s.linkDown true).claimWitness 2))
  ∧ (∀ (s : State), s.linked = true → s.role ≠ 1 → (s.linkDown s.pair.relinquished).pair.becoming = none → s.pair.heardAt + 10000 ≤ s.time.elapsed → Completes .heartbeatLoss s ((s.linkDown s.pair.relinquished).setPartition true))
  ∧ (∀ (s : State) (t : Nat), s.pair.claiming = some t → t + 10000 + 20000 * s.pairId ≤ s.time.elapsed → Completes (.witnessClaimDone true) s (({ s with pair := { s.pair with claiming := none, witnessHigh := true } } : State).becomeLit 2))
  ∧ (∀ (s : State) (t : Nat), s.pair.claiming = some t → t + 10000 + 20000 * s.pairId ≤ s.time.elapsed → s.pair.claimCause = 2 → Completes (.witnessClaimDone false) s
      (({ s with pair := { s.pair with claiming := none, witnessHigh := false, memoryValid := s.pair.memoryValid && s.pair.relinquished } } : State).setPartition true))
  ∧ (∀ (s : State) (cause t : Nat), s.pair.becoming = some (cause, t) → Completes .takeoverComplete s (({ s with pair := { s.pair with requested := false } } : State).setRole 2 cause))
  ∧ (∀ (s : State) (t : Nat), s.pair.holdoff = some t → s.revertReady = true → t + s.num Reg.pairHoldoff * 1000000000 ≤ s.time.elapsed → Completes .pairHoldoffExpiry s (({ s with pair := { s.pair with requested := true, claimCause := 4 } } : State).heartbeat false false true))
  ∧ (∀ (s : State) (b : Nat), b < s.nBolts → s.boltLinesBad b = true → s.pair.linesBad.getD b s.time.elapsed + 10000000 ≤ s.time.elapsed → s.pair.watchBad.contains b = false → Completes (.pairWatchTimeout b) s (({ s with pair := { s.pair with watchBad := s.pair.watchBad ++ [b] } } : State).healthCheck))

/-- Flue monitors, alarms, events, dual control, the backup clock and device time: each command answers a next state. Each
clause names one command and conditions on the state and its operands alone; under them exec answers a next state t, of
which the clause says what the command's own effect leaves in t, or, where it says Follows u t, that t is u after frames
have moved on; where it names the next state itself, State.settle u, that is u after what every step ends with. Sessions are
0 to 8. (R144, R152, R154, R429, R533, R538, R539, R675, R681, R687, R690, R753) -/
def Obligations.AlarmsAndTimeAnswer : Prop :=
  (∀ (s : State) (k : Nat) (d : Bool) (w : Nat × Bool), k < 5 → s.mainPower = true → (if d then (s.flueKind k).outB else (s.flueKind k).outA) = false → (s.flueKind k).waiting.find? (fun w => w.2 != d && decide (s.alarm.clock < w.1 + 1000)) = some w → ∃ t, exec (.flueDetectorFire k d) s = .next t ∧ (if d then (t.flueKind k).outB else (t.flueKind k).outA) = true ∧ (t.flueKind k).waiting = (s.flueKind k).waiting.erase w)
  ∧ (∀ (s : State) (k : Nat) (d : Bool), k < 5 → s.mainPower = true → ∃ t, exec (.flueDetectorRelease k d) s = .next t ∧ (if d then (t.flueKind k).outB else (t.flueKind k).outA) = false)
  ∧ (∀ (s : State) (k : Nat) (w : Nat × Bool), (s.flueKind k).waiting.find? (fun w => decide (w.1 + 1000 ≤ s.alarm.clock)) = some w → ∃ t, exec (.flueLoneRecognised k) s = .next t ∧ Follows ((s.setFlue k { s.flueKind k with waiting := (s.flueKind k).waiting.erase w }).flueLone k w.1 w.2) t)
  ∧ (∀ (s : State) (n m : Nat), n < 9 → Serves s n 0x141002 m → m < 512 → ∃ t, exec (.almAck n m) s = .next t ∧ t.num Reg.almPending = s.num Reg.almPending - (s.num Reg.almPending &&& m))
  ∧ (∀ (s : State) (n : Nat), n < 9 → Serves s n 0x141004 1 → n ≠ 0 → s.sessHas n 1 = true → ∃ t, exec (.almHoldClear n 1) s = .next t ∧ t.num Reg.almHold = 0)
  ∧ (∀ (s : State) (tj : Int), ∃ t, exec (.tjSample tj) s = .next t ∧ t.num Reg.tjNow = toI24 tj)
  ∧ (∀ (s : State) (n v : Nat), n < 9 → Serves s n 0x100402 v → ∃ t, exec (.tjPeak n v) s = .next t ∧ t.num Reg.tjPeak = s.num Reg.tjNow)
  ∧ (∀ (s : State) (n : Nat) (r : Record) (rest : List Record), n < 9 → Serves s n 0x140004 r.seq → s.events.queue = r :: rest → s.events.dropped = 0 → ∃ t, exec (.evtPop n r.seq) s = .next t ∧ List.IsPrefix rest t.events.queue)
  ∧ (∀ (s : State) (n : Nat), n < 9 → ServesRead s n 0x131001 → ∃ t, exec (.dcNonceRead n) s = .next t ∧ t.trust.dcNonces = (Config.freeNat s.free % 2 ^ 48 :: s.trust.dcNonces).take 16)
  ∧ (∀ (s : State) (n i : Nat), Serves s n 0x131108 1 → s.hold = false → dcTarget (s.num (Reg.pTarget n)) (s.oct (Reg.pValue n)) = true → s.missing n (s.num (Reg.pTarget n)) = none → ¬(isCmLevel (s.num (Reg.pTarget n)) = true ∧ s.lc ≠ 2) → s.trust.dcNonces.contains (s.num (Reg.pNonce n)) = true → s.credHas (s.num (Reg.pCred n)) 1 = true → firstAbort (s.dcAbort (s.num (Reg.pTarget n)) (s.oct (Reg.pValue n))) = none → s.proposals.any (fun e => e.2.target == s.num (Reg.pTarget n)) = false → s.proposals.length < 8 → (List.range 8).find? (fun i => (s.proposals.get? i).isNone) = some i → s.retort.disagree = false → ∃ t, exec (.pActionSubmit n) s = .next t ∧ Follows (answered n (let target := s.num (Reg.pTarget n)
       let bytes := s.oct (Reg.pValue n)
       let c := s.num (Reg.pCred n)
       let digest := s.dcDigest (s.num (Reg.pNonce n)) target bytes
       if s.credSigned c digest (s.oct (Reg.pSigEd n)) (s.oct (Reg.pSigMl n)) then
         let pr : Proposal := ⟨target, bytes, c, digest, s.time.dev, s.time.dev + s.dcWindowUnits, false⟩
         let t : State := { s with proposals := s.proposals.put i pr, trust := { s.trust with dcNonces := s.trust.dcNonces.filter (fun x => x != s.num (Reg.pNonce n)) } }
         okay (((t.putAll [(Reg.slotState i, .num 1), (Reg.slotTarget i, .num target), (Reg.slotDigest i, .oct digest), (Reg.slotProposer i, .num c),
           (Reg.slotOpened i, .num t.now96), (Reg.slotCloses i, .num (time96 (pr.closes / nsUnits)))]).raise 0x070201 ((0x1318 + i) * 256) (i * 2097152 + c * 131072)).countBy Reg.rtJobs 2)
       else refuse (s.countBy Reg.rtJobs 2) 0x140002)).afterResponse t)
  ∧ (∀ (s : State) (n : Nat) (p : Proposal), Serves s n 0x131108 2 → s.hold = false → s.proposals.get? (s.num (Reg.pSlot n)) = some p → p.opened ≤ s.time.dev → s.time.dev < p.closes → s.credHas (s.num (Reg.pCred n)) 1 = true → s.num (Reg.pCred n) ≠ p.proposer → p.changed = false → firstAbort (abortIf (isCmLevel p.target && s.lc != 2) 0x110003 :: s.dcAbort p.target p.value) = none → s.proposals.any (fun e => e.1 != s.num (Reg.pSlot n)) = false → s.retort.disagree = false → ∃ t, exec (.pActionApprove n) s = .next t ∧ Follows (answered n (let i := s.num (Reg.pSlot n)
       let c := s.num (Reg.pCred n)
       if s.credSigned c p.digest (s.oct (Reg.pSigEd n)) (s.oct (Reg.pSigMl n)) then
         okay ((((s.dcMake p.target p.value).freeSlot i).raise 0x070202 ((0x1318 + i) * 256) (i * 2097152 + p.proposer * 131072 + c * 8192)).countBy Reg.rtJobs 2)
       else refuse (s.countBy Reg.rtJobs 2) 0x140002)).afterResponse t)
  ∧ (∀ (s : State) (n : Nat) (p : Proposal), Serves s n 0x131108 3 → s.hold = false → s.proposals.get? (s.num (Reg.pSlot n)) = some p → s.credHas (s.num (Reg.pCred n)) 1 = true → s.proposals.any (fun e => e.1 != s.num (Reg.pSlot n)) = false → s.retort.disagree = false → ∃ t, exec (.pActionCancel n) s = .next t ∧ Follows (answered n (if s.credSigned (s.num (Reg.pCred n)) p.digest (s.oct (Reg.pSigEd n)) (s.oct (Reg.pSigMl n)) then okay ((s.endProposal (s.num (Reg.pSlot n)) 1).countBy Reg.rtJobs 2)
       else refuse (s.countBy Reg.rtJobs 2) 0x140002)).afterResponse t)
  ∧ (∀ (s : State) (i : Nat) (p : Proposal), s.proposals.get? i = some p → p.closes ≤ s.time.dev → ∃ t, exec (.dcWindowExpiry i) s = .next t ∧ t.proposals.get? i = none)
  ∧ (∀ (s : State) (m : SecondInput), s.phase ≠ .reset → s.boundaryDue = true → ∃ t, exec (.deviceSecondBoundary m) s = .next t ∧ t.time.latched = s.nowSec)
  ∧ (∀ (s : State) (n v : Nat) (words : List Nat), s.answers n = true → Ty.decode .time96 0x120002 words 0 = (.num v, none) → firstAbort (s.admission n 0x120002 true v ++ [none]) = none → ∃ t, exec (.timeSet n words) s = .next t ∧ Follows (answered n (let new := time96Ns v
       let size := ((new * nsUnits : Nat) : Int) - s.time.dev
       let whole := decide (new % 1000000000 = 0)
       let forward := decide (s.nowSec < new / 1000000000) && s.latchDue (new / 1000000000)
       let u := { (s.leaveSecond (new / 1000000000)).time with dev := new * nsUnits, slew := 0, stepped := !whole, irregular := !(forward && whole), rtcCopy := true, latched := new / 1000000000, ran := 0 }
       let t := ((((s.leaveSecond (new / 1000000000)).stepGates (fun t => { t with time := u })).putN Reg.timeValid 1).count Reg.timeSteps).raise 0x060001 0x120000
         ((if decide (size < 0) then 8388608 else 0) + min (size.natAbs / (1000000 * nsUnits)) 8388607)
       let t := if forward then t.latch (new / 1000000000) true else t
       okay (match t.trust.cert with
         | some c => if t.inWindow c then t else t.certEnd 0
         | none => t))).afterResponse t)
  ∧ (∀ (s : State) (n v : Nat), n < 9 → Serves s n 0x120003 v → ∃ t, exec (.timeAdj n v) s = .next t ∧ t.time.slew = i24 v * (nsUnits : Int))
  ∧ (∀ (s : State) (n v : Nat), n < 9 → Serves s n 0x120004 v → ∃ t, exec (.timeFreq n v) s = .next t ∧ t.num Reg.timeFreq = v)
  ∧ (∀ (s : State), 0 ≤ s.time.slew → s.time.slew ≤ 6553600 → ∃ t, exec .slewComplete s = .next t ∧ t.time.dev = s.time.dev + s.time.slew.toNat ∧ t.time.slew = 0)
  ∧ (∀ (s : State), s.num Reg.ppsEnable = 1 → s.ppsDue = true → s.time.ppsHigh = false → ∃ t, exec .ppsRise s = .next t ∧ t.time.ppsHigh = true)
  ∧ (∀ (s : State), s.time.ppsEnd ≤ s.time.elapsed → ∃ t, exec .ppsFall s = .next t ∧ t.time.ppsHigh = false)
  ∧ (∀ (s : State) (k lasts : Nat) (rising half : Bool) (x : TsInput), k < 4 → (if rising then s.num (Reg.tsiEdge k) % 2 else s.num (Reg.tsiEdge k) / 2) ≠ 0 → s.tsIn.getD k {} = x → 4 ≤ lasts → x.glitch ≠ some (!rising) → (∀ t, x.last = some t → t + 100 ≤ s.time.elapsed) → x.queue.length < 16 → ∃ t, exec (.tsInEdge k rising ⟨half, lasts⟩) s = .next t ∧ (t.tsIn.getD k {}).queue = x.queue ++ [(x.nextSeq, rising, s.now96, half)])
  ∧ (∀ (s : State) (n k v : Nat) (y : Bool × Nat × Bool) (rest : List (Nat × Bool × Nat × Bool)), n < 9 → Serves s n (blockAddr 0x1210 4 k 6) v → (s.tsIn.getD k {}).queue = (v, y) :: rest → ∃ t, exec (.tsiPop n k v) s = .next t ∧ (t.tsIn.getD k {}).queue = rest)
  ∧ (∀ (s : State) (n p : Nat), n < 9 → Serves s n (portAddr p 1 0x40) 0 → ∃ t, exec (.tcErrMax n p 0) s = .next t ∧ t.num (Reg.pTcErrMax p) = 0)
  ∧ (∀ (s : State) (j : Nat), j < 3 → ∃ t, exec (.bkComparatorRelease j) s = .next t ∧ (t.backup.comp j).out = false)
  ∧ (∀ (s : State), ¬(s.backup.lost = true ∧ s.mainPower = false) → 500000000 ≤ s.backup.phase → ∃ t, exec .rtcSecondTick s = .next t ∧ t.backup.rtc = (s.backup.rtc + 1) % 2 ^ 64)

/-- Frames, the scheduler, PAUSE, stations and parity: each command answers a next state. Each clause names one command and
conditions on the state and its operands alone; under them exec answers a next state t, of which the clause says what the
command's own effect leaves in t, or, where it says Follows u t, that t is u after frames have moved on; where it names the
next state itself, State.settle u, that is u after what every step ends with. Sessions are 0 to 8. (R41, R69, R83, R88,
R311, R316, R350, R362, R411, R446, R511, R515) -/
def Obligations.FramesAndStationsAnswer : Prop :=
  (∀ (s : State) (p : Nat) (rx : RxFrame), s.hearthIn = [] → s.phase ≠ .reset → p < s.nPorts → s.kind p = 1 → s.fnState (.port p) ≠ 0 → s.num (Reg.pLinkUp p) = 1 → rx.bytes.length < 60 → ∃ t, exec (.clearFrameReceived p rx) s = .next t ∧ t.num (Reg.pRunts p) = min (s.num (Reg.pRunts p) + 1) (Reg.pRunts p).ty.max)
  ∧ (∀ (s : State) (p : Nat) (rx : RxFrame), s.hearthIn = [] → s.phase ≠ .reset → p < s.nPorts → s.kind p = 1 → s.fnState (.port p) ≠ 0 → s.num (Reg.pLinkUp p) = 1 → (s.port p).arriving.first = false → 60 ≤ rx.bytes.length → rx.fcsOk = false → rx.started = false → rx.final = false → ∃ t, exec (.clearFrameReceived p rx) s = .next t ∧ t.num (Reg.pFcsErrors p) = min (s.num (Reg.pFcsErrors p) + 1) (Reg.pFcsErrors p).ty.max)
  ∧ (∀ (s : State) (p : Nat) (rx : RxFrame), s.hearthIn = [] → s.phase ≠ .reset → p < s.nPorts → s.kind p = 3 → s.ownsLanes p = true → s.fnState (.port p) ≠ 0 → s.num (Reg.pLinkUp p) = 1 → rx.bytes.length < 60 → ∃ t, exec (.lineFrameReceived p rx) s = .next t ∧ t.num (Reg.pRunts p) = min (s.num (Reg.pRunts p) + 1) (Reg.pRunts p).ty.max)
  ∧ (∀ (s : State) (p : Nat) (rx : RxFrame), s.phase ≠ .reset → p < s.nPorts → s.kind p = 1 → s.fnState (.port p) ≠ 0 → s.num (Reg.pLinkUp p) = 1 → (s.port p).arriving.first = false → 60 ≤ rx.bytes.length → rx.fcsOk = true → rx.bytes.length + 4 ≤ (s.arrives p .e rx).2.num (Reg.pMaxFrame p) → fieldAt rx.bytes 12 2 ≠ 0x8808 → ((s.arrives p .e rx).2.silsyFrame rx.bytes || (s.arrives p .e rx).2.silsyBroadcast rx.bytes) = false → groupMac (frameDst rx.bytes) = false → (((s.arrives p .e rx).2.parsed p .e rx (s.port p).arriving.poison).2).fnState (.port ((s.arrives p .e rx).2.assigned p rx.bytes)) = 2 → exec (.clearFrameReceived p rx) s = .next (State.settle ((let q := (s.arrives p .e rx).2.assigned p rx.bytes
       let (seen, t) := (s.arrives p .e rx).2.parsed p .e rx (s.port p).arriving.poison
       (t.classifyE q p rx (t.saOfHead p (earlyHead rx.bytes (s.port p).lastHead seen)) (s.port p).arriving none).drainHearth))))
  ∧ (∀ (s : State) (p : Nat) (rx : RxFrame), s.phase ≠ .reset → p < s.nPorts → s.kind p = 3 → s.ownsLanes p = true → s.fnState (.port p) ≠ 0 → s.num (Reg.pLinkUp p) = 1 → (s.port p).arriving.first = false → 60 ≤ rx.bytes.length → rx.bytes.length ≤ 16028 → rx.fcsOk = true → fieldAt rx.bytes 12 2 = 0x88E5 → exec (.lineFrameReceived p rx) s = .next (State.settle (((s.arrives p .d rx).2.lineParsed p rx (s.port p).arriving (s.port p).lastHead false).drainHearth)))
  ∧ (∀ (s : State) (b : Nat) (pipe : Pipe), s.phase ≠ .reset → b < s.nBolts → exec (.keystreamMissFilled b pipe) s = .next (State.settle (((s.setPipe b pipe { s.pipe b pipe with fifo := fillFirst (s.pipe b pipe).fifo }).drain b pipe).drainHearth)))
  ∧ (∀ (s : State) (b : Nat) (f : Frame) (n : Nat) (rest : List Frame), s.phase ≠ .reset → b < s.nBolts → s.hasSector = true → (s.pipe b .d).after = f :: rest → f.stage = .waitSector → f.stream = some n → (s.setPipe b .d { s.pipe b .d with after := rest }).engineClosed n b = none → exec (.sectorTransformDone b .d) s = .next (State.settle ((let (bs, t) := (s.setPipe b .d { s.pipe b .d with after := rest }).sectorTransform n false f.bytes
       let f := { f with bytes := bs, stream := none }
       (((t.crosses f 3 []).gateD f).releaseAfter b (rest.length + 1)).drainHearth))))
  ∧ (∀ (s : State) (b : Nat), s.phase ≠ .reset → b < s.nBolts → s.hasSector = true → exec (.sectorTransformDone b .e) s = .next (State.settle ((s.sectorDoneE b).drainHearth)))
  ∧ (∀ (s : State) (p : Nat) (rx : PanelRx) (us : List RxUnit) (u : State), s.phase ≠ .reset → s.tribRunning p = true → s.num (Reg.pTribDelineated p) ≠ 0 → (s.tribLanes p).any (fun l => s.hardDefect (lineOf (boltOfPort p) l)) = false → s.delineate p (s.rxUnits p rx) ((s.trib p).pointers.length + 1) = (some us, u) → us.any (fun x => x.unit.isNone) = true → exec (.twPanelReceived p rx) s = .next (State.settle (((u.count (Reg.pPanelsFecLost p)).panelSkipped p).drainHearth)))
  ∧ (∀ (s : State) (p : Nat) (rx : PanelRx) (us : List RxUnit) (u : State), s.phase ≠ .reset → s.tribRunning p = true → s.num (Reg.pTribDelineated p) ≠ 0 → (s.tribLanes p).any (fun l => s.hardDefect (lineOf (boltOfPort p) l)) = false → s.delineate p (s.rxUnits p rx) ((s.trib p).pointers.length + 1) = (some us, u) → us.any (fun x => x.unit.isNone) = false → rx.short = false → (u.trib p).rxPoison = false → exec (.twPanelReceived p rx) s = .next (State.settle ((let units := us.filterMap (fun x => x.unit)
       (u.panelEnters p units).panelOpen p (units.take 64) (us.map (fun x => x.ts)) (units.getD 64 0)).drainHearth)))
  ∧ (∀ (s : State) (p prio t : Nat), (s.port p).pausedAt.get? prio = some t → s.pauses p prio = true → t * s.portRate p + s.num (Reg.pPauseQuanta p) * 256000 ≤ s.time.elapsed * s.portRate p → exec (.pauseRepeat p prio) s = .next (State.settle ((let t := s.sendPause p prio (s.num (Reg.pPauseQuanta p))
       t.setPort p { t.port p with pausedAt := (t.port p).pausedAt.put prio t.time.elapsed }))))
  ∧ (∀ (s : State) (p prio t : Nat), (s.port p).peerPause.get? prio = some t → t ≤ s.time.elapsed → exec (.peerPauseExpiry p prio) s = .next (State.settle ((s.setPort p { s.port p with peerPause := (s.port p).peerPause.del prio }))))
  ∧ (∀ (s : State) (e : ParityError) (c : Crossing), e.b < s.nBolts → refFits e.point e.at_ = true → ((s.pipe e.b e.pipe).point e.point).crossing e.at_ = some c → ((s.pipe e.b e.pipe).point e.point).failed ≠ some c → exec (.beatParityError e) s = .next (State.settle ((let ps := s.pipe e.b e.pipe
       let x := ps.point e.point
       let t := s.setPipe e.b e.pipe { ps with points := ps.points.put e.point (x.fail c).2 }
       ((t.count (Reg.bReplays e.b)).pc e.b (0x030 + pipeNo e.pipe) 1).replays e x c))))
  ∧ (∀ (s : State) (p : Nat), s.ownsLanes p = true → exec (.frameDue p) s = .next (State.settle ((let t := s.purge p
       match t.pickDue p with
       | some (q, k) => (if t.linkFree p && (t.port p).control.isEmpty then t.startFrame p q k false else t).markLate p
       | none => t.markLate p))))
  ∧ (∀ (s : State) (p : Nat) (c : Octets) (rest : List Octets), s.ownsLanes p = true → (s.port p).control = c :: rest → (s.port p).sending = none → s.num (Reg.pLinkUp p) = 1 → s.num (Reg.pFaultRx p) = 0 → ∃ t, exec (.frameSelected p) s = .next t ∧ Wire.control p c ∈ t.wire)
  ∧ (∀ (s : State) (p : Nat) (x : Sending), (s.port p).sending = some x → x.frame.cls = 0 → x.ct < 63 → x.ct * 256 < x.frame.line → x.frame.sector = none → s.num (Reg.pCtStart x.port) < 63 → ∃ t, exec (.classCUnderrun p) s = .next t ∧ t.num (Reg.pCtStart x.port) = s.num (Reg.pCtStart x.port) + 1)
  ∧ (∀ (s : State) (p ts : Nat) (x : Sending), (s.port p).sending = some x → ∃ t, exec (.frameTxEnd p ts) s = .next t ∧ Wire.frame p x.frame.bytes (!(x.frame.bad || x.frame.poison)) ∈ t.wire)
  ∧ (∀ (s : State) (p : Nat), exec (.gateEdge p) s = .next (State.settle ((s.settleCredit p))))
  ∧ (∀ (s : State) (p : Nat), (s.port p).admin = true → time96Ns (s.num (Reg.pTakeoverTime p)) ≤ s.nowNs → exec (.gateTakeover p) s = .next (State.settle ((s.takeover p))))
  ∧ (∀ (s : State) (b : Nat) (r : LearnReq) (rest : List LearnReq), (s.bolt b).learn = r :: rest → exec (.stationLearn b) s = .next (State.settle (((s.setBolt b { s.bolt b with learn := rest }).serveLearn b r))))
  ∧ (∀ (s : State) (b : Nat), b < s.nBolts → (s.bolt b).ageAt + 1000000000 ≤ s.time.elapsed → exec (.ageSweepTick b) s = .next (State.settle ((let u := (s.setBolt b { s.bolt b with ageAt := (s.bolt b).ageAt + 1000000000 }).serveAll b
       let limit := u.num (Reg.bAgeTime b)
       let t := u.pc b 0x081 33280
       forEach (t.rowsListed 0x4300) (fun t row =>
         if row / 65536 ≠ b ∨ t.rowState 0x4300 row ≠ 1 ∨ t.num (Reg.stnStatic row) = 1 then t
         else if limit ≠ 0 ∧ limit ≤ t.num (Reg.stnAge row) then (t.stationEmpty row).count (Reg.bStnAged b)
         else (t.count (Reg.stnAge row)).bumpVersion 0x4300 row) t))))
  ∧ (∀ (s : State) (n b v : Nat), Serves s n (boltAddr b 9 5) v → v ≤ 127 ∨ v = 0xFFFF → exec (.stnFlush n b v) s = .next (State.settle ((answered n ((okay (s.flushStations b v)))).afterResponse)))
  ∧ (∀ (s : State) (b n : Nat) (rest : List Nat), (s.bolt b).flushes = n :: rest → ∃ t, exec (.stnFlushComplete b) s = .next t ∧ (t.bolt b).flushes = rest)
  ∧ (∀ (s : State) (b : Nat) (pipe : Pipe), b < s.nBolts → exec (.generatorReseedRetry b pipe true) s = .next (State.settle ((s.setPipe b pipe { s.pipe b pipe with genFailed := false, reseeds := (s.pipe b pipe).reseeds + 1, sinceReseed := 0 }))))
  ∧ (∀ (s : State) (b : Nat) (pipe : Pipe), s.phase = .ready → s.events.queue.length < 1024 → b < s.nBolts → (s.pipe b pipe).genFailed = false → ∃ t, exec (.generatorReseedRetry b pipe false) s = .next t ∧ ∃ r ∈ t.events.queue, r.code = 0x020008)

/-- Levels, limits, bindings, keys, flips, panels and overhead: each command answers a next state. Each clause names one command
and conditions on the state and its operands alone; under them exec answers a next state t, of which the clause says what
the command's own effect leaves in t, or, where it says Follows u t, that t is u after frames have moved on; where it names
the next state itself, State.settle u, that is u after what every step ends with. Sessions are 0 to 8. (R187, R203, R222,
R232, R239, R241, R259, R267, R268, R275, R402, R420) -/
def Obligations.SecurityAssociationsAndTwillAnswer : Prop :=
  (∀ (s : State) (n b v : Nat), n < 9 → b < 16 → Serves s n (boltAddr b 9 1) v → v < 2 → s.running (.bank b v) = true → s.num (Reg.bPolicyActive b) ≠ v → ∃ t, exec (.policyActive n b v) s = .next t ∧ t.num (Reg.bPolicyActive b) = v)
  ∧ (∀ (s : State) (n b v : Nat), Serves s n (boltAddr b 5 1) v → 1 ≤ v → v ≤ 3 → ∃ t, exec (.cmLevel n b v) s = .next t ∧ Follows (answered n (okay (s.setCmLevel b v))).afterResponse t)
  ∧ (∀ (s : State) (n b v : Nat), n < 9 → b < 16 → Serves s n (boltAddr b 5 2) v → 1 ≤ v → v ≤ 2 ^ 64 - 2 → ∃ t, exec (.pnWarn n b true v) s = .next t ∧ t.num (Reg.bPnWarnXpn b) = v)
  ∧ (∀ (s : State) (n b v : Nat), Serves s n (boltAddr b 5 4) v → 2 ^ 16 ≤ v → v ≤ 2 ^ 60 → s.num (Reg.bTwPanelWarn b) < v → ∃ t, exec (.twPanelLimit n b v) s = .next t ∧ Follows (answered n (let t := s.putN (Reg.bTwPanelLimit b) v
       okay (forEach ((boltPorts b).filter (fun p => t.tribSends p && t.panelBarred p (t.num (Reg.pTribKeyCount p)))) (fun t p => t.panelStop p) t))).afterResponse t)
  ∧ (∀ (s : State) (n p a v : Nat), n < 9 → a < 4 → Serves s n (portAddr p 3 (0x11 + a)) v → v ≠ s.num (portKey p 3 (0x11 + a)) → ¬(a = s.num (Reg.pTxAnInForce p) ∧ s.num (portKey p 3 (0x11 + a)) ≠ 0xFFFFFF ∧ s.rowState 0x4000 (s.num (portKey p 3 (0x11 + a))) = 3) → v = 0xFFFFFF ∨ (boltOfSa v = boltOfPort p ∧ s.bindable p v = true) → ∃ t, exec (.txSaAn n p a v) s = .next t ∧ t.num (portKey p 3 (0x11 + a)) = v)
  ∧ (∀ (s : State) (n p v : Nat), Serves s n (portAddr p 3 0x15) v → v ≤ 3 → v ≠ s.num (Reg.pTxAnInForce p) → s.num (portKey p 3 (0x11 + v)) = 0xFFFFFF ∨ (s.rowState 0x4000 (s.num (portKey p 3 (0x11 + v))) = 1 ∧ s.bindingCounts p (s.num (portKey p 3 (0x11 + v))) = true) → ∃ t, exec (.txAn n p v) s = .next t ∧ Follows (answered n (let old := s.num (Reg.pTxAnInForce p)
       let was := s.anBinding p
       let t := ((s.putN (Reg.pTxAn p) v).putN (Reg.pTxAnInForce p) v).putN (Reg.pTxSwitched p) s.now96
       let t := if was = 0xFFFFFF then t else t.discardKeystream (boltOfPort p) .e was
       okay ((t.raise 0x020010 ((0x3000 + 4 * p + 3) * 256) (p * 16384 + old * 4096 + v * 1024)).mirror (.txAn p v)))).afterResponse t)
  ∧ (∀ (s : State) (sa : Nat), s.rowState 0x4000 sa = 4 → s.saBusy sa = false → ∃ t, exec (.saRetired sa) s = .next t ∧ t.oct (.row 0x4000 sa 0x100) = [])
  ∧ (∀ (s : State) (n : Nat), n < 9 → Serves s n 0x133004 1 → s.num Reg.legacyEnable ≠ 0 → s.lc = 5 → s.num Reg.legacySa < s.nSas → s.rowState 0x4000 (s.num Reg.legacySa) = 7 → ((s.oct (Reg.legacyKey n)).length = 16 ∧ (s.num (Reg.saSuite (s.num Reg.legacySa)) = 0 ∨ s.num (Reg.saSuite (s.num Reg.legacySa)) = 2)) ∨ ((s.oct (Reg.legacyKey n)).length = 32 ∧ (s.num (Reg.saSuite (s.num Reg.legacySa)) = 1 ∨ s.num (Reg.saSuite (s.num Reg.legacySa)) = 3)) → ∃ t, exec (.legacyGo n 1) s = .next t ∧ t.oct (.row 0x4000 (s.num Reg.legacySa) 0x100) = s.oct (Reg.legacyKey n))
  ∧ (∀ (s : State) (n row : Nat), n < 9 → Serves s n 0x480015 1 → n ≠ 0 → s.sessHas n 2 = true → s.kduReady = true → s.noRow n 0x4800 = none → s.cursor n 0x4800 = row → keyTypeLength (s.num (stage n 0x4800 0x13)) ≠ 0 → (s.oct (stage n 0x4800 0x11)).length = keyTypeLength (s.num (stage n 0x4800 0x13)) → s.num (stage n 0x4800 0x12) = 0xFF ∨ s.num (stage n 0x4800 0x12) < s.nBolts → ∃ t, exec (.wrap n 1) s = .next t ∧ t.oct (Reg.blob row) = s.wrapBlob (s.num (stage n 0x4800 0x12)) (s.num (stage n 0x4800 0x13)) (s.num (stage n 0x4800 0x14)) (s.oct (stage n 0x4800 0x11)))
  ∧ (∀ (s : State) (n p : Nat), n < 9 → Serves s n (portAddr p 3 0x24) 1 → s.num (Reg.pTwTxState p) ≠ 1 → s.rowState 0x4000 (s.txPhaseRow p (1 - s.num (Reg.pTwTxPhase p))) = 1 → ∃ t, exec (.twArmFlip n p) s = .next t ∧ (t.trib p).armedAt = s.time.elapsed)
  ∧ (∀ (s : State) (n p : Nat), Serves s n (portAddr p 3 0x24) 2 → s.num (Reg.pTwTxState p) = 1 → ∃ t, exec (.twArmCancel n p) s = .next t ∧ Follows (answered n (okay ((s.putN (Reg.pTwTxState p) 0).mirror (.arm p false)))).afterResponse t)
  ∧ (∀ (s : State) (b g : Nat), g < 8 → s.running (.group b g) = true → ∃ t, exec (.twMultiframeBoundary b g) s = .next t ∧ Follows (let row := b * 1024 + g
       let x := (s.grp row).nextMulti
       forEach ((s.setGrp row x).groupTribs row) (fun t p => t.txFlip p x.mfc) (s.setGrp row x)) t)
  ∧ (∀ (s : State) (p ph : Nat) (u : State), (s.trib p).releasing = some ph → u = (match (s.trib p).begun with | some (_, old) => if old = ph then s.panelFinish p else s | none => s) → ∃ t, exec (.twTxPhaseRelease p) s = .next t ∧ Follows (((u.setTrib p { u.trib p with releasing := none }).phaseReleased (s.txPhaseRow p ph)).raise 0x020014 ((0x3000 + 4 * p + 3) * 256) (p * 16384 + ph * 8192)) t)
  ∧ (∀ (s : State) (p : Nat) (u : State), s.tribSends p = true → u = s.closeAhead p 2 → (u.trib p).line ≠ [] → ∃ t, exec (.twPanelSent p) s = .next t ∧ Follows (u.panelDone p) t)
  ∧ (∀ (s : State) (p row phase : Nat) (u v : State) (claim : Claim), s.tribSends p = true → u = s.closeAhead p 2 → (u.trib p).line = [] → phase = u.panelPhase p false → row = u.txPhaseRow p phase → u.panelReady p = true → u.panelKey row = true → u.panelBarred p (u.phaseCount p phase) = false → u.claimSlot (boltOfPort p) .e (keyOwner row) (u.pcNext p + 1) (if decide (u.phaseCount p phase + 1 < u.num (Reg.bTwPanelLimit (boltOfPort p)) ∧ u.pcNext p + 1 < 2 ^ 76 - 1) then 32 else 0) [u.pcNext p] = (claim, v) → claim ≠ .wait → ∃ t, exec (.twPanelSent p) s = .next t ∧ Follows ((v.sendPanel p row phase claim).panelFinish p) t)
  ∧ (∀ (s : State) (ll row : Nat) (oh : OverheadRx), s.runningGroup ll = some row → ∃ t, exec (.twOverheadReceived ll oh) s = .next t ∧ Follows (((s.farEnd (64 + ll) oh.cws).fecCount ll oh.cws).overheadIn row ll (s.overheadWord ll oh) oh) t)
  ∧ (∀ (s : State) (ll row : Nat), s.runningGroup ll = some row → bit (s.twLane ll).detected 1 = false → ((s.twLane ll).inMulti = false ∧ (s.twLane ll).mfSince + 3000000 ≤ s.time.elapsed) ∨ ((s.twLane ll).spreadBad = true ∧ (s.twLane ll).spreadSince + 3000000 ≤ s.time.elapsed) → ∃ t, exec (.twillDefectTimer ll true) s = .next t ∧ Follows ((s.setTwLane ll { s.twLane ll with lomSpread := (s.twLane ll).inMulti || !decide ((s.twLane ll).mfSince + 3000000 ≤ s.time.elapsed) }).detect row ll (setBit (s.twLane ll).detected 1 true)) t)
  ∧ (∀ (s : State) (b g : Nat), g < 8 → s.running (.group b g) = true → s.num (Reg.tgRegime (b * 1024 + g)) = 1 → s.tgNow (b * 1024 + g) 0x15 = 0 → (s.groupLanes (b * 1024 + g)).all (fun l => !s.hardDefect (lineOf b l)) = true → (s.grp (b * 1024 + g)).acqSince + s.tgNow (b * 1024 + g) 0x14 * 1000000 ≤ s.time.elapsed → ∃ t, exec (.tgAcqHoldExpiry b g) s = .next t ∧ Follows ((((s.putN (Reg.tgRegime (b * 1024 + g)) 0).bumpVersion 0x4400 (b * 1024 + g)).raise 0x030204 0x440000 (b * 2097152 + g * 262144)).judgeGroup (b * 1024 + g)) t)
  ∧ (∀ (s : State) (n v : Nat) (t : State), t = s.putN (stage n 0x4400 0x15) v → Serves s n 0x440015 v → Serves t n 0x440005 2 → t.cursor n 0x4400 ≠ 0xFFFFFF → t.num (.cur n 0x4400 0) ≠ 1 → t.tribRow 0x4400 (t.cursor n 0x4400) = false → (t.commitRow n 0x4400 (t.cursor n 0x4400) none).2 = .ok → ∃ z, exec (.tgForceAcq n v) s = .next z ∧ Follows (answered n (t.commitRow n 0x4400 (t.cursor n 0x4400) none)).afterResponse z)

/-- Lanes, references, ports and their management objects: each command answers a next state. Each clause names one command and
conditions on the state and its operands alone; under them exec answers a next state t, of which the clause says what the
command's own effect leaves in t, or, where it says Follows u t, that t is u after frames have moved on; where it names the
next state itself, State.settle u, that is u after what every step ends with. Sessions are 0 to 8. (R82, R331, R367, R467,
R471, R472, R473, R478, R480, R485, R568, R586) -/
def Obligations.LanesAndPortsAnswer : Prop :=
  (∀ (s : State) (n : Nat), s.lanePresent n = true → s.num (Reg.lnState n) = 2 ∨ s.num (Reg.lnState n) = 3 ∨ s.num (Reg.lnState n) = 5 → ∃ t, exec (.laneSignalDetected n) s = .next t ∧ (t.lane n).signal = true)
  ∧ (∀ (s : State) (n : Nat), s.lanePresent n = true → s.num (Reg.lnState n) = 1 ∨ s.num (Reg.lnState n) = 2 ∨ s.num (Reg.lnState n) = 3 ∨ s.num (Reg.lnState n) = 5 → ∃ t, exec (.laneSignalLost n) s = .next t ∧ Follows ((s.setLane n { (s.lane n).unsynced with signal := false }).setLaneState n 1) t)
  ∧ (∀ (s : State) (n : Nat) (slow : Bool) (ppm snr : Nat), n < 128 → ppm ≤ 25000 → s.num (Reg.lnState n) = 2 → s.acqFrom n + settleTime ≤ s.time.elapsed → s.time.elapsed ≤ s.acqFrom n + acqBound → ∃ t, exec (.laneLocked n slow ppm snr) s = .next t ∧ t.num (Reg.lnSnr n) = min snr 65535 ∧ t.num (Reg.lnRxPpm n) = toI24 (if slow then -(ppm : Int) else ppm))
  ∧ (∀ (s : State) (n : Nat), s.num (Reg.lnState n) = 2 → s.acqFrom n + acqBound ≤ s.time.elapsed → ∃ t, exec (.laneAcqTimeout n) s = .next t ∧ (t.lane n).since = s.time.elapsed)
  ∧ (∀ (s : State) (n : Nat), s.num (Reg.lnState n) = 3 → ∃ t, exec (.laneLockLost n) s = .next t ∧ Follows (((s.acquire n).count (Reg.lnLockLosses n)).setLaneState n 2) t)
  ∧ (∀ (s : State) (n k : Nat), k < 128 → Serves s n (blockAddr 0x1900 256 k 0x15) 1 → s.num (Reg.lnState k) = 3 → ∃ t, exec (.laneSleep n k) s = .next t ∧ Follows (answered n (okay (((s.putN (Reg.lnSleep k) 1).setLane k { (s.lane k).unsynced with kept := true, signal := false, txActive := false, wake := none }).setLaneState k 4))).afterResponse t)
  ∧ (∀ (s : State) (n k : Nat), k < 128 → Serves s n (blockAddr 0x1900 256 k 0x15) 0 → s.num (Reg.lnState k) = 4 → ∃ t, exec (.laneWake n k) s = .next t ∧ Follows (answered n (let t := s.putN (Reg.lnSleep k) 0
       let u := (t.setLane k { t.lane k with since := t.time.elapsed, txActive := false, wake := if t.laneRefFault k then none else some t.time.elapsed }).laneReacquire k
       okay (u.setLaneState k (if t.laneRefFault k then 6 else 5)))).afterResponse t)
  ∧ (∀ (s : State) (n w : Nat), (s.lane n).wake = some w → (s.lane n).txActive = false → w + 1000000 ≤ s.time.elapsed → ∃ t, exec (.laneWakeTxActive n) s = .next t ∧ (t.lane n).txActive = true)
  ∧ (∀ (s : State) (n w : Nat), (s.lane n).wake = some w → (s.lane n).txActive = true → (s.lane n).kept = true → s.num (Reg.lnState n) = 5 → w + 2500000 ≤ s.time.elapsed → n < 130 → ∃ t, exec (.laneWakeTimeout n) s = .next t ∧ Follows ((((s.count (Reg.lnWakeSlow n)).raise 0x040003 ((0x1900 + n) * 256) (n * 65536)).setLane n { s.lane n with kept := false, wake := none, signal := false }).setLaneState n 1) t)
  ∧ (∀ (s : State) (n k v : Nat), n < 9 → k < 128 → Serves s n (blockAddr 0x1900 256 k 0x13) v → v / 65536 % 64 ≤ 16 → v / 256 % 64 ≤ 24 → ∃ t, exec (.lnFfe n k v) s = .next t ∧ t.num (Reg.lnFfe k) = v / 65536 % 64 * 65536 + v / 256 % 64 * 256 + (64 - v / 65536 % 64 - v / 256 % 64) % 64)
  ∧ (∀ (s : State) (n k v : Nat), n < 9 → k < 128 → Serves s n (blockAddr 0x1900 256 k 0x14) v → v ≤ 16 → ∃ t, exec (.lnCtle n k v) s = .next t ∧ t.num (Reg.lnCtle k) = v)
  ∧ (∀ (s : State) (b : Nat) (absent : Bool), b < s.nBolts → s.num (Reg.bRefState b) = 0 → ∃ t, exec (.refFaultDeclared b absent) s = .next t ∧ Follows (let kind := if absent then 1 else 2
       let t := ((s.putN (Reg.bRefState b) kind).count (Reg.bRefFaults b)).raise 0x040002 ((0x2000 + 0x100 * b + 0x0E) * 256) (b * 2097152 + 1048576 + kind * 262144)
       forEach (t.runningLanes b) (fun t n =>
         if t.num (Reg.lnState n) = 4 then t
         else (t.setLane n { (t.lane n).unsynced with signal := false, wake := none }).setLaneState n 6) t) t)
  ∧ (∀ (s : State) (b : Nat), b < s.nBolts → s.num (Reg.bRefState b) ≠ 0 → ∃ t, exec (.refFaultCleared b) s = .next t ∧ Follows (let t := (s.putN (Reg.bRefState b) 0).raise 0x040002 ((0x2000 + 0x100 * b + 0x0E) * 256) (b * 2097152)
       forEach (t.runningLanes b) (fun t n => if t.num (Reg.lnState n) = 6 then (t.setLane n { t.lane n with txActive := true }).setLaneState n 1 else t) t) t)
  ∧ (∀ (s : State) (n p v : Nat), Serves s n (portAddr p 0 0x10) v → v ≤ 4 → s.kind p ≠ v → ∃ t, exec (.portKind n p v) s = .next t ∧ Follows (answered n (let u := (forEach (kindKeys p) (fun s k => s.clear k) s).putN (Reg.pPortKind p) v
       let t := (u.setTrib p {}).setPort p { u.port p with peerPause := [] }
       let t := forEach (List.range 8) (fun s i => s.clear (latchMark p i)) t
       let t := forEach bindingSubs (fun u f => if u.num (portKey p 3 f) = s.num (portKey p 3 f) then u else u.mirror (.binding p f (u.num (portKey p 3 f)))) t
       okay (t.portRoleChange p))).afterResponse t)
  ∧ (∀ (s : State) (n p v : Nat), n < 9 → Serves s n (portAddr p 0 0x21) v → 1 ≤ v → v ≤ 63 → ∃ t, exec (.ctStart n p v) s = .next t ∧ t.num (Reg.pCtStart p) = v)
  ∧ (∀ (s : State) (n p v : Nat), n < 9 → Serves s n (portAddr p 0 0x1B) v → v < s.num (Reg.pXoffThresh p) → ∃ t, exec (.xoffXonThreshold n p true v) s = .next t ∧ t.num (Reg.pXonThresh p) = v)
  ∧ (∀ (s : State) (n p v : Nat), n < 9 → Serves s n (portAddr p 0 0x1A) v → 1 ≤ v → v ≤ s.num (Reg.pIngressLimit p) → s.num (Reg.pXonThresh p) < v → ∃ t, exec (.xoffXonThreshold n p false v) s = .next t ∧ t.num (Reg.pXoffThresh p) = v)
  ∧ (∀ (s : State) (n v : Nat) (t : State), t = s.putN (stage n 0x4500 0x12) v → Serves s n 0x450012 v → Serves t n 0x450005 2 → t.cursor n 0x4500 ≠ 0xFFFFFF → t.num (.cur n 0x4500 0) ≠ 1 → t.tribRow 0x4500 (t.cursor n 0x4500) = false → (t.commitRow n 0x4500 (t.cursor n 0x4500) none).2 = .ok → ∃ z, exec (.qIdleSlope n v) s = .next z ∧ Follows (answered n (t.commitRow n 0x4500 (t.cursor n 0x4500) none)).afterResponse z)
  ∧ (∀ (s : State) (n p : Nat), n < 9 → Serves s n (portAddr p 0 0x2B) 1 → ∃ t, exec (.mgmtIn n p 1) s = .next t ∧ t.num (Reg.pMgmtIn p) = 1)
  ∧ (∀ (s : State) (n : Nat), n < 9 → Serves s n 0x110103 1 → ∃ t, exec (.t1sEnable n 1) s = .next t ∧ t.num Reg.t1sEnable = 1)
  ∧ (∀ (s : State) (n v : Nat), Serves s n 0x110102 v → 0x0600 ≤ v → v ∉ ([0x8808, 0x888E, 0x88E5, 0x88F7] : List Nat) → ∃ t, exec (.silsyEtype n v) s = .next t ∧ Follows (answered n (okay (s.putN etypeNext v))).afterResponse t)
  ∧ (∀ (s : State) (p : Nat) (pcs fec : Bool), p < s.nPorts → ∃ t, exec (.pcsAlignmentChange p pcs fec) s = .next t ∧ Follows ((s.setPort p { s.port p with pcs := pcs, fec := fec }).linkEval p) t)
  ∧ (∀ (s : State) (p kind : Nat), s.ownsLanes p = true → s.num (Reg.pLinkUp p) = 1 → kind < 3 → ∃ t, exec (.linkFaultOrderedSets p kind) s = .next t ∧ t.num (Reg.pFaultRx p) = kind)
  ∧ (∀ (s : State) (n before : Nat) (levels : List Nat), s.num (Reg.lnPattern n) ≠ 0 → s.num (Reg.lnState n) = 3 → ∃ t, exec (.patternCheckerSync n false before levels) s = .next t ∧ (t.lane n).prbsSync = false)
  ∧ (∀ (s : State) (n before : Nat) (levels : List Nat), s.num (Reg.lnPattern n) ≠ 0 → s.num (Reg.lnState n) = 3 → s.num (Reg.lnLoopback n) = 0 → ∃ t, exec (.patternCheckerSync n true before levels) s = .next t ∧ Follows ((s.setLane n { s.lane n with prbsSync := true }).checkLevels n before levels) t)

/-- I3C and the field network: each command answers a next state. Each clause names one command and conditions on the state and
its operands alone; under them exec answers a next state t, of which the clause says what the command's own effect leaves in
t, or, where it says Follows u t, that t is u after frames have moved on; where it names the next state itself, State.settle
u, that is u after what every step ends with. Sessions are 0 to 8. (R562, R563, R564, R565, R566, R569, R570, R571) -/
def Obligations.I3cAndFieldNetworkAnswer : Prop :=
  (∀ (s : State) (bytes : Octets), msgWhole ((s.session 0).partialMsg ++ bytes) = false → s.i3cAddressed = true → bytes ≠ [] → (s.session 0).waiting = [] → ∃ t, exec (.i3cPrivateWrite ⟨none, bytes⟩) s = .next t ∧ (t.session 0).partialMsg = (s.session 0).partialMsg ++ bytes)
  ∧ (∀ (s : State) (bytes : Octets), s.i3cAddressed = true → bytes ≠ [] → (s.session 0).waiting = [] → exec (.i3cPrivateWrite ⟨none, bytes⟩) s = .next (State.settle ((let x := s.leaveHdr.session 0
       let t := if x.partialMsg = [] ∧ x.unread ≠ [] then s.leaveHdr.count Reg.i3cRespDiscarded else s.leaveHdr
       let m := x.partialMsg ++ bytes
       let t := t.setSession 0 { x with unread := [], partialMsg := if msgWhole m then [] else m }
       if msgWhole m then t.receive 0 none m else t))))
  ∧ (∀ (s : State) (len : Nat), s.i3cAddressed = true → (s.session 0).waiting = [] → (s.session 0).unread ≠ [] → ∃ t, exec (.i3cPrivateRead ⟨none, len⟩) s = .next t ∧ Wire.i3c (((s.session 0).unread.take (min len s.i3c.mrl)).map BitVec.toNat) ∈ t.wire)
  ∧ (∀ (s : State) (b : List Nat), s.i3cAddressed = true → s.i3c.intEnabled = true → s.i3c.respIbi = some b → ∃ t, exec .ibiAccepted s = .next t ∧ Wire.ibi b ∈ t.wire)
  ∧ (∀ (s : State) (dyn : Nat), s.i3cAwake = true → s.num Reg.i3cDynAddr = 0 → 1 ≤ dyn → dyn ≤ 127 → ∃ t, exec (.entdaa dyn) s = .next t ∧ t.num Reg.i3cDynAddr = dyn)
  ∧ (∀ (s : State) (dyn : Nat), s.i3cAwake = true → s.num Reg.i3cDynAddr = 0 → 1 ≤ dyn → dyn ≤ 127 → ∃ t, exec (.setdasa (0x58 + s.addrSel % 4) dyn) s = .next t ∧ t.num Reg.i3cDynAddr = dyn)
  ∧ (∀ (s : State), s.i3cAwake = true → ∃ t, exec .rstdaa s = .next t ∧ t.num Reg.i3cDynAddr = 0)
  ∧ (∀ (s : State) (bits : Nat), s.i3cAwake = true → ∃ t, exec (.enec bits) s = .next t ∧ t.i3c.intEnabled = (bit bits 0 || s.i3c.intEnabled))
  ∧ (∀ (s : State) (bits : Nat), s.i3cAwake = true → ∃ t, exec (.disec bits) s = .next t ∧ t.i3c.intEnabled = (!bit bits 0 && s.i3c.intEnabled))
  ∧ (∀ (s : State) (v : Nat), s.i3cAwake = true → ∃ t, exec (.setmwl v) s = .next t ∧ t.i3c.mwl = min v 3328)
  ∧ (∀ (s : State) (v : Nat), s.i3cAwake = true → ∃ t, exec (.setmrl v) s = .next t ∧ t.i3c.mrl = min v 3328)
  ∧ (∀ (s : State), s.i3cAddressed = true → ∃ t, exec .getmwl s = .next t ∧ Wire.i3c [s.i3c.mwl / 256, s.i3c.mwl % 256] ∈ t.wire)
  ∧ (∀ (s : State), s.i3cAddressed = true → ∃ t, exec .getmrl s = .next t ∧ Wire.i3c [s.i3c.mrl / 256, s.i3c.mrl % 256, 4] ∈ t.wire)
  ∧ (∀ (s : State), s.i3cAddressed = true → ∃ t, exec .getpid s = .next t ∧ Wire.i3c ((natToBytes 6 s.provisionalId).map BitVec.toNat) ∈ t.wire)
  ∧ (∀ (s : State), s.i3cAddressed = true → ∃ t, exec .getbcr s = .next t ∧ Wire.i3c [0x26] ∈ t.wire)
  ∧ (∀ (s : State), s.i3cAddressed = true → ∃ t, exec .getdcr s = .next t ∧ Wire.i3c [0] ∈ t.wire)
  ∧ (∀ (s : State), s.i3cAddressed = true → ∃ t, exec .getstatus s = .next t ∧ Wire.i3c ((natToBytes 2 (Config.freeNat s.free % 256 ^ 2)).map BitVec.toNat) ∈ t.wire)
  ∧ (∀ (s : State), s.i3cAddressed = true → ∃ t, exec .getmxds s = .next t ∧ Wire.i3c ((natToBytes 2 (Config.freeNat s.free % 256 ^ 2)).map BitVec.toNat) ∈ t.wire)
  ∧ (∀ (s : State), s.i3cAddressed = true → ∃ t, exec .getcaps s = .next t ∧ Wire.i3c (1 :: (natToBytes 2 (Config.freeNat s.free % 256 ^ 2)).map BitVec.toNat) ∈ t.wire)
  ∧ (∀ (s : State), s.i3cAwake = true → ∃ t, exec .enthdr0 s = .next t ∧ t.i3c.hdr = true)
  ∧ (∀ (s : State) (code : Nat), s.i3cAwake = true → s.num Reg.i3cDynAddr ≠ 0 → ∃ t, exec (.unsupportedCcc code true) s = .next t ∧ Wire.nack ∈ t.wire)
  ∧ (∀ (s : State) (fr : Octets), s.phase = .ready → s.num Reg.t1sEnable ≠ 0 → fieldAt fr 12 2 = s.num Reg.silsyEtype → frameDst fr = s.otp.mgmtMac.toNat → exec (.t1sFrameReceived fr true) s = .next (State.settle ((s.silsyIn (.t1s (frameSrc fr)) false (fr.drop 14)))))
  ∧ (∀ (s : State) (r : Nat) (fr : Octets) (rest : List Octets), s.phase = .ready → s.t1s.backoff = some r → s.t1s.queue = fr :: rest → ∃ t, exec (.t1sBackoffExpiry true) s = .next t ∧ Wire.t1s fr ∈ t.wire)
  ∧ (∀ (s : State), s.t1s.queue ≠ [] → s.t1s.attempts + 1 < 16 → s.phase = .ready → s.t1s.backoff = none → ∃ t, exec .t1sCollision s = .next t ∧ t.t1s.attempts = s.t1s.attempts + 1)
  ∧ (∀ (s : State), s.phase = .ready → s.t1s.backoff = none → exec .t1sCollision s = .next (State.settle (s.t1sCollides)))
  ∧ (∀ (s : State) (fr : Octets) (rest : List Octets), s.t1s.plain = fr :: rest → ∃ t, exec .plainReplyDelayExpiry s = .next t ∧ t.t1s.plain = rest)
  ∧ (∀ (s : State) (p : Nat) (fr : Octets) (tagged : Bool), exec (.inbandSilsyReceived p fr tagged) s = .next (State.settle ((s.inbandIn p fr tagged))))

/-- Sessions, the mesh, Retort, the life cycle, identity and debug: each command answers a next state. Each clause names one
command and conditions on the state and its operands alone; under them exec answers a next state t, of which the clause says
what the command's own effect leaves in t, or, where it says Follows u t, that t is u after frames have moved on; where it
names the next state itself, State.settle u, that is u after what every step ends with. Sessions are 0 to 8. (R577, R579,
R581, R582, R594, R596, R605, R609, R622, R643, R720, R724) -/
def Obligations.SessionsTrustAndRetortAnswer : Prop :=
  (∀ (s : State) (via : Via) (body : Octets) (m : Nat) (u : State), m < 9 → s.afterVia via = some u → u.hearthBusy = false → u.hasIdentity = true → u.lc ≠ 15 → u.cred (body.getD 0 0).toNat ≠ none → u.credHas (body.getD 0 0).toNat 0 = true → u.freeSessionOf via = some m → body.length = 1233 → ∃ t, exec (.hello via body) s = .next t ∧ t.num (Reg.sessState m) = 1)
  ∧ (∀ (s : State) (m : Nat) (via : Via) (h : Handshake), s.phase = .ready → s.hearthBusy = false → s.netSession m 1 = true → s.jobsOf (.hello m) = false → (s.session m).via = some via → (s.session m).hs = some h → h.sentAt = none → ∃ t, exec (.helloReplySent m) s = .next t ∧ Follows (s.helloReply m via h) t)
  ∧ (∀ (s : State) (m x : Nat) (body : Octets) (h : Handshake), s.phase = .ready → s.num Reg.t1sEnable ≠ 0 → s.netSession m 1 = true → s.fromPeer m (.t1s x) = true → (s.session m).hs = some h → (s.session m).nextFrag = 0 → h.authSig = none → s.authDue h = true → body.length = 3373 → ∃ t, exec (.auth m (.t1s x) body) s = .next t
      ∧ (t.session m).hs = some { h with authSig := some (body.take 64, body.drop 64) }
      ∧ t.retort.queue = s.retort.queue ++ [⟨.auth m, 2, [], [], []⟩, ⟨.auth m, 6, [], [], []⟩])
  ∧ (∀ (s : State) (m : Nat) (h : Handshake) (ed ml : Octets), s.phase = .ready → s.hearthBusy = false → s.netSession m 1 = true → s.jobsOf (.auth m) = false → (s.session m).hs = some h → h.authSig = some (ed, ml) → s.lc ≠ 15 → ∃ t, exec (.authOkSent m) s = .next t ∧ Follows (if s.credSigned h.cred (sha512 (ascii "NZ-SILSY-CLI" ++ s.transcript h)) ed ml then s.openSession m h else s.refuseHandshake m 0x150010) t)
  ∧ (∀ (s : State) (m : Nat) (h : Handshake), s.phase = .ready → s.netSession m 1 = true → (s.session m).hs = some h → h.sentAt ≠ none → h.authSig = none → s.authDue h = false → ∃ t, exec (.authTimeout m) s = .next t ∧ Follows (s.refuseHandshake m 0x150010) t)
  ∧ (∀ (s : State) (m : Nat) (via : Via) (fr body : Octets) (u t : State), s.afterVia via = some u → silsyIs fr 5 m = true → u.acceptFrame m via fr = (some body, t) → ∃ z, exec (.dataFrameReceived m via fr) s = .next z ∧ Follows (match t.joinFragment m (fieldAt fr 3 1) (fieldAt fr 4 8 == (u.session m).seqIn + 1) body with
       | (none, v) => v
       | (some msg, v) => v.receive m (some via) msg) z)
  ∧ (∀ (s : State) (m : Nat) (via : Via) (fr body : Octets) (u t : State), s.afterVia via = some u → silsyIs fr 6 m = true → u.acceptFrame m via fr = (some body, t) → ∃ z, exec (.closeReceived m via fr) s = .next z ∧ Follows (t.closeSession m 0 false) z)
  ∧ (∀ (s : State) (m : Nat) (via : Via) (msg : Octets) (u v : State), s.afterVia via = some u → msg.length ≤ 1440 → u.joinClear via 128 msg = (some msg, v) → ∃ t, exec (.plainReceived m via false msg) s = .next t ∧ Follows ((v.plainEff msg).1.sendClear via 7 m (response msg (v.plainEff msg).2)) t)
  ∧ (∀ (s : State) (m : Nat), s.phase = .ready → s.netSession m 2 = true → (s.session m).lastValid + s.num Reg.sessIdle * 1000000000 ≤ s.time.elapsed → ∃ t, exec (.sessionIdleExpiry m) s = .next t ∧ Follows (s.closeSession m 2 true) t)
  ∧ (∀ (s : State) (n k : Nat), Serves s n (blockAddr 0x1110 9 k 6) 1 → k ≠ 0 → ∃ t, exec (.sessClose n k 1) s = .next t ∧ Follows (answered n (okay (s.markClose k 1))).afterResponse t)
  ∧ (∀ (s : State) (p : Nat) (fr : Octets) (tagged : Bool), s.silsyBroadcast fr = true → silsyVersion fr = 2 → s.kind p = 3 ∨ s.kind p = 4 → ∃ t, exec (.meshFrameReceived p tagged fr) s = .next t ∧ Follows (s.inbandIn p fr tagged) t)
  ∧ (∀ (s : State) (m : Nat) (fr : Octets), s.phase = .ready → fieldAt fr 0 1 = 2 → s.num Reg.t1sEnable ≠ 0 → ∃ t, exec (.meshHostFrame (.t1s m) fr) s = .next t ∧ Follows (s.rateLimited (fun u => u.meshHost (.t1s m) fr)) t)
  ∧ (∀ (s : State) (key : Octets), s.mesh.cur = some key → s.phase = .ready → s.hearth.gap = false → s.hearth.restarting = false → ∃ t, exec .meshHelloSend s = .next t ∧ Follows (let body := meshBody 0xFFFF s.meshIdNow (s.num Reg.meshHops) (s.num Reg.meshEpoch) []
       forEach ((List.range s.nPorts).filter s.meshPort) (fun t p => t.meshOut p (body ++ meshMac key body)) s) t)
  ∧ (∀ (s : State) (m : Nat), s.phase = .ready → s.neighbour m = true → s.mesh.dead.contains m = false → s.mesh.heard.getD m 0 + s.num Reg.meshDead * 1000000000 ≤ s.time.elapsed → ∃ t, exec (.meshNeighbourDead m) s = .next t ∧ t.mesh.dead = s.mesh.dead ++ [m])
  ∧ (∀ (s : State) (n v : Nat) (k : Nat × Nat × Nat × Octets), n < 9 → Serves s n 0x152003 v → v ≤ 63 → s.unwrapBlob (s.oct (Reg.blob v)) 0xFF (s.num Reg.blobGenDev) = .ok k → k.1 = 2 → s.mesh.cur = none → ∃ t, exec (.meshKeyLoad n v) s = .next t ∧ t.mesh.cur = some k.2.2.2)
  ∧ (∀ (s : State) (n : Nat) (key : Octets), n < 9 → Serves s n 0x152005 1 → s.mesh.next = some key → s.num Reg.meshEpoch ≠ 0xFFFFFF → ∃ t, exec (.meshAdvance n 1) s = .next t ∧ t.mesh.cur = some key ∧ t.mesh.next = none)
  ∧ (∀ (s : State) (n v : Nat), n < 9 → Serves s n 0x152001 v → v ≤ 1023 → (List.range s.nBolts).any (fun b => (List.range 8).any (fun g => !s.stopped (.group b g))) = false → (List.range s.nPorts).any (fun p => s.kind p == 4 && !s.stopped (.port p)) = false → ∃ t, exec (.meshId n v) s = .next t ∧ t.num Reg.meshId = v)
  ∧ (∀ (s : State) (n : Nat), Serves s n 0x170105 1 → ¬(1 ≤ s.num (Reg.jobState n) ∧ s.num (Reg.jobState n) ≤ 3) → 1 ≤ s.num (Reg.jobOp n) ∧ s.num (Reg.jobOp n) ≤ 10 → jobLengths (s.num (Reg.jobOp n)) (s.oct (Reg.jobInA n)).length (s.oct (Reg.jobInB n)).length (s.oct (Reg.jobInC n)).length = true → ∃ t, exec (.jobGoSubmit n) s = .next t ∧ Follows (answered n (let t : State := { s with retort := { s.retort with queue := s.retort.queue ++ [⟨.host n, s.num (Reg.jobOp n), s.oct (Reg.jobInA n), s.oct (Reg.jobInB n), s.oct (Reg.jobInC n)⟩] } }
       let t := ((((t.clear (Reg.jobOutA n)).clear (Reg.jobOutB n)).putN (Reg.jobState n) 1).clear (Reg.jobStatus n)).clear (Reg.jobStarted n)
       okay (t.putN (Reg.jobSeq n) ((t.num (Reg.jobSeq n) + 1) % 16777216)))).afterResponse t)
  ∧ (∀ (s : State) (n : Nat), Serves s n 0x170105 2 → ∃ t, exec (.jobGoAbort n) s = .next t ∧ Follows (answered n (okay (s.jobAbort n))).afterResponse t)
  ∧ (∀ (s : State) (n : Nat) (j : Job) (rest : List Job), s.retort.queue = j :: rest → s.retort.running = none → s.retort.clearing = none → j.owner = .host n → ∃ t, exec .jobStart s = .next t ∧ t.retort.running = some (s.slotJob n j) ∧ t.retort.queue = rest)
  ∧ (∀ (s : State) (n : Nat) (j : Job), s.retort.running = some j → j.owner = .host n → s.retort.since + jobTime j ≤ s.time.elapsed + 1000 → ∃ t, exec (.jobComplete false) s = .next t ∧ Follows (let (st, outA, outB, t) := ({ s with retort := { s.retort with running := none } } : State).jobRun j
       t.jobDone j st outA outB) t)
  ∧ (∀ (s : State) (j : Job), s.retort.clearing = some j → s.retort.since + 16000 ≤ s.time.elapsed → ∃ t, exec .jobAbortErased s = .next t ∧ Follows ((({ s with retort := { s.retort with clearing := none } } : State).jobDone j 0x0E [] []).jobFails j) t)
  ∧ (∀ (s : State) (n : Nat), n < 9 → Serves s n 0x130001 1 → s.lc = 0 → ∃ t, exec (.lcRequestTestLocked n) s = .next t ∧ t.otp.codeword = s.otp.codeword ||| BitVec.ofNat 32 (lcCodeword 1))
  ∧ (∀ (s : State) (n : Nat), Serves s n 0x130001 2 → s.lc = 1 → bit (s.rightsOf n) 6 = true → s.tokensUsed ≠ 16 → ∃ t, exec (.lcRequestTestOpen n) s = .next t ∧ Follows (answered n (okay (s.openTest))).afterResponse t)
  ∧ (∀ (s : State) (n : Nat), Serves s n 0x130001 3 → s.lc = 2 → (List.range s.nBolts).any (fun b => s.num (Reg.bCmLevel b) == 0) = false → ∃ t, exec (.lcRequestFactory n) s = .next t ∧ Follows (answered n (okay (s.lcMove 3))).afterResponse t)
  ∧ (∀ (s : State) (n : Nat), n < 9 → Serves s n 0x130001 4 → s.lc = 3 → ∃ t, exec (.lcRequestIssued n) s = .next t ∧ t.otp.codeword = s.otp.codeword ||| BitVec.ofNat 32 (lcCodeword 4))
  ∧ (∀ (s : State) (n : Nat), n < 9 → Serves s n 0x130001 5 → s.lc = 4 → s.commissioned = true → ∃ t, exec (.lcRequestService n) s = .next t ∧ t.otp.codeword = s.otp.codeword ||| BitVec.ofNat 32 (lcCodeword 5))
  ∧ (∀ (s : State) (n : Nat), Serves s n 0x130001 6 → s.lc = 4 → ∃ t, exec (.lcRequestReturn n) s = .next t ∧ Follows (answered n (okay (s.withdraw 6))).afterResponse t)
  ∧ (∀ (s : State) (n : Nat), Serves s n 0x130001 7 → s.lc = 1 ∨ s.lc = 3 ∨ s.lc = 4 ∨ s.lc = 6 → ∃ t, exec (.lcRequestEnd n) s = .next t ∧ Follows (answered n (okay (s.withdraw 7))).afterResponse t)
  ∧ (∀ (s : State) (n v : Nat), Serves s n 0x130001 v → s.lc = 15 → v = s.lcResume → v ≠ 0xFF → ∃ t, exec (.lcResumeBurn n v) s = .next t ∧ Follows (answered n (okay (if v = 6 ∨ v = 7 then s.withdraw v else s.lcMove v))).afterResponse t)
  ∧ (∀ (s : State) (n : Nat), Serves s n 0x132006 1 → s.num Reg.idcState ≠ 1 → s.lc = 4 → s.hasIdentity = true → (s.oct Reg.idcInfo).take 8 = ascii "NZ-IDC01" → ((s.oct Reg.idcInfo).drop 8).take 32 = s.deviceId → ((s.oct Reg.idcInfo).drop 40).take 8 = natToBytes 8 s.otp.dieId.toNat → s.retort.disagree = false → ∃ t, exec (.idcInstall n 1) s = .next t ∧ Follows (answered n (if s.ryminSigned 1 ((s.oct Reg.idcInfo).getD 66 0).toNat (sha512 (s.oct Reg.idcInfo ++ s.idPubEd ++ s.idPubMl)) (s.oct Reg.idcSigEd) (s.oct Reg.idcSigMl) then okay ((s.saveN Reg.idcState 1).countBy Reg.rtJobs 2)
       else refuse (s.countBy Reg.rtJobs 2) 0x140002)).afterResponse t)
  ∧ (∀ (s : State) (n : Nat), Serves s n 0x132102 1 → s.hasIdentity = true → s.retort.disagree = false → ∃ t, exec (.stmtGo n 1) s = .next t ∧ Follows (answered n (let (ed, ml, t) := s.identitySign (sha512 (s.statement (s.oct (Reg.stmtNonce n))))
       okay ((t.putAll [(Reg.stmtBody n, .oct (s.statement (s.oct (Reg.stmtNonce n)))), (Reg.stmtSigEd n, .oct ed), (Reg.stmtSigMl n, .oct ml)]).countBy Reg.rtJobs 2))).afterResponse t)
  ∧ (∀ (s : State) (n : Nat), n < 9 → ServesRead s n 0x134001 → ∃ t, exec (.dbgNonceRead n) s = .next t ∧ t.trust.dbgNonce = some (natToBytes 16 (Config.freeNat s.free % 256 ^ 16), s.time.elapsed))
  ∧ (∀ (s : State) (n t : Nat) (x : Octets), Serves s n 0x134006 1 → s.trust.cert = none → s.signerOk (certField (s.oct (Reg.dbgBody n)) 83 1) (certField (s.oct (Reg.dbgBody n)) 84 1) = true → ((s.oct (Reg.dbgBody n)).drop 8).take 32 = s.deviceId → s.trust.dbgNonce = some (x, t) → x = ((s.oct (Reg.dbgBody n)).drop 40).take 16 → s.time.elapsed < t + 600000000000 → certField (s.oct (Reg.dbgBody n)) 80 3 < 128 → (s.lc ≠ 4 ∧ s.lc ≠ 5) ∨ s.num Reg.timeValid = 1 → time96Ns (certField (s.oct (Reg.dbgBody n)) 56 12) ≤ s.nowNs ∧ s.nowNs < time96Ns (certField (s.oct (Reg.dbgBody n)) 68 12) → s.retort.disagree = false → ∃ z, exec (.dbgCmdAccept n) s = .next z ∧ Follows (answered n (let body := s.oct (Reg.dbgBody n)
       let kind := certField body 83 1
       let index := certField body 84 1
       let c : Cert := ⟨n, time96Ns (certField body 56 12), time96Ns (certField body 68 12), certField body 80 3, kind, index, sha512 body⟩
       if (body.length == 85 && body.take 8 == ascii "NZ-DBG01" && (if kind = 0 then s.ryminSigned 2 index (sha512 body) (s.oct (Reg.dbgSigEd n)) (s.oct (Reg.dbgSigMl n)) else s.credSigned index (sha512 body) (s.oct (Reg.dbgSigEd n)) (s.oct (Reg.dbgSigMl n)))) = true then
         okay ((({ s with trust := { s.trust with cert := some c, dbgNonce := none } } : State).raise 0x0B0004 0x134000 (kind * 8388608 + index % 16 * 524288 + certField body 80 3)).countBy Reg.rtJobs 2)
       else refuse (s.countBy Reg.rtJobs 2) 0x140002)).afterResponse z)
  ∧ (∀ (s : State) (n : Nat), Serves s n 0x134006 2 → ∃ t, exec (.dbgCmdEnd n) s = .next t ∧ Follows (answered n (okay (s.certEnd 1))).afterResponse t)
  ∧ (∀ (s : State) (c : Cert), s.trust.cert = some c → s.inWindow c = false → ∃ t, exec .dbgCertExpiry s = .next t ∧ t.trust.cert = none)
  ∧ (∀ (s : State) (n : Nat), ServesRead s n 0x134103 → firstAbort (s.memAbort n (s.num Reg.dbgMem)) = none → s.num Reg.dbgMem ≠ 3 ∧ s.num Reg.dbgMem ≠ 4 → ∃ t, exec (.dbgDataRead n) s = .next t ∧ Follows (answered n (let ws := s.rawWords (s.num Reg.dbgMem) (s.num Reg.dbgAddr)
       ((s.putN Reg.dbgAddr ((s.num Reg.dbgAddr + 32) % 2 ^ 48)).putN Reg.dbgPar (ws.foldl (fun a w => 2 * a + w.2) 0),
         .value (.oct (ws.flatMap (fun w => natToBytes 3 w.1)))))).afterResponse t)
  ∧ (∀ (s : State) (n : Nat), ServesRead s n 0x134103 → firstAbort (s.memAbort n (s.num Reg.dbgMem)) = none → s.num Reg.dbgMem = 3 ∨ s.num Reg.dbgMem = 4 → ∃ t, exec (.dbgDataRead n) s = .next t ∧ Follows (answered n (let (fill, t) := s.drawBytes 96
       let bytes := (List.range 96).map (fun i => (s.rawByte (s.num Reg.dbgMem) (s.num Reg.dbgAddr) i).getD (fill.getD i 0))
       let (x, u) := t.draw
       ((u.putN Reg.dbgAddr ((s.num Reg.dbgAddr + 96) % 2 ^ 48)).putN Reg.dbgPar (x % 2 ^ 32), .value (.oct bytes)))).afterResponse t)
  ∧ (∀ (s : State) (n : Nat), n < 9 → Serves s n 0x134105 1 → firstAbort (s.memAbort n 5) = none → ∃ t, exec (.dbgHearthHalt n) s = .next t ∧ t.hearth.halted = true)
  ∧ (∀ (s : State) (n : Nat), n < 9 → Serves s n 0x134105 2 → firstAbort (s.memAbort n 5) = none → s.hearth.halted = true → ∃ t, exec (.dbgHearthResume n) s = .next t ∧ t.hearth.halted = false)
  ∧ (∀ (s : State) (c : Nat) (r : Byte) (rest : Octets), s.answers 0 = true → c < 16 → s.directEnrol 0 = true → firstAbort ((s.admission 0 ((0x1380 + c) * 256 + 1) true 0).filter (fun x => x != some 0x140001) ++ [abortIf (!octetsLengthOk ((0x1380 + c) * 256 + 1) 2000 (r :: rest).length) 0x130003]) = none → s.enrolAbort c (r :: rest) = none → ∃ t, exec (.credEnrolDirect 0 c (r :: rest)) s = .next t ∧ Follows (answered 0 (okay ((s.enrol c (r :: rest)).raise 0x0B000B 0x130000 (c * 1048576 + s.lc * 65536 + r.toNat * 256)))).afterResponse t)

/-- Firmware, side memory, performance counters and the pair: each command answers a next state. Each clause names one command
and conditions on the state and its operands alone; under them exec answers a next state t, of which the clause says what
the command's own effect leaves in t, or, where it says Follows u t, that t is u after frames have moved on; where it names
the next state itself, State.settle u, that is u after what every step ends with. Sessions are 0 to 8. (R615, R616, R653,
R661, R703, R705, R708, R713, R714, R716, R731, R734) -/
def Obligations.FirmwareMemoryAndPairAnswer : Prop :=
  (∀ (s : State) (n : Nat) (bytes : Octets), n < 9 → s.answers n = true → firstAbort (s.admission n 0x136005 true 0 ++ [abortIf (!octetsLengthOk 0x136005 3072 bytes.length) 0x130003]) = none → s.fwRole n = none → s.num Reg.fwChunkOff + bytes.length ≤ slotBytes → s.rangeOf 5 = none → ∃ t, exec (.fwChunk n bytes) s = .next t ∧ (t.imageSlot s.newSlot).state = 1)
  ∧ (∀ (s : State) (n : Nat) (bad : Option Nat), Serves s n 0x136006 1 → s.fwRole n = none → ¬(2 ≤ s.num Reg.fwStep ∧ s.num Reg.fwStep ≤ 5) → s.retort.disagree = false → exec (.fwVerify n bad) s = .next (State.settle ((answered n ((match s.stagedImage bad with
       | .error (t, c) => (t, .abort c)
       | .ok im =>
         match s.imageFault im with
         | some _ => ((s.setImageSlot s.newSlot { s.imageSlot s.newSlot with state := 1 }).countBy Reg.rtJobs 2, .abort 0x140036)
         | none =>
           let t := s.setImageSlot s.newSlot { im with state := 2 }
           if t.phase = .recovery then
             let u : State := { t with boot := { t.boot with preferred := s.newSlot } }
             okay (((u.bootFirmware s.newSlot [(0x0B0008, 0x136000, 1048576 + s.newSlot * 524288)]).putN Reg.fwStep 1).countBy Reg.rtJobs 2)
           else okay ((t.fwStepDone 1).countBy Reg.rtJobs 2)))).afterResponse)))
  ∧ (∀ (s : State) (n : Nat), n < 9 → Serves s n 0x136006 2 → s.fwRole n = none → s.num Reg.fwStep = 1 → (s.imageSlot s.newSlot).state = 2 → ∃ t, exec (.fwLoadBanked n) s = .next t ∧ t.num Reg.fwStep = 2)
  ∧ (∀ (s : State) (n : Nat), Serves s n 0x136006 3 → s.fwRole n = none → s.num Reg.fwStep = 2 → exec (.fwSwitch n) s = .next (State.settle ((answered n ((okay ((s.fwStepDone 3).switchOver 3)))).afterResponse)))
  ∧ (∀ (s : State) (n : Nat), n < 9 → Serves s n 0x136006 4 → s.fwRole n = none → s.num Reg.fwStep = 3 → (s.imageSlot s.newSlot).state = 2 → ∃ t, exec (.fwLoadOther n) s = .next t ∧ t.num Reg.fwStep = 4)
  ∧ (∀ (s : State) (n : Nat), Serves s n 0x136006 5 → s.fwRole n = none → s.num Reg.fwStep = 4 → exec (.fwRevert n) s = .next (State.settle ((answered n ((okay ((s.fwStepDone 5).switchOver 3)))).afterResponse)))
  ∧ (∀ (s : State) (n : Nat), n < 9 → Serves s n 0x136006 6 → s.fwRole n = none → s.num Reg.fwStep = 5 → (s.imageSlot s.newSlot).state = 2 → ∃ t, exec (.fwCommit n) s = .next t ∧ t.boot.preferred = s.newSlot)
  ∧ (∀ (s : State) (n : Nat), Serves s n 0x136006 7 → s.fwRole n = none → 2 ≤ s.num Reg.fwStep → s.num Reg.fwStep ≤ 5 → exec (.fwAbandon n) s = .next (State.settle ((answered n ((okay (s.fwAbandonNow)))).afterResponse)))
  ∧ (∀ (s : State) (n : Nat), n < 9 → Serves s n 0x136006 8 → s.fwRole n = none → ¬(2 ≤ s.num Reg.fwStep ∧ s.num Reg.fwStep ≤ 5) → ∃ t, exec (.fwErase n) s = .next t ∧ t.num Reg.fwStep = 8)
  ∧ (∀ (s : State) (n c : Nat), n < 9 → c < 2 → Serves s n (blockAddr 0x1600 2 c 1) 1 → s.num (Reg.smChEnable c) ≠ 1 → ∃ t, exec (.smChEnable n c 1) s = .next t ∧ t.num (Reg.smChEnable c) = 1 ∧ t.num (Reg.smChState c) = 1)
  ∧ (∀ (s : State) (c : Nat), c < 2 → c < s.part.sideChannels → s.num (Reg.smChState c) = 1 → ∃ t, exec (.smChannelTrained c true) s = .next t ∧ t.num (Reg.smChState c) = 2)
  ∧ (∀ (s : State) (n r off : Nat) (bytes : Octets) (bad : Option Nat), s.answers n = true → firstAbort (s.admission n 0x162003 true 0 ++ [abortIf (bytes.length != 192) 0x130003]) = none → s.num (Reg.smAccRange n) = r → s.num (Reg.smAccOff n) = off → s.num (Reg.rngUse r) < 2 ∨ 5 < s.num (Reg.rngUse r) → s.running (.range r) = true → off % 64 = 0 → off + 192 ≤ s.num (Reg.rngSize r) * 1048576 → exec (.smAccDataWrite n bytes bad) s = .next (State.settle ((answered n ((okay ((s.smWrite r off bytes).putN (Reg.smAccOff n) (off + 192))))).afterResponse)))
  ∧ (∀ (s : State) (n r off : Nat) (bad : Option Nat), ServesRead s n 0x162003 → s.num (Reg.smAccRange n) = r → s.num (Reg.smAccOff n) = off → s.num (Reg.rngUse r) ≠ 5 → s.running (.range r) = true → off % 64 = 0 → off + 192 ≤ s.num (Reg.rngSize r) * 1048576 → s.lineFails r (off / 64) 3 bad = none → exec (.smAccDataRead n bad) s = .next (State.settle ((answered n ((s.putN (Reg.smAccOff n) (off + 192), .value (.oct (s.smRead r off 192))))).afterResponse)))
  ∧ (∀ (s : State) (n b i v : Nat), n < 9 → i < 16 → Serves s n (blockAddr 0x1810 8 b (1 + i)) v → countedEvents.contains v = true → v ≠ 0x0A0 ∧ v ≠ 0x0A1 → ∃ t, exec (.pcSel n b i v) s = .next t ∧ t.num (pcSelKey b i) = v)
  ∧ (∀ (s : State) (n b mask : Nat), Serves s n (blockAddr 0x1810 8 b 0x21) mask → exec (.pcClear n b mask) s = .next (State.settle ((answered n ((okay (forEach ((List.range 16).filter (fun i => bit mask i)) (fun t i => t.pcZero b i) s)))).afterResponse)))
  ∧ (∀ (s : State) (n b i : Nat), i < 16 → ServesRead s n (blockAddr 0x1810 8 b (0x11 + i)) → exec (.pcValRead n b i) s = .next (State.settle ((answered n ((s.putN (Reg.pcSampled n) s.now96, .value (.num (s.pcValue b i))))).afterResponse)))
  ∧ (∀ (s : State) (n : Nat), Serves s n 0x151001 1 → s.num Reg.pairJoin ≠ 1 → exec (.pairJoinSet n) s = .next (State.settle ((answered n ((okay ((s.saveN Reg.pairJoin 1).setRole 1 6)))).afterResponse)))
  ∧ (∀ (s : State) (n : Nat), n < 9 → Serves s n 0x151001 0 → ∃ t, exec (.pairJoinClear n) s = .next t ∧ t.num Reg.pairJoin = 0)
  ∧ (∀ (s : State) (n : Nat), Serves s n 0x151001 0 → exec (.pairJoinClear n) s = .next (State.settle ((answered n ((let t := if s.role = 2 then s.giveUp false 0 6 else s.setRole 0 6
       okay ((t.linkDown t.pair.relinquished).saveN Reg.pairJoin 0)))).afterResponse)))
  ∧ (∀ (s : State) (n : Nat), n < 9 → Serves s n 0x151006 1 → s.role = 1 → s.linked = true → s.pair.peerHealthy = true → s.pair.peerRole ≠ 2 → ∃ t, exec (.pairCmdTake n) s = .next t ∧ t.pair.becoming = some (3, s.time.elapsed))
  ∧ (∀ (s : State) (n : Nat), Serves s n 0x151006 2 → s.role = 2 → s.linked = true → s.pair.peerHealthy = true → exec (.pairCmdGive n) s = .next (State.settle ((answered n ((okay (s.giveUp true 1 3)))).afterResponse)))
  ∧ (∀ (s : State), s.phase = .ready → s.num Reg.pairJoin ≠ 0 → s.num Reg.pairLink = 0 → s.pair.attemptAt ≤ s.time.elapsed → s.laneReport 128 = 0 → s.laneReport 129 = 0 → ∃ t, exec (.mirrorLinkAttempt true) s = .next t ∧ t.num Reg.pairLink = 1)
  ∧ (∀ (s : State) (x : PeerHello), s.num Reg.pairLink = 1 → exec (.mirrorLinkUp x) s = .next (State.settle ((if s.peerCertified x = false then s.attemptFails 2
       else if peerSigned x = false ∨ s.kduReady = false ∨ (s.pairId = 0 ∧ kemKeyOk x.kemPub = false) then s.attemptFails 3
       else if x25519Status s.pairX x.xPub ≠ 0 then s.attemptFails 4
       else
         let (own, t) := s.drawBytes 16
         let (m, t) := t.drawBytes 32
         let shared := if t.pairId = 0 then (Config.kemEncaps x.kemPub m).2 else Config.kemDecaps t.pairKemSeed x.kemCt
         let salt := if t.pairId = 0 then own ++ x.nonce else x.nonce ++ own
         let keys := hkdf512 salt (x25519 t.pairX x.xPub ++ shared) (ascii "NZ-PAIR-KEYS") 96
         let k0 := keys.take 32
         let k1 := (keys.drop 32).take 32
         let t : State := { t with pair := { t.pair with keyOut := if t.pairId = 0 then k0 else k1, keyIn := if t.pairId = 0 then k1 else k0, wrapKey := keys.drop 64, txCount := 1, peerRole := x.role, peerGen := x.roleGen, peerHealthy := x.healthy, relinquished := false, heardAt := t.time.elapsed, beatAt := t.time.elapsed } }
         let t := ((t.putN Reg.pairLink 2).linkEvent 0).setPartition false
         let t := t.pairSend (.peerMemory t.mirrorIv t.pair.memoryValid t.freshMemory)
         let t := t.refreshMemory x.reports
         let t := forEach (x.memory.filter (fun r => r.kind == 1 && x.memoryValid)) (fun t r => t.tribMemory r.item (some r)) t
         (t.update (.reports t.ownReports)).linkRoles))))
  ∧ (∀ (s : State), s.linked = true → s.pair.beatAt + 1000 ≤ s.time.elapsed → ∃ t, exec .heartbeatSend s = .next t ∧ t.pair.beatAt = s.time.elapsed)
  ∧ (∀ (s : State), s.linked = true → s.pair.beatAt + 1000 ≤ s.time.elapsed → exec .heartbeatSend s = .next (State.settle ((({ s with pair := { s.pair with beatAt := s.time.elapsed } } : State).heartbeat false false s.pair.requested))))
  ∧ (∀ (s : State) (hb : Heartbeat) (u : State), s.linked = true → hb.valid = true → hb.relinquish = true → s.role = 1 → s.healthy = true → s.pair.becoming = none → (s.role == 2 && s.num Reg.pairSync == 2 && s.pair.peerSync == 2 && hb.sync == 1) = false → u = ({ s with pair := { s.pair with heardAt := s.time.elapsed, peerRole := hb.role, peerGen := hb.roleGen, peerHealthy := hb.healthy, peerSync := hb.sync } } : State).hear hb.reports → ∃ t, exec (.heartbeatReceived hb) s = .next t ∧ t.pair.becoming = some (1, u.time.elapsed))
  ∧ (∀ (s : State), s.linked = true → s.role = 1 → s.num Reg.pairWitnessWired = 1 → s.healthy = true → s.pair.becoming = none → s.pair.heardAt + 10000 ≤ s.time.elapsed → ∃ t, exec .heartbeatLoss s = .next t ∧ t.pair.claiming = some (s.linkDown true).time.elapsed)
  ∧ (∀ (s : State) (t : Nat), s.pair.claiming = some t → t + 10000 + 20000 * s.pairId ≤ s.time.elapsed → ∃ z, exec (.witnessClaimDone true) s = .next z ∧ z.pair.becoming = some (2, s.time.elapsed))
  ∧ (∀ (s : State) (gen : Nat) (rs : List Report), s.linked = true → exec (.mirrorUpdateReceived ⟨gen, s.num Reg.pairRoleGen, .reports rs⟩) s = .next (State.settle ((({ s with pair := { s.pair with peerGen := gen } } : State).applyItem (.reports rs)))))
  ∧ (∀ (s : State) (gen row : Nat), s.linked = true → s.role = 1 → exec (.mirrorUpdateReceived ⟨gen, s.num Reg.pairRoleGen, .saDelete row⟩) s = .next (State.settle ((({ s with pair := { s.pair with peerGen := gen } } : State).applyItem (.saDelete row)))))
  ∧ (∀ (s : State), s.linked = true → s.num Reg.pairSync = 1 → ∃ t, exec .resyncComplete s = .next t ∧ t.num Reg.pairSync = 2)
  ∧ (∀ (s : State), s.pair.reportAt + 100000 ≤ s.time.elapsed → ∃ t, exec .counterReport s = .next t ∧ t.pair.reportAt = s.time.elapsed)
  ∧ (∀ (s : State), s.pair.reportAt + 100000 ≤ s.time.elapsed → exec .counterReport s = .next (State.settle ((({ s with pair := { s.pair with reportAt := s.time.elapsed } } : State).mirror (.reports s.ownReports)))))
  ∧ (∀ (s : State) (t : Nat), s.pair.holdoff = some t → s.revertReady = true → t + s.num Reg.pairHoldoff * 1000000000 ≤ s.time.elapsed → ∃ z, exec .pairHoldoffExpiry s = .next z ∧ z.pair.requested = true ∧ z.pair.claimCause = 4)
  ∧ (∀ (s : State) (t : Nat), s.pair.holdoff = some t → s.revertReady = true → t + s.num Reg.pairHoldoff * 1000000000 ≤ s.time.elapsed → exec .pairHoldoffExpiry s = .next (State.settle ((({ s with pair := { s.pair with requested := true, claimCause := 4 } } : State).heartbeat false false true))))
  ∧ (∀ (s : State) (b : Nat), b < s.nBolts → s.boltLinesBad b = true → s.pair.linesBad.getD b s.time.elapsed + 10000000 ≤ s.time.elapsed → s.pair.watchBad.contains b = false → exec (.pairWatchTimeout b) s = .next (State.settle ((({ s with pair := { s.pair with watchBad := s.pair.watchBad ++ [b] } } : State).healthCheck))))
  ∧ (∀ (s : State) (cause t : Nat), s.pair.becoming = some (cause, t) → exec .takeoverComplete s = .next (State.settle ((({ s with pair := { s.pair with requested := false } } : State).setRole 2 cause))))
end

