-- ==== Sys2Proof/Laws/Store.lean ====
section
/-! SUPPORT. Laws/Store.lean: the laws of storage: a read after a write, and that every operation keeps the canonical
form, for objects and rows, for maps by number and for bytes. -/

namespace Sys2Proof.Machine

/-! The order of keys -/

theorem listLt_irrefl (a : List Nat) : listLt a a = false := by
  induction a with
  | nil => rfl
  | cons x xs ih => simp [listLt, ih]

theorem listLt_trans : ∀ {a b c : List Nat}, listLt a b = true → listLt b c = true → listLt a c = true
  | [], [], _, h, _ => by simp [listLt] at h
  | [], _ :: _, [], _, h => by simp [listLt] at h
  | [], _ :: _, _ :: _, _, _ => by simp [listLt]
  | _ :: _, [], _, h, _ => by simp [listLt] at h
  | _ :: _, _ :: _, [], _, h => by simp [listLt] at h
  | x :: xs, y :: ys, z :: zs, h1, h2 => by
    simp only [listLt] at *
    split at h1
    · split at h2
      · rw [if_pos (by omega)]
      · split at h2
        · exact absurd h2 (by simp)
        · rw [if_pos (by omega)]
    · split at h1
      · exact absurd h1 (by simp)
      · split at h2
        · rw [if_pos (by omega)]
        · split at h2
          · exact absurd h2 (by simp)
          · rw [if_neg (by omega), if_neg (by omega)]
            exact listLt_trans h1 h2

theorem listLt_total : ∀ {a b : List Nat}, a ≠ b → listLt a b = false → listLt b a = true
  | [], [], h, _ => absurd rfl h
  | [], _ :: _, _, h => by simp [listLt] at h
  | _ :: _, [], _, _ => by simp [listLt]
  | x :: xs, y :: ys, hne, h => by
    simp only [listLt] at *
    split at h
    · exact absurd h (by simp)
    · split at h
      · rw [if_pos (by omega)]
      · rw [if_neg (by omega), if_neg (by omega)]
        have hxy : x = y := by omega
        subst hxy
        exact listLt_total (fun e => hne (by rw [e])) h

theorem Key.toList_inj {a b : Key} (h : a.toList = b.toList) : a = b := by
  cases a <;> cases b <;> simp_all [Key.toList]

theorem Key.lt_irrefl (a : Key) : Key.lt a a = false := listLt_irrefl _

theorem Key.lt_trans {a b c : Key} (h1 : Key.lt a b = true) (h2 : Key.lt b c = true) : Key.lt a c = true :=
  listLt_trans h1 h2

theorem Key.lt_total {a b : Key} (hne : a ≠ b) (h : Key.lt a b = false) : Key.lt b a = true :=
  listLt_total (fun e => hne (Key.toList_inj e)) h

theorem Key.ne_of_lt {a b : Key} (h : Key.lt a b = true) : a ≠ b := by
  rintro rfl
  rw [Key.lt_irrefl] at h
  exact absurd h (by simp)

/-! Reading after writing -/

theorem Store.get?_erase_same (st : Store) (k : Key) : Store.get? (Store.erase st k) k = none := by
  induction st with
  | nil => rfl
  | cons e rest ih =>
    obtain ⟨k', v'⟩ := e
    simp only [Store.erase, List.filter_cons] at *
    by_cases hk : k' = k
    · simpa [hk] using ih
    · simpa [hk, Store.get?] using ih

theorem Store.get?_erase_other (st : Store) {k x : Key} (h : k ≠ x) :
    Store.get? (Store.erase st k) x = Store.get? st x := by
  induction st with
  | nil => rfl
  | cons e rest ih =>
    obtain ⟨k', v'⟩ := e
    simp only [Store.erase, List.filter_cons] at *
    by_cases hk : k' = k
    · subst hk
      simpa [Store.get?, h] using ih
    · by_cases hx : k' = x
      · subst hx
        simp [hk, Store.get?]
      · simpa [hk, Store.get?, hx] using ih

theorem Store.get?_insert (st : Store) (k : Key) (v : Val) (x : Key) (h : Store.get? st k = none) :
    Store.get? (Store.insert st k v) x = if k = x then some v else Store.get? st x := by
  induction st with
  | nil => simp [Store.insert, Store.get?]
  | cons e rest ih =>
    obtain ⟨k', v'⟩ := e
    simp only [Store.insert]
    have hk : k' ≠ k := by
      rintro rfl
      simp [Store.get?] at h
    split
    · simp [Store.get?]
    · have h' : Store.get? rest k = none := by simpa [Store.get?, hk] using h
      by_cases hx : k' = x
      · subst hx
        simp [Store.get?, Ne.symm hk]
      · simp [Store.get?, hx, ih h']

theorem Store.rd_wr_same (st : Store) (k : Key) (v : Val) : Store.rd (Store.wr st k v) k = v := by
  simp only [Store.wr]
  split
  · rename_i h
    simp [Store.rd, Store.get?_erase_same, h]
  · simp [Store.rd, Store.get?_insert _ _ _ _ (Store.get?_erase_same st k)]

theorem Store.rd_wr_other (st : Store) {k x : Key} (v : Val) (h : k ≠ x) : Store.rd (Store.wr st k v) x = Store.rd st x := by
  simp only [Store.wr]
  split
  · simp [Store.rd, Store.get?_erase_other st h]
  · simp [Store.rd, Store.get?_insert _ _ _ _ (Store.get?_erase_same st k), h, Store.get?_erase_other st h]

theorem Store.rd_wr (st : Store) (k x : Key) (v : Val) :
    Store.rd (Store.wr st k v) x = if k = x then v else Store.rd st x := by
  by_cases h : k = x
  · subst h; simp [Store.rd_wr_same]
  · simp [h, Store.rd_wr_other st v h]

theorem Store.rd_erase (st : Store) (k x : Key) :
    Store.rd (Store.erase st k) x = if k = x then resetVal k else Store.rd st x := by
  by_cases h : k = x
  · subst h; simp [Store.rd, Store.get?_erase_same]
  · simp [h, Store.rd, Store.get?_erase_other st h]

theorem Store.get?_filter (st : Store) (p : Key → Bool) (x : Key) :
    Store.get? (st.filter (fun e => p e.1)) x = if p x = true then Store.get? st x else none := by
  induction st with
  | nil => simp [Store.get?]
  | cons e rest ih =>
    obtain ⟨k', v'⟩ := e
    by_cases hx : k' = x
    · subst hx
      by_cases hp : p k' = true
      · simp [hp, Store.get?]
      · simp [hp, ih]
    · by_cases hp : p k' = true
      · simp [hp, Store.get?, hx, ih]
      · simp [hp, Store.get?, hx, ih]

theorem Store.rd_filter (st : Store) (p : Key → Bool) (x : Key) :
    Store.rd (st.filter (fun e => p e.1)) x = if p x = true then Store.rd st x else resetVal x := by
  simp only [Store.rd, Store.get?_filter]
  by_cases h : p x = true <;> simp [h]

/-! The canonical form -/

theorem Store.sorted_iff (st : Store) : Store.sorted st = true ↔ st.Pairwise (fun a b => Key.lt a.1 b.1 = true) := by
  match st with
  | [] => simp [Store.sorted]
  | [_] => simp [Store.sorted]
  | (k, v) :: (k', v') :: rest =>
    have ih := Store.sorted_iff ((k', v') :: rest)
    simp only [Store.sorted, Bool.and_eq_true, ih]
    constructor
    · rintro ⟨h1, h2⟩
      refine List.pairwise_cons.mpr ⟨?_, h2⟩
      intro e he
      rcases List.mem_cons.mp he with rfl | he
      · exact h1
      · exact Key.lt_trans h1 ((List.pairwise_cons.mp h2).1 e he)
    · intro h
      have h' := List.pairwise_cons.mp h
      exact ⟨h'.1 (k', v') (List.mem_cons_self ..), h'.2⟩

theorem Store.wf_iff (st : Store) :
    Store.wf st = true ↔ st.Pairwise (fun a b => Key.lt a.1 b.1 = true) ∧ ∀ e ∈ st, e.2 ≠ resetVal e.1 := by
  simp [Store.wf, Store.sorted_iff]

theorem Store.filter_wf {st : Store} (h : Store.wf st = true) (p : Key × Val → Bool) : Store.wf (st.filter p) = true := by
  rw [Store.wf_iff] at *
  exact ⟨h.1.filter p, fun e he => h.2 e (List.mem_filter.mp he).1⟩

theorem Store.erase_wf {st : Store} (h : Store.wf st = true) (k : Key) : Store.wf (Store.erase st k) = true :=
  Store.filter_wf h _

theorem Store.mem_insert {st : Store} {k : Key} {v : Val} {e : Key × Val} (h : e ∈ Store.insert st k v) :
    e = (k, v) ∨ e ∈ st := by
  induction st with
  | nil => simpa [Store.insert] using h
  | cons x rest ih =>
    obtain ⟨k', v'⟩ := x
    simp only [Store.insert] at h
    split at h
    · simpa using h
    · rcases List.mem_cons.mp h with rfl | h
      · simp
      · rcases ih h with h | h <;> simp [h]

theorem Store.insert_wf {st : Store} (h : Store.wf st = true) {k : Key} {v : Val} (hk : Store.get? st k = none)
    (hv : v ≠ resetVal k) : Store.wf (Store.insert st k v) = true := by
  induction st with
  | nil => simp [Store.insert, Store.wf, Store.sorted, hv]
  | cons x rest ih =>
    obtain ⟨k', v'⟩ := x
    rw [Store.wf_iff] at h
    obtain ⟨hp, ha⟩ := h
    obtain ⟨hhead, htail⟩ := List.pairwise_cons.mp hp
    have hne : k' ≠ k := by
      rintro rfl
      simp [Store.get?] at hk
    simp only [Store.insert]
    split
    · rename_i hlt
      rw [Store.wf_iff]
      refine ⟨List.pairwise_cons.mpr ⟨?_, hp⟩, ?_⟩
      · intro e he
        rcases List.mem_cons.mp he with rfl | he
        · exact hlt
        · exact Key.lt_trans hlt (hhead e he)
      · intro e he
        rcases List.mem_cons.mp he with rfl | he
        · exact hv
        · exact ha e he
    · rename_i hlt
      have hlt' : Key.lt k' k = true := Key.lt_total (Ne.symm hne) (by simpa using hlt)
      have hrest : Store.wf rest = true := (Store.wf_iff rest).mpr ⟨htail, fun e he => ha e (by simp [he])⟩
      have hk' : Store.get? rest k = none := by simpa [Store.get?, hne] using hk
      have hi := (Store.wf_iff _).mp (ih hrest hk')
      rw [Store.wf_iff]
      refine ⟨List.pairwise_cons.mpr ⟨?_, hi.1⟩, ?_⟩
      · intro e he
        rcases Store.mem_insert he with rfl | he
        · exact hlt'
        · exact hhead e he
      · intro e he
        rcases List.mem_cons.mp he with rfl | he
        · exact ha _ (by simp)
        · exact hi.2 e he

theorem Store.wr_wf {st : Store} (h : Store.wf st = true) (k : Key) (v : Val) : Store.wf (Store.wr st k v) = true := by
  simp only [Store.wr]
  split
  · exact Store.erase_wf h k
  · exact Store.insert_wf (Store.erase_wf h k) (Store.get?_erase_same st k) (by assumption)

/-! Maps by number -/

theorem FMap.get?_put {α : Type} (m : FMap α) (k : Nat) (v : α) (x : Nat) :
    FMap.get? (FMap.put m k v) x = if k = x then some v else FMap.get? m x := by
  induction m with
  | nil => simp [FMap.put, FMap.get?]
  | cons e rest ih =>
    obtain ⟨k', v'⟩ := e
    simp only [FMap.put]
    split
    · rename_i h
      subst h
      by_cases hx : k = x <;> simp [FMap.get?, hx]
    · split
      · simp [FMap.get?]
      · by_cases hx : k' = x
        · subst hx
          rename_i h _
          simp [FMap.get?, h]
        · simp [FMap.get?, hx, ih]

theorem FMap.getD_put {α : Type} (m : FMap α) (k : Nat) (v : α) (x : Nat) (d : α) :
    FMap.getD (FMap.put m k v) x d = if k = x then v else FMap.getD m x d := by
  simp only [FMap.getD, FMap.get?_put]
  by_cases h : k = x <;> simp [h]

theorem FMap.get?_del {α : Type} (m : FMap α) (k x : Nat) :
    FMap.get? (FMap.del m k) x = if k = x then none else FMap.get? m x := by
  induction m with
  | nil => simp [FMap.del, FMap.get?]
  | cons e rest ih =>
    obtain ⟨k', v'⟩ := e
    simp only [FMap.del, List.filter_cons] at *
    by_cases hk : k' = k
    · subst hk
      by_cases hx : k' = x
      · simpa [hx] using ih
      · simpa [hx, FMap.get?] using ih
    · by_cases hx : k' = x
      · subst hx
        simp [hk, FMap.get?, Ne.symm hk]
      · simpa [hk, FMap.get?, hx] using ih

theorem FMap.mem_put {α : Type} {m : FMap α} {k : Nat} {v : α} {e : Nat × α} (h : e ∈ FMap.put m k v) :
    e = (k, v) ∨ e ∈ m := by
  induction m with
  | nil => simpa [FMap.put] using h
  | cons x rest ih =>
    obtain ⟨k', v'⟩ := x
    simp only [FMap.put] at h
    split at h
    · rcases List.mem_cons.mp h with h | h <;> simp [h]
    · split at h
      · simpa using h
      · rcases List.mem_cons.mp h with rfl | h
        · simp
        · rcases ih h with h | h <;> simp [h]

theorem FMap.mem_of_get? {α : Type} {m : FMap α} {k : Nat} {v : α} (h : FMap.get? m k = some v) : (k, v) ∈ m := by
  induction m with
  | nil => simp [FMap.get?] at h
  | cons x rest ih =>
    obtain ⟨k', v'⟩ := x
    simp only [FMap.get?] at h
    split at h
    · simp_all
    · simp [ih h]

/-! Bytes -/

theorem Mem.wf_iff (m : Mem) :
    Mem.wf m = true ↔ m.Pairwise (fun a b => a.1 < b.1) ∧ ∀ e ∈ m, e.2 ≠ 0 := by
  match m with
  | [] => simp [Mem.wf]
  | [(_, b)] => simp [Mem.wf]
  | (a, b) :: (a', b') :: rest =>
    have ih := Mem.wf_iff ((a', b') :: rest)
    simp only [Mem.wf, Bool.and_eq_true, ih, decide_eq_true_eq, bne_iff_ne]
    constructor
    · rintro ⟨⟨hb, hlt⟩, hp, ha⟩
      refine ⟨List.pairwise_cons.mpr ⟨?_, hp⟩, ?_⟩
      · intro e he
        rcases List.mem_cons.mp he with rfl | he
        · exact hlt
        · exact Nat.lt_trans hlt ((List.pairwise_cons.mp hp).1 e he)
      · intro e he
        rcases List.mem_cons.mp he with rfl | he
        · exact hb
        · exact ha e he
    · rintro ⟨hp, ha⟩
      have hp' := List.pairwise_cons.mp hp
      exact ⟨⟨ha (a, b) (List.mem_cons_self ..), hp'.1 (a', b') (List.mem_cons_self ..)⟩, hp'.2, fun e he => ha e (List.mem_cons_of_mem _ he)⟩

theorem Mem.put_wf {m : Mem} (h : Mem.wf m = true) (a : Nat) {b : Byte} (hb : b ≠ 0) :
    Mem.wf (FMap.put (α := Byte) m a b) = true := by
  rw [Mem.wf_iff] at h
  obtain ⟨hp, ha⟩ := h
  rw [Mem.wf_iff]
  refine ⟨?_, fun e he => ?_⟩
  · clear ha
    induction m with
    | nil => simp [FMap.put]
    | cons x rest ih =>
      obtain ⟨k', v'⟩ := x
      obtain ⟨hh, ht⟩ := List.pairwise_cons.mp hp
      simp only [FMap.put]
      split
      · rename_i hk
        subst hk
        exact List.pairwise_cons.mpr ⟨hh, ht⟩
      · split
        · rename_i hlt
          refine List.pairwise_cons.mpr ⟨?_, hp⟩
          intro e he
          rcases List.mem_cons.mp he with rfl | he
          · exact hlt
          · exact Nat.lt_trans hlt (hh e he)
        · rename_i hne hlt
          refine List.pairwise_cons.mpr ⟨?_, ih ht⟩
          intro e he
          rcases FMap.mem_put he with rfl | he
          · have h1 : a ≠ k' := hne
            have h2 : ¬ a < k' := hlt
            show k' < a
            omega
          · exact hh e he
  · rcases FMap.mem_put he with rfl | he
    · exact hb
    · exact ha e he

theorem Mem.wr_wf {m : Mem} (h : Mem.wf m = true) (a : Nat) (b : Byte) : Mem.wf (Mem.wr m a b) = true := by
  simp only [Mem.wr]
  split
  · rw [Mem.wf_iff] at *
    exact ⟨h.1.filter _, fun e he => h.2 e (List.mem_filter.mp he).1⟩
  · exact Mem.put_wf h a (by assumption)

theorem Mem.writeAll_wf {m : Mem} (h : Mem.wf m = true) (a : Nat) (bs : Octets) : Mem.wf (Mem.writeAll m a bs) = true := by
  induction bs generalizing m a with
  | nil => exact h
  | cons b rest ih => exact ih (Mem.wr_wf h a b) (a + 1)

theorem Mem.rd_wr (m : Mem) (a : Nat) (b : Byte) (x : Nat) : Mem.rd (Mem.wr m a b) x = if a = x then b else Mem.rd m x := by
  simp only [Mem.wr]
  split
  · rename_i hb
    simp only [Mem.rd, FMap.getD, FMap.get?_del]
    by_cases h : a = x <;> simp [h, hb]
  · simp only [Mem.rd, FMap.getD_put]

theorem Mem.rd_writeAll (m : Mem) (a : Nat) (bs : Octets) (x : Nat) :
    Mem.rd (Mem.writeAll m a bs) x = if a ≤ x ∧ x < a + bs.length then bs.getD (x - a) 0 else Mem.rd m x := by
  induction bs generalizing m a with
  | nil =>
    rw [if_neg (by simp only [List.length_nil]; omega)]
    rfl
  | cons b rest ih =>
    simp only [Mem.writeAll, ih, Mem.rd_wr, List.length_cons]
    by_cases h0 : a = x
    · subst h0
      simp
    · by_cases h1 : a + 1 ≤ x ∧ x < a + 1 + rest.length
      · rw [if_pos h1, if_pos (by omega)]
        have : x - a = (x - (a + 1)) + 1 := by omega
        rw [this]
        simp
      · rw [if_neg h1, if_neg h0, if_neg (by omega)]

/-! The state's storage -/

theorem State.rd_put (s : State) (k : Key) (v : Val) (x : Key) : (s.put k v).rd x = if k = x then v else s.rd x :=
  Store.rd_wr s.objs k x v

theorem State.rd_clear (s : State) (k x : Key) : (s.clear k).rd x = if k = x then resetVal k else s.rd x :=
  Store.rd_erase s.objs k x

theorem State.rd_clearWhere (s : State) (p : Key → Bool) (x : Key) :
    (s.clearWhere p).rd x = if p x = true then resetVal x else s.rd x := by
  have := Store.rd_filter s.objs (fun k => !p k) x
  simp only [State.rd, State.clearWhere]
  by_cases h : p x = true <;> simpa [h] using this

end Sys2Proof.Machine
end

