-- ==== Sys2Proof/Laws/Follows.lean ====
section
/-! SUPPORT. Laws/Follows.lean: what moves by itself at the end of a step and what stays (`Follows`, Safety.lean). Here
the relation's own laws and the shared operations; Laws/Settle.lean goes on to State.settle. -/

namespace Sys2Proof.Machine

theorem Follows.refl (s : State) : Follows s s where
  keys _ _ := rfl
  still := rfl
  session _ := rfl
  port _ := ⟨rfl, rfl, rfl⟩
  bolt _ := ⟨rfl, rfl, rfl, rfl⟩
  trib _ := rfl
  range _ := rfl
  records := List.prefix_rfl
  wire := List.suffix_rfl

theorem Follows.trans {r s t : State} (h : Follows r s) (k : Follows s t) : Follows r t where
  keys x hx := (k.keys x hx).trans (h.keys x hx)
  still := k.still.trans h.still
  session n := (k.session n).trans (h.session n)
  port p := ⟨(k.port p).1.trans (h.port p).1, (k.port p).2.1.trans (h.port p).2.1, (k.port p).2.2.trans (h.port p).2.2⟩
  bolt b := ⟨(k.bolt b).1.trans (h.bolt b).1, (k.bolt b).2.1.trans (h.bolt b).2.1, (k.bolt b).2.2.1.trans (h.bolt b).2.2.1,
    (k.bolt b).2.2.2.trans (h.bolt b).2.2.2⟩
  trib p := (k.trib p).trans (h.trib p)
  range x := (k.range x).trans (h.range x)
  records := h.records.trans k.records
  wire := h.wire.trans k.wire

theorem follows_eq2 {α : Type} {r t : State} {a : α} {p : α × State} (h : Follows r p.2) (e : p = (a, t)) : Follows r t := by
  subst e; exact h

theorem follows_eq1 {α : Type} {r t : State} {a : α} {p : State × α} (h : Follows r p.1) (e : p = (t, a)) : Follows r t := by
  subst e; exact h

/-- A function of states that only follows. -/
def FnFollows (g : State → State) : Prop := ∀ r t, Follows r t → Follows r (g t)

theorem FnFollows.run {g : State → State} (h : FnFollows g) {r t : State} (ht : Follows r t) : Follows r (g t) := h r t ht

theorem follows_ite {r a b : State} {c : Prop} {_ : Decidable c} (ha : Follows r a) (hb : Follows r b) :
    Follows r (if c then a else b) := by
  split <;> assumption

theorem follows_ite1 {α : Type} {r : State} {a b : State × α} {c : Prop} {_ : Decidable c} (ha : Follows r a.1)
    (hb : Follows r b.1) : Follows r (if c then a else b).1 := by
  split <;> assumption

theorem follows_ite2 {α : Type} {r : State} {a b : α × State} {c : Prop} {_ : Decidable c} (ha : Follows r a.2)
    (hb : Follows r b.2) : Follows r (if c then a else b).2 := by
  split <;> assumption

theorem foldl_follows {α : Type} {r : State} {f : State → α → State} (hf : ∀ s x, Follows r s → Follows r (f s x)) :
    ∀ {l : List α} {s : State}, Follows r s → Follows r (l.foldl f s)
  | [], _, h => h
  | x :: l, s, h => foldl_follows hf (l := l) (hf s x h)

theorem forEach_follows {α : Type} {r : State} {f : State → α → State} (hf : ∀ s x, Follows r s → Follows r (f s x))
    {l : List α} {s : State} (h : Follows r s) : Follows r (forEach l f s) := foldl_follows hf h

theorem foldl2_follows {α β : Type} {r : State} {f : β × State → α → β × State} (hf : ∀ p x, Follows r p.2 → Follows r (f p x).2) :
    ∀ {l : List α} {p : β × State}, Follows r p.2 → Follows r (l.foldl f p).2
  | [], _, h => h
  | x :: l, p, h => foldl2_follows hf (l := l) (hf p x h)

/-! Traffic keys -/

theorem port_traffic {p k sub : Nat} (hk : k < 4) (hs : sub < 256) (h : portTraffic k sub = true) :
    trafficKey (portKey p k sub) = true := by
  have h1 : ((0x3000 + 4 * p + k) * 256 + sub) / 256 % 4 = k := by omega
  have h2 : ((0x3000 + 4 * p + k) * 256 + sub) % 256 = sub := by omega
  have h3 : 0x300000 ≤ (0x3000 + 4 * p + k) * 256 + sub := by omega
  simp only [trafficKey, h1, h2, h, h3, decide_true, Bool.and_self, Bool.true_or]

theorem bolt_traffic {b off sub : Nat} (ho : off < 256) (hs : sub < 256) (h : boltTraffic off sub = true) :
    trafficKey (boltKey b off sub) = true := by
  have h1 : ((0x2000 + 0x100 * (b % 8) + off) * 256 + sub) / 256 % 256 = off := by omega
  have h2 : ((0x2000 + 0x100 * (b % 8) + off) * 256 + sub) % 256 = sub := by omega
  have h3 : 0x200000 ≤ (0x2000 + 0x100 * (b % 8) + off) * 256 + sub ∧ (0x2000 + 0x100 * (b % 8) + off) * 256 + sub < 0x280000 := by
    omega
  simp only [trafficKey, h1, h2, h, h3, and_self, decide_true, Bool.and_self, Bool.or_true, Bool.true_or]

theorem pc_traffic {b i : Nat} (hi : i < 16) : trafficKey (pcKey b (0x11 + i)) = true := by
  have h3 : 0x181000 ≤ (0x1810 + b % 8) * 256 + (0x11 + i) ∧ (0x1810 + b % 8) * 256 + (0x11 + i) < 0x181800
      ∧ 0x11 ≤ ((0x1810 + b % 8) * 256 + (0x11 + i)) % 256 ∧ ((0x1810 + b % 8) * 256 + (0x11 + i)) % 256 ≤ 0x20 := by
    omega
  simp only [trafficKey, h3, and_self, decide_true, Bool.or_true, Bool.true_or]

/-! The shared operations -/

theorem State.put_follows {r s : State} (h : Follows r s) (k : Key) (v : Val)
    (hk : trafficKey k = true := by first
      | with_reducible exact port_traffic (by decide) (by decide) (by decide)
      | with_reducible exact bolt_traffic (by decide) (by decide) (by decide)
      | rfl) : Follows r (s.put k v) :=
  h.trans { Follows.refl s with
    keys := fun x hx => by
      rw [State.rd_put]
      split
      · rename_i e; rw [e, hx] at hk; exact absurd hk (by decide)
      · rfl }

theorem State.clear_follows {r s : State} (h : Follows r s) (k : Key)
    (hk : trafficKey k = true := by first
      | with_reducible exact port_traffic (by decide) (by decide) (by decide)
      | with_reducible exact bolt_traffic (by decide) (by decide) (by decide)
      | rfl) : Follows r (s.clear k) :=
  h.trans { Follows.refl s with
    keys := fun x hx => by
      rw [State.rd_clear]
      split
      · rename_i e; rw [e, hx] at hk; exact absurd hk (by decide)
      · rfl }

theorem State.putN_follows {r s : State} (h : Follows r s) (k : Key) (n : Nat)
    (hk : trafficKey k = true := by first
      | with_reducible exact port_traffic (by decide) (by decide) (by decide)
      | with_reducible exact bolt_traffic (by decide) (by decide) (by decide)
      | rfl) : Follows r (s.putN k n) :=
  State.put_follows h _ _ hk

theorem State.countBy_follows {r s : State} (h : Follows r s) (k : Key) (n : Nat)
    (hk : trafficKey k = true := by first
      | with_reducible exact port_traffic (by decide) (by decide) (by decide)
      | with_reducible exact bolt_traffic (by decide) (by decide) (by decide)
      | rfl) : Follows r (s.countBy k n) := State.putN_follows h _ _ hk

theorem State.count_follows {r s : State} (h : Follows r s) (k : Key)
    (hk : trafficKey k = true := by first
      | with_reducible exact port_traffic (by decide) (by decide) (by decide)
      | with_reducible exact bolt_traffic (by decide) (by decide) (by decide)
      | rfl) : Follows r (s.count k) :=
  State.countBy_follows h _ 1 hk

theorem State.draw_follows {r s : State} (h : Follows r s) : Follows r s.draw.2 := h.trans { Follows.refl s with }

theorem State.newSerial_follows {r s : State} (h : Follows r s) : Follows r s.newSerial.2 := h.trans { Follows.refl s with }

theorem State.emit_follows {r s : State} (h : Follows r s) (w : Wire) : Follows r (s.emit w) :=
  h.trans { Follows.refl s with wire := List.suffix_cons w s.wire }

theorem State.setPort_follows {r s : State} (h : Follows r s) (p : Nat) (x : PortState)
    (hx : x.pcs = (s.port p).pcs ∧ x.fec = (s.port p).fec ∧ x.admin = (s.port p).admin := by exact ⟨rfl, rfl, rfl⟩) : Follows r (s.setPort p x) :=
  h.trans { Follows.refl s with
    port := fun q => by
      simp only [State.port, State.setPort, FMap.getD_put]
      split
      · rename_i e; exact e ▸ hx
      · exact ⟨rfl, rfl, rfl⟩ }

theorem State.setBolt_follows {r s : State} (h : Follows r s) (b : Nat) (x : BoltState)
    (hx : x.moves = (s.bolt b).moves ∧ x.flapTold = (s.bolt b).flapTold ∧ x.flushes = (s.bolt b).flushes
        ∧ x.ageAt = (s.bolt b).ageAt := by exact ⟨rfl, rfl, rfl, rfl⟩) :
    Follows r (s.setBolt b x) :=
  h.trans { Follows.refl s with
    bolt := fun c => by
      simp only [State.bolt, State.setBolt, FMap.getD_put]
      split
      · rename_i e; exact e ▸ hx
      · exact ⟨rfl, rfl, rfl, rfl⟩ }

theorem State.setPipe_follows {r s : State} (h : Follows r s) (b : Nat) (pi : Pipe) (x : PipeState) : Follows r (s.setPipe b pi x) := by
  cases pi <;> exact State.setBolt_follows h b _ ⟨rfl, rfl, rfl, rfl⟩

theorem State.setTrib_follows {r s : State} (h : Follows r s) (p : Nat) (x : TribState)
    (hx : { x with closed := [], building := [], marks := [] } = { s.trib p with closed := [], building := [], marks := [] } := by rfl) :
    Follows r (s.setTrib p x) :=
  h.trans { Follows.refl s with
    trib := fun q => by
      simp only [State.trib, State.setTrib, FMap.getD_put]
      split
      · rename_i e; exact e ▸ hx
      · rfl }

theorem State.setSession_follows {r s : State} (h : Follows r s) (n : Nat) (x : Session)
    (hx : { x with seqOut := 0 } = { s.session n with seqOut := 0 } := by rfl) : Follows r (s.setSession n x) :=
  h.trans { Follows.refl s with
    session := fun m => by
      simp only [State.session, State.setSession, FMap.getD_put]
      split
      · rename_i e; exact e ▸ hx
      · rfl }

theorem State.smWrite_follows {r s : State} (h : Follows r s) (k off : Nat) (bs : Octets) : Follows r (s.smWrite k off bs) :=
  h.trans { Follows.refl s with
    range := fun x => by
      simp only [State.smWrite, FMap.getD_put]
      split
      · rename_i e; rw [e]
      · rfl }

theorem follows_events {r s : State} (h : Follows r s) {e : Events} (he : List.IsPrefix s.events.queue e.queue) :
    Follows r { s with events := e } := h.trans { Follows.refl s with records := he }

theorem State.pc_follows {r s : State} (h : Follows r s) (b ev n : Nat) : Follows r (s.pc b ev n) := by
  have hf : ∀ (l : List Nat) (t : State), (∀ i ∈ l, i < 16) → Follows r t → Follows r (l.foldl (fun s i =>
      if s.num (pcKey b (1 + i)) = ev then s.countBy (pcKey b (0x11 + i)) n else s) t) := by
    intro l
    induction l with
    | nil => exact fun _ _ ht => ht
    | cons i l ih =>
      intro t hl ht
      refine ih _ (fun j hj => hl j (List.mem_cons_of_mem _ hj)) (follows_ite (State.countBy_follows ht _ n (pc_traffic (hl i ?_))) ht)
      exact List.mem_cons_self
  exact hf _ s (fun i hi => List.mem_range.mp hi) h

end Sys2Proof.Machine
end

