-- ==== Sys2Proof/Laws/Settle.lean ====
section
/-! SUPPORT. Laws/Settle.lean: the end of a step (State.settle) moves frames and records on and nothing else: one lemma for
every operation it reaches, and `done_follows` for the commands, which all end in it. -/

namespace Sys2Proof.Machine

theorem State.logRecord_follows {r s0 : State} (h0 : Follows r s0) (x : Record) : Follows r (s0.logRecord x) := by
  unfold State.logRecord
  dsimp only
  have hs := State.putN_follows h0 Reg.smLogNext ((x.seq + 1) % 16777216)
  generalize s0.putN Reg.smLogNext ((x.seq + 1) % 16777216) = s at hs ⊢
  have hb : ∀ l, Follows r { s with events := { s.events with badLog := l } } := fun _ => follows_events hs List.prefix_rfl
  split
  · split
    · exact State.count_follows (hb _) Reg.smLogLost
    · exact State.smWrite_follows hs _ _ _
  · exact State.count_follows (State.count_follows hs Reg.smStoppedErrors) Reg.smLogLost
  · exact hs

theorem State.notify_follows {r s0 : State} (h0 : Follows r s0) (x : Record) : Follows r (s0.notify x) := by
  have h1 : ∀ ns, Follows r { s0 with events := { s0.events with notes := ns } } := fun _ => follows_events h0 List.prefix_rfl
  simp only [State.notify]
  split
  · split
    · exact (h1 (s0.events.notes ++ [(x.code / 65536, x.seq)])).trans { Follows.refl _ with }
    · exact h1 _
  · exact h0

theorem State.enter_follows {r s0 : State} (h0 : Follows r s0) (c t o d : Nat) : Follows r (s0.enter c t o d) := by
  simp only [State.enter]
  split
  · refine State.logRecord_follows (State.notify_follows ?_ _) _
    exact follows_events h0 (List.prefix_append _ _)
  · refine State.logRecord_follows (State.count_follows ?_ Reg.evtLost) _
    exact follows_events h0 List.prefix_rfl

theorem State.raise_follows {r : State} {s0 : State} (h0 : Follows r s0) : ∀ a0 a1 a2, Follows r (State.raise s0 a0 a1 a2) := by
  intro a0 a1 a2
  unfold State.raise
  with_reducible repeat' (first | assumption | apply State.enter_follows | apply follows_ite)

theorem State.raiseIn_follows {r s0 : State} (h0 : Follows r s0) (sec c k o d : Nat) : Follows r (s0.raiseIn sec c k o d) := by
  have hl : ∀ l, Follows r { s0 with events := { s0.events with limited := l } } := fun _ => follows_events h0 List.prefix_rfl
  unfold State.raiseIn
  exact follows_ite h0 (State.raise_follows (hl _) _ _ _)

theorem State.raiseKeyed_follows {r : State} {s0 : State} (h0 : Follows r s0) : ∀ a0 a1 a2 a3, Follows r (State.raiseKeyed s0 a0 a1 a2 a3) := by
  intro a0 a1 a2 a3
  unfold State.raiseKeyed
  with_reducible repeat' (first | assumption | apply State.raiseIn_follows)

theorem State.raiseOnce_follows {r : State} {s0 : State} (h0 : Follows r s0) : ∀ a0 a1 a2, Follows r (State.raiseOnce s0 a0 a1 a2) := by
  intro a0 a1 a2
  unfold State.raiseOnce
  with_reducible repeat' (first | assumption | apply State.raiseKeyed_follows)

theorem State.counts_follows {r : State} (ks : List Key) : ∀ {s0 : State}, Follows r s0 → (∀ k ∈ ks, trafficKey k = true) →
    Follows r (s0.counts ks) := by
  unfold State.counts forEach
  induction ks with
  | nil => exact fun h _ => h
  | cons k l ih => exact fun h hk => ih (State.count_follows h k (hk k List.mem_cons_self)) (fun x hx => hk x (List.mem_cons_of_mem _ hx))

theorem State.bumpVersion_follows {r s0 : State} (h0 : Follows r s0) (win row : Nat)
    (hk : trafficKey (.row win row 3) = true := by rfl) : Follows r (s0.bumpVersion win row) :=
  State.putN_follows h0 _ _ hk

theorem State.setRowState_follows {r s0 : State} (h0 : Follows r s0) (win row st : Nat)
    (h2 : trafficKey (.row win row 2) = true := by rfl) (h3 : trafficKey (.row win row 3) = true := by rfl) :
    Follows r (s0.setRowState win row st) :=
  State.bumpVersion_follows (State.putN_follows h0 _ _ h2) _ _ h3

theorem State.discardKeystream_follows {r : State} {s0 : State} (h0 : Follows r s0) : ∀ a0 a1 a2, Follows r (State.discardKeystream s0 a0 a1 a2) := by
  intro a0 a1 a2
  unfold State.discardKeystream
  with_reducible repeat' (first | assumption | apply State.countBy_follows | apply State.pc_follows | apply State.setPipe_follows | exact bolt_traffic (by decide) (by decide) (by decide) | split | ((try lift_lets); intro x; clear_value x))

theorem State.evict_follows {r : State} {s0 : State} (h0 : Follows r s0) : ∀ a0 a1 a2, Follows r (State.evict s0 a0 a1 a2) := by
  intro a0 a1 a2
  unfold State.evict
  with_reducible repeat' (first | assumption | apply State.discardKeystream_follows | apply State.count_follows | exact bolt_traffic (by decide) (by decide) (by decide) | split)

theorem State.saDiscard_follows {r : State} {s0 : State} (h0 : Follows r s0) : ∀ a0, Follows r (State.saDiscard s0 a0) := by
  intro a0
  unfold State.saDiscard
  with_reducible repeat' (first | assumption | apply State.discardKeystream_follows)

theorem State.freshSlot_follows {r : State} {s0 : State} (h0 : Follows r s0) : ∀ a0 a1 a2, Follows r (State.freshSlot s0 a0 a1 a2).2 := by
  intro a0 a1 a2
  unfold State.freshSlot
  with_reducible repeat' (first | assumption | apply State.evict_follows | apply State.setPipe_follows | apply follows_ite2 | split)

theorem State.claimSlot_follows {r : State} {s0 : State} (h0 : Follows r s0) : ∀ a0 a1 a2 a3 a4 a5, Follows r (State.claimSlot s0 a0 a1 a2 a3 a4 a5).2 := by
  intro a0 a1 a2 a3 a4 a5
  unfold State.claimSlot
  with_reducible repeat' (first | assumption | apply State.freshSlot_follows | apply State.setPipe_follows | split | ((try lift_lets); intro x; clear_value x))

theorem State.slotFollow_follows {r : State} {s0 : State} (h0 : Follows r s0) : ∀ a0 a1 a2, Follows r (State.slotFollow s0 a0 a1 a2) := by
  intro a0 a1 a2
  unfold State.slotFollow
  with_reducible repeat' (first | assumption | apply State.setPipe_follows)

theorem State.unpin_follows {r : State} {s0 : State} (h0 : Follows r s0) : ∀ a0 a1 a2 a3, Follows r (State.unpin s0 a0 a1 a2 a3) := by
  intro a0 a1 a2 a3
  unfold State.unpin
  with_reducible repeat' (first | assumption | apply State.setPipe_follows)

theorem State.cancelArmIf_follows {r : State} {s0 : State} (h0 : Follows r s0) : ∀ a0, Follows r (State.cancelArmIf s0 a0) := by
  intro a0
  unfold State.cancelArmIf
  with_reducible repeat' (first | assumption | apply State.putN_follows | apply State.raise_follows | exact port_traffic (by decide) (by decide) (by decide) | apply follows_ite)

theorem State.saSet_follows {r : State} {s0 : State} (h0 : Follows r s0) : ∀ a0 a1, Follows r (State.saSet s0 a0 a1) := by
  intro a0 a1
  unfold State.saSet
  with_reducible repeat' (first | assumption | apply State.cancelArmIf_follows | apply State.setRowState_follows | with_unfolding_all exact (rfl : (_ : Bool) = true) | apply follows_ite)

theorem State.saRefresh_follows {r : State} {s0 : State} (h0 : Follows r s0) : ∀ a0, Follows r (State.saRefresh s0 a0) := by
  intro a0
  unfold State.saRefresh
  with_reducible repeat' (first | assumption | apply State.saDiscard_follows | apply State.saSet_follows | apply follows_ite)

theorem State.saTouch_follows {r : State} {s0 : State} (h0 : Follows r s0) : ∀ a0, Follows r (State.saTouch s0 a0) := by
  intro a0
  unfold State.saTouch
  with_reducible repeat' (first | assumption | apply State.putN_follows | with_unfolding_all exact (rfl : (_ : Bool) = true) | apply follows_ite)

theorem State.deliver_follows {r : State} {s0 : State} (h0 : Follows r s0) : ∀ a0 a1 a2 a3 a4, Follows r (State.deliver s0 a0 a1 a2 a3 a4) := by
  intro a0 a1 a2 a3 a4
  unfold State.deliver
  with_reducible repeat' (first | assumption | apply State.setPipe_follows)

theorem State.readRow_follows {r : State} {s0 : State} (h0 : Follows r s0) : ∀ a0 a1 a2 a3 a4, Follows r (State.readRow s0 a0 a1 a2 a3 a4) := by
  intro a0 a1 a2 a3 a4
  unfold State.readRow
  with_reducible repeat' (first | assumption | apply State.setPipe_follows)

theorem State.countClaim_follows {r : State} {s0 : State} (h0 : Follows r s0) : ∀ a0 a1 a2 a3, Follows r (State.countClaim s0 a0 a1 a2 a3) := by
  intro a0 a1 a2 a3
  unfold State.countClaim
  with_reducible repeat' (first | assumption | apply State.readRow_follows | apply State.pc_follows | split)

theorem State.crosses_follows {r : State} {s0 : State} (h0 : Follows r s0) : ∀ a0 a1 a2, Follows r (State.crosses s0 a0 a1 a2) := by
  intro a0 a1 a2
  unfold State.crosses
  with_reducible repeat' (first | assumption | apply State.deliver_follows)

theorem State.issue_follows {r : State} {s0 : State} (h0 : Follows r s0) : ∀ a0 a1 a2, Follows r (State.issue s0 a0 a1 a2) := by
  intro a0 a1 a2
  unfold State.issue
  with_reducible repeat' (first | assumption | apply State.pc_follows | apply State.setPipe_follows)

theorem State.sendPause_follows {r : State} {s0 : State} (h0 : Follows r s0) : ∀ a0 a1 a2, Follows r (State.sendPause s0 a0 a1 a2) := by
  intro a0 a1 a2
  unfold State.sendPause
  with_reducible repeat' (first | assumption | apply State.setPort_follows | exact ⟨rfl, rfl, rfl⟩)

theorem State.pauseOne_follows {r : State} {s0 : State} (h0 : Follows r s0) : ∀ a0 a1 a2, Follows r (State.pauseOne s0 a0 a1 a2) := by
  intro a0 a1 a2
  unfold State.pauseOne
  with_reducible repeat' (first | assumption | apply State.setPort_follows | apply State.sendPause_follows | apply State.putN_follows | exact port_traffic (by decide) (by decide) (by decide) | exact ⟨rfl, rfl, rfl⟩ | apply follows_ite)

theorem State.pauseUpdate_follows {r : State} {s0 : State} (h0 : Follows r s0) : ∀ a0, Follows r (State.pauseUpdate s0 a0) := by
  intro a0
  unfold State.pauseUpdate
  with_reducible repeat' (first | assumption | apply forEach_follows | apply State.pauseOne_follows | (refine fun (t : State) _ (_ : Follows r t) => ?_) | apply follows_ite)

theorem State.pauseAfter_follows {r : State} {s0 : State} (h0 : Follows r s0) : ∀ a0, Follows r (State.pauseAfter s0 a0) := by
  intro a0
  unfold State.pauseAfter
  with_reducible repeat' (first | assumption | apply State.pauseUpdate_follows | split)

theorem State.traceEnd_follows {r s0 : State} (h0 : Follows r s0) (f : Frame) (d : Bool) : Follows r (s0.traceEnd f d) := by
  unfold State.traceEnd
  split
  · exact h0
  · extract_lets n bytes tr s1 s2
    have h1 : Follows r s1 := h0.trans { Follows.refl s0 with }
    have h2 : Follows r s2 := State.putN_follows h1 Reg.trNextSeq _
    clear_value s2
    split
    · exact State.smWrite_follows h2 _ _ _
    · exact State.count_follows (State.count_follows h2 Reg.smStoppedErrors) Reg.smRingLost
    · exact h2

theorem State.setCredit_follows {r : State} {s0 : State} (h0 : Follows r s0) : ∀ a0 a1, Follows r (State.setCredit s0 a0 a1) := by
  intro a0 a1
  unfold State.setCredit
  with_reducible repeat' (first | assumption | apply State.putN_follows | with_unfolding_all exact (rfl : (_ : Bool) = true))

theorem State.settleCredit_follows {r : State} {s0 : State} (h0 : Follows r s0) : ∀ a0, Follows r (State.settleCredit s0 a0) := by
  intro a0
  unfold State.settleCredit
  with_reducible repeat' (first | assumption | apply State.setPort_follows | apply State.setCredit_follows | apply forEach_follows | exact ⟨rfl, rfl, rfl⟩ | (refine fun (t : State) _ (_ : Follows r t) => ?_) | apply follows_ite)

theorem State.queueEmptied_follows {r : State} {s0 : State} (h0 : Follows r s0) : ∀ a0 a1, Follows r (State.queueEmptied s0 a0 a1) := by
  intro a0 a1
  unfold State.queueEmptied
  with_reducible repeat' (first | assumption | apply State.setCredit_follows | apply State.setPort_follows | apply State.putN_follows | with_unfolding_all exact (rfl : (_ : Bool) = true) | exact ⟨rfl, rfl, rfl⟩ | apply follows_ite)

theorem State.dropFinal_follows {r : State} {s0 : State} (h0 : Follows r s0) : ∀ a0, Follows r (State.dropFinal s0 a0) := by
  intro a0
  unfold State.dropFinal
  with_reducible repeat' (first | assumption | apply State.traceEnd_follows | apply State.pauseAfter_follows | apply State.count_follows | exact bolt_traffic (by decide) (by decide) (by decide) | with_unfolding_all exact (rfl : (_ : Bool) = true) | apply follows_ite | split)

theorem State.dequeueOne_follows {r : State} {s0 : State} (h0 : Follows r s0) : ∀ a0 a1, Follows r (State.dequeueOne s0 a0 a1) := by
  intro a0 a1
  unfold State.dequeueOne
  with_reducible repeat' (first | assumption | apply State.setPort_follows | apply State.queueEmptied_follows | apply State.settleCredit_follows | exact ⟨rfl, rfl, rfl⟩)

theorem State.headDiscard_ffn {s : State} {l p q : Nat} {f : Frame} {g : State → State} (e : s.headDiscard l p q f = some g) :
    FnFollows g := by
  unfold State.headDiscard at e
  intro r t h
  dsimp only at e
  generalize (s.gated p && _) = c at e
  generalize s.linkD l = d at e
  split at e
  · cases e; exact State.count_follows h (Reg.qFaultDiscards _)
  · split at e
    · cases e; exact State.raiseOnce_follows (State.count_follows h (Reg.pGateOversize p)) _ _ _
    · split at e
      · split at e
        · cases e
          exact State.raiseKeyed_follows (State.count_follows (State.count_follows h (Reg.bDGuardDiscards _)) (Reg.pDGuardDiscards p)) _ _ _ _
        · exact absurd e (by simp)
      · exact absurd e (by simp)

theorem State.purgeQueue_follows {r : State} : ∀ (a3 : Nat) {s0 : State} (h0 : Follows r s0) a0 a1 a2, Follows r (State.purgeQueue s0 a0 a1 a2 a3) := by
  intro a3
  induction a3 with
  | zero => intro s0 h0 a0 a1 a2; unfold State.purgeQueue; with_reducible repeat' (first | assumption)
  | succ n ih => intro s0 h0 a0 a1 a2; unfold State.purgeQueue; with_reducible repeat' (first | assumption | apply State.dequeueOne_follows | apply State.dropFinal_follows | apply ih | (refine FnFollows.run (State.headDiscard_ffn (by assumption)) ?_) | split)

theorem State.newHead_follows {r : State} {s0 : State} (h0 : Follows r s0) : ∀ a0 a1, Follows r (State.newHead s0 a0 a1) := by
  intro a0 a1
  unfold State.newHead
  with_reducible repeat' (first | assumption | apply State.purgeQueue_follows)

theorem State.enqueue_follows {r : State} {s0 : State} (h0 : Follows r s0) : ∀ a0, Follows r (State.enqueue s0 a0) := by
  intro a0
  unfold State.enqueue
  with_reducible repeat' (first | assumption | apply State.newHead_follows | apply State.setPort_follows | apply State.settleCredit_follows | apply State.count_follows | apply State.dropFinal_follows | with_unfolding_all exact (rfl : (_ : Bool) = true) | exact ⟨rfl, rfl, rfl⟩ | apply follows_ite)

theorem State.pairSettle_follows {r s0 : State} (h0 : Follows r s0) : Follows r s0.pairSettle := by
  unfold State.pairSettle
  extract_lets pu s1
  have h1 : Follows r s1 := h0.trans { Follows.refl s0 with }
  have h2 : ∀ o, Follows r { s1 with pair := { s1.pair with holdoff := o } } := fun o => h1.trans { Follows.refl s1 with }
  clear_value s1
  split
  · exact follows_ite (h2 _) h1
  · exact follows_ite h1 (h2 _)

theorem State.policyOf_follows {r s0 : State} (h0 : Follows r s0) (pi : Pipe) (c : Nat) (bs : Octets) : Follows r (s0.policyOf pi c bs).1 := by
  simp only [State.policyOf]
  split
  · exact h0
  · exact State.count_follows (State.readRow_follows h0 _ _ _ _ _) (Reg.pkHits _)
  · exact h0

theorem State.lengthLimit_follows {r : State} {s0 : State} (h0 : Follows r s0) : ∀ a0 a1 a2 a3, Follows r (State.lengthLimit s0 a0 a1 a2 a3) := by
  intro a0 a1 a2 a3
  unfold State.lengthLimit
  with_reducible repeat' (first | assumption | apply State.count_follows | apply State.raiseKeyed_follows | exact port_traffic (by decide) (by decide) (by decide) | exact bolt_traffic (by decide) (by decide) (by decide))

theorem State.correct_follows {r : State} {s0 : State} (h0 : Follows r s0) : ∀ a0, Follows r (State.correct s0 a0).2 := by
  intro a0
  unfold State.correct
  with_reducible repeat' (first | assumption | apply State.count_follows | exact port_traffic (by decide) (by decide) (by decide) | apply follows_ite | apply follows_ite2 | split)

theorem State.txSa_follows {r s t : State} {p : Nat} (e : s.txSa p = .error t) (h : Follows r s) : Follows r t := by
  simp only [State.txSa] at e
  split at e
  · rw [← Except.error.inj e]; exact State.count_follows h (Reg.bTxNoSa (boltOfPort p))
  · split at e
    · rw [← Except.error.inj e]; exact State.count_follows h (Reg.bNotUsingSa (boltOfPort p))
    · split at e
      · exact absurd e (by simp)
      · rw [← Except.error.inj e]
        have h1 := State.count_follows (State.count_follows h (Reg.saDiscards (s.anBinding p))) (Reg.bNotUsingSa (boltOfPort p))
        exact follows_ite (State.count_follows h1 (Reg.bPnExhaustDiscards (boltOfPort p))) h1

theorem State.pnWarn_follows {r : State} {s0 : State} (h0 : Follows r s0) : ∀ a0, Follows r (State.pnWarn s0 a0) := by
  intro a0
  unfold State.pnWarn
  with_reducible repeat' (first | assumption | apply State.putN_follows | apply State.raise_follows | with_unfolding_all exact (rfl : (_ : Bool) = true) | apply follows_ite)

theorem State.pnExhaust_follows {r : State} {s0 : State} (h0 : Follows r s0) : ∀ a0, Follows r (State.pnExhaust s0 a0) := by
  intro a0
  unfold State.pnExhaust
  with_reducible repeat' (first | assumption | apply State.saSet_follows | apply State.raise_follows | apply follows_ite)

theorem State.takePn_follows {r : State} {s0 : State} (h0 : Follows r s0) : ∀ a0, Follows r (State.takePn s0 a0).2 := by
  intro a0
  unfold State.takePn
  with_reducible repeat' (first | assumption | apply State.pnWarn_follows | apply State.pnExhaust_follows | apply State.count_follows | apply State.saTouch_follows | apply State.clear_follows | apply State.putN_follows | with_unfolding_all exact (rfl : (_ : Bool) = true))

theorem State.panelCloses_follows {r : State} {s0 : State} (h0 : Follows r s0) : ∀ a0 a1 a2, Follows r (State.panelCloses s0 a0 a1 a2) := by
  intro a0 a1 a2
  unfold State.panelCloses
  with_reducible repeat' (first | assumption | apply State.deliver_follows | apply State.pc_follows)

theorem State.panelsClose_follows {r s0 : State} (h0 : Follows r s0) (p seq : Nat) (l : List (List Nat)) :
    Follows r (s0.panelsClose p seq l) := by
  induction l generalizing s0 seq with
  | nil => exact h0
  | cons us rest ih =>
    unfold State.panelsClose
    have h1 := State.panelCloses_follows h0 p seq us
    generalize s0.panelCloses p seq us = t at h1 ⊢
    exact ih h1 (seq + 1)

theorem State.closeAhead_follows {r : State} : ∀ (a1 : Nat) {s0 : State} (h0 : Follows r s0) a0, Follows r (State.closeAhead s0 a0 a1) := by
  intro a1
  induction a1 with
  | zero => intro s0 h0 a0; unfold State.closeAhead; with_reducible repeat' (first | assumption)
  | succ n ih => intro s0 h0 a0; unfold State.closeAhead; with_reducible repeat' (first | assumption | apply State.panelCloses_follows | apply State.setTrib_follows | apply ih | rfl | apply follows_ite)

theorem State.tribAdd_follows {r : State} {s0 : State} (h0 : Follows r s0) : ∀ a0, Follows r (State.tribAdd s0 a0) := by
  intro a0
  unfold State.tribAdd
  with_reducible repeat' (first | assumption | apply State.panelsClose_follows | apply State.closeAhead_follows | apply State.setTrib_follows | rfl)

theorem State.unpinFrame_follows {r : State} {s0 : State} (h0 : Follows r s0) : ∀ a0, Follows r (State.unpinFrame s0 a0) := by
  intro a0
  unfold State.unpinFrame
  with_reducible repeat' (first | assumption | apply State.unpin_follows | apply follows_ite | split)

theorem State.gateE_follows {r : State} {s0 : State} (h0 : Follows r s0) : ∀ a0, Follows r (State.gateE s0 a0) := by
  intro a0
  unfold State.gateE
  with_reducible repeat' (first | assumption | apply State.crosses_follows | apply State.enqueue_follows | apply State.count_follows | apply State.dropFinal_follows | apply State.tribAdd_follows | apply State.pauseAfter_follows | apply State.unpinFrame_follows | exact port_traffic (by decide) (by decide) (by decide) | apply follows_ite)

theorem State.drainE_follows {r : State} : ∀ (a1 : Nat) {s0 : State} (h0 : Follows r s0) a0, Follows r (State.drainE s0 a0 a1) := by
  intro a1
  induction a1 with
  | zero => intro s0 h0 a0; unfold State.drainE; with_reducible repeat' (first | assumption)
  | succ n ih => intro s0 h0 a0; unfold State.drainE; with_reducible repeat' (first | assumption | apply State.setPipe_follows | apply State.gateE_follows | apply ih | apply follows_ite | split | ((try lift_lets); intro x; clear_value x))

theorem State.claimTx_follows {r : State} {s0 : State} (h0 : Follows r s0) : ∀ a0 a1 a2 a3, Follows r (State.claimTx s0 a0 a1 a2 a3).2 := by
  intro a0 a1 a2 a3
  unfold State.claimTx
  with_reducible repeat' (first | assumption | apply State.countClaim_follows | apply State.issue_follows | apply State.claimSlot_follows | apply follows_ite2)

theorem State.encipher_follows {r : State} {s0 : State} (h0 : Follows r s0) : ∀ a0 a1 a2, Follows r (State.encipher s0 a0 a1 a2).2 := by
  intro a0 a1 a2
  unfold State.encipher
  with_reducible repeat' (first | assumption | apply State.claimTx_follows)

theorem State.takeSa_follows {r : State} {s0 : State} (h0 : Follows r s0) : ∀ a0 a1, Follows r (State.takeSa s0 a0 a1).2 := by
  intro a0 a1
  unfold State.takeSa
  with_reducible repeat' (first | assumption | apply State.encipher_follows | apply State.readRow_follows | apply State.takePn_follows)

theorem State.enterE_follows {r s0 : State} (h0 : Follows r s0) (f : Frame) : Follows r (s0.enterE f).2 := by
  unfold State.enterE
  extract_lets s f'
  have hs : Follows r s := State.crosses_follows h0 _ _ _
  clear_value s f'
  split
  rename_i f1 s1 hx
  have hc : Follows r s1 := follows_eq2 (State.correct_follows hs f') hx
  refine follows_ite2 hc ?_
  cases hsa : s1.txSa f1.outPort with
  | error t => exact State.dropFinal_follows (State.txSa_follows hsa hc) _
  | ok sa =>
    exact State.takeSa_follows hc _ _

theorem State.pushE_follows {r : State} {s0 : State} (h0 : Follows r s0) : ∀ a0, Follows r (State.pushE s0 a0) := by
  intro a0
  unfold State.pushE
  with_reducible repeat' (first | assumption | apply State.drainE_follows | apply State.enterE_follows | apply State.setPipe_follows | (refine follows_eq2 ?_ (by assumption)) | apply follows_ite | split)

theorem State.claimTribs_follows {r : State} : ∀ (a2 : Nat) {s0 : State} (h0 : Follows r s0) a0 a1, Follows r (State.claimTribs s0 a0 a1 a2) := by
  intro a2
  induction a2 with
  | zero => intro s0 h0 a0 a1; unfold State.claimTribs; with_reducible repeat' (first | assumption)
  | succ n ih => intro s0 h0 a0 a1; unfold State.claimTribs; with_reducible repeat' (first | assumption | apply State.issue_follows | apply State.setPipe_follows | apply State.countClaim_follows | apply State.claimSlot_follows | apply ih | apply follows_ite | split)

theorem State.claimWaiting_follows {r : State} : ∀ (a2 : Nat) {s0 : State} (h0 : Follows r s0) a0 a1, Follows r (State.claimWaiting s0 a0 a1 a2) := by
  intro a2
  induction a2 with
  | zero => intro s0 h0 a0 a1; unfold State.claimWaiting; with_reducible repeat' (first | assumption)
  | succ n ih => intro s0 h0 a0 a1; unfold State.claimWaiting; with_reducible repeat' (first | assumption | apply State.setPipe_follows | apply State.countClaim_follows | apply State.issue_follows | apply State.claimSlot_follows | apply State.claimTribs_follows | apply ih | apply follows_ite | split)

theorem State.enterRaw_follows {r : State} : ∀ (a1 : Nat) {s0 : State} (h0 : Follows r s0) a0, Follows r (State.enterRaw s0 a0 a1) := by
  intro a1
  induction a1 with
  | zero => intro s0 h0 a0; unfold State.enterRaw; with_reducible repeat' (first | assumption)
  | succ n ih => intro s0 h0 a0; unfold State.enterRaw; with_reducible repeat' (first | assumption | apply State.enterE_follows | apply State.setPipe_follows | apply ih | (refine follows_eq2 ?_ (by assumption)) | apply follows_ite | split | ((try lift_lets); intro x; clear_value x))

theorem State.toHearth_follows {r s0 : State} (h0 : Follows r s0) (p : Nat) (bs : Octets) (t : Bool) :
    Follows r (s0.toHearth p bs t) :=
  follows_ite (State.count_follows h0 Reg.ibDiscards) (h0.trans { Follows.refl s0 with })

theorem State.peerPaused_follows {r : State} {s0 : State} (h0 : Follows r s0) : ∀ a0 a1 a2, Follows r (State.peerPaused s0 a0 a1 a2) := by
  intro a0 a1 a2
  unfold State.peerPaused
  with_reducible repeat' (first | assumption | apply State.setPort_follows | exact ⟨rfl, rfl, rfl⟩ | apply follows_ite)

theorem State.macControl_follows {r : State} {s0 : State} (h0 : Follows r s0) : ∀ a0 a1, Follows r (State.macControl s0 a0 a1) := by
  intro a0 a1
  unfold State.macControl
  with_reducible repeat' (first | assumption | apply forEach_follows | apply State.peerPaused_follows | apply State.count_follows | exact port_traffic (by decide) (by decide) (by decide) | (refine fun (t : State) _ (_ : Follows r t) => ?_) | apply follows_ite)

theorem State.sendOwn_follows {r : State} {s0 : State} (h0 : Follows r s0) : ∀ a0 a1 a2, Follows r (State.sendOwn s0 a0 a1 a2) := by
  intro a0 a1 a2
  unfold State.sendOwn
  with_reducible repeat' (first | assumption | apply State.enqueue_follows | apply State.pushE_follows | apply State.tribAdd_follows | apply State.count_follows | apply State.emit_follows | apply State.newSerial_follows | exact port_traffic (by decide) (by decide) (by decide) | with_unfolding_all exact (rfl : (_ : Bool) = true) | apply follows_ite)

theorem State.sendT1s_follows {r s0 : State} (h0 : Follows r s0) (fr : Octets) : Follows r (s0.sendT1s fr) :=
  follows_ite h0 (h0.trans { Follows.refl s0 with })

theorem State.meshOut_follows {r : State} {s0 : State} (h0 : Follows r s0) : ∀ a0 a1, Follows r (State.meshOut s0 a0 a1) := by
  intro a0 a1
  unfold State.meshOut
  with_reducible repeat' (first | assumption | apply State.sendOwn_follows)

theorem State.meshSend_follows {r : State} {s0 : State} (h0 : Follows r s0) : ∀ a0 a1, Follows r (State.meshSend s0 a0 a1) := by
  intro a0 a1
  unfold State.meshSend
  with_reducible repeat' (first | assumption | apply State.meshOut_follows | apply State.count_follows | with_unfolding_all exact (rfl : (_ : Bool) = true) | apply follows_ite | split)

theorem State.sendVia_follows {r : State} {s0 : State} (h0 : Follows r s0) : ∀ a0 a1, Follows r (State.sendVia s0 a0 a1) := by
  intro a0 a1
  unfold State.sendVia
  with_reducible repeat' (first | assumption | apply State.meshSend_follows | apply State.sendOwn_follows | apply State.sendT1s_follows | split)

theorem State.sendFragment_follows {r : State} {s0 : State} (h0 : Follows r s0) : ∀ a0 a1 a2 a3, Follows r (State.sendFragment s0 a0 a1 a2 a3) := by
  intro a0 a1 a2 a3
  unfold State.sendFragment
  with_reducible repeat' (first | assumption | apply State.sendVia_follows | apply State.setSession_follows | rfl)

theorem State.sendSecured_follows {r : State} {s0 : State} (h0 : Follows r s0) : ∀ a0 a1 a2, Follows r (State.sendSecured s0 a0 a1 a2) := by
  intro a0 a1 a2
  unfold State.sendSecured
  with_reducible repeat' (first | assumption | apply State.sendFragment_follows | apply forEach_follows | (refine fun (t : State) _ (_ : Follows r t) => ?_) | split)

theorem State.announce_follows {r s0 : State} (h0 : Follows r s0) : Follows r s0.announce := by
  simp only [State.announce]
  split
  · exact h0
  · refine forEach_follows (fun s x h => forEach_follows (fun s n h => ?_) h) (follows_events h0 List.prefix_rfl)
    exact State.sendSecured_follows (State.draw_follows (State.draw_follows h)) _ _ _

theorem State.acceptPn_follows {r : State} {s0 : State} (h0 : Follows r s0) : ∀ a0 a1, Follows r (State.acceptPn s0 a0 a1) := by
  intro a0 a1
  unfold State.acceptPn
  with_reducible repeat' (first | assumption | apply State.count_follows | apply State.saTouch_follows | apply State.slotFollow_follows | apply State.putN_follows | with_unfolding_all exact (rfl : (_ : Bool) = true))

theorem State.learnAsk_follows {r : State} {s0 : State} (h0 : Follows r s0) : ∀ a0 a1, Follows r (State.learnAsk s0 a0 a1) := by
  intro a0 a1
  unfold State.learnAsk
  with_reducible repeat' (first | assumption | apply State.setBolt_follows | exact ⟨rfl, rfl, rfl, rfl⟩ | apply follows_ite)

theorem State.accept_follows {r s t : State} {f : Frame} {c : Octets} (e : s.accept f c = some t) (h : Follows r s) : Follows r t := by
  unfold State.accept at e
  split at e
  · cases e; exact h
  · split at e
    · cases e; exact h
    · split at e
      · exact absurd e (by simp)
      · cases e; exact State.learnAsk_follows (State.acceptPn_follows h _ _) _ _

theorem State.endD_follows {r s0 : State} (h0 : Follows r s0) {g : State → State} (hg : ∀ t, Follows r t → Follows r (g t))
    (f : Frame) (c : Octets) (a b : Bool) : Follows r (s0.endD f c a b g) := by
  unfold State.endD
  refine follows_ite (State.dropFinal_follows h0 _) (follows_ite ?_ (State.dropFinal_follows (hg _ h0) _))
  split
  · exact State.dropFinal_follows (hg _ (State.accept_follows (by assumption) h0)) _
  · refine State.dropFinal_follows ?_ _
    split
    · exact State.count_follows h0 (Reg.saLate _)
    · exact h0

theorem State.gateD_follows {r : State} {s0 : State} (h0 : Follows r s0) : ∀ a0, Follows r (State.gateD s0 a0) := by
  intro a0
  unfold State.gateD
  with_reducible repeat' (first | assumption | apply State.crosses_follows | apply State.enqueue_follows)

theorem policyScan_traffic {s : State} {c : Nat} {bs : Octets} {b : Bool} {k : Key} (e : s.policyPick c bs = .error (b, k)) :
    trafficKey k = true := by
  simp only [State.policyPick] at e
  split at e
  · cases e; exact port_traffic (by decide) (by decide) (by decide)
  · exact absurd e (by simp)
  · split at e
    · cases e; exact port_traffic (by decide) (by decide) (by decide)
    · split at e
      · exact absurd e (by simp)
      · cases e; exact port_traffic (by decide) (by decide) (by decide)

theorem sectorClosed_traffic {s : State} {n b : Nat} {ks : List Key} (e : s.sectorClosed n b = some ks) :
    ∀ k ∈ ks, trafficKey k = true := by
  have h2 : trafficKey (Reg.bSectorNotRunning b) = true := bolt_traffic (by decide) (by decide) (by decide)
  simp only [State.sectorClosed] at e
  split at e
  · cases e; simp
  · split at e
    · exact absurd e (by simp)
    · cases e; simpa using h2

theorem one_traffic {k : Key} (h : trafficKey k = true) : ∀ x ∈ [k], trafficKey x = true := by simpa using h

theorem State.deliverD_follows {r s0 : State} (h0 : Follows r s0) (f : Frame) (clear : Octets) (secured verified : Bool) :
    Follows r (s0.deliverD f clear secured verified).2 := by
  unfold State.deliverD
  extract_lets q c stop f1 len s long
  have hs : ∀ t g ks, Follows r t → (∀ k ∈ ks, trafficKey k = true) → Follows r (stop t g ks).2 := fun t g ks h hk =>
    State.endD_follows h (fun u hu => State.counts_follows _ hu hk) _ _ _ _
  have hp : ∀ {p k sub : Nat}, k < 4 → sub < 256 → portTraffic k sub = true → ∀ x ∈ [portKey p k sub], trafficKey x = true :=
    fun a b c => one_traffic (port_traffic a b c)
  have h1 : Follows r s := State.policyOf_follows h0 _ _ _
  clear_value long s len stop f1
  refine follows_ite2 (hs _ _ _ h0 (hp (by decide) (by decide) (by decide))) ?_
  refine follows_ite2 (hs _ _ _ h0 (hp (by decide) (by decide) (by decide))) ?_
  split
  · rename_i faulted k e
    refine hs _ _ _ h0 (one_traffic ?_)
    split
    · exact policyScan_traffic e
    · exact port_traffic (by decide) (by decide) (by decide)
  · rename_i action queue stream _
    extract_lets f2 begun rbv goes f3 fault closed accepted
    have ha : ∀ t, accepted = some t → Follows r t := by
      intro t e
      simp only [accepted] at e
      split at e
      · exact State.accept_follows e h1
      · rw [← Option.some.inj e]; exact h1
    have hc : ∀ ks, closed = some ks → ∀ k ∈ ks, trafficKey k = true := by
      intro ks e
      simp only [closed] at e
      split at e
      · exact sectorClosed_traffic e
      · exact absurd e (by simp)
    clear_value accepted closed fault f3 goes rbv begun f2
    refine follows_ite2 (State.dropFinal_follows h0 _) (follows_ite2 (hs _ _ _ h1 (hp (by decide) (by decide) (by decide)))
      (follows_ite2 (hs _ _ _ h1 (hp (by decide) (by decide) (by decide))) ?_))
    split
    · exact State.dropFinal_follows (State.lengthLimit_follows h1 _ _ _ _) _
    · split
      · exact hs _ _ _ h1 (hc _ rfl)
      · refine follows_ite2 (hs _ _ _ h1 (one_traffic rfl)) (follows_ite2 (hs _ _ _ h1 (hp (by decide) (by decide) (by decide))) ?_)
        cases accepted with
        | none =>
          refine State.dropFinal_follows ?_ _
          split
          · exact State.count_follows h1 (Reg.saLate _)
          · exact h1
        | some t =>
          have h2 := ha t rfl
          dsimp only
          have h3 : Follows r (if long = true then t.count (Reg.pOversize (t.interfaceOf c)) else t) :=
            follows_ite (State.count_follows h2 (Reg.pOversize _)) h2
          generalize (if long = true then t.count (Reg.pOversize (t.interfaceOf c)) else t) = t2 at h3 ⊢
          have h4 : Follows r (if (secured && !verified && !f3.bad && !f3.poison) = true then t2.count (Reg.bRbvTails f3.b) else t2) :=
            follows_ite (State.count_follows h3 (Reg.bRbvTails _)) h3
          generalize (if (secured && !verified && !f3.bad && !f3.poison) = true then t2.count (Reg.bRbvTails f3.b) else t2) = t3 at h4 ⊢
          have h5 : Follows r (if action = 3 then t3.readRow f3.b .d 8 8 stream else t3) :=
            follows_ite (State.readRow_follows h4 _ _ _ _ _) h4
          exact follows_ite2 (State.correct_follows h5 _) h5

theorem State.recheck_follows {r s t : State} {f : Frame} {sa : Nat} (e : s.recheck f sa = .error t) (h : Follows r s) : Follows r t := by
  simp only [State.recheck] at e
  split at e
  · rw [← Except.error.inj e]; exact State.count_follows h (Reg.bNotUsingSa f.b)
  · split at e
    · rw [← Except.error.inj e]; exact State.count_follows (State.count_follows h (Reg.saDiscards sa)) (Reg.bNotUsingSa f.b)
    · split at e
      · exact absurd e (by simp)
      · split at e
        · rw [← Except.error.inj e]; exact State.count_follows h (Reg.bInvalidPn f.b)
        · split at e
          · rw [← Except.error.inj e]; exact State.count_follows h (Reg.saLate sa)
          · split at e
            · rw [← Except.error.inj e]; exact State.count_follows h (Reg.bNotUsingSa f.b)
            · exact absurd e (by simp)

theorem State.processD_follows {r s0 : State} (h0 : Follows r s0) (f : Frame) : Follows r (s0.processD f).2 := by
  unfold State.processD
  refine follows_ite2 (State.deliverD_follows h0 _ _ _ _) ?_
  cases f.sa with
  | none => exact State.deliverD_follows h0 _ _ _ _
  | some sa =>
    dsimp only
    have hs : Follows r (s0.unpinFrame f) := State.unpinFrame_follows h0 _
    generalize s0.unpinFrame f = s at hs ⊢
    cases e : s.recheck f sa with
    | error t => exact State.dropFinal_follows (State.recheck_follows e hs) _
    | ok g =>
      dsimp only
      generalize g.opened.getD (false, []) = x
      have h1 : Follows r (if (!x.1 && !g.bad && !g.poison) = true then s.count (Reg.saIcvFail sa) else s) :=
        follows_ite (State.count_follows hs (Reg.saIcvFail _)) hs
      generalize (if (!x.1 && !g.bad && !g.poison) = true then s.count (Reg.saIcvFail sa) else s) = u at h1 ⊢
      refine follows_ite2 ?_ (follows_ite2 ?_ (State.deliverD_follows h1 _ _ _ _))
      · exact State.endD_follows (g := fun t => t.macControl (t.interfaceOf g.inPort) x.2) h1 (fun t ht => State.macControl_follows ht _ _) g x.2 true true
      · exact State.endD_follows (g := fun t => t.toHearth g.inPort x.2 true) h1 (fun t ht => State.toHearth_follows ht _ _ _) g x.2 true true

theorem State.drainD_follows {r : State} : ∀ (a1 : Nat) {s0 : State} (h0 : Follows r s0) a0, Follows r (State.drainD s0 a0 a1) := by
  intro a1
  induction a1 with
  | zero => intro s0 h0 a0; unfold State.drainD; with_reducible repeat' (first | assumption)
  | succ n ih => intro s0 h0 a0; unfold State.drainD; with_reducible repeat' (first | assumption | apply State.gateD_follows | apply State.crosses_follows | apply State.setPipe_follows | apply State.processD_follows | apply ih | (refine follows_eq2 ?_ (by assumption)) | apply follows_ite | split | ((try lift_lets); intro x; clear_value x))

theorem State.releaseAfter_follows {r : State} : ∀ (a1 : Nat) {s0 : State} (h0 : Follows r s0) a0, Follows r (State.releaseAfter s0 a0 a1) := by
  intro a1
  induction a1 with
  | zero => intro s0 h0 a0; unfold State.releaseAfter; with_reducible repeat' (first | assumption)
  | succ n ih => intro s0 h0 a0; unfold State.releaseAfter; with_reducible repeat' (first | assumption | apply State.setPipe_follows | apply State.gateD_follows | apply ih | apply follows_ite | split)

theorem State.unblock_follows {r : State} {s0 : State} (h0 : Follows r s0) : ∀ a0, Follows r (State.unblock s0 a0) := by
  intro a0
  unfold State.unblock
  with_reducible repeat' (first | assumption | apply State.enterRaw_follows | apply State.drainE_follows | apply State.drainD_follows | apply State.releaseAfter_follows | apply State.claimWaiting_follows | apply follows_ite)

theorem State.settle_follows {r : State} {s0 : State} (h0 : Follows r s0) : Follows r (State.settle s0) := by
  unfold State.settle
  with_reducible repeat' (first | assumption | apply State.saRefresh_follows | apply State.pairSettle_follows | apply State.announce_follows | apply State.unblock_follows | apply forEach_follows | (refine fun (t : State) _ (_ : Follows r t) => ?_))

/-- A command that ends in `done` answers a next state, which is its own state with the traffic moved on. -/
theorem done_follows (s : State) : ∃ t, done s = .next t ∧ Follows s t := ⟨s.settle, rfl, State.settle_follows (Follows.refl s)⟩

end Sys2Proof.Machine
end

