-- ==== Sys2Proof/Laws/Commands.lean ====
section
/-! SUPPORT. Laws/Commands.lean: how the two forms of a command's outcome complete: an event ends in `done`, a host command in
`hostDone`. A proof that a command completes needs only the equation of its own effect. -/

namespace Sys2Proof.Machine

/-- An event command whose outcome is `done u` completes with u. -/
theorem completes_of_done {c : Instr} {s u : State} (h : exec c s = done u) : Completes c s u := by
  obtain ⟨t, e, f⟩ := done_follows u
  exact ⟨t, h.trans e, f⟩

theorem hostDone_answers {s : State} {n : Nat} (h : s.answers n = true) (r : Eff) :
    hostDone n s r = done (answered n r).afterResponse := by
  unfold hostDone; rw [if_pos h]

/-- A request that no abort stands against comes to its effect. -/
theorem State.request_served {s : State} {n addr v : Nat} {w : Bool} {form : Option Nat}
    (h : firstAbort (s.admission n addr w v ++ [form]) = none) (r : Eff) : s.request n addr w v form r = r := by
  unfold State.request underAborts; rw [h]

theorem hostWrite_serves {s : State} {n addr v : Nat} (h : Serves s n addr v) (r : Eff) :
    hostWrite n addr v s r = done (answered n r).afterResponse := by
  show hostDone n s (s.request n addr true v (writeForm addr v) r) = _
  rw [State.request_served (form := writeForm addr v) h.2, hostDone_answers h.1]

theorem hostRead_serves {s : State} {n addr : Nat} (h : ServesRead s n addr) (r : Eff) :
    hostRead n addr s r = done (answered n r).afterResponse := by
  unfold hostRead
  rw [State.request_served h.2, hostDone_answers h.1]

/-- A host write whose effect is `r` answers r where Hearth takes it. -/
theorem answers_of_write {c : Instr} {s : State} {n addr v : Nat} {e r : Eff} (hc : exec c s = hostWrite n addr v s e)
    (h : Serves s n addr v) (he : e = r) : Answers c s n r :=
  completes_of_done (by rw [hc, hostWrite_serves h, he])

theorem answers_of_read {c : Instr} {s : State} {n addr : Nat} {e r : Eff} (hc : exec c s = hostRead n addr s e)
    (h : ServesRead s n addr) (he : e = r) : Answers c s n r :=
  completes_of_done (by rw [hc, hostRead_serves h, he])

/-- Checks that find nothing let the effect through. -/
theorem check_none {s : State} {cs : List (Option Nat)} (h : firstAbort cs = none) (r : Eff) : check s cs r = r := by
  unfold check; rw [h]

theorem checkInOrder_none {s : State} {cs : List (Option Nat)} (h : inOrder cs = none) (r : Eff) : checkInOrder s cs r = r := by
  unfold checkInOrder; rw [h]

theorem underAborts_none {s : State} {cs : List (Option Nat)} (h : firstAbort cs = none) (r : Eff) : underAborts s cs r = r := by
  unfold underAborts; rw [h]

/-- A Silsy frame that comes through is handled in the state that its way leaves. -/
theorem State.admitVia_some {s u : State} {via : Via} (h : s.afterVia via = some u) (f : State → State) : s.admitVia via f = f u := by
  unfold State.afterVia at h
  unfold State.admitVia
  split at h
  · exact absurd h (by simp)
  · rw [if_neg ‹_›]
    cases via with
    | mesh p m x => exact congrArg f (Option.some.inj h)
    | t1s m =>
      dsimp only at h ⊢
      split at h
      · exact absurd h (by simp)
      · rw [if_neg ‹_›, Option.some.inj h]
    | inband p m t x =>
      dsimp only at h ⊢
      split at h
      · exact absurd h (by simp)
      · rename_i hn
        simp only [not_or] at hn
        obtain ⟨h1, h2, h3, h4, h5, h6⟩ := hn
        rw [if_neg (by simp only [not_or]; exact ⟨h1, h2, h3, h4⟩)]
        unfold State.admitInband
        rw [if_neg h5]
        unfold State.rateLimited
        cases e : s.takeToken with
        | mk b v =>
          cases b with
          | false => exact absurd (by rw [e]) h6
          | true => rw [e] at h; rw [← Option.some.inj h]

/-- A message that fits into one frame is one fragment, its first and last (R577). -/
theorem fragments_one {m : Octets} (h : m.length ≤ 1440) : fragments m = [(128, m)] := by
  simp [fragments, cutBody, h, List.zipIdx]

/-- A message of three frames. -/
theorem fragments_three {m : Octets} (h : 2880 < m.length) (k : m.length ≤ 4320) :
    fragments m = [(0, m.take 1440), (1, (m.drop 1440).take 1440), (130, (m.drop 1440).drop 1440)] := by
  have a : ¬ m.length ≤ 1440 := by omega
  have b : ¬ (m.drop 1440).length ≤ 1440 := by simp only [List.length_drop]; omega
  have c : ((m.drop 1440).drop 1440).length ≤ 1440 := by simp only [List.length_drop]; omega
  have e : cutBody 8 m = [m.take 1440, (m.drop 1440).take 1440, (m.drop 1440).drop 1440] := by
    rw [cutBody, if_neg a, cutBody, if_neg b, cutBody, if_pos c]
  simp only [fragments, e]
  rfl

/-- A message in clear that fits into one frame is that frame. -/
theorem State.byFrames_one {s : State} {via : Via} {m : Octets} (h : m.length ≤ 1440) (f : State → Nat → Octets → State) :
    s.byFrames via m f = s.admitVia via (fun s => f s 128 m) := by
  unfold State.byFrames; rw [fragments_one h]; rfl

end Sys2Proof.Machine
end

