-- ==== Sys2Proof/Laws/Keeps.lean ====
section
/-! SUPPORT. Laws/Keeps.lean: the relation that every operation keeps: storage, memories and the event queue stay in
form, OTP bits are only burned, and the part stays the part. The base operations; the Keeps files beside it hold the rest. -/

namespace Sys2Proof.Machine

theorem Otp.Grows.refl (a : Otp) : Otp.Grows a a := by
  constructor <;> simp

theorem BitVec.or_grows {w : Nat} {a b c : BitVec w} (h : a ||| b = b) (hc : b ||| c = c) : a ||| c = c := by
  rw [← hc, ← BitVec.or_assoc, h]

theorem Otp.Grows.trans {a b c : Otp} (h : Otp.Grows a b) (k : Otp.Grows b c) : Otp.Grows a c where
  codeword := BitVec.or_grows h.codeword k.codeword
  tokens   := BitVec.or_grows h.tokens k.tokens
  floor    := BitVec.or_grows h.floor k.floor
  marker0  := BitVec.or_grows h.marker0 k.marker0
  marker1  := BitVec.or_grows h.marker1 k.marker1
  ember0   := BitVec.or_grows h.ember0 k.ember0
  ember1   := BitVec.or_grows h.ember1 k.ember1
  evidence := BitVec.or_grows h.evidence k.evidence
  deviceId := BitVec.or_grows h.deviceId k.deviceId
  revoked  := BitVec.or_grows h.revoked k.revoked
  dieId    := k.dieId.trans h.dieId
  mgmtMac  := k.mgmtMac.trans h.mgmtMac

/-- The form that every step keeps. -/
structure Form (s : State) : Prop where
  store  : s.StoreWf
  copies : s.CopiesWf
  queue  : s.QueueBounded
  memory : s.MemoryWf

/-- What every operation keeps from `r` to `s`. -/
structure Keeps (r s : State) : Prop where
  form : Form r → Form s
  otp  : Otp.Grows r.otp s.otp
  part : s.part = r.part ∧ s.siliconStep = r.siliconStep

theorem Keeps.refl (s : State) : Keeps s s := ⟨id, Otp.Grows.refl _, rfl, rfl⟩

theorem Keeps.trans {r s t : State} (h : Keeps r s) (k : Keeps s t) : Keeps r t :=
  ⟨fun x => k.form (h.form x), h.otp.trans k.otp, k.part.1.trans h.part.1, k.part.2.trans h.part.2⟩

/-- An outcome whose next state, if it is one, keeps what `Keeps` says. -/
def KeepsOut (r : State) (o : Host.Outcome State Fault Refusal) : Prop := ∀ t, o = .next t → Keeps r t

theorem keeps_eq2 {α : Type} {r t : State} {a : α} {p : α × State} (h : Keeps r p.2) (e : p = (a, t)) : Keeps r t := by
  subst e; exact h

theorem keeps_eq1 {α : Type} {r t : State} {a : α} {p : State × α} (h : Keeps r p.1) (e : p = (t, a)) : Keeps r t := by
  subst e; exact h

theorem keeps_eq3 {α β : Type} {r t : State} {a : α} {b : β} {p : α × β × State} (h : Keeps r p.2.2)
    (e : p = (a, b, t)) : Keeps r t := by
  subst e; exact h

theorem keeps_eq4 {α β γ : Type} {r t : State} {a : α} {b : β} {c : γ} {p : α × β × γ × State} (h : Keeps r p.2.2.2)
    (e : p = (a, b, c, t)) : Keeps r t := by
  subst e; exact h

/-- A function of states that keeps what `Keeps` says. -/
def FnKeeps (g : State → State) : Prop := ∀ r t, Keeps r t → Keeps r (g t)

theorem FnKeeps.run {g : State → State} (h : FnKeeps g) {r t : State} (ht : Keeps r t) : Keeps r (g t) := h r t ht

theorem keeps_ite {r a b : State} {c : Prop} {_ : Decidable c} (ha : Keeps r a) (hb : Keeps r b) : Keeps r (if c then a else b) := by
  split <;> assumption

theorem keeps_ite1 {α : Type} {r : State} {a b : State × α} {c : Prop} {_ : Decidable c} (ha : Keeps r a.1) (hb : Keeps r b.1) :
    Keeps r (if c then a else b).1 := by
  split <;> assumption

theorem keeps_ite2 {α : Type} {r : State} {a b : α × State} {c : Prop} {_ : Decidable c} (ha : Keeps r a.2) (hb : Keeps r b.2) :
    Keeps r (if c then a else b).2 := by
  split <;> assumption

theorem keepsOut_ite {r : State} {a b : Host.Outcome State Fault Refusal} {c : Prop} {_ : Decidable c} (ha : KeepsOut r a)
    (hb : KeepsOut r b) : KeepsOut r (if c then a else b) := by
  split <;> assumption

/-- A change of fields that the relation does not speak of. -/
theorem keeps_mk {r s : State} (h : Keeps r s)
    {x1 x2 x3 x4 x5 x6 x7 x8 x9 x10 x11 x12 x13 x14 x15 x16 x17 x18 x19 x20 x21 x22 x23 x24 x25 x26 x27 x28 x29 x30
     x31 x32 x33 x34 x35 x36} :
    Keeps r { part := s.part, siliconStep := s.siliconStep, mainPower := x1, powerGood := x2, rstLow := x3, phase := x4,
              addrSel := x5, pairId := x6, objs := s.objs, time := x7, tsIn := x8, otp := s.otp, boot := s.boot,
              hearth := x9, sessions := x10, arrivals := x36, proposals := x11, events := s.events, drains := x12, bolts := x13,
              ports := x14, tribs := x15, groups := x16, twLanes := x17, lanes := x18, alarm := x19, flue := x20,
              backup := x21, retort := x22, sm := s.sm, pair := x23, mesh := x24, trust := x25, i3c := x26, t1s := x27,
              bucket := x28, tracer := x29, hearthIn := x30, tjWarned := x31, free := x32, serial := x33, wire := x34,
              pending := x35 } :=
  ⟨fun x => ⟨(h.form x).store, (h.form x).copies, (h.form x).queue, (h.form x).memory⟩, h.otp, h.part⟩

/-- A change of storage to another storage in form. -/
theorem keeps_objs {r s : State} (h : Keeps r s) {o : Store} (ho : Form s → Store.wf o = true) :
    Keeps r { s with objs := o } :=
  h.trans ⟨fun x => ⟨ho x, x.copies, x.queue, x.memory⟩, Otp.Grows.refl _, rfl, rfl⟩

theorem keeps_events {r s : State} (h : Keeps r s) {e : Events}
    (he : s.events.queue.length ≤ 1024 → e.queue.length ≤ 1024) : Keeps r { s with events := e } :=
  h.trans ⟨fun x => ⟨x.store, x.copies, he x.queue, x.memory⟩, Otp.Grows.refl _, rfl, rfl⟩

theorem keeps_otp {r s : State} (h : Keeps r s) {o : Otp} (ho : Otp.Grows s.otp o) : Keeps r { s with otp := o } :=
  h.trans ⟨fun x => ⟨x.store, x.copies, x.queue, x.memory⟩, ho, rfl, rfl⟩

theorem keeps_boot {r s : State} (h : Keeps r s) {b : BootStore} (hc : s.CopiesWf → Store.wf b.copy0.content = true ∧ Store.wf b.copy1.content = true)
    (hm : s.MemoryWf → Mem.wf b.slot0.bytes = true ∧ Mem.wf b.slot1.bytes = true) : Keeps r { s with boot := b } :=
  h.trans ⟨fun x => ⟨x.store, hc x.copies, x.queue, ⟨(hm x.memory).1, (hm x.memory).2, x.memory.2.2⟩⟩, Otp.Grows.refl _, rfl, rfl⟩

theorem keeps_sm {r s : State} (h : Keeps r s) {m : FMap SmRange} (hm : (∀ e ∈ s.sm, Mem.wf e.2.data = true) → ∀ e ∈ m, Mem.wf e.2.data = true) :
    Keeps r { s with sm := m } :=
  h.trans ⟨fun x => ⟨x.store, x.copies, x.queue, ⟨x.memory.1, x.memory.2.1, hm x.memory.2.2⟩⟩, Otp.Grows.refl _, rfl, rfl⟩

theorem State.put_keeps {r s : State} (h : Keeps r s) (k : Key) (v : Val) : Keeps r (s.put k v) :=
  keeps_objs h (fun x => Store.wr_wf x.store k v)

theorem State.clear_keeps {r s : State} (h : Keeps r s) (k : Key) : Keeps r (s.clear k) :=
  keeps_objs h (fun x => Store.erase_wf x.store k)

theorem State.clearWhere_keeps {r s : State} (h : Keeps r s) (p : Key → Bool) : Keeps r (s.clearWhere p) :=
  keeps_objs h (fun x => Store.filter_wf x.store _)

theorem foldl_keeps {α : Type} {r : State} {f : State → α → State} (hf : ∀ s x, Keeps r s → Keeps r (f s x)) :
    ∀ {l : List α} {s : State}, Keeps r s → Keeps r (l.foldl f s)
  | [], _, h => h
  | x :: l, s, h => foldl_keeps hf (l := l) (hf s x h)

theorem foldl2_keeps {α β : Type} {r : State} {f : β × State → α → β × State} (hf : ∀ p x, Keeps r p.2 → Keeps r (f p x).2) :
    ∀ {l : List α} {p : β × State}, Keeps r p.2 → Keeps r (l.foldl f p).2
  | [], _, h => h
  | x :: l, p, h => foldl2_keeps hf (l := l) (hf p x h)

theorem forEach_keeps {α : Type} {r : State} {f : State → α → State} (hf : ∀ s x, Keeps r s → Keeps r (f s x))
    {l : List α} {s : State} (h : Keeps r s) : Keeps r (forEach l f s) := foldl_keeps hf h

theorem okay_keeps {r s : State} (h : Keeps r s) : Keeps r (okay s).1 := h
theorem refuse_keeps {r s : State} (h : Keeps r s) (c : Nat) : Keeps r (refuse s c).1 := h

theorem check_keeps {r s : State} (h : Keeps r s) (cs : List (Option Nat)) {e : Eff} (he : Keeps r e.1) : Keeps r (check s cs e).1 := by
  unfold check; split <;> assumption

theorem checkInOrder_keeps {r s : State} (h : Keeps r s) (cs : List (Option Nat)) {e : Eff} (he : Keeps r e.1) :
    Keeps r (checkInOrder s cs e).1 := by
  unfold checkInOrder; split <;> assumption

theorem underAborts_keeps {r s : State} (h : Keeps r s) (cs : List (Option Nat)) {e : Eff} (he : Keeps r e.1) :
    Keeps r (underAborts s cs e).1 := by
  unfold underAborts
  split
  · exact he
  · split
    · split
      · exact he
      · exact h
    · exact h

theorem State.request_keeps {r s : State} (h : Keeps r s) (n a : Nat) (w : Bool) (v : Nat) (form : Option Nat) {e : Eff}
    (he : Keeps r e.1) : Keeps r (s.request n a w v form e).1 := underAborts_keeps h _ he

theorem State.smWrite_keeps {r s : State} (h : Keeps r s) (k off : Nat) (bs : Octets) : Keeps r (s.smWrite k off bs) := by
  refine keeps_sm h (fun hm e he => ?_)
  rcases FMap.mem_put he with rfl | he
  · refine Mem.writeAll_wf ?_ off bs
    show Mem.wf (s.sm.getD k {}).data = true
    unfold FMap.getD
    split
    · exact hm _ (FMap.mem_of_get? (by assumption))
    · rfl
  · exact hm e he

theorem State.putAll_keeps {r s : State} (h : Keeps r s) (kvs : List (Key × Val)) : Keeps r (s.putAll kvs) :=
  foldl_keeps (fun _ _ h => State.put_keeps h _ _) h

end Sys2Proof.Machine
end

