-- ==== Sys2Proof/Laws/KeepsOps.lean ====
section
/-! SUPPORT. What a step keeps, once for every operation of the shared operations: the form of the storage and the bits already
burned (`Keeps`, Laws/Keeps.lean). A proof cites the lemma of the operation it meets and never unfolds it. -/

namespace Sys2Proof.Machine

theorem State.putN_keeps {r : State} {s0 : State} (h0 : Keeps r s0) : ∀ a0 a1, Keeps r (State.putN s0 a0 a1) := by
  intro a0 a1
  unfold State.putN
  with_reducible repeat' (first | assumption | apply State.put_keeps)

theorem State.putO_keeps {r : State} {s0 : State} (h0 : Keeps r s0) : ∀ a0 a1, Keeps r (State.putO s0 a0 a1) := by
  intro a0 a1
  unfold State.putO
  with_reducible repeat' (first | assumption | apply State.put_keeps)

theorem State.countBy_keeps {r : State} {s0 : State} (h0 : Keeps r s0) : ∀ a0 a1, Keeps r (State.countBy s0 a0 a1) := by
  intro a0 a1
  unfold State.countBy
  with_reducible repeat' (first | assumption | apply State.putN_keeps)

theorem State.count_keeps {r : State} {s0 : State} (h0 : Keeps r s0) : ∀ a0, Keeps r (State.count s0 a0) := by
  intro a0
  unfold State.count
  with_reducible repeat' (first | assumption | apply State.countBy_keeps)

theorem State.setPort_keeps {r : State} {s0 : State} (h0 : Keeps r s0) : ∀ a0 a1, Keeps r (State.setPort s0 a0 a1) := by
  intro a0 a1
  unfold State.setPort
  with_reducible repeat' (first | assumption | apply keeps_mk)

theorem State.setBolt_keeps {r : State} {s0 : State} (h0 : Keeps r s0) : ∀ a0 a1, Keeps r (State.setBolt s0 a0 a1) := by
  intro a0 a1
  unfold State.setBolt
  with_reducible repeat' (first | assumption | apply keeps_mk)

theorem State.setTrib_keeps {r : State} {s0 : State} (h0 : Keeps r s0) : ∀ a0 a1, Keeps r (State.setTrib s0 a0 a1) := by
  intro a0 a1
  unfold State.setTrib
  with_reducible repeat' (first | assumption | apply keeps_mk)

theorem State.setGrp_keeps {r : State} {s0 : State} (h0 : Keeps r s0) : ∀ a0 a1, Keeps r (State.setGrp s0 a0 a1) := by
  intro a0 a1
  unfold State.setGrp
  with_reducible repeat' (first | assumption | apply keeps_mk)

theorem State.setTwLane_keeps {r : State} {s0 : State} (h0 : Keeps r s0) : ∀ a0 a1, Keeps r (State.setTwLane s0 a0 a1) := by
  intro a0 a1
  unfold State.setTwLane
  with_reducible repeat' (first | assumption | apply keeps_mk)

theorem State.setLane_keeps {r : State} {s0 : State} (h0 : Keeps r s0) : ∀ a0 a1, Keeps r (State.setLane s0 a0 a1) := by
  intro a0 a1
  unfold State.setLane
  with_reducible repeat' (first | assumption | apply keeps_mk)

theorem State.setSession_keeps {r : State} {s0 : State} (h0 : Keeps r s0) : ∀ a0 a1, Keeps r (State.setSession s0 a0 a1) := by
  intro a0 a1
  unfold State.setSession
  with_reducible repeat' (first | assumption | apply keeps_mk)

theorem State.setPipe_keeps {r : State} {s0 : State} (h0 : Keeps r s0) : ∀ a0 a1 a2, Keeps r (State.setPipe s0 a0 a1 a2) := by
  intro a0 a1 a2
  unfold State.setPipe
  with_reducible repeat' (first | assumption | apply State.setBolt_keeps | split)

theorem State.draw_keeps {r s0 : State} (h0 : Keeps r s0) : Keeps r s0.draw.2 := keeps_mk h0

theorem State.drawBytes_keeps {r s0 : State} (h0 : Keeps r s0) (n : Nat) : Keeps r (s0.drawBytes n).2 := keeps_mk h0

theorem State.logRecord_keeps {r s0 : State} (h0 : Keeps r s0) (x : Record) : Keeps r (s0.logRecord x) := by
  unfold State.logRecord
  dsimp only
  have hs := State.putN_keeps h0 Reg.smLogNext ((x.seq + 1) % 16777216)
  generalize s0.putN Reg.smLogNext ((x.seq + 1) % 16777216) = s at hs ⊢
  have hb : ∀ l, Keeps r { s with events := { s.events with badLog := l } } := fun _ => keeps_events hs id
  split
  · split
    · exact State.count_keeps (hb _) _
    · exact State.smWrite_keeps hs _ _ _
  · exact State.count_keeps (State.count_keeps hs _) _
  · exact hs

theorem State.notify_keeps {r s0 : State} (h0 : Keeps r s0) (x : Record) : Keeps r (s0.notify x) := by
  have h1 : ∀ ns, Keeps r { s0 with events := { s0.events with notes := ns } } := fun _ => keeps_events h0 id
  simp only [State.notify]
  split
  · split
    · exact keeps_mk (h1 (s0.events.notes ++ [(x.code / 65536, x.seq)]))
    · exact h1 _
  · exact h0

theorem State.enter_keeps {r s0 : State} (h0 : Keeps r s0) (c t o d : Nat) : Keeps r (s0.enter c t o d) := by
  simp only [State.enter]
  split
  · rename_i hlt
    refine State.logRecord_keeps (State.notify_keeps (keeps_events h0 (fun _ => ?_)) _) _
    simp only [List.length_append, List.length_cons, List.length_nil]
    omega
  · refine State.logRecord_keeps (State.count_keeps (keeps_events h0 (fun h => ?_)) _) _
    exact h

theorem State.raise_keeps {r : State} {s0 : State} (h0 : Keeps r s0) : ∀ a0 a1 a2, Keeps r (State.raise s0 a0 a1 a2) := by
  intro a0 a1 a2
  unfold State.raise
  with_reducible repeat' (first | assumption | apply State.enter_keeps | apply keeps_ite)

theorem State.raiseEarly_keeps {r s0 : State} (h0 : Keeps r s0) (c o d : Nat) : Keeps r (s0.raiseEarly c o d) := by
  simp only [State.raiseEarly]
  split
  · exact State.raise_keeps h0 _ _ _
  · exact keeps_events h0 id

theorem State.raiseIn_keeps {r s0 : State} (h0 : Keeps r s0) (sec c k o d : Nat) : Keeps r (s0.raiseIn sec c k o d) := by
  have hl : ∀ l, Keeps r { s0 with events := { s0.events with limited := l } } := fun _ => keeps_events h0 id
  unfold State.raiseIn
  exact keeps_ite h0 (State.raise_keeps (hl _) _ _ _)

theorem State.raiseKeyed_keeps {r : State} {s0 : State} (h0 : Keeps r s0) : ∀ a0 a1 a2 a3, Keeps r (State.raiseKeyed s0 a0 a1 a2 a3) := by
  intro a0 a1 a2 a3
  unfold State.raiseKeyed
  with_reducible repeat' (first | assumption | apply State.raiseIn_keeps)

theorem State.raiseOnce_keeps {r : State} {s0 : State} (h0 : Keeps r s0) : ∀ a0 a1 a2, Keeps r (State.raiseOnce s0 a0 a1 a2) := by
  intro a0 a1 a2
  unfold State.raiseOnce
  with_reducible repeat' (first | assumption | apply State.raiseKeyed_keeps)

theorem State.counts_keeps {r s0 : State} (h0 : Keeps r s0) (ks : List Key) : Keeps r (s0.counts ks) :=
  forEach_keeps (fun _ _ h => State.count_keeps h _) h0

theorem State.pc_keeps {r : State} {s0 : State} (h0 : Keeps r s0) : ∀ a0 a1 a2, Keeps r (State.pc s0 a0 a1 a2) := by
  intro a0 a1 a2
  unfold State.pc
  with_reducible repeat' (first | assumption | apply State.countBy_keeps | apply forEach_keeps | (refine fun (t : State) _ (_ : Keeps r t) => ?_) | apply keeps_ite)

theorem State.bumpVersion_keeps {r : State} {s0 : State} (h0 : Keeps r s0) : ∀ a0 a1, Keeps r (State.bumpVersion s0 a0 a1) := by
  intro a0 a1
  unfold State.bumpVersion
  with_reducible repeat' (first | assumption | apply State.putN_keeps)

theorem State.setRowState_keeps {r : State} {s0 : State} (h0 : Keeps r s0) : ∀ a0 a1 a2, Keeps r (State.setRowState s0 a0 a1 a2) := by
  intro a0 a1 a2
  unfold State.setRowState
  with_reducible repeat' (first | assumption | apply State.putN_keeps | apply State.bumpVersion_keeps)

theorem State.markRoles_keeps {r : State} {s0 : State} (h0 : Keeps r s0) : ∀ a0, Keeps r (State.markRoles s0 a0) := by
  intro a0
  unfold State.markRoles
  with_reducible repeat' (first | assumption | ((try lift_lets); intro x; have hx : Keeps r x := (by unfold x; with_reducible repeat' (first | assumption | apply State.putN_keeps | apply forEach_keeps | (refine fun (t : State) _ (_ : Keeps r t) => ?_) | apply keeps_ite)); clear_value x) | ((try lift_lets); intro x; clear_value x) | dsimp only | apply keeps_mk)

theorem State.portRoleChange_keeps {r : State} {s0 : State} (h0 : Keeps r s0) : ∀ a0, Keeps r (State.portRoleChange s0 a0) := by
  intro a0
  unfold State.portRoleChange
  with_reducible repeat' (first | assumption | apply State.putN_keeps | apply State.markRoles_keeps)

theorem State.boltRoleChange_keeps {r : State} {s0 : State} (h0 : Keeps r s0) : ∀ a0, Keeps r (State.boltRoleChange s0 a0) := by
  intro a0
  unfold State.boltRoleChange
  with_reducible repeat' (first | assumption | apply State.putN_keeps | apply State.markRoles_keeps)

theorem State.allRolesChange_keeps {r : State} {s0 : State} (h0 : Keeps r s0) : Keeps r (State.allRolesChange s0) := by
  unfold State.allRolesChange
  with_reducible repeat' (first | assumption | apply State.markRoles_keeps | apply State.putN_keeps | apply forEach_keeps | (refine fun (t : State) _ (_ : Keeps r t) => ?_))

theorem State.discardKeystream_keeps {r : State} {s0 : State} (h0 : Keeps r s0) : ∀ a0 a1 a2, Keeps r (State.discardKeystream s0 a0 a1 a2) := by
  intro a0 a1 a2
  unfold State.discardKeystream
  with_reducible repeat' (first | assumption | apply State.countBy_keeps | apply State.pc_keeps | apply State.setPipe_keeps | split | ((try lift_lets); intro x; clear_value x))

theorem State.discardAllKeystream_keeps {r : State} {s0 : State} (h0 : Keeps r s0) : ∀ a0 a1, Keeps r (State.discardAllKeystream s0 a0 a1) := by
  intro a0 a1
  unfold State.discardAllKeystream
  with_reducible repeat' (first | assumption | apply State.discardKeystream_keeps | apply forEach_keeps | (refine fun (t : State) _ (_ : Keeps r t) => ?_))

theorem State.evict_keeps {r : State} {s0 : State} (h0 : Keeps r s0) : ∀ a0 a1 a2, Keeps r (State.evict s0 a0 a1 a2) := by
  intro a0 a1 a2
  unfold State.evict
  with_reducible repeat' (first | assumption | apply State.discardKeystream_keeps | apply State.count_keeps)

theorem State.saDiscard_keeps {r : State} {s0 : State} (h0 : Keeps r s0) : ∀ a0, Keeps r (State.saDiscard s0 a0) := by
  intro a0
  unfold State.saDiscard
  with_reducible repeat' (first | assumption | apply State.discardKeystream_keeps)

theorem State.freshSlot_keeps {r : State} {s0 : State} (h0 : Keeps r s0) : ∀ a0 a1 a2, Keeps r (State.freshSlot s0 a0 a1 a2).2 := by
  intro a0 a1 a2
  unfold State.freshSlot
  with_reducible repeat' (first | assumption | apply State.evict_keeps | apply State.setPipe_keeps | apply keeps_ite2 | split)

theorem State.claimSlot_keeps {r : State} {s0 : State} (h0 : Keeps r s0) : ∀ a0 a1 a2 a3 a4 a5, Keeps r (State.claimSlot s0 a0 a1 a2 a3 a4 a5).2 := by
  intro a0 a1 a2 a3 a4 a5
  unfold State.claimSlot
  with_reducible repeat' (first | assumption | apply State.freshSlot_keeps | apply State.setPipe_keeps | split | ((try lift_lets); intro x; clear_value x))

theorem State.claimRx_keeps {r : State} {s0 : State} (h0 : Keeps r s0) : ∀ a0 a1 a2 a3, Keeps r (State.claimRx s0 a0 a1 a2 a3).2 := by
  intro a0 a1 a2 a3
  unfold State.claimRx
  with_reducible repeat' (first | assumption | apply State.freshSlot_keeps | apply State.setPipe_keeps | apply State.claimSlot_keeps | apply keeps_ite2 | split | ((try lift_lets); intro x; clear_value x))

theorem State.slotFollow_keeps {r : State} {s0 : State} (h0 : Keeps r s0) : ∀ a0 a1 a2, Keeps r (State.slotFollow s0 a0 a1 a2) := by
  intro a0 a1 a2
  unfold State.slotFollow
  with_reducible repeat' (first | assumption | apply State.setPipe_keeps)

theorem State.slotEnd_keeps {r : State} {s0 : State} (h0 : Keeps r s0) : ∀ a0 a1 a2, Keeps r (State.slotEnd s0 a0 a1 a2) := by
  intro a0 a1 a2
  unfold State.slotEnd
  with_reducible repeat' (first | assumption | apply State.setPipe_keeps)

theorem State.unpin_keeps {r : State} {s0 : State} (h0 : Keeps r s0) : ∀ a0 a1 a2 a3, Keeps r (State.unpin s0 a0 a1 a2 a3) := by
  intro a0 a1 a2 a3
  unfold State.unpin
  with_reducible repeat' (first | assumption | apply State.setPipe_keeps)

theorem State.waitSlot_keeps {r : State} {s0 : State} (h0 : Keeps r s0) : ∀ a0 a1 a2, Keeps r (State.waitSlot s0 a0 a1 a2) := by
  intro a0 a1 a2
  unfold State.waitSlot
  with_reducible repeat' (first | assumption | apply State.setPipe_keeps)

theorem State.cancelArmIf_keeps {r : State} {s0 : State} (h0 : Keeps r s0) : ∀ a0, Keeps r (State.cancelArmIf s0 a0) := by
  intro a0
  unfold State.cancelArmIf
  with_reducible repeat' (first | assumption | apply State.putN_keeps | apply State.raise_keeps | apply keeps_ite)

theorem State.saSet_keeps {r : State} {s0 : State} (h0 : Keeps r s0) : ∀ a0 a1, Keeps r (State.saSet s0 a0 a1) := by
  intro a0 a1
  unfold State.saSet
  with_reducible repeat' (first | assumption | apply State.cancelArmIf_keeps | apply State.setRowState_keeps | apply keeps_ite)

theorem State.saRefresh_keeps {r : State} {s0 : State} (h0 : Keeps r s0) : ∀ a0, Keeps r (State.saRefresh s0 a0) := by
  intro a0
  unfold State.saRefresh
  with_reducible repeat' (first | assumption | apply State.saDiscard_keeps | apply State.saSet_keeps | apply keeps_ite)

theorem State.saRefreshPort_keeps {r : State} {s0 : State} (h0 : Keeps r s0) : ∀ a0, Keeps r (State.saRefreshPort s0 a0) := by
  intro a0
  unfold State.saRefreshPort
  with_reducible repeat' (first | assumption | apply State.saRefresh_keeps | apply forEach_keeps | (refine fun (t : State) _ (_ : Keeps r t) => ?_) | apply keeps_ite)

theorem State.keyMarked_keeps {r : State} {s0 : State} (h0 : Keeps r s0) : ∀ a0 a1, Keeps r (State.keyMarked s0 a0 a1) := by
  intro a0 a1
  unfold State.keyMarked
  with_reducible repeat' (first | assumption | apply State.clear_keeps | apply State.putO_keeps | apply keeps_ite)

theorem State.clearRow_keeps {r : State} {s0 : State} (h0 : Keeps r s0) : ∀ a0 a1, Keeps r (State.clearRow s0 a0 a1) := by
  intro a0 a1
  unfold State.clearRow
  with_reducible repeat' (first | assumption | apply State.clearWhere_keeps)

theorem State.saEmpty_keeps {r : State} {s0 : State} (h0 : Keeps r s0) : ∀ a0, Keeps r (State.saEmpty s0 a0) := by
  intro a0
  unfold State.saEmpty
  with_reducible repeat' (first | assumption | apply State.clearRow_keeps | apply State.bumpVersion_keeps | apply State.cancelArmIf_keeps | apply State.saDiscard_keeps | apply keeps_ite)

theorem State.saEmptied_keeps {r : State} {s0 : State} (h0 : Keeps r s0) : ∀ a0 a1, Keeps r (State.saEmptied s0 a0 a1) := by
  intro a0 a1
  unfold State.saEmptied
  with_reducible repeat' (first | assumption | apply State.saEmpty_keeps | apply State.raise_keeps)

theorem State.saFault_keeps {r : State} {s0 : State} (h0 : Keeps r s0) : ∀ a0, Keeps r (State.saFault s0 a0) := by
  intro a0
  unfold State.saFault
  with_reducible repeat' (first | assumption | apply State.saSet_keeps | apply State.clear_keeps | apply State.saDiscard_keeps | apply keeps_ite)

theorem State.saSuspend_keeps {r : State} {s0 : State} (h0 : Keeps r s0) : ∀ a0, Keeps r (State.saSuspend s0 a0) := by
  intro a0
  unfold State.saSuspend
  with_reducible repeat' (first | assumption | apply State.saDiscard_keeps | apply State.saSet_keeps | apply State.raise_keeps | apply keeps_ite)

theorem State.unwrapFailed_keeps {r : State} {s0 : State} (h0 : Keeps r s0) : ∀ a0 a1 a2 a3, Keeps r (State.unwrapFailed s0 a0 a1 a2 a3) := by
  intro a0 a1 a2 a3
  unfold State.unwrapFailed
  with_reducible repeat' (first | assumption | apply State.count_keeps | apply State.raise_keeps | split)

theorem State.saTouch_keeps {r : State} {s0 : State} (h0 : Keeps r s0) : ∀ a0, Keeps r (State.saTouch s0 a0) := by
  intro a0
  unfold State.saTouch
  with_reducible repeat' (first | assumption | apply State.putN_keeps | apply keeps_ite)

theorem State.deliver_keeps {r : State} {s0 : State} (h0 : Keeps r s0) : ∀ a0 a1 a2 a3 a4, Keeps r (State.deliver s0 a0 a1 a2 a3 a4) := by
  intro a0 a1 a2 a3 a4
  unfold State.deliver
  with_reducible repeat' (first | assumption | apply State.setPipe_keeps)

theorem State.readRow_keeps {r : State} {s0 : State} (h0 : Keeps r s0) : ∀ a0 a1 a2 a3 a4, Keeps r (State.readRow s0 a0 a1 a2 a3 a4) := by
  intro a0 a1 a2 a3 a4
  unfold State.readRow
  with_reducible repeat' (first | assumption | apply State.setPipe_keeps)

theorem State.countClaim_keeps {r : State} {s0 : State} (h0 : Keeps r s0) : ∀ a0 a1 a2 a3, Keeps r (State.countClaim s0 a0 a1 a2 a3) := by
  intro a0 a1 a2 a3
  unfold State.countClaim
  with_reducible repeat' (first | assumption | apply State.readRow_keeps | apply State.pc_keeps | split)

theorem State.crosses_keeps {r : State} {s0 : State} (h0 : Keeps r s0) : ∀ a0 a1 a2, Keeps r (State.crosses s0 a0 a1 a2) := by
  intro a0 a1 a2
  unfold State.crosses
  with_reducible repeat' (first | assumption | apply State.deliver_keeps)

theorem State.issue_keeps {r : State} {s0 : State} (h0 : Keeps r s0) : ∀ a0 a1 a2, Keeps r (State.issue s0 a0 a1 a2) := by
  intro a0 a1 a2
  unfold State.issue
  with_reducible repeat' (first | assumption | apply State.pc_keeps | apply State.setPipe_keeps)

theorem State.newEpoch_keeps {r : State} {s0 : State} (h0 : Keeps r s0) : ∀ a0 a1, Keeps r (State.newEpoch s0 a0 a1) := by
  intro a0 a1
  unfold State.newEpoch
  with_reducible repeat' (first | assumption | apply State.setPipe_keeps)

theorem State.sendPause_keeps {r : State} {s0 : State} (h0 : Keeps r s0) : ∀ a0 a1 a2, Keeps r (State.sendPause s0 a0 a1 a2) := by
  intro a0 a1 a2
  unfold State.sendPause
  with_reducible repeat' (first | assumption | apply State.setPort_keeps)

theorem State.pauseOne_keeps {r : State} {s0 : State} (h0 : Keeps r s0) : ∀ a0 a1 a2, Keeps r (State.pauseOne s0 a0 a1 a2) := by
  intro a0 a1 a2
  unfold State.pauseOne
  with_reducible repeat' (first | assumption | apply State.setPort_keeps | apply State.sendPause_keeps | apply State.putN_keeps | apply keeps_ite)

theorem State.pauseUpdate_keeps {r : State} {s0 : State} (h0 : Keeps r s0) : ∀ a0, Keeps r (State.pauseUpdate s0 a0) := by
  intro a0
  unfold State.pauseUpdate
  with_reducible repeat' (first | assumption | apply forEach_keeps | apply State.pauseOne_keeps | (refine fun (t : State) _ (_ : Keeps r t) => ?_) | apply keeps_ite)

theorem State.pauseAfter_keeps {r : State} {s0 : State} (h0 : Keeps r s0) : ∀ a0, Keeps r (State.pauseAfter s0 a0) := by
  intro a0
  unfold State.pauseAfter
  with_reducible repeat' (first | assumption | apply State.pauseUpdate_keeps | split)

theorem State.traceChoice_keeps {r : State} {s0 : State} (h0 : Keeps r s0) : ∀ a0 a1, Keeps r (State.traceChoice s0 a0 a1).2 := by
  intro a0 a1
  unfold State.traceChoice
  with_reducible repeat' (first | assumption | apply State.count_keeps | apply State.pc_keeps | apply State.draw_keeps | apply keeps_ite2 | ((try lift_lets); intro x; clear_value x) | apply keeps_mk)

theorem State.traceEnd_keeps {r : State} {s0 : State} (h0 : Keeps r s0) : ∀ a0 a1, Keeps r (State.traceEnd s0 a0 a1) := by
  intro a0 a1
  unfold State.traceEnd
  with_reducible repeat' (first | assumption | apply State.count_keeps | apply State.smWrite_keeps | split | ((try lift_lets); intro x; have hx : Keeps r x := (by unfold x; with_reducible repeat' (first | assumption | apply State.putN_keeps | apply keeps_mk)); clear_value x) | ((try lift_lets); intro x; clear_value x))

theorem State.setCredit_keeps {r : State} {s0 : State} (h0 : Keeps r s0) : ∀ a0 a1, Keeps r (State.setCredit s0 a0 a1) := by
  intro a0 a1
  unfold State.setCredit
  with_reducible repeat' (first | assumption | apply State.putN_keeps)

theorem State.settleCredit_keeps {r : State} {s0 : State} (h0 : Keeps r s0) : ∀ a0, Keeps r (State.settleCredit s0 a0) := by
  intro a0
  unfold State.settleCredit
  with_reducible repeat' (first | assumption | apply State.setPort_keeps | apply State.setCredit_keeps | apply forEach_keeps | (refine fun (t : State) _ (_ : Keeps r t) => ?_) | apply keeps_ite)

theorem State.queueEmptied_keeps {r : State} {s0 : State} (h0 : Keeps r s0) : ∀ a0 a1, Keeps r (State.queueEmptied s0 a0 a1) := by
  intro a0 a1
  unfold State.queueEmptied
  with_reducible repeat' (first | assumption | apply State.setCredit_keeps | apply State.setPort_keeps | apply State.putN_keeps | apply keeps_ite)

theorem State.dropFinal_keeps {r : State} {s0 : State} (h0 : Keeps r s0) : ∀ a0, Keeps r (State.dropFinal s0 a0) := by
  intro a0
  unfold State.dropFinal
  with_reducible repeat' (first | assumption | apply State.traceEnd_keeps | apply State.pauseAfter_keeps | apply State.count_keeps | apply keeps_ite | split)

theorem State.dequeueOne_keeps {r : State} {s0 : State} (h0 : Keeps r s0) : ∀ a0 a1, Keeps r (State.dequeueOne s0 a0 a1) := by
  intro a0 a1
  unfold State.dequeueOne
  with_reducible repeat' (first | assumption | apply State.setPort_keeps | apply State.queueEmptied_keeps | apply State.settleCredit_keeps)

theorem State.headDiscard_fn {s : State} {l p q : Nat} {f : Frame} {g : State → State} (e : s.headDiscard l p q f = some g) :
    FnKeeps g := by
  unfold State.headDiscard at e
  intro r t h
  dsimp only at e
  generalize (s.gated p && _) = c at e
  generalize s.linkD l = d at e
  split at e
  · cases e; exact State.count_keeps h _
  · split at e
    · cases e; exact State.raiseOnce_keeps (State.count_keeps h _) _ _ _
    · split at e
      · split at e
        · cases e; exact State.raiseKeyed_keeps (State.count_keeps (State.count_keeps h _) _) _ _ _ _
        · exact absurd e (by simp)
      · exact absurd e (by simp)

theorem State.purgeQueue_keeps {r : State} : ∀ (a3 : Nat) {s0 : State} (h0 : Keeps r s0) a0 a1 a2, Keeps r (State.purgeQueue s0 a0 a1 a2 a3) := by
  intro a3
  induction a3 with
  | zero => intro s0 h0 a0 a1 a2; unfold State.purgeQueue; with_reducible repeat' (first | assumption)
  | succ n ih => intro s0 h0 a0 a1 a2; unfold State.purgeQueue; with_reducible repeat' (first | assumption | apply State.dequeueOne_keeps | apply State.dropFinal_keeps | apply ih | (refine FnKeeps.run (State.headDiscard_fn (by assumption)) ?_) | split)

theorem State.newHead_keeps {r : State} {s0 : State} (h0 : Keeps r s0) : ∀ a0 a1, Keeps r (State.newHead s0 a0 a1) := by
  intro a0 a1
  unfold State.newHead
  with_reducible repeat' (first | assumption | apply State.purgeQueue_keeps)

theorem State.enqueue_keeps {r : State} {s0 : State} (h0 : Keeps r s0) : ∀ a0, Keeps r (State.enqueue s0 a0) := by
  intro a0
  unfold State.enqueue
  with_reducible repeat' (first | assumption | apply State.newHead_keeps | apply State.setPort_keeps | apply State.settleCredit_keeps | apply State.count_keeps | apply State.dropFinal_keeps | apply keeps_ite)

theorem State.dequeue_keeps {r : State} {s0 : State} (h0 : Keeps r s0) : ∀ a0 a1, Keeps r (State.dequeue s0 a0 a1) := by
  intro a0 a1
  unfold State.dequeue
  with_reducible repeat' (first | assumption | apply State.dequeueOne_keeps | apply State.newHead_keeps)

theorem State.flushQueues_keeps {r : State} {s0 : State} (h0 : Keeps r s0) {f1 : State → Frame → State} (h1 : ∀ t x, Keeps r t → Keeps r (f1 t x)) : ∀ a0, Keeps r (State.flushQueues s0 a0 f1) := by
  intro a0
  unfold State.flushQueues
  with_reducible repeat' (first | assumption | apply State.dropFinal_keeps | apply State.queueEmptied_keeps | apply forEach_keeps | apply State.setPort_keeps | apply State.settleCredit_keeps | apply h1 | (refine fun (t : State) _ (_ : Keeps r t) => ?_))

theorem State.emit_keeps {r : State} {s0 : State} (h0 : Keeps r s0) : ∀ a0, Keeps r (State.emit s0 a0) := by
  intro a0
  unfold State.emit
  with_reducible repeat' (first | assumption | apply keeps_mk)

theorem State.pairSend_keeps {r : State} {s0 : State} (h0 : Keeps r s0) : ∀ a0, Keeps r (State.pairSend s0 a0) := by
  intro a0
  unfold State.pairSend
  with_reducible repeat' (first | assumption | apply State.emit_keeps | ((try lift_lets); intro x; clear_value x) | apply keeps_mk)

theorem State.setPcNext_keeps {r : State} {s0 : State} (h0 : Keeps r s0) : ∀ a0 a1, Keeps r (State.setPcNext s0 a0 a1) := by
  intro a0 a1
  unfold State.setPcNext
  with_reducible repeat' (first | assumption | apply State.putO_keeps)

theorem State.hear_keeps {r : State} {s0 : State} (h0 : Keeps r s0) : ∀ a0, Keeps r (State.hear s0 a0) := by
  intro a0
  unfold State.hear
  with_reducible repeat' (first | assumption | ((try lift_lets); intro x; clear_value x) | apply keeps_mk)

theorem State.refreshMemory_keeps {r : State} {s0 : State} (h0 : Keeps r s0) : ∀ a0, Keeps r (State.refreshMemory s0 a0) := by
  intro a0
  unfold State.refreshMemory
  with_reducible repeat' (first | assumption | apply State.hear_keeps | split | ((try lift_lets); intro x; clear_value x) | apply keeps_mk)

theorem State.forgetItem_keeps {r : State} {s0 : State} (h0 : Keeps r s0) : ∀ a0 a1, Keeps r (State.forgetItem s0 a0 a1) := by
  intro a0 a1
  unfold State.forgetItem
  with_reducible repeat' (first | assumption | ((try lift_lets); intro x; clear_value x) | apply keeps_mk)

theorem State.clearUnused_keeps {r : State} {s0 : State} (h0 : Keeps r s0) : Keeps r (State.clearUnused s0) := by
  unfold State.clearUnused
  with_reducible repeat' (first | assumption | apply State.clearWhere_keeps)

theorem State.applyReports_keeps {r : State} {s0 : State} (h0 : Keeps r s0) : Keeps r (State.applyReports s0) := by
  unfold State.applyReports
  with_reducible repeat' (first | assumption | apply State.putN_keeps | apply forEach_keeps | (refine fun (t : State) _ (_ : Keeps r t) => ?_) | apply keeps_ite)

theorem State.update_keeps {r : State} {s0 : State} (h0 : Keeps r s0) : ∀ a0, Keeps r (State.update s0 a0) := by
  intro a0
  unfold State.update
  with_reducible repeat' (first | assumption | apply State.pairSend_keeps | apply keeps_ite)

theorem State.mirror_keeps {r : State} {s0 : State} (h0 : Keeps r s0) : ∀ a0, Keeps r (State.mirror s0 a0) := by
  intro a0
  unfold State.mirror
  with_reducible repeat' (first | assumption | apply State.update_keeps | apply keeps_ite)

theorem State.resync_keeps {r : State} {s0 : State} (h0 : Keeps r s0) : Keeps r (State.resync s0) := by
  unfold State.resync
  with_reducible repeat' (first | assumption | apply State.mirror_keeps | apply forEach_keeps | apply State.putN_keeps | (refine fun (t : State) _ (_ : Keeps r t) => ?_) | apply keeps_ite)

theorem State.toAcquire_keeps {r : State} {s0 : State} (h0 : Keeps r s0) : ∀ a0, Keeps r (State.toAcquire s0 a0) := by
  intro a0
  unfold State.toAcquire
  with_reducible repeat' (first | assumption | apply State.putN_keeps | apply State.bumpVersion_keeps | apply State.raise_keeps | apply State.setGrp_keeps | apply keeps_ite)

theorem State.setRole_keeps {r : State} {s0 : State} (h0 : Keeps r s0) : ∀ a0 a1, Keeps r (State.setRole s0 a0 a1) := by
  intro a0 a1
  unfold State.setRole
  with_reducible repeat' (first | assumption | apply State.resync_keeps | apply State.count_keeps | apply State.applyReports_keeps | apply State.clearUnused_keeps | apply State.toAcquire_keeps | apply forEach_keeps | apply State.raise_keeps | apply State.allRolesChange_keeps | apply State.putN_keeps | (refine fun (t : State) _ (_ : Keeps r t) => ?_) | apply keeps_ite | ((try lift_lets); intro x; clear_value x) | apply keeps_mk)

theorem State.heartbeat_keeps {r : State} {s0 : State} (h0 : Keeps r s0) : ∀ a0 a1 a2, Keeps r (State.heartbeat s0 a0 a1 a2) := by
  intro a0 a1 a2
  unfold State.heartbeat
  with_reducible repeat' (first | assumption | apply State.pairSend_keeps | apply keeps_ite)

theorem State.giveUp_keeps {r : State} {s0 : State} (h0 : Keeps r s0) : ∀ a0 a1 a2, Keeps r (State.giveUp s0 a0 a1 a2) := by
  intro a0 a1 a2
  unfold State.giveUp
  with_reducible repeat' (first | assumption | apply State.heartbeat_keeps | apply State.setRole_keeps | apply State.mirror_keeps | apply State.count_keeps | apply State.flushQueues_keeps | apply forEach_keeps | (refine fun (t : State) _ (_ : Keeps r t) => ?_) | ((try lift_lets); intro x; clear_value x) | apply keeps_mk)

theorem State.healthCheck_keeps {r : State} {s0 : State} (h0 : Keeps r s0) : Keeps r (State.healthCheck s0) := by
  unfold State.healthCheck
  with_reducible repeat' (first | assumption | apply State.giveUp_keeps | apply keeps_ite)

theorem State.pairSettle_keeps {r : State} {s0 : State} (h0 : Keeps r s0) : Keeps r (State.pairSettle s0) := by
  unfold State.pairSettle
  with_reducible repeat' (first | assumption | apply keeps_ite | split | ((try lift_lets); intro x; have hx : Keeps r x := (by unfold x; with_reducible repeat' (first | assumption | apply keeps_mk)); clear_value x) | ((try lift_lets); intro x; clear_value x) | apply keeps_mk)

theorem State.setPartition_keeps {r : State} {s0 : State} (h0 : Keeps r s0) : ∀ a0, Keeps r (State.setPartition s0 a0) := by
  intro a0
  unfold State.setPartition
  with_reducible repeat' (first | assumption | apply State.raise_keeps | apply keeps_ite | ((try lift_lets); intro x; clear_value x) | apply keeps_mk)

theorem State.record_keeps {r s0 : State} (h0 : Keeps r s0) : Keeps r s0.record := by
  have h1 : ∀ b : BootStore, (s0.StoreWf → s0.CopiesWf → Store.wf b.copy0.content = true ∧ Store.wf b.copy1.content = true) →
      b.slot0 = s0.boot.slot0 → b.slot1 = s0.boot.slot1 → Keeps r { s0 with boot := b } := by
    intro b hc e0 e1
    refine h0.trans ⟨fun x => ⟨x.store, hc x.store x.copies, x.queue, ?_⟩, Otp.Grows.refl _, rfl, rfl⟩
    refine ⟨?_, ?_, x.memory.2.2⟩
    · show Mem.wf b.slot0.bytes = true
      rw [e0]; exact x.memory.1
    · show Mem.wf b.slot1.bytes = true
      rw [e1]; exact x.memory.2.1
  simp only [State.record]
  split
  · exact h1 _ (fun hs hc => ⟨hc.1, Store.filter_wf hs _⟩) rfl rfl
  · exact h1 _ (fun hs hc => ⟨Store.filter_wf hs _, hc.2⟩) rfl rfl

theorem State.save_keeps {r : State} {s0 : State} (h0 : Keeps r s0) : ∀ a0 a1, Keeps r (State.save s0 a0 a1) := by
  intro a0 a1
  unfold State.save
  with_reducible repeat' (first | assumption | apply State.record_keeps | apply State.put_keeps | apply keeps_ite)

theorem State.saveN_keeps {r : State} {s0 : State} (h0 : Keeps r s0) : ∀ a0 a1, Keeps r (State.saveN s0 a0 a1) := by
  intro a0 a1
  unfold State.saveN
  with_reducible repeat' (first | assumption | apply State.save_keeps)

theorem State.freeSlot_keeps {r : State} {s0 : State} (h0 : Keeps r s0) : ∀ a0, Keeps r (State.freeSlot s0 a0) := by
  intro a0
  unfold State.freeSlot
  with_reducible repeat' (first | assumption | apply State.clearWhere_keeps | apply keeps_mk)

theorem State.endProposal_keeps {r : State} {s0 : State} (h0 : Keeps r s0) : ∀ a0 a1, Keeps r (State.endProposal s0 a0 a1) := by
  intro a0 a1
  unfold State.endProposal
  with_reducible repeat' (first | assumption | apply State.freeSlot_keeps | apply State.raise_keeps | split)

theorem State.endProposals_keeps {r : State} {s0 : State} (h0 : Keeps r s0) : ∀ a0, Keeps r (State.endProposals s0 a0) := by
  intro a0
  unfold State.endProposals
  with_reducible repeat' (first | assumption | apply State.endProposal_keeps | apply forEach_keeps | (refine fun (t : State) _ (_ : Keeps r t) => ?_))

theorem State.certEnd_keeps {r : State} {s0 : State} (h0 : Keeps r s0) : ∀ a0, Keeps r (State.certEnd s0 a0) := by
  intro a0
  unfold State.certEnd
  with_reducible repeat' (first | assumption | apply State.raise_keeps | split | ((try lift_lets); intro x; clear_value x) | apply keeps_mk)

theorem State.jobDone_keeps {r : State} {s0 : State} (h0 : Keeps r s0) : ∀ a0 a1 a2 a3, Keeps r (State.jobDone s0 a0 a1 a2 a3) := by
  intro a0 a1 a2 a3
  unfold State.jobDone
  with_reducible repeat' (first | assumption | apply State.raise_keeps | apply State.clear_keeps | apply State.putO_keeps | apply State.putN_keeps | apply State.count_keeps | apply keeps_ite | split)

theorem State.jobStop_keeps {r : State} {s0 : State} (h0 : Keeps r s0) : Keeps r (State.jobStop s0) := by
  unfold State.jobStop
  with_reducible repeat' (first | assumption | apply State.putN_keeps | split | ((try lift_lets); intro x; have hx : Keeps r x := (by unfold x; with_reducible repeat' (first | assumption | apply keeps_mk)); clear_value x) | ((try lift_lets); intro x; clear_value x) | apply keeps_mk)

theorem State.jobAbort_keeps {r : State} {s0 : State} (h0 : Keeps r s0) : ∀ a0, Keeps r (State.jobAbort s0 a0) := by
  intro a0
  unfold State.jobAbort
  with_reducible repeat' (first | assumption | apply State.jobStop_keeps | apply State.jobDone_keeps | apply keeps_ite | split | ((try lift_lets); intro x; clear_value x) | apply keeps_mk)

theorem State.blobEmpty_keeps {r : State} {s0 : State} (h0 : Keeps r s0) : ∀ a0, Keeps r (State.blobEmpty s0 a0) := by
  intro a0
  unfold State.blobEmpty
  with_reducible repeat' (first | assumption | apply State.clearRow_keeps | apply State.bumpVersion_keeps)

theorem State.streamEmpty_keeps {r : State} {s0 : State} (h0 : Keeps r s0) : ∀ a0, Keeps r (State.streamEmpty s0 a0) := by
  intro a0
  unfold State.streamEmpty
  with_reducible repeat' (first | assumption | apply State.clearRow_keeps | apply State.bumpVersion_keeps)

theorem State.zeroiseWorking_keeps {r : State} {s0 : State} (h0 : Keeps r s0) : Keeps r (State.zeroiseWorking s0) := by
  unfold State.zeroiseWorking
  with_reducible repeat' (first | assumption | apply State.jobAbort_keeps | apply State.jobStop_keeps | apply State.dropFinal_keeps | apply State.count_keeps | apply State.setPipe_keeps | apply State.clear_keeps | apply State.streamEmpty_keeps | apply State.blobEmpty_keeps | apply State.saEmpty_keeps | apply forEach_keeps | (refine fun (t : State) _ (_ : Keeps r t) => ?_) | apply keeps_ite | split | apply keeps_mk)

theorem State.emptyCreds_keeps {r : State} {s0 : State} (h0 : Keeps r s0) : Keeps r (State.emptyCreds s0) := by
  unfold State.emptyCreds
  with_reducible repeat' (first | assumption | apply State.clearWhere_keeps | apply State.record_keeps)

theorem State.lcMove_keeps {r s0 : State} (h0 : Keeps r s0) (a0 : Nat) : Keeps r (s0.lcMove a0) := by
  have h1 : Keeps r { s0 with otp := { s0.otp with codeword := s0.otp.codeword ||| BitVec.ofNat 32 (lcCodeword a0) } } := by
    refine keeps_otp h0 ?_
    constructor <;> simp [← BitVec.or_assoc]
  unfold State.lcMove
  generalize hs : ({ s0 with otp := { s0.otp with codeword := s0.otp.codeword ||| BitVec.ofNat 32 (lcCodeword a0) } } : State) = s1 at h1
  have h2 : ∀ x, Keeps r { s1 with trust := x } := fun x => keeps_mk h1
  refine State.certEnd_keeps (State.raise_keeps ?_ _ _ _) _
  split
  · exact State.emptyCreds_keeps (hs ▸ h2 _)
  · exact hs ▸ h2 _

theorem BitVec.or_allOnes' {w : Nat} (x : BitVec w) : x ||| BitVec.allOnes w = BitVec.allOnes w := by
  ext i
  simp

theorem State.emberErase_keeps {r s0 : State} (h0 : Keeps r s0) : Keeps r s0.emberErase := by
  refine keeps_otp h0 ⟨?_, ?_, ?_, ?_, ?_, ?_, ?_, ?_, ?_, ?_, rfl, rfl⟩
  all_goals first | exact BitVec.or_self | exact BitVec.or_allOnes' _

theorem State.withdraw_keeps {r : State} {s0 : State} (h0 : Keeps r s0) : ∀ a0, Keeps r (State.withdraw s0 a0) := by
  intro a0
  unfold State.withdraw
  with_reducible repeat' (first | assumption | apply State.zeroiseWorking_keeps | apply State.emberErase_keeps | apply State.lcMove_keeps | apply State.healthCheck_keeps)

theorem State.evidence_keeps {r s0 : State} (h0 : Keeps r s0) (a : Nat) : Keeps r (s0.evidence a).2 := by
  unfold State.evidence
  split
  · split
    · refine keeps_otp h0 ?_
      constructor <;> simp [← BitVec.or_assoc]
    · exact h0
  · exact h0

theorem State.holdOn_keeps {r : State} {s0 : State} (h0 : Keeps r s0) : Keeps r (State.holdOn s0) := by
  unfold State.holdOn
  with_reducible repeat' (first | assumption | apply State.putN_keeps | apply State.endProposals_keeps | apply keeps_ite)

theorem State.stopStreams_keeps {r : State} {s0 : State} (h0 : Keeps r s0) : Keeps r (State.stopStreams s0) := by
  unfold State.stopStreams
  with_reducible repeat' (first | assumption | apply State.putN_keeps | apply forEach_keeps | (refine fun (t : State) _ (_ : Keeps r t) => ?_) | apply keeps_ite)

theorem State.respond_keeps {r : State} {s0 : State} (h0 : Keeps r s0) : ∀ a0 a1, Keeps r (State.respond s0 a0 a1) := by
  intro a0 a1
  unfold State.respond
  with_reducible repeat' (first | assumption | apply State.healthCheck_keeps | apply State.zeroiseWorking_keeps | apply State.saSuspend_keeps | apply forEach_keeps | apply State.stopStreams_keeps | apply State.holdOn_keeps | (refine fun (t : State) _ (_ : Keeps r t) => ?_) | apply keeps_ite | split | ((try lift_lets); intro x; have hx : Keeps r x := (by unfold x; with_reducible repeat' (first | assumption | apply State.withdraw_keeps | apply State.saSuspend_keeps | apply forEach_keeps | apply State.stopStreams_keeps | apply State.holdOn_keeps | (refine fun (t : State) _ (_ : Keeps r t) => ?_) | apply keeps_ite | apply keeps_mk)); clear_value x) | ((try lift_lets); intro x; clear_value x) | apply keeps_mk)

theorem State.enterAlarms_keeps {r : State} {s0 : State} (h0 : Keeps r s0) : ∀ a0 a1 a2, Keeps r (State.enterAlarms s0 a0 a1 a2) := by
  intro a0 a1 a2
  unfold State.enterAlarms
  with_reducible repeat' (first | assumption | apply State.enter_keeps | apply forEach_keeps | (refine fun (t : State) _ (_ : Keeps r t) => ?_))

theorem State.closePeriod_keeps {r : State} {s0 : State} (h0 : Keeps r s0) : Keeps r (State.closePeriod s0) := by
  unfold State.closePeriod
  with_reducible repeat' (first | assumption | apply State.enterAlarms_keeps | apply State.respond_keeps | apply keeps_ite | ((try lift_lets); intro x; clear_value x) | apply keeps_mk)

theorem State.raiseAlarm_keeps {r : State} {s0 : State} (h0 : Keeps r s0) : ∀ a0 a1 a2, Keeps r (State.raiseAlarm s0 a0 a1 a2) := by
  intro a0 a1 a2
  unfold State.raiseAlarm
  with_reducible repeat' (first | assumption | apply State.raise_keeps | apply State.evidence_keeps | apply keeps_ite | split | ((try lift_lets); intro x; have hx : Keeps r x := (by unfold x; with_reducible repeat' (first | assumption | apply State.closePeriod_keeps | apply State.putN_keeps | apply State.count_keeps | apply State.raise_keeps | apply State.evidence_keeps)); clear_value x) | ((try lift_lets); intro x; clear_value x) | apply keeps_mk)

theorem State.answerDeferred_keeps {r : State} {s0 : State} (h0 : Keeps r s0) : Keeps r (State.answerDeferred s0) := by
  unfold State.answerDeferred
  with_reducible repeat' (first | assumption | apply State.respond_keeps | apply State.enterAlarms_keeps | apply State.raise_keeps | apply State.putN_keeps | apply State.count_keeps | apply forEach_keeps | (refine fun (t : State) _ (_ : Keeps r t) => ?_) | apply keeps_ite | ((try lift_lets); intro x; clear_value x) | apply keeps_mk)

theorem State.setFlue_keeps {r : State} {s0 : State} (h0 : Keeps r s0) : ∀ a0 a1, Keeps r (State.setFlue s0 a0 a1) := by
  intro a0 a1
  unfold State.setFlue
  with_reducible repeat' (first | assumption | apply keeps_mk)

theorem State.flueEvent_keeps {r : State} {s0 : State} (h0 : Keeps r s0) : ∀ a0 a1, Keeps r (State.flueEvent s0 a0 a1) := by
  intro a0 a1
  unfold State.flueEvent
  with_reducible repeat' (first | assumption | apply State.raiseAlarm_keeps | apply State.setFlue_keeps | apply State.count_keeps | apply keeps_ite)

theorem State.flueLone_keeps {r : State} {s0 : State} (h0 : Keeps r s0) : ∀ a0 a1 a2, Keeps r (State.flueLone s0 a0 a1 a2) := by
  intro a0 a1 a2
  unfold State.flueLone
  with_reducible repeat' (first | assumption | apply State.raiseAlarm_keeps | apply State.setFlue_keeps | apply State.count_keeps | apply keeps_ite)

theorem State.tagFailure_keeps {r s0 : State} (h0 : Keeps r s0) (k n : Nat) (part : Bool) : Keeps r (s0.tagFailure k n part) := by
  unfold State.tagFailure
  refine State.raiseAlarm_keeps (State.raise_keeps (State.count_keeps (keeps_ite h0 ?_) _) _ _ _) _ _ _
  refine keeps_sm h0 (fun hm e he => ?_)
  rcases FMap.mem_put he with rfl | he
  · show Mem.wf (s0.sm.getD k {}).data = true
    unfold FMap.getD
    split
    · exact hm _ (FMap.mem_of_get? (by assumption))
    · rfl
  · exact hm e he

theorem State.badLogged_keeps {r s0 : State} (h0 : Keeps r s0) : Keeps r s0.badLogged :=
  forEach_keeps (fun _ _ h => State.tagFailure_keeps h _ _ _) (keeps_events h0 id)

theorem withJobs_keeps {r : State} {e0 : Eff} (h0 : Keeps r e0.1) : ∀ a0 a1, Keeps r (withJobs a0 a1 e0).1 := by
  intro a0 a1
  unfold withJobs
  with_reducible repeat' (first | assumption | apply State.raise_keeps | apply State.raiseAlarm_keeps | apply State.count_keeps | apply State.countBy_keeps | apply keeps_ite1 | split | ((try lift_lets); intro x; have hx : Keeps r x := (by unfold x; with_reducible repeat' (first | assumption)); clear_value x) | ((try lift_lets); intro x; clear_value x) | apply keeps_mk)

theorem answered_keeps {r : State} {e0 : Eff} (h0 : Keeps r e0.1) : ∀ a0, Keeps r (answered a0 e0) := by
  intro a0
  unfold answered
  with_reducible repeat' (first | assumption | apply State.count_keeps | apply State.setSession_keeps | apply keeps_ite)

end Sys2Proof.Machine
end

