-- ==== Sys2Proof/Laws/KeepsTraffic.lean ====
section
/-! SUPPORT. What a step keeps, once for every operation of the frame path and the Twill lanes: the form of the storage and the bits already
burned (`Keeps`, Laws/Keeps.lean). A proof cites the lemma of the operation it meets and never unfolds it. -/

namespace Sys2Proof.Machine

theorem State.sendBits_keeps {r : State} {s0 : State} (h0 : Keeps r s0) : ∀ a0 a1, Keeps r (State.sendBits s0 a0 a1) := by
  intro a0 a1
  unfold State.sendBits
  with_reducible repeat' (first | assumption | apply State.setLane_keeps | apply State.emit_keeps)

theorem State.sendPcs_keeps {r : State} {s0 : State} (h0 : Keeps r s0) : ∀ a0 a1, Keeps r (State.sendPcs s0 a0 a1) := by
  intro a0 a1
  unfold State.sendPcs
  with_reducible repeat' (first | assumption | apply State.sendBits_keeps | apply forEach_keeps | (refine fun (t : State) _ (_ : Keeps r t) => ?_) | apply keeps_ite)

theorem State.sendUnit_keeps {r : State} {s0 : State} (h0 : Keeps r s0) : ∀ a0 a1 a2, Keeps r (State.sendUnit s0 a0 a1 a2) := by
  intro a0 a1 a2
  unfold State.sendUnit
  with_reducible repeat' (first | assumption | apply State.emit_keeps | apply State.setLane_keeps | apply keeps_ite)

theorem State.policyOf_keeps {r s0 : State} (h0 : Keeps r s0) (pi : Pipe) (c : Nat) (bs : Octets) : Keeps r (s0.policyOf pi c bs).1 := by
  simp only [State.policyOf]
  split
  · exact h0
  · exact State.count_keeps (State.readRow_keeps h0 _ _ _ _ _) _
  · exact h0

theorem State.stationRead_keeps {r : State} {s0 : State} (h0 : Keeps r s0) : ∀ a0 a1, Keeps r (State.stationRead s0 a0 a1) := by
  intro a0 a1
  unfold State.stationRead
  with_reducible repeat' (first | assumption | apply State.readRow_keeps | apply keeps_ite | split)

theorem State.lengthLimit_keeps {r : State} {s0 : State} (h0 : Keeps r s0) : ∀ a0 a1 a2 a3, Keeps r (State.lengthLimit s0 a0 a1 a2 a3) := by
  intro a0 a1 a2 a3
  unfold State.lengthLimit
  with_reducible repeat' (first | assumption | apply State.count_keeps | apply State.raiseKeyed_keeps)

theorem State.sectorTransform_keeps {r : State} {s0 : State} (h0 : Keeps r s0) : ∀ a0 a1 a2, Keeps r (State.sectorTransform s0 a0 a1 a2).2 := by
  intro a0 a1 a2
  unfold State.sectorTransform
  with_reducible repeat' (first | assumption | apply State.countBy_keeps | apply State.count_keeps | apply keeps_ite2)

theorem State.correct_keeps {r : State} {s0 : State} (h0 : Keeps r s0) : ∀ a0, Keeps r (State.correct s0 a0).2 := by
  intro a0
  unfold State.correct
  with_reducible repeat' (first | assumption | apply State.count_keeps | apply keeps_ite | apply keeps_ite2 | split)

theorem State.txSa_keeps {r s t : State} {p : Nat} (e : s.txSa p = .error t) (h : Keeps r s) : Keeps r t := by
  simp only [State.txSa] at e
  split at e
  · cases e; exact State.count_keeps h _
  · split at e
    · cases e; exact State.count_keeps h _
    · split at e
      · exact absurd e (by simp)
      · cases e
        split
        · exact State.count_keeps (State.count_keeps (State.count_keeps h _) _) _
        · exact State.count_keeps (State.count_keeps h _) _

theorem State.txSa_keeps2 {r s t : State} {p : Nat} {c : Prop} {_ : Decidable c} (e : (if c then s.txSa p else .ok 0) = .error t)
    (h : Keeps r s) : Keeps r t := by
  split at e
  · exact State.txSa_keeps e h
  · exact absurd e (by simp)

theorem State.pnWarn_keeps {r : State} {s0 : State} (h0 : Keeps r s0) : ∀ a0, Keeps r (State.pnWarn s0 a0) := by
  intro a0
  unfold State.pnWarn
  with_reducible repeat' (first | assumption | apply State.putN_keeps | apply State.raise_keeps | apply keeps_ite)

theorem State.pnExhaust_keeps {r : State} {s0 : State} (h0 : Keeps r s0) : ∀ a0, Keeps r (State.pnExhaust s0 a0) := by
  intro a0
  unfold State.pnExhaust
  with_reducible repeat' (first | assumption | apply State.saSet_keeps | apply State.raise_keeps | apply keeps_ite)

theorem State.takePn_keeps {r : State} {s0 : State} (h0 : Keeps r s0) : ∀ a0, Keeps r (State.takePn s0 a0).2 := by
  intro a0
  unfold State.takePn
  with_reducible repeat' (first | assumption | apply State.pnWarn_keeps | apply State.pnExhaust_keeps | apply State.count_keeps | apply State.saTouch_keeps | apply State.clear_keeps | apply State.putN_keeps)

theorem State.panelCloses_keeps {r : State} {s0 : State} (h0 : Keeps r s0) : ∀ a0 a1 a2, Keeps r (State.panelCloses s0 a0 a1 a2) := by
  intro a0 a1 a2
  unfold State.panelCloses
  with_reducible repeat' (first | assumption | apply State.deliver_keeps | apply State.pc_keeps)

theorem State.panelsClose_keeps {r s0 : State} (h0 : Keeps r s0) (p seq : Nat) (l : List (List Nat)) :
    Keeps r (s0.panelsClose p seq l) := by
  induction l generalizing s0 seq with
  | nil => exact h0
  | cons us rest ih =>
    unfold State.panelsClose
    have h1 := State.panelCloses_keeps h0 p seq us
    generalize s0.panelCloses p seq us = t at h1 ⊢
    exact ih h1 (seq + 1)

theorem State.closeAhead_keeps {r : State} : ∀ (a1 : Nat) {s0 : State} (h0 : Keeps r s0) a0, Keeps r (State.closeAhead s0 a0 a1) := by
  intro a1
  induction a1 with
  | zero => intro s0 h0 a0; unfold State.closeAhead; with_reducible repeat' (first | assumption)
  | succ n ih => intro s0 h0 a0; unfold State.closeAhead; with_reducible repeat' (first | assumption | apply State.panelCloses_keeps | apply State.setTrib_keeps | apply ih | apply keeps_ite)

theorem State.tribAdd_keeps {r : State} {s0 : State} (h0 : Keeps r s0) : ∀ a0, Keeps r (State.tribAdd s0 a0) := by
  intro a0
  unfold State.tribAdd
  with_reducible repeat' (first | assumption | apply State.panelsClose_keeps | apply State.closeAhead_keeps | apply State.setTrib_keeps)

theorem State.unpinFrame_keeps {r : State} {s0 : State} (h0 : Keeps r s0) : ∀ a0, Keeps r (State.unpinFrame s0 a0) := by
  intro a0
  unfold State.unpinFrame
  with_reducible repeat' (first | assumption | apply State.unpin_keeps | apply keeps_ite | split)

theorem State.gateE_keeps {r : State} {s0 : State} (h0 : Keeps r s0) : ∀ a0, Keeps r (State.gateE s0 a0) := by
  intro a0
  unfold State.gateE
  with_reducible repeat' (first | assumption | apply State.crosses_keeps | apply State.enqueue_keeps | apply State.count_keeps | apply State.dropFinal_keeps | apply State.tribAdd_keeps | apply State.pauseAfter_keeps | apply State.unpinFrame_keeps | apply keeps_ite)

theorem State.drainE_keeps {r : State} : ∀ (a1 : Nat) {s0 : State} (h0 : Keeps r s0) a0, Keeps r (State.drainE s0 a0 a1) := by
  intro a1
  induction a1 with
  | zero => intro s0 h0 a0; unfold State.drainE; with_reducible repeat' (first | assumption)
  | succ n ih => intro s0 h0 a0; unfold State.drainE; with_reducible repeat' (first | assumption | apply State.setPipe_keeps | apply State.gateE_keeps | apply ih | apply keeps_ite | split | ((try lift_lets); intro x; clear_value x))

theorem State.claimTx_keeps {r : State} {s0 : State} (h0 : Keeps r s0) : ∀ a0 a1 a2 a3, Keeps r (State.claimTx s0 a0 a1 a2 a3).2 := by
  intro a0 a1 a2 a3
  unfold State.claimTx
  with_reducible repeat' (first | assumption | apply State.countClaim_keeps | apply State.issue_keeps | apply State.claimSlot_keeps | apply keeps_ite2)

theorem State.encipher_keeps {r : State} {s0 : State} (h0 : Keeps r s0) : ∀ a0 a1 a2, Keeps r (State.encipher s0 a0 a1 a2).2 := by
  intro a0 a1 a2
  unfold State.encipher
  with_reducible repeat' (first | assumption | apply State.claimTx_keeps)

theorem State.takeSa_keeps {r : State} {s0 : State} (h0 : Keeps r s0) : ∀ a0 a1, Keeps r (State.takeSa s0 a0 a1).2 := by
  intro a0 a1
  unfold State.takeSa
  with_reducible repeat' (first | assumption | apply State.encipher_keeps | apply State.readRow_keeps | apply State.takePn_keeps)

theorem State.enterE_keeps {r s0 : State} (h0 : Keeps r s0) (f : Frame) : Keeps r (s0.enterE f).2 := by
  unfold State.enterE
  extract_lets s f'
  have hs : Keeps r s := State.crosses_keeps h0 _ _ _
  clear_value s f'
  split
  rename_i f1 s1 hx
  have hc : Keeps r s1 := keeps_eq2 (State.correct_keeps hs f') hx
  refine keeps_ite2 hc ?_
  cases hsa : s1.txSa f1.outPort with
  | error t => exact State.dropFinal_keeps (State.txSa_keeps hsa hc) _
  | ok sa =>
    exact State.takeSa_keeps hc _ _

theorem State.pushE_keeps {r : State} {s0 : State} (h0 : Keeps r s0) : ∀ a0, Keeps r (State.pushE s0 a0) := by
  intro a0
  unfold State.pushE
  with_reducible repeat' (first | assumption | apply State.drainE_keeps | apply State.enterE_keeps | apply State.setPipe_keeps | (refine keeps_eq2 ?_ (by assumption)) | apply keeps_ite | split)

theorem State.claimTribs_keeps {r : State} : ∀ (a2 : Nat) {s0 : State} (h0 : Keeps r s0) a0 a1, Keeps r (State.claimTribs s0 a0 a1 a2) := by
  intro a2
  induction a2 with
  | zero => intro s0 h0 a0 a1; unfold State.claimTribs; with_reducible repeat' (first | assumption)
  | succ n ih => intro s0 h0 a0 a1; unfold State.claimTribs; with_reducible repeat' (first | assumption | apply State.issue_keeps | apply State.setPipe_keeps | apply State.countClaim_keeps | apply State.claimSlot_keeps | apply ih | apply keeps_ite | split)

theorem State.claimWaiting_keeps {r : State} : ∀ (a2 : Nat) {s0 : State} (h0 : Keeps r s0) a0 a1, Keeps r (State.claimWaiting s0 a0 a1 a2) := by
  intro a2
  induction a2 with
  | zero => intro s0 h0 a0 a1; unfold State.claimWaiting; with_reducible repeat' (first | assumption)
  | succ n ih => intro s0 h0 a0 a1; unfold State.claimWaiting; with_reducible repeat' (first | assumption | apply State.setPipe_keeps | apply State.countClaim_keeps | apply State.issue_keeps | apply State.claimSlot_keeps | apply State.claimTribs_keeps | apply ih | apply keeps_ite | split)

theorem State.enterRaw_keeps {r : State} : ∀ (a1 : Nat) {s0 : State} (h0 : Keeps r s0) a0, Keeps r (State.enterRaw s0 a0 a1) := by
  intro a1
  induction a1 with
  | zero => intro s0 h0 a0; unfold State.enterRaw; with_reducible repeat' (first | assumption)
  | succ n ih => intro s0 h0 a0; unfold State.enterRaw; with_reducible repeat' (first | assumption | apply State.enterE_keeps | apply State.setPipe_keeps | apply ih | (refine keeps_eq2 ?_ (by assumption)) | apply keeps_ite | split | ((try lift_lets); intro x; clear_value x))

theorem State.sectorDoneE_keeps {r : State} {s0 : State} (h0 : Keeps r s0) : ∀ a0, Keeps r (State.sectorDoneE s0 a0) := by
  intro a0
  unfold State.sectorDoneE
  with_reducible repeat' (first | assumption | apply State.drainE_keeps | apply State.enterRaw_keeps | apply State.sectorTransform_keeps | apply State.setPipe_keeps | apply State.counts_keeps | apply State.dropFinal_keeps | split | ((try lift_lets); intro x; clear_value x))

theorem State.newSerial_keeps {r s0 : State} (h0 : Keeps r s0) : Keeps r s0.newSerial.2 := keeps_mk h0

theorem State.newFrame_keeps {r : State} {s0 : State} (h0 : Keeps r s0) : ∀ a0 a1 a2 a3 a4, Keeps r (State.newFrame s0 a0 a1 a2 a3 a4).2 := by
  intro a0 a1 a2 a3 a4
  unfold State.newFrame
  with_reducible repeat' (first | assumption | apply State.traceChoice_keeps | apply State.newSerial_keeps)

theorem State.reclassify_keeps {r : State} {s0 : State} (h0 : Keeps r s0) : ∀ a0 a1 a2, Keeps r (State.reclassify s0 a0 a1 a2).2 := by
  intro a0 a1 a2
  unfold State.reclassify
  with_reducible repeat' (first | assumption | apply State.count_keeps | apply State.pc_keeps | apply State.discardKeystream_keeps | apply keeps_ite2 | split)

theorem State.admitE_keeps {r : State} {s0 : State} (h0 : Keeps r s0) : ∀ a0, Keeps r (State.admitE s0 a0) := by
  intro a0
  unfold State.admitE
  with_reducible repeat' (first | assumption | apply State.readRow_keeps | apply State.pushE_keeps | apply State.pauseAfter_keeps | apply State.lengthLimit_keeps | apply State.counts_keeps | apply State.dropFinal_keeps | apply State.count_keeps | apply State.countBy_keeps | apply State.pc_keeps | split | ((try lift_lets); intro x; have hx : Keeps r x := (by unfold x; with_reducible repeat' (first | assumption | apply State.count_keeps | apply State.countBy_keeps | apply State.pc_keeps)); clear_value x))

theorem State.classifyE_keeps {r s0 : State} (h0 : Keeps r s0) (q iface : Nat) (rx : RxFrame) (early : Option Nat) (met : Arriving)
    (fail : Option Key) : Keeps r (s0.classifyE q iface rx early met fail) := by
  unfold State.classifyE
  extract_lets b bs len refuse line ts
  have hr : ∀ t, Keeps r t → Keeps r (refuse t) := fun t ht => State.counts_keeps ht _
  have hs := State.newFrame_keeps h0 b .e q bs ts
  split
  rename_i f s hnew
  rw [hnew] at hs
  extract_lets f' lost
  have hd : ∀ t, Keeps r t → Keeps r (lost t) := fun t h => State.traceEnd_keeps h _ _
  clear_value lost f' refuse ts line bs
  refine keeps_ite (keeps_ite (hd _ (hr _ hs)) (hd _ (State.count_keeps hs _))) (keeps_ite (hd _ (State.count_keeps hs _)) ?_)
  have hp := State.policyOf_keeps hs .e q bs
  split
  · rename_i u x k heq
    rw [heq] at hp
    split
    rename_i v heq2
    have hv : Keeps r v := keeps_eq2 (State.reclassify_keeps hp b early none) heq2
    exact hd _ (keeps_ite (hr _ hv) (State.count_keeps hv _))
  · rename_i u action queue stream heq
    rw [heq] at hp
    extract_lets guarded huge limit secured sent
    split
    rename_i corrected v heq2
    have hv : Keeps r v := keeps_eq2 (State.reclassify_keeps hp b early _) heq2
    extract_lets f2 drop cls begun v2 v3 lineLen saTest v4 f4
    have hdr : ∀ t, Keeps r t → Keeps r (drop t) := fun t h => State.traceEnd_keeps (keeps_ite (State.count_keeps h _) h) _ _
    have hv2 : Keeps r v2 := keeps_ite (hr _ hv) hv
    have hv3 : Keeps r v3 := State.stationRead_keeps hv2 _ _
    have hv4 : Keeps r v4 := keeps_ite (State.lengthLimit_keeps hv3 _ _ _ _) hv3
    have hst : ∀ t, saTest = .error t → Keeps r t := fun t e => State.txSa_keeps2 e hv3
    clear_value f4 v4 saTest lineLen v3 v2 drop f2 begun cls sent secured limit huge guarded
    refine keeps_ite (hdr _ (hr _ hv)) (keeps_ite (hdr _ (State.count_keeps hv2 _)) (keeps_ite (hdr _ (State.lengthLimit_keeps hv2 _ _ _ _))
      (keeps_ite (hdr _ (State.count_keeps hv2 _)) (keeps_ite (hdr _ (State.count_keeps hv3 _)) (keeps_ite (hdr _ (State.count_keeps hv3 _))
      (keeps_ite (hdr _ (State.count_keeps hv3 _)) (keeps_ite (hdr _ (State.count_keeps hv3 _)) ?_)))))))
    cases saTest with
    | error t => exact hdr _ (hst t rfl)
    | ok n =>
      dsimp only
      split
      · exact hdr _ (State.counts_keeps hv3 _)
      · exact State.admitE_keeps hv4 _

theorem State.toHearth_keeps {r : State} {s0 : State} (h0 : Keeps r s0) : ∀ a0 a1 a2, Keeps r (State.toHearth s0 a0 a1 a2) := by
  intro a0 a1 a2
  unfold State.toHearth
  with_reducible repeat' (first | assumption | apply State.count_keeps | apply keeps_ite | apply keeps_mk)

theorem State.peerPaused_keeps {r : State} {s0 : State} (h0 : Keeps r s0) : ∀ a0 a1 a2, Keeps r (State.peerPaused s0 a0 a1 a2) := by
  intro a0 a1 a2
  unfold State.peerPaused
  with_reducible repeat' (first | assumption | apply State.setPort_keeps | apply keeps_ite)

theorem State.macControl_keeps {r : State} {s0 : State} (h0 : Keeps r s0) : ∀ a0 a1, Keeps r (State.macControl s0 a0 a1) := by
  intro a0 a1
  unfold State.macControl
  with_reducible repeat' (first | assumption | apply forEach_keeps | apply State.peerPaused_keeps | apply State.count_keeps | (refine fun (t : State) _ (_ : Keeps r t) => ?_) | apply keeps_ite)

theorem State.comes_keeps {r : State} {s0 : State} (h0 : Keeps r s0) : ∀ a0 a1 a2 a3 a4 a5, Keeps r (State.comes s0 a0 a1 a2 a3 a4 a5) := by
  intro a0 a1 a2 a3 a4 a5
  unfold State.comes
  with_reducible repeat' (first | assumption | apply State.deliver_keeps)

theorem State.arrives_keeps {r : State} {s0 : State} (h0 : Keeps r s0) : ∀ a0 a1 a2, Keeps r (State.arrives s0 a0 a1 a2).2 := by
  intro a0 a1 a2
  unfold State.arrives
  with_reducible repeat' (first | assumption | apply State.setPort_keeps | apply State.comes_keeps)

theorem State.parsed_keeps {r : State} {s0 : State} (h0 : Keeps r s0) : ∀ a0 a1 a2 a3, Keeps r (State.parsed s0 a0 a1 a2 a3).2 := by
  intro a0 a1 a2 a3
  unfold State.parsed
  with_reducible repeat' (first | assumption | apply State.setPort_keeps | apply State.comes_keeps)

theorem State.groupStopped_keeps {r : State} {s0 : State} (h0 : Keeps r s0) : ∀ a0 a1 a2 a3 a4, Keeps r (State.groupStopped s0 a0 a1 a2 a3 a4) := by
  intro a0 a1 a2 a3 a4
  unfold State.groupStopped
  with_reducible repeat' (first | assumption | apply State.count_keeps | apply State.lengthLimit_keeps | apply keeps_ite | split)

theorem State.clearIn_keeps {r : State} {s0 : State} (h0 : Keeps r s0) : ∀ a0 a1, Keeps r (State.clearIn s0 a0 a1) := by
  intro a0 a1
  unfold State.clearIn
  with_reducible repeat' (first | assumption | apply State.classifyE_keeps | apply State.groupStopped_keeps | apply State.readRow_keeps | apply State.counts_keeps | apply State.toHearth_keeps | apply State.macControl_keeps | apply State.parsed_keeps | apply State.arrives_keeps | apply State.count_keeps | apply keeps_ite | split)

theorem State.sendOwn_keeps {r : State} {s0 : State} (h0 : Keeps r s0) : ∀ a0 a1 a2, Keeps r (State.sendOwn s0 a0 a1 a2) := by
  intro a0 a1 a2
  unfold State.sendOwn
  with_reducible repeat' (first | assumption | apply State.enqueue_keeps | apply State.pushE_keeps | apply State.tribAdd_keeps | apply State.count_keeps | apply State.emit_keeps | apply State.newSerial_keeps | apply keeps_ite)

theorem State.sendT1s_keeps {r : State} {s0 : State} (h0 : Keeps r s0) : ∀ a0, Keeps r (State.sendT1s s0 a0) := by
  intro a0
  unfold State.sendT1s
  with_reducible repeat' (first | assumption | apply keeps_ite | ((try lift_lets); intro x; clear_value x) | apply keeps_mk)

theorem State.meshOut_keeps {r : State} {s0 : State} (h0 : Keeps r s0) : ∀ a0 a1, Keeps r (State.meshOut s0 a0 a1) := by
  intro a0 a1
  unfold State.meshOut
  with_reducible repeat' (first | assumption | apply State.sendOwn_keeps)

theorem State.meshSend_keeps {r : State} {s0 : State} (h0 : Keeps r s0) : ∀ a0 a1, Keeps r (State.meshSend s0 a0 a1) := by
  intro a0 a1
  unfold State.meshSend
  with_reducible repeat' (first | assumption | apply State.meshOut_keeps | apply State.count_keeps | apply keeps_ite | split)

theorem State.sendVia_keeps {r : State} {s0 : State} (h0 : Keeps r s0) : ∀ a0 a1, Keeps r (State.sendVia s0 a0 a1) := by
  intro a0 a1
  unfold State.sendVia
  with_reducible repeat' (first | assumption | apply State.meshSend_keeps | apply State.sendOwn_keeps | apply State.sendT1s_keeps | split)

theorem State.sendClear_keeps {r : State} {s0 : State} (h0 : Keeps r s0) : ∀ a0 a1 a2 a3, Keeps r (State.sendClear s0 a0 a1 a2 a3) := by
  intro a0 a1 a2 a3
  unfold State.sendClear
  with_reducible repeat' (first | assumption | apply State.sendVia_keeps | apply forEach_keeps | (refine fun (t : State) _ (_ : Keeps r t) => ?_))

theorem State.sendFragment_keeps {r : State} {s0 : State} (h0 : Keeps r s0) : ∀ a0 a1 a2 a3, Keeps r (State.sendFragment s0 a0 a1 a2 a3) := by
  intro a0 a1 a2 a3
  unfold State.sendFragment
  with_reducible repeat' (first | assumption | apply State.sendVia_keeps | apply State.setSession_keeps)

theorem State.sendSecured_keeps {r : State} {s0 : State} (h0 : Keeps r s0) : ∀ a0 a1 a2, Keeps r (State.sendSecured s0 a0 a1 a2) := by
  intro a0 a1 a2
  unfold State.sendSecured
  with_reducible repeat' (first | assumption | apply State.sendFragment_keeps | apply forEach_keeps | (refine fun (t : State) _ (_ : Keeps r t) => ?_) | split)

theorem State.announce_keeps {r s0 : State} (h0 : Keeps r s0) : Keeps r s0.announce := by
  simp only [State.announce]
  split
  · exact h0
  · refine forEach_keeps (fun s x h => forEach_keeps (fun s n h => ?_) h) (keeps_events h0 id)
    exact State.sendSecured_keeps (State.draw_keeps (State.draw_keeps h)) _ _ _

theorem State.acceptPn_keeps {r : State} {s0 : State} (h0 : Keeps r s0) : ∀ a0 a1, Keeps r (State.acceptPn s0 a0 a1) := by
  intro a0 a1
  unfold State.acceptPn
  with_reducible repeat' (first | assumption | apply State.count_keeps | apply State.saTouch_keeps | apply State.slotFollow_keeps | apply State.putN_keeps)

theorem State.learnAsk_keeps {r : State} {s0 : State} (h0 : Keeps r s0) : ∀ a0 a1, Keeps r (State.learnAsk s0 a0 a1) := by
  intro a0 a1
  unfold State.learnAsk
  with_reducible repeat' (first | assumption | apply State.setBolt_keeps | apply keeps_ite)

theorem State.accept_keeps {r s t : State} {f : Frame} {c : Octets} (e : s.accept f c = some t) (h : Keeps r s) : Keeps r t := by
  unfold State.accept at e
  split at e
  · cases e; exact h
  · split at e
    · cases e; exact h
    · split at e
      · exact absurd e (by simp)
      · cases e; exact State.learnAsk_keeps (State.acceptPn_keeps h _ _) _ _

theorem State.endD_keeps {r : State} {s0 : State} (h0 : Keeps r s0) {f1 : State → State} (h1 : ∀ t, Keeps r t → Keeps r (f1 t)) : ∀ a0 a1 a2 a3, Keeps r (State.endD s0 a0 a1 a2 a3 f1) := by
  intro a0 a1 a2 a3
  unfold State.endD
  with_reducible repeat' (first | assumption | apply State.count_keeps | apply State.dropFinal_keeps | apply h1 | (refine State.accept_keeps (by assumption) ?_) | apply keeps_ite | split)

theorem State.gateD_keeps {r : State} {s0 : State} (h0 : Keeps r s0) : ∀ a0, Keeps r (State.gateD s0 a0) := by
  intro a0
  unfold State.gateD
  with_reducible repeat' (first | assumption | apply State.crosses_keeps | apply State.enqueue_keeps)

theorem State.countRxD_keeps {r : State} {s0 : State} (h0 : Keeps r s0) : ∀ a0, Keeps r (State.countRxD s0 a0) := by
  intro a0
  unfold State.countRxD
  with_reducible repeat' (first | assumption | apply State.count_keeps | apply State.countBy_keeps | apply State.pc_keeps)

theorem State.deliverD_keeps {r s0 : State} (h0 : Keeps r s0) (f : Frame) (clear : Octets) (secured verified : Bool) :
    Keeps r (s0.deliverD f clear secured verified).2 := by
  unfold State.deliverD
  extract_lets q c stop f1 len s long
  have hs : ∀ t g ks, Keeps r t → Keeps r (stop t g ks).2 := fun t g ks h =>
    State.endD_keeps h (fun u hu => State.counts_keeps hu _) _ _ _ _
  have h1 : Keeps r s := State.policyOf_keeps h0 _ _ _
  clear_value long s len stop f1
  refine keeps_ite2 (hs _ _ _ h0) (keeps_ite2 (hs _ _ _ h0) ?_)
  split
  · exact hs _ _ _ h0
  · rename_i action queue stream _
    extract_lets f2 begun rbv goes f3 fault closed accepted
    have ha : ∀ t, accepted = some t → Keeps r t := by
      intro t e
      simp only [accepted] at e
      split at e
      · exact State.accept_keeps e h1
      · rw [← Option.some.inj e]; exact h1
    clear_value accepted closed fault f3 goes rbv begun f2
    refine keeps_ite2 (State.dropFinal_keeps h0 _) (keeps_ite2 (hs _ _ _ h1) (keeps_ite2 (hs _ _ _ h1) ?_))
    split
    · exact State.dropFinal_keeps (State.lengthLimit_keeps h1 _ _ _ _) _
    · split
      · exact hs _ _ _ h1
      · refine keeps_ite2 (hs _ _ _ h1) (keeps_ite2 (hs _ _ _ h1) ?_)
        cases accepted with
        | none =>
          refine State.dropFinal_keeps ?_ _
          split
          · exact State.count_keeps h1 _
          · exact h1
        | some t =>
          have h2 := ha t rfl
          dsimp only
          have h3 : ∀ k, Keeps r (if long = true then t.count k else t) := fun k => keeps_ite (State.count_keeps h2 k) h2
          replace h3 := h3 (Reg.pOversize (t.interfaceOf c))
          generalize (if long = true then t.count (Reg.pOversize (t.interfaceOf c)) else t) = t2 at h3 ⊢
          have h4 : Keeps r (if (secured && !verified && !f3.bad && !f3.poison) = true then t2.count (Reg.bRbvTails f3.b) else t2) :=
            keeps_ite (State.count_keeps h3 _) h3
          generalize (if (secured && !verified && !f3.bad && !f3.poison) = true then t2.count (Reg.bRbvTails f3.b) else t2) = t3 at h4 ⊢
          have h5 : Keeps r (if action = 3 then t3.readRow f3.b .d 8 8 stream else t3) :=
            keeps_ite (State.readRow_keeps h4 _ _ _ _ _) h4
          generalize (if action = 3 then t3.readRow f3.b .d 8 8 stream else t3) = t4 at h5 ⊢
          exact keeps_ite2 (State.correct_keeps h5 _) h5

theorem State.recheck_keeps {r s t : State} {f : Frame} {sa : Nat} (e : s.recheck f sa = .error t) (h : Keeps r s) : Keeps r t := by
  simp only [State.recheck] at e
  split at e
  · cases e; exact State.count_keeps h _
  · split at e
    · cases e; exact State.count_keeps (State.count_keeps h _) _
    · split at e
      · exact absurd e (by simp)
      · split at e
        · cases e; exact State.count_keeps h _
        · split at e
          · cases e; exact State.count_keeps h _
          · split at e
            · cases e; exact State.count_keeps h _
            · exact absurd e (by simp)

theorem State.processD_keeps {r : State} {s0 : State} (h0 : Keeps r s0) : ∀ a0, Keeps r (State.processD s0 a0).2 := by
  intro a0
  unfold State.processD
  with_reducible repeat' (first | assumption | apply State.toHearth_keeps | apply State.macControl_keeps | apply State.endD_keeps | apply State.count_keeps | apply State.dropFinal_keeps | apply State.deliverD_keeps | (refine State.recheck_keeps (by assumption) ?_) | (refine fun (t : State) (_ : Keeps r t) => ?_) | apply keeps_ite | apply keeps_ite2 | split | ((try lift_lets); intro x; have hx : Keeps r x := (by unfold x; with_reducible repeat' (first | assumption | apply State.unpinFrame_keeps)); clear_value x))

theorem State.drainD_keeps {r : State} : ∀ (a1 : Nat) {s0 : State} (h0 : Keeps r s0) a0, Keeps r (State.drainD s0 a0 a1) := by
  intro a1
  induction a1 with
  | zero => intro s0 h0 a0; unfold State.drainD; with_reducible repeat' (first | assumption)
  | succ n ih => intro s0 h0 a0; unfold State.drainD; with_reducible repeat' (first | assumption | apply State.gateD_keeps | apply State.crosses_keeps | apply State.setPipe_keeps | apply State.processD_keeps | apply ih | (refine keeps_eq2 ?_ (by assumption)) | apply keeps_ite | split | ((try lift_lets); intro x; clear_value x))

theorem State.pushD_keeps {r : State} {s0 : State} (h0 : Keeps r s0) : ∀ a0, Keeps r (State.pushD s0 a0) := by
  intro a0
  unfold State.pushD
  with_reducible repeat' (first | assumption | apply State.drainD_keeps | apply State.setPipe_keeps | apply State.crosses_keeps)

theorem State.admitD_keeps {r : State} {s0 : State} (h0 : Keeps r s0) {f1 : State → Frame → State} (h1 : ∀ t x, Keeps r t → Keeps r (f1 t x)) : ∀ a0 a1 a2, Keeps r (State.admitD s0 a0 a1 a2 f1) := by
  intro a0 a1 a2
  unfold State.admitD
  with_reducible repeat' (first | assumption | apply State.countRxD_keeps | apply State.count_keeps | apply State.traceEnd_keeps | apply h1 | apply keeps_ite | split)

theorem State.releaseAfter_keeps {r : State} : ∀ (a1 : Nat) {s0 : State} (h0 : Keeps r s0) a0, Keeps r (State.releaseAfter s0 a0 a1) := by
  intro a1
  induction a1 with
  | zero => intro s0 h0 a0; unfold State.releaseAfter; with_reducible repeat' (first | assumption)
  | succ n ih => intro s0 h0 a0; unfold State.releaseAfter; with_reducible repeat' (first | assumption | apply State.setPipe_keeps | apply State.gateD_keeps | apply ih | apply keeps_ite | split)

theorem State.sectorDoneD_keeps {r : State} {s0 : State} (h0 : Keeps r s0) : ∀ a0, Keeps r (State.sectorDoneD s0 a0) := by
  intro a0
  unfold State.sectorDoneD
  with_reducible repeat' (first | assumption | apply State.releaseAfter_keeps | apply State.crosses_keeps | apply State.gateD_keeps | apply State.sectorTransform_keeps | apply State.counts_keeps | apply State.dropFinal_keeps | apply State.setPipe_keeps | split)

theorem State.enterD_keeps {r : State} {s0 : State} (h0 : Keeps r s0) : ∀ a0 a1 a2 a3 a4, Keeps r (State.enterD s0 a0 a1 a2 a3 a4) := by
  intro a0 a1 a2 a3 a4
  unfold State.enterD
  with_reducible repeat' (first | assumption | apply State.pushD_keeps | apply State.countClaim_keeps | apply State.issue_keeps | apply State.claimRx_keeps | apply keeps_ite)

theorem State.taggedSa_keeps {r : State} {s0 : State} (h0 : Keeps r s0) : ∀ a0 a1 a2 a3, Keeps r (State.taggedSa s0 a0 a1 a2 a3) := by
  intro a0 a1 a2 a3
  unfold State.taggedSa
  with_reducible repeat' (first | assumption | apply State.enterD_keeps | apply State.admitD_keeps | apply State.count_keeps | apply State.traceEnd_keeps | (refine fun (t : State) _ (_ : Keeps r t) => ?_) | apply keeps_ite)

theorem State.taggedIn_keeps {r : State} {s0 : State} (h0 : Keeps r s0) : ∀ a0 a1 a2, Keeps r (State.taggedIn s0 a0 a1 a2) := by
  intro a0 a1 a2
  unfold State.taggedIn
  with_reducible repeat' (first | assumption | apply State.taggedSa_keeps | apply State.readRow_keeps | apply State.lengthLimit_keeps | apply State.count_keeps | apply State.traceEnd_keeps | apply keeps_ite | split | ((try lift_lets); intro x; have hx : Keeps r x := (by unfold x; with_reducible repeat' (first | assumption | apply State.lengthLimit_keeps | apply State.count_keeps)); clear_value x) | ((try lift_lets); intro x; clear_value x))

theorem State.reclassifyD_keeps {r : State} {s0 : State} (h0 : Keeps r s0) : ∀ a0 a1 a2, Keeps r (State.reclassifyD s0 a0 a1 a2).2 := by
  intro a0 a1 a2
  unfold State.reclassifyD
  with_reducible repeat' (first | assumption | apply State.count_keeps | apply State.pc_keeps | apply keeps_ite2)

theorem State.lineParsed_keeps {r : State} {s0 : State} (h0 : Keeps r s0) : ∀ a0 a1 a2 a3 a4, Keeps r (State.lineParsed s0 a0 a1 a2 a3 a4) := by
  intro a0 a1 a2 a3 a4
  unfold State.lineParsed
  with_reducible repeat' (first | assumption | apply State.pushD_keeps | apply State.admitD_keeps | apply State.count_keeps | apply State.traceEnd_keeps | apply State.taggedIn_keeps | apply State.reclassifyD_keeps | apply State.newFrame_keeps | apply State.parsed_keeps | (refine fun (t : State) _ (_ : Keeps r t) => ?_) | apply keeps_ite)

theorem State.lineIn_keeps {r : State} {s0 : State} (h0 : Keeps r s0) : ∀ a0 a1, Keeps r (State.lineIn s0 a0 a1) := by
  intro a0 a1
  unfold State.lineIn
  with_reducible repeat' (first | assumption | apply State.lineParsed_keeps | apply State.toHearth_keeps | apply State.macControl_keeps | apply State.parsed_keeps | apply State.arrives_keeps | apply State.count_keeps | apply keeps_ite)

theorem State.tribFrameIn_keeps {r : State} {s0 : State} (h0 : Keeps r s0) : ∀ a0 a1 a2 a3 a4, Keeps r (State.tribFrameIn s0 a0 a1 a2 a3 a4) := by
  intro a0 a1 a2 a3 a4
  unfold State.tribFrameIn
  with_reducible repeat' (first | assumption | apply State.pushD_keeps | apply State.admitD_keeps | apply State.newFrame_keeps | apply State.macControl_keeps | apply State.toHearth_keeps | apply State.count_keeps | (refine fun (t : State) _ (_ : Keeps r t) => ?_) | apply keeps_ite)

theorem State.unblock_keeps {r : State} {s0 : State} (h0 : Keeps r s0) : ∀ a0, Keeps r (State.unblock s0 a0) := by
  intro a0
  unfold State.unblock
  with_reducible repeat' (first | assumption | apply State.enterRaw_keeps | apply State.drainE_keeps | apply State.drainD_keeps | apply State.releaseAfter_keeps | apply State.claimWaiting_keeps | apply keeps_ite)

theorem State.settle_keeps {r : State} {s0 : State} (h0 : Keeps r s0) : Keeps r (State.settle s0) := by
  unfold State.settle
  with_reducible repeat' (first | assumption | apply State.saRefresh_keeps | apply State.pairSettle_keeps | apply State.announce_keeps | apply State.unblock_keeps | apply forEach_keeps | (refine fun (t : State) _ (_ : Keeps r t) => ?_))

theorem done_keeps {r s0 : State} (h0 : Keeps r s0) : KeepsOut r (done s0) := fun _ e => by
  rw [← Host.Outcome.next.inj e]; exact State.settle_keeps h0

theorem State.setDeficit_keeps {r : State} {s0 : State} (h0 : Keeps r s0) : ∀ a0 a1 a2, Keeps r (State.setDeficit s0 a0 a1 a2) := by
  intro a0 a1 a2
  unfold State.setDeficit
  with_reducible repeat' (first | assumption | apply State.putN_keeps)

theorem State.drrQueue_keeps {r : State} : ∀ (a2 : Nat) {s0 : State} (h0 : Keeps r s0) a0 a1, Keeps r (State.drrQueue s0 a0 a1 a2).2 := by
  intro a2
  induction a2 with
  | zero => intro s0 h0 a0 a1; unfold State.drrQueue; with_reducible repeat' (first | assumption)
  | succ n ih => intro s0 h0 a0 a1; unfold State.drrQueue; with_reducible repeat' (first | assumption | apply State.setPort_keeps | apply ih | apply keeps_ite2 | split | ((try lift_lets); intro x; have hx : Keeps r x := (by unfold x; with_reducible repeat' (first | assumption | apply State.setDeficit_keeps | apply State.setPort_keeps)); clear_value x) | dsimp only)

theorem State.weightedPick_keeps {r : State} {s0 : State} (h0 : Keeps r s0) : ∀ a0 a1, Keeps r (State.weightedPick s0 a0 a1).2 := by
  intro a0 a1
  unfold State.weightedPick
  with_reducible repeat' (first | assumption | apply State.drrQueue_keeps | apply keeps_ite2)

theorem State.chargeLink_keeps {r : State} {s0 : State} (h0 : Keeps r s0) : ∀ a0 a1 a2, Keeps r (State.chargeLink s0 a0 a1 a2) := by
  intro a0 a1 a2
  unfold State.chargeLink
  with_reducible repeat' (first | assumption | apply State.setPort_keeps)

theorem State.drrPort_keeps {r : State} : ∀ (a2 : Nat) {s0 : State} (h0 : Keeps r s0) a0 a1, Keeps r (State.drrPort s0 a0 a1 a2).2 := by
  intro a2
  induction a2 with
  | zero => intro s0 h0 a0 a1; unfold State.drrPort; with_reducible repeat' (first | assumption)
  | succ n ih => intro s0 h0 a0 a1; unfold State.drrPort; with_reducible repeat' (first | assumption | apply State.setPort_keeps | apply ih | apply keeps_ite2 | split | ((try lift_lets); intro x; have hx : Keeps r x := (by unfold x; with_reducible repeat' (first | assumption | apply State.setPort_keeps)); clear_value x) | ((try lift_lets); intro x; unfold x; clear x; beta_reduce) | ((try lift_lets); intro x; clear_value x) | dsimp only)

theorem State.pickWeighted_keeps {r : State} {s0 : State} (h0 : Keeps r s0) : ∀ a0, Keeps r (State.pickWeighted s0 a0).2 := by
  intro a0
  unfold State.pickWeighted
  with_reducible repeat' (first | assumption | apply State.drrPort_keeps | apply State.weightedPick_keeps | (refine foldl2_keeps (fun _ _ _ => ?_) ?_) | apply keeps_ite2)

theorem State.purge_keeps {r : State} {s0 : State} (h0 : Keeps r s0) : ∀ a0, Keeps r (State.purge s0 a0) := by
  intro a0
  unfold State.purge
  with_reducible repeat' (first | assumption | apply State.purgeQueue_keeps | apply forEach_keeps | (refine fun (t : State) _ (_ : Keeps r t) => ?_))

theorem State.countLate_keeps {r : State} {s0 : State} (h0 : Keeps r s0) : ∀ a0, Keeps r (State.countLate s0 a0) := by
  intro a0
  unfold State.countLate
  with_reducible repeat' (first | assumption | apply State.count_keeps | apply State.raiseKeyed_keeps)

theorem State.leaves_keeps {r : State} {s0 : State} (h0 : Keeps r s0) : ∀ a0, Keeps r (State.leaves s0 a0) := by
  intro a0
  unfold State.leaves
  with_reducible repeat' (first | assumption | apply State.crosses_keeps | apply State.readRow_keeps | apply keeps_ite)

theorem State.startFrame_keeps {r : State} {s0 : State} (h0 : Keeps r s0) : ∀ a0 a1 a2 a3, Keeps r (State.startFrame s0 a0 a1 a2 a3) := by
  intro a0 a1 a2 a3
  unfold State.startFrame
  with_reducible repeat' (first | assumption | apply State.setPort_keeps | apply State.leaves_keeps | apply State.pc_keeps | apply State.countLate_keeps | apply State.chargeLink_keeps | apply State.setDeficit_keeps | apply State.dequeue_keeps | apply keeps_ite | split)

theorem State.select_keeps {r : State} {s0 : State} (h0 : Keeps r s0) : ∀ a0, Keeps r (State.select s0 a0) := by
  intro a0
  unfold State.select
  with_reducible repeat' (first | assumption | apply State.pickWeighted_keeps | apply State.setPort_keeps | apply State.startFrame_keeps | (refine keeps_eq2 ?_ (by assumption)) | apply keeps_ite | split | ((try lift_lets); intro x; have hx : Keeps r x := (by unfold x; with_reducible repeat' (first | assumption | apply State.purge_keeps | apply State.settleCredit_keeps | apply forEach_keeps | (refine fun (t : State) _ (_ : Keeps r t) => ?_))); clear_value x))

theorem execFrameSelected_keeps {r : State} {s0 : State} (h0 : Keeps r s0) : ∀ a0, KeepsOut r (execFrameSelected a0 s0) := by
  intro a0
  unfold execFrameSelected
  with_reducible repeat' (first | assumption | apply State.select_keeps | apply State.setPort_keeps | apply State.count_keeps | apply State.emit_keeps | apply done_keeps | apply keepsOut_ite | split)

theorem State.markLate_keeps {r : State} {s0 : State} (h0 : Keeps r s0) : ∀ a0, Keeps r (State.markLate s0 a0) := by
  intro a0
  unfold State.markLate
  with_reducible repeat' (first | assumption | apply State.setPipe_keeps | apply State.setPort_keeps | apply State.countLate_keeps | apply forEach_keeps | (refine fun (t : State) _ (_ : Keeps r t) => ?_))

theorem execFrameDue_keeps {r : State} {s0 : State} (h0 : Keeps r s0) : ∀ a0, KeepsOut r (execFrameDue a0 s0) := by
  intro a0
  unfold execFrameDue
  with_reducible repeat' (first | assumption | apply State.markLate_keeps | apply State.startFrame_keeps | apply State.purge_keeps | apply done_keeps | apply keeps_ite | apply keepsOut_ite | split)

theorem State.spoil_keeps {r : State} {s0 : State} (h0 : Keeps r s0) : ∀ a0, Keeps r (State.spoil s0 a0) := by
  intro a0
  unfold State.spoil
  with_reducible repeat' (first | assumption | apply State.setPort_keeps | apply State.draw_keeps | split)

theorem execClassCUnderrun_keeps {r : State} {s0 : State} (h0 : Keeps r s0) : ∀ a0, KeepsOut r (execClassCUnderrun a0 s0) := by
  intro a0
  unfold execClassCUnderrun
  with_reducible repeat' (first | assumption | apply State.raiseKeyed_keeps | apply State.putN_keeps | apply State.raise_keeps | apply State.spoil_keeps | apply State.count_keeps | apply done_keeps | apply keeps_ite | apply keepsOut_ite | split)

theorem State.tcMeasure_keeps {r : State} {s0 : State} (h0 : Keeps r s0) : ∀ a0 a1, Keeps r (State.tcMeasure s0 a0 a1) := by
  intro a0 a1
  unfold State.tcMeasure
  with_reducible repeat' (first | assumption | apply State.raiseOnce_keeps | apply State.putN_keeps | apply State.count_keeps | apply keeps_ite | split)

theorem State.countTx_keeps {r : State} {s0 : State} (h0 : Keeps r s0) : ∀ a0, Keeps r (State.countTx s0 a0) := by
  intro a0
  unfold State.countTx
  with_reducible repeat' (first | assumption | apply State.count_keeps | apply State.countBy_keeps | apply keeps_ite)

theorem State.chargeCredit_keeps {r : State} {s0 : State} (h0 : Keeps r s0) : ∀ a0 a1 a2, Keeps r (State.chargeCredit s0 a0 a1 a2) := by
  intro a0 a1 a2
  unfold State.chargeCredit
  with_reducible repeat' (first | assumption | apply State.setCredit_keeps | apply keeps_ite)

theorem execFrameTxEnd_keeps {r : State} {s0 : State} (h0 : Keeps r s0) : ∀ a0 a1, KeepsOut r (execFrameTxEnd a0 a1 s0) := by
  intro a0 a1
  unfold execFrameTxEnd
  with_reducible repeat' (first | assumption | apply State.traceEnd_keeps | apply State.pauseAfter_keeps | apply State.emit_keeps | apply State.sendPcs_keeps | apply State.tcMeasure_keeps | apply State.queueEmptied_keeps | apply State.chargeLink_keeps | apply State.setDeficit_keeps | apply State.chargeCredit_keeps | apply State.countTx_keeps | apply State.count_keeps | apply State.countBy_keeps | apply State.setPort_keeps | apply State.settleCredit_keeps | apply done_keeps | apply keeps_ite | split)

theorem execGateEdge_keeps {r : State} {s0 : State} (h0 : Keeps r s0) : ∀ a0, KeepsOut r (execGateEdge a0 s0) := by
  intro a0
  unfold execGateEdge
  with_reducible repeat' (first | assumption | apply State.settleCredit_keeps | apply done_keeps)

theorem State.takeover_keeps {r : State} {s0 : State} (h0 : Keeps r s0) : ∀ a0, Keeps r (State.takeover s0 a0) := by
  intro a0
  unfold State.takeover
  with_reducible repeat' (first | assumption | apply State.purge_keeps | apply State.mirror_keeps | apply State.raise_keeps | apply State.setPort_keeps | apply State.putN_keeps | apply State.clearRow_keeps | apply State.bumpVersion_keeps | apply State.put_keeps | apply State.setRowState_keeps | apply forEach_keeps | apply State.settleCredit_keeps | (refine fun (t : State) _ (_ : Keeps r t) => ?_) | apply keeps_ite)

theorem execGateTakeover_keeps {r : State} {s0 : State} (h0 : Keeps r s0) : ∀ a0, KeepsOut r (execGateTakeover a0 s0) := by
  intro a0
  unfold execGateTakeover
  with_reducible repeat' (first | assumption | apply State.takeover_keeps | apply done_keeps | apply keepsOut_ite)

theorem State.stepGates_keeps {r : State} {s0 : State} (h0 : Keeps r s0) {f1 : State → State} (h1 : ∀ t, Keeps r t → Keeps r (f1 t)) : Keeps r (State.stepGates s0 f1) := by
  unfold State.stepGates
  with_reducible repeat' (first | assumption | apply State.settleCredit_keeps | apply State.takeover_keeps | apply forEach_keeps | apply h1 | (refine fun (t : State) _ (_ : Keeps r t) => ?_) | apply keeps_ite)

theorem execPauseRepeat_keeps {r : State} {s0 : State} (h0 : Keeps r s0) : ∀ a0 a1, KeepsOut r (execPauseRepeat a0 a1 s0) := by
  intro a0 a1
  unfold execPauseRepeat
  with_reducible repeat' (first | assumption | apply State.setPort_keeps | apply done_keeps | apply State.sendPause_keeps | apply keepsOut_ite | split)

theorem execPeerPauseExpiry_keeps {r : State} {s0 : State} (h0 : Keeps r s0) : ∀ a0 a1, KeepsOut r (execPeerPauseExpiry a0 a1 s0) := by
  intro a0 a1
  unfold execPeerPauseExpiry
  with_reducible repeat' (first | assumption | apply State.setPort_keeps | apply done_keeps | apply keeps_ite | split)

theorem State.flap_keeps {r : State} {s0 : State} (h0 : Keeps r s0) : ∀ a0 a1, Keeps r (State.flap s0 a0 a1) := by
  intro a0 a1
  unfold State.flap
  with_reducible repeat' (first | assumption | apply State.raise_keeps | apply State.setBolt_keeps | apply keeps_ite)

theorem State.serveLearn_keeps {r : State} {s0 : State} (h0 : Keeps r s0) : ∀ a0 a1, Keeps r (State.serveLearn s0 a0 a1) := by
  intro a0 a1
  unfold State.serveLearn
  with_reducible repeat' (first | assumption | apply State.raiseOnce_keeps | apply State.setRowState_keeps | apply State.putO_keeps | apply State.flap_keeps | apply State.putN_keeps | apply State.bumpVersion_keeps | apply State.count_keeps | apply keeps_ite | split | ((try lift_lets); intro x; have hx : Keeps r x := (by unfold x; with_reducible repeat' (first | assumption | apply State.pc_keeps)); clear_value x) | ((try lift_lets); intro x; clear_value x))

theorem execStationLearn_keeps {r : State} {s0 : State} (h0 : Keeps r s0) : ∀ a0, KeepsOut r (execStationLearn a0 s0) := by
  intro a0
  unfold execStationLearn
  with_reducible repeat' (first | assumption | apply State.setBolt_keeps | apply State.serveLearn_keeps | apply done_keeps | split)

theorem State.stationEmpty_keeps {r : State} {s0 : State} (h0 : Keeps r s0) : ∀ a0, Keeps r (State.stationEmpty s0 a0) := by
  intro a0
  unfold State.stationEmpty
  with_reducible repeat' (first | assumption | apply State.clearRow_keeps | apply State.bumpVersion_keeps)

theorem State.serveAll_keeps {r : State} {s0 : State} (h0 : Keeps r s0) : ∀ a0, Keeps r (State.serveAll s0 a0) := by
  intro a0
  unfold State.serveAll
  with_reducible repeat' (first | assumption | apply State.setBolt_keeps | apply State.serveLearn_keeps | apply forEach_keeps | (refine fun (t : State) _ (_ : Keeps r t) => ?_))

theorem State.ageSweep_keeps {r : State} {s0 : State} (h0 : Keeps r s0) : ∀ a0, Keeps r (State.ageSweep s0 a0) := by
  intro a0
  unfold State.ageSweep
  with_reducible repeat' (first | assumption | apply State.bumpVersion_keeps | apply State.stationEmpty_keeps | apply State.count_keeps | apply forEach_keeps | apply State.pc_keeps | (refine fun (t : State) _ (_ : Keeps r t) => ?_) | apply keeps_ite)

theorem execAgeSweepTick_keeps {r : State} {s0 : State} (h0 : Keeps r s0) : ∀ a0, KeepsOut r (execAgeSweepTick a0 s0) := by
  intro a0
  unfold execAgeSweepTick
  with_reducible repeat' (first | assumption | apply State.setBolt_keeps | apply State.serveAll_keeps | apply State.ageSweep_keeps | apply done_keeps | apply keepsOut_ite)

theorem State.flushStations_keeps {r : State} {s0 : State} (h0 : Keeps r s0) : ∀ a0 a1, Keeps r (State.flushStations s0 a0 a1) := by
  intro a0 a1
  unfold State.flushStations
  with_reducible repeat' (first | assumption | apply State.setBolt_keeps | apply State.stationEmpty_keeps | apply forEach_keeps | (refine fun (t : State) _ (_ : Keeps r t) => ?_))

theorem execStnFlushComplete_keeps {r : State} {s0 : State} (h0 : Keeps r s0) : ∀ a0, KeepsOut r (execStnFlushComplete a0 s0) := by
  intro a0
  unfold execStnFlushComplete
  with_reducible repeat' (first | assumption | apply State.setBolt_keeps | apply State.raise_keeps | apply done_keeps | split)

theorem State.drain_keeps {r : State} {s0 : State} (h0 : Keeps r s0) : ∀ a0 a1, Keeps r (State.drain s0 a0 a1) := by
  intro a0 a1
  unfold State.drain
  with_reducible repeat' (first | assumption | apply State.drainD_keeps | apply State.drainE_keeps | split)

theorem State.fillKey_keeps {r : State} {s0 : State} (h0 : Keeps r s0) : ∀ a0 a1, Keeps r (State.fillKey s0 a0 a1) := by
  intro a0 a1
  unfold State.fillKey
  with_reducible repeat' (first | assumption | apply State.setPipe_keeps | apply State.drain_keeps)

theorem State.faultRow_keeps {r : State} {s0 : State} (h0 : Keeps r s0) : ∀ a0 a1 a2, Keeps r (State.faultRow s0 a0 a1 a2) := by
  intro a0 a1 a2
  unfold State.faultRow
  with_reducible repeat' (first | assumption | apply State.clear_keeps | apply State.putN_keeps | apply State.saFault_keeps | apply State.setRowState_keeps | apply State.raise_keeps | apply keeps_ite)

theorem State.markFrames_keeps {r : State} {s0 : State} (h0 : Keeps r s0) : ∀ a0 a1 a2, Keeps r (State.markFrames s0 a0 a1 a2) := by
  intro a0 a1 a2
  unfold State.markFrames
  with_reducible repeat' (first | assumption | ((try lift_lets); intro x; have hx : Keeps r x := (by unfold x; with_reducible repeat' (first | assumption | apply State.setPipe_keeps)); clear_value x) | ((try lift_lets); intro x; unfold x; clear x; beta_reduce) | ((try lift_lets); intro x; clear_value x) | dsimp only | apply keeps_mk)

theorem State.poisonMark_keeps {r : State} {s0 : State} (h0 : Keeps r s0) : ∀ a0 a1, Keeps r (State.poisonMark s0 a0 a1).2 := by
  intro a0 a1
  unfold State.poisonMark
  with_reducible repeat' (first | assumption | apply State.setTrib_keeps | apply State.count_keeps | apply keeps_ite2)

theorem State.poisonFrame_keeps {r : State} {s0 : State} (h0 : Keeps r s0) : ∀ a0 a1, Keeps r (State.poisonFrame s0 a0 a1).2 := by
  intro a0 a1
  unfold State.poisonFrame
  with_reducible repeat' (first | assumption | apply State.markFrames_keeps | apply State.count_keeps | apply State.poisonMark_keeps | apply keeps_ite2 | split)

theorem State.poisonPanel_keeps {r : State} {s0 : State} (h0 : Keeps r s0) : ∀ a0 a1, Keeps r (State.poisonPanel s0 a0 a1).2 := by
  intro a0 a1
  unfold State.poisonPanel
  with_reducible repeat' (first | assumption | apply State.setTrib_keeps | apply State.count_keeps | apply keeps_ite2)

theorem State.poisonRx_keeps {r : State} {s0 : State} (h0 : Keeps r s0) : ∀ a0 a1, Keeps r (State.poisonRx s0 a0 a1).2 := by
  intro a0 a1
  unfold State.poisonRx
  with_reducible repeat' (first | assumption | apply State.setTrib_keeps | apply State.count_keeps | apply keeps_ite2)

theorem State.poisonPassing_keeps {r : State} {s0 : State} (h0 : Keeps r s0) : ∀ a0 a1 a2 a3, Keeps r (State.poisonPassing s0 a0 a1 a2 a3).2 := by
  intro a0 a1 a2 a3
  unfold State.poisonPassing
  with_reducible repeat' (first | assumption | apply State.count_keeps | apply State.setPort_keeps | apply State.setTrib_keeps | apply State.poisonRx_keeps | apply State.poisonPanel_keeps | apply keeps_ite | apply keeps_ite2 | split)

theorem State.poisonAll_keeps {α : Type} {r : State} {port : α → Nat} {one : State → α → Bool × State}
    (h1 : ∀ t x, Keeps r t → Keeps r (one t x).2) : ∀ {l : List α} {s : State}, Keeps r s → Keeps r (s.poisonAll port one l).2
  | [], _, h => h
  | x :: l, s, h => by
    simp only [State.poisonAll]
    exact State.poisonAll_keeps h1 (l := l) (h1 _ _ h)

theorem State.replays_keeps {r : State} {s0 : State} (h0 : Keeps r s0) : ∀ a0 a1 a2, Keeps r (State.replays s0 a0 a1 a2) := by
  intro a0 a1 a2
  unfold State.replays
  with_reducible repeat' (first | assumption | apply State.setPort_keeps | apply forEach_keeps | apply State.markFrames_keeps | (refine fun (t : State) _ (_ : Keeps r t) => ?_) | apply keeps_ite | split)

theorem State.slotLost_keeps {r : State} {s0 : State} (h0 : Keeps r s0) : ∀ a0 a1 a2, Keeps r (State.slotLost s0 a0 a1 a2) := by
  intro a0 a1 a2
  unfold State.slotLost
  with_reducible repeat' (first | assumption | apply State.waitSlot_keeps | apply State.setPipe_keeps | apply State.evict_keeps | apply keeps_ite | split | ((try lift_lets); intro x; clear_value x))

theorem State.persists_keeps {r : State} {s0 : State} (h0 : Keeps r s0) : ∀ a0 a1 a2, Keeps r (State.persists s0 a0 a1 a2).2 := by
  intro a0 a1 a2
  unfold State.persists
  with_reducible repeat' (first | assumption | apply State.setPort_keeps | apply State.faultRow_keeps | apply State.slotLost_keeps | apply State.poisonPassing_keeps | apply State.poisonRx_keeps | apply State.poisonPanel_keeps | apply State.poisonFrame_keeps | apply State.poisonAll_keeps | (refine fun (t : State) _ (_ : Keeps r t) => ?_) | apply keeps_ite | apply keeps_ite2 | split)

theorem execBeatParityError_keeps {r : State} {s0 : State} (h0 : Keeps r s0) : ∀ a0, KeepsOut r (execBeatParityError a0 s0) := by
  intro a0
  unfold execBeatParityError
  with_reducible repeat' (first | assumption | apply State.raise_keeps | apply State.persists_keeps | apply State.count_keeps | apply State.pc_keeps | apply State.replays_keeps | apply State.setPipe_keeps | apply done_keeps | apply keepsOut_ite | split | ((try lift_lets); intro x; clear_value x))

theorem State.moveCursor_keeps {r : State} {s0 : State} (h0 : Keeps r s0) : ∀ a0 a1 a2, Keeps r (State.moveCursor s0 a0 a1 a2) := by
  intro a0 a1 a2
  unfold State.moveCursor
  with_reducible repeat' (first | assumption | apply State.putN_keeps)

theorem State.selectRow_keeps {r : State} {s0 : State} (h0 : Keeps r s0) : ∀ a0 a1 a2, Keeps r (State.selectRow s0 a0 a1 a2).1 := by
  intro a0 a1 a2
  unfold State.selectRow
  with_reducible repeat' (first | assumption | apply refuse_keeps | apply State.moveCursor_keeps | apply okay_keeps | apply keeps_ite1)

theorem State.opNextEff_keeps {r : State} {s0 : State} (h0 : Keeps r s0) : ∀ a0 a1, Keeps r (State.opNextEff s0 a0 a1).1 := by
  intro a0 a1
  unfold State.opNextEff
  with_reducible repeat' (first | assumption | apply State.moveCursor_keeps | apply okay_keeps)

theorem State.opClearEff_keeps {r : State} {s0 : State} (h0 : Keeps r s0) : ∀ a0 a1, Keeps r (State.opClearEff s0 a0 a1).1 := by
  intro a0 a1
  unfold State.opClearEff
  with_reducible repeat' (first | assumption | apply State.clearWhere_keeps | apply okay_keeps)

theorem State.opReadEff_keeps {r : State} {s0 : State} (h0 : Keeps r s0) : ∀ a0 a1, Keeps r (State.opReadEff s0 a0 a1).1 := by
  intro a0 a1
  unfold State.opReadEff
  with_reducible repeat' (first | assumption | apply State.putN_keeps | apply okay_keeps | apply State.put_keeps | apply forEach_keeps | apply refuse_keeps | (refine fun (t : State) _ (_ : Keeps r t) => ?_) | apply keeps_ite1 | split)

theorem State.smBlob_keeps {r s t : State} {i c : Nat} {k : Option Nat} (e : s.smBlob i k = .error (t, c)) (h : Keeps r s) :
    Keeps r t := by
  simp only [State.smBlob] at e
  split at e
  · split at e
    · exact absurd e (by simp)
    · split at e
      · cases e; exact State.tagFailure_keeps h _ _ _
      · exact absurd e (by simp)
  · cases e; exact State.count_keeps h _

theorem State.blobFor_keeps {r s t : State} {a i c : Nat} {k : Option Nat} (e : s.blobFor a i k = .error (t, c)) (h : Keeps r s) :
    Keeps r t := by
  simp only [State.blobFor] at e
  split at e
  · exact State.smBlob_keeps e h
  · exact absurd e (by simp)

theorem State.takeFields_keeps {r : State} {s0 : State} (h0 : Keeps r s0) : ∀ a0 a1 a2 a3, Keeps r (State.takeFields s0 a0 a1 a2 a3) := by
  intro a0 a1 a2 a3
  unfold State.takeFields
  with_reducible repeat' (first | assumption | apply State.put_keeps | apply forEach_keeps | (refine fun (t : State) _ (_ : Keeps r t) => ?_))

theorem State.saCommitUse_keeps {r : State} {s0 : State} (h0 : Keeps r s0) : ∀ a0, Keeps r (State.saCommitUse s0 a0) := by
  intro a0
  unfold State.saCommitUse
  with_reducible repeat' (first | assumption | apply State.saDiscard_keeps | apply State.putN_keeps | apply keeps_ite)

theorem State.saInstall_keeps {r : State} {s0 : State} (h0 : Keeps r s0) : ∀ a0 a1 a2, Keeps r (State.saInstall s0 a0 a1 a2).1 := by
  intro a0 a1 a2
  unfold State.saInstall
  with_reducible repeat' (first | assumption | apply State.unwrapFailed_keeps | apply State.mirror_keeps | apply okay_keeps | apply State.setRowState_keeps | apply State.saCommitUse_keeps | apply State.forgetItem_keeps | apply State.keyMarked_keeps | apply State.putN_keeps | apply State.putO_keeps | apply State.clearRow_keeps | apply State.takeFields_keeps | apply refuse_keeps | (refine State.blobFor_keeps (by assumption) ?_) | apply keeps_ite | apply keeps_ite1 | split)

theorem State.saUpdate_keeps {r : State} {s0 : State} (h0 : Keeps r s0) : ∀ a0 a1, Keeps r (State.saUpdate s0 a0 a1).1 := by
  intro a0 a1
  unfold State.saUpdate
  with_reducible repeat' (first | assumption | apply State.mirror_keeps | apply okay_keeps | apply State.bumpVersion_keeps | apply State.saCommitUse_keeps | apply State.pnWarn_keeps | apply State.putN_keeps | apply check_keeps | apply keeps_ite)

theorem State.saDelete_keeps {r : State} {s0 : State} (h0 : Keeps r s0) : ∀ a0, Keeps r (State.saDelete s0 a0).1 := by
  intro a0
  unfold State.saDelete
  with_reducible repeat' (first | assumption | apply State.mirror_keeps | apply okay_keeps | apply State.saSet_keeps | apply State.saDiscard_keeps | apply State.saEmptied_keeps | apply State.bumpVersion_keeps | apply refuse_keeps | apply keeps_ite | apply keeps_ite1)

theorem State.emCommit_keeps {r : State} {s0 : State} (h0 : Keeps r s0) : ∀ a0 a1, Keeps r (State.emCommit s0 a0 a1).1 := by
  intro a0 a1
  unfold State.emCommit
  with_reducible repeat' (first | assumption | apply State.mirror_keeps | apply okay_keeps | apply State.setRowState_keeps | apply State.takeFields_keeps | apply State.putN_keeps | apply checkInOrder_keeps)

theorem State.policyCommit_keeps {r : State} {s0 : State} (h0 : Keeps r s0) : ∀ a0 a1, Keeps r (State.policyCommit s0 a0 a1).1 := by
  intro a0 a1
  unfold State.policyCommit
  with_reducible repeat' (first | assumption | apply State.takeFields_keeps | apply State.putN_keeps | apply State.setRowState_keeps | apply okay_keeps | apply check_keeps)

theorem State.stationCommit_keeps {r : State} {s0 : State} (h0 : Keeps r s0) : ∀ a0 a1, Keeps r (State.stationCommit s0 a0 a1).1 := by
  intro a0 a1
  unfold State.stationCommit
  with_reducible repeat' (first | assumption | apply State.takeFields_keeps | apply State.putN_keeps | apply State.setRowState_keeps | apply okay_keeps | apply checkInOrder_keeps)

theorem State.tgApply_keeps {r : State} {s0 : State} (h0 : Keeps r s0) : ∀ a0, Keeps r (State.tgApply s0 a0) := by
  intro a0
  unfold State.tgApply
  with_reducible repeat' (first | assumption | apply State.toAcquire_keeps | apply State.clear_keeps | apply forEach_keeps | (refine fun (t : State) _ (_ : Keeps r t) => ?_) | apply keeps_ite)

theorem State.groupWrite_keeps {r : State} {s0 : State} (h0 : Keeps r s0) : ∀ a0 a1, Keeps r (State.groupWrite s0 a0 a1) := by
  intro a0 a1
  unfold State.groupWrite
  with_reducible repeat' (first | assumption | apply State.toAcquire_keeps | apply State.putN_keeps | apply forEach_keeps | (refine fun (t : State) _ (_ : Keeps r t) => ?_) | apply keeps_ite)

theorem State.twillCommit_keeps {r : State} {s0 : State} (h0 : Keeps r s0) : ∀ a0 a1, Keeps r (State.twillCommit s0 a0 a1).1 := by
  intro a0 a1
  unfold State.twillCommit
  with_reducible repeat' (first | assumption | apply refuse_keeps | apply State.putN_keeps | apply State.clear_keeps | apply forEach_keeps | apply State.groupWrite_keeps | apply State.setRowState_keeps | apply okay_keeps | apply check_keeps | (refine fun (t : State) _ (_ : Keeps r t) => ?_) | apply keeps_ite | apply keeps_ite1)

theorem State.twillDelete_keeps {r : State} {s0 : State} (h0 : Keeps r s0) : ∀ a0, Keeps r (State.twillDelete s0 a0).1 := by
  intro a0
  unfold State.twillDelete
  with_reducible repeat' (first | assumption | apply State.clearRow_keeps | apply State.bumpVersion_keeps | apply State.groupWrite_keeps | apply State.setRowState_keeps | apply okay_keeps | apply check_keeps | apply keeps_ite1)

theorem State.queueWrite_keeps {r : State} {s0 : State} (h0 : Keeps r s0) : ∀ a0 a1, Keeps r (State.queueWrite s0 a0 a1) := by
  intro a0 a1
  unfold State.queueWrite
  with_reducible repeat' (first | assumption | apply State.setRowState_keeps | apply State.setCredit_keeps | apply State.putN_keeps | apply forEach_keeps | apply State.settleCredit_keeps | (refine fun (t : State) _ (_ : Keeps r t) => ?_) | apply keeps_ite)

theorem State.queueCommit_keeps {r : State} {s0 : State} (h0 : Keeps r s0) : ∀ a0 a1, Keeps r (State.queueCommit s0 a0 a1).1 := by
  intro a0 a1
  unfold State.queueCommit
  with_reducible repeat' (first | assumption | apply State.queueWrite_keeps | apply okay_keeps | apply check_keeps)

theorem State.queueDelete_keeps {r : State} {s0 : State} (h0 : Keeps r s0) : ∀ a0, Keeps r (State.queueDelete s0 a0).1 := by
  intro a0
  unfold State.queueDelete
  with_reducible repeat' (first | assumption | apply State.queueWrite_keeps | apply okay_keeps | apply check_keeps)

theorem State.gateCommit_keeps {r : State} {s0 : State} (h0 : Keeps r s0) : ∀ a0 a1, Keeps r (State.gateCommit s0 a0 a1).1 := by
  intro a0 a1
  unfold State.gateCommit
  with_reducible repeat' (first | assumption | apply State.mirror_keeps | apply okay_keeps | apply State.takeFields_keeps | apply State.setRowState_keeps | apply check_keeps)

theorem State.gateDelete_keeps {r : State} {s0 : State} (h0 : Keeps r s0) : ∀ a0, Keeps r (State.gateDelete s0 a0).1 := by
  intro a0
  unfold State.gateDelete
  with_reducible repeat' (first | assumption | apply State.mirror_keeps | apply okay_keeps | apply State.clear_keeps | apply State.setRowState_keeps | apply check_keeps)

theorem State.streamCommit_keeps {r : State} {s0 : State} (h0 : Keeps r s0) : ∀ a0 a1 a2, Keeps r (State.streamCommit s0 a0 a1 a2).1 := by
  intro a0 a1 a2
  unfold State.streamCommit
  with_reducible repeat' (first | assumption | apply underAborts_keeps | apply State.clear_keeps | apply State.setRowState_keeps | apply okay_keeps | apply State.putN_keeps | apply State.putO_keeps | apply State.takeFields_keeps | apply State.unwrapFailed_keeps | apply refuse_keeps | (refine State.blobFor_keeps (by assumption) ?_) | apply keeps_ite1 | split)

theorem State.streamDelete_keeps {r : State} {s0 : State} (h0 : Keeps r s0) : ∀ a0, Keeps r (State.streamDelete s0 a0).1 := by
  intro a0
  unfold State.streamDelete
  with_reducible repeat' (first | assumption | apply State.streamEmpty_keeps | apply okay_keeps | apply check_keeps)

theorem State.blobCommit_keeps {r : State} {s0 : State} (h0 : Keeps r s0) : ∀ a0 a1, Keeps r (State.blobCommit s0 a0 a1).1 := by
  intro a0 a1
  unfold State.blobCommit
  with_reducible repeat' (first | assumption | apply State.putO_keeps | apply State.setRowState_keeps | apply okay_keeps | apply check_keeps)

theorem State.commitRow_keeps {r : State} {s0 : State} (h0 : Keeps r s0) : ∀ a0 a1 a2 a3, Keeps r (State.commitRow s0 a0 a1 a2 a3).1 := by
  intro a0 a1 a2 a3
  unfold State.commitRow
  with_reducible repeat' (first | assumption | apply State.blobCommit_keeps | apply State.streamCommit_keeps | apply State.gateCommit_keeps | apply State.queueCommit_keeps | apply State.twillCommit_keeps | apply State.stationCommit_keeps | apply State.policyCommit_keeps | apply State.emCommit_keeps | apply State.saUpdate_keeps | apply State.saInstall_keeps | apply keeps_ite1)

theorem State.deleteRow_keeps {r : State} {s0 : State} (h0 : Keeps r s0) : ∀ a0 a1, Keeps r (State.deleteRow s0 a0 a1).1 := by
  intro a0 a1
  unfold State.deleteRow
  with_reducible repeat' (first | assumption | apply State.streamDelete_keeps | apply State.gateDelete_keeps | apply State.queueDelete_keeps | apply State.twillDelete_keeps | apply check_keeps | apply State.mirror_keeps | apply okay_keeps | apply State.saDelete_keeps | apply State.clearRow_keeps | apply State.bumpVersion_keeps | apply keeps_ite1)

theorem State.onRow_keeps {r s0 : State} (h0 : Keeps r s0) {n win : Nat} {v : Bool} {eff : Nat → Eff}
    (he : ∀ row, Keeps r (eff row).1) : Keeps r (s0.onRow n win v eff).1 := by
  unfold State.onRow
  split
  · exact h0
  · exact underAborts_keeps h0 _ (he _)

theorem State.opCommitEff_keeps {r s0 : State} (h0 : Keeps r s0) (n win : Nat) (u : Bool) (k : Option Nat) :
    Keeps r (s0.opCommitEff n win u k).1 := State.onRow_keeps h0 (fun _ => State.commitRow_keeps h0 _ _ _ _)

theorem State.opDeleteEff_keeps {r s0 : State} (h0 : Keeps r s0) (n win : Nat) :
    Keeps r (s0.opDeleteEff n win).1 := State.onRow_keeps h0 (fun _ => State.deleteRow_keeps h0 _ _)

theorem State.opEff_keeps {r : State} {s0 : State} (h0 : Keeps r s0) : ∀ a0 a1 a2 a3, Keeps r (State.opEff s0 a0 a1 a2 a3).1 := by
  intro a0 a1 a2 a3
  unfold State.opEff
  with_reducible repeat' (first | assumption | apply okay_keeps | apply check_keeps | apply State.opClearEff_keeps | apply State.opNextEff_keeps | apply State.opDeleteEff_keeps | apply State.opCommitEff_keeps | apply State.opReadEff_keeps | apply keeps_ite1)

theorem State.wrapEff_keeps {r : State} {s0 : State} (h0 : Keeps r s0) : ∀ a0 a1, Keeps r (State.wrapEff s0 a0 a1).1 := by
  intro a0 a1
  unfold State.wrapEff
  with_reducible repeat' (first | assumption | apply State.setRowState_keeps | apply State.putO_keeps | apply okay_keeps | apply check_keeps | apply State.clear_keeps)

theorem State.legacyEff_keeps {r : State} {s0 : State} (h0 : Keeps r s0) : ∀ a0 a1, Keeps r (State.legacyEff s0 a0 a1).1 := by
  intro a0 a1
  unfold State.legacyEff
  with_reducible repeat' (first | assumption | apply State.mirror_keeps | apply okay_keeps | apply State.setRowState_keeps | apply State.count_keeps | apply State.putO_keeps | apply State.putN_keeps | apply refuse_keeps | split | ((try lift_lets); intro x; clear_value x))

theorem legacyAfter_keeps {r : State} {e0 : Eff} (h0 : Keeps r e0.1) : ∀ a0, Keeps r (legacyAfter a0 e0).1 := by
  intro a0
  unfold legacyAfter
  with_reducible repeat' (first | assumption | apply State.clear_keeps | apply State.raise_keeps | split)

theorem execSaRetired_keeps {r : State} {s0 : State} (h0 : Keeps r s0) : ∀ a0, KeepsOut r (execSaRetired a0 s0) := by
  intro a0
  unfold execSaRetired
  with_reducible repeat' (first | assumption | apply State.saEmptied_keeps | apply done_keeps | apply keepsOut_ite)

theorem State.conflictCheck_keeps {r : State} {s0 : State} (h0 : Keeps r s0) : ∀ a0, Keeps r (State.conflictCheck s0 a0) := by
  intro a0
  unfold State.conflictCheck
  with_reducible repeat' (first | assumption | apply State.raise_keeps | apply State.setLane_keeps | apply keeps_ite)

theorem State.sendFault_keeps {r : State} {s0 : State} (h0 : Keeps r s0) : ∀ a0, Keeps r (State.sendFault s0 a0) := by
  intro a0
  unfold State.sendFault
  with_reducible repeat' (first | assumption | apply State.emit_keeps | apply keeps_ite)

theorem State.linkEval_keeps {r : State} {s0 : State} (h0 : Keeps r s0) : ∀ a0, Keeps r (State.linkEval s0 a0) := by
  intro a0
  unfold State.linkEval
  with_reducible repeat' (first | assumption | apply State.clear_keeps | apply State.sendFault_keeps | apply State.raise_keeps | apply State.putN_keeps | apply State.count_keeps | apply keeps_ite)

theorem State.laneLink_keeps {r : State} {s0 : State} (h0 : Keeps r s0) : ∀ a0, Keeps r (State.laneLink s0 a0) := by
  intro a0
  unfold State.laneLink
  with_reducible repeat' (first | assumption | apply State.linkEval_keeps | split)

theorem execPcsAlignmentChange_keeps {r : State} {s0 : State} (h0 : Keeps r s0) : ∀ a0 a1 a2, KeepsOut r (execPcsAlignmentChange a0 a1 a2 s0) := by
  intro a0 a1 a2
  unfold execPcsAlignmentChange
  with_reducible repeat' (first | assumption | apply State.setPort_keeps | apply State.linkEval_keeps | apply done_keeps | apply keepsOut_ite)

theorem execLinkFaultOrderedSets_keeps {r : State} {s0 : State} (h0 : Keeps r s0) : ∀ a0 a1, KeepsOut r (execLinkFaultOrderedSets a0 a1 s0) := by
  intro a0 a1
  unfold execLinkFaultOrderedSets
  with_reducible repeat' (first | assumption | apply State.putN_keeps | apply done_keeps | apply keepsOut_ite)

theorem State.panelUnits_keeps {r : State} {s0 : State} (h0 : Keeps r s0) : ∀ a0, Keeps r (State.panelUnits s0 a0).2 := by
  intro a0
  unfold State.panelUnits
  with_reducible repeat' (first | assumption | apply State.setTrib_keeps | apply State.panelCloses_keeps | apply keeps_ite2)

theorem State.nextPanel_keeps {r : State} {s0 : State} (h0 : Keeps r s0) : ∀ a0, Keeps r (State.nextPanel s0 a0).2.2 := by
  intro a0
  unfold State.nextPanel
  with_reducible repeat' (first | assumption | apply State.setTrib_keeps | apply State.panelUnits_keeps)

theorem State.panelStop_keeps {r : State} {s0 : State} (h0 : Keeps r s0) : ∀ a0, Keeps r (State.panelStop s0 a0) := by
  intro a0
  unfold State.panelStop
  with_reducible repeat' (first | assumption | apply State.setTrib_keeps | apply State.raise_keeps | apply keeps_ite)

theorem State.panelLost_keeps {r : State} {s0 : State} (h0 : Keeps r s0) {f1 : State → State} (h1 : ∀ t, Keeps r t → Keeps r (f1 t)) : ∀ a0, Keeps r (State.panelLost s0 a0 f1) := by
  intro a0
  unfold State.panelLost
  with_reducible repeat' (first | assumption | apply State.setTrib_keeps | apply State.dropFinal_keeps | apply forEach_keeps | apply State.nextPanel_keeps | apply h1 | (refine fun (t : State) _ (_ : Keeps r t) => ?_))

theorem State.withhold_keeps {r s0 : State} (h0 : Keeps r s0) (p : Nat) : Keeps r (s0.withhold p) :=
  State.count_keeps (State.panelLost_keeps h0 (fun _ h => h) _) _

theorem State.keyless_keeps {r : State} {s0 : State} (h0 : Keeps r s0) : ∀ a0 a1, Keeps r (State.keyless s0 a0 a1) := by
  intro a0 a1
  unfold State.keyless
  with_reducible repeat' (first | assumption | apply State.count_keeps | apply State.panelLost_keeps | (refine fun (t : State) (_ : Keeps r t) => ?_) | apply keeps_ite)

theorem State.keyCounted_keeps {r : State} {s0 : State} (h0 : Keeps r s0) : ∀ a0 a1, Keeps r (State.keyCounted s0 a0 a1) := by
  intro a0 a1
  unfold State.keyCounted
  with_reducible repeat' (first | assumption | apply State.raise_keeps | apply State.putN_keeps | apply keeps_ite)

theorem State.panelOut_keeps {r : State} {s0 : State} (h0 : Keeps r s0) : ∀ a0 a1 a2 a3, Keeps r (State.panelOut s0 a0 a1 a2 a3) := by
  intro a0 a1 a2 a3
  unfold State.panelOut
  with_reducible repeat' (first | assumption | apply State.deliver_keeps | apply forEach_keeps | (refine fun (t : State) _ (_ : Keeps r t) => ?_))

theorem State.launchPanel_keeps {r : State} {s0 : State} (h0 : Keeps r s0) : ∀ a0 a1 a2, Keeps r (State.launchPanel s0 a0 a1 a2) := by
  intro a0 a1 a2
  unfold State.launchPanel
  with_reducible repeat' (first | assumption | apply State.setPcNext_keeps | apply State.clear_keeps | apply State.setTrib_keeps | apply State.panelOut_keeps | apply State.draw_keeps | apply State.nextPanel_keeps)

theorem State.sendPanel_keeps {r : State} {s0 : State} (h0 : Keeps r s0) : ∀ a0 a1 a2 a3, Keeps r (State.sendPanel s0 a0 a1 a2 a3) := by
  intro a0 a1 a2 a3
  unfold State.sendPanel
  with_reducible repeat' (first | assumption | apply State.countClaim_keeps | apply State.readRow_keeps | apply State.issue_keeps | apply State.saTouch_keeps | apply State.launchPanel_keeps)

theorem State.beginPanel_keeps {r : State} {s0 : State} (h0 : Keeps r s0) : ∀ a0 a1, Keeps r (State.beginPanel s0 a0 a1) := by
  intro a0 a1
  unfold State.beginPanel
  with_reducible repeat' (first | assumption | apply State.sendPanel_keeps | apply State.waitSlot_keeps | apply State.claimSlot_keeps | apply State.panelStop_keeps | apply State.withhold_keeps | apply State.keyless_keeps | apply keeps_ite)

theorem State.clientSent_keeps {r : State} {s0 : State} (h0 : Keeps r s0) : ∀ a0 a1 a2, Keeps r (State.clientSent s0 a0 a1 a2) := by
  intro a0 a1 a2
  unfold State.clientSent
  with_reducible repeat' (first | assumption | apply State.countTx_keeps | apply State.tcMeasure_keeps | apply State.traceEnd_keeps)

theorem State.unitSent_keeps {r : State} {s0 : State} (h0 : Keeps r s0) : ∀ a0 a1 a2, Keeps r (State.unitSent s0 a0 a1 a2) := by
  intro a0 a1 a2
  unfold State.unitSent
  with_reducible repeat' (first | assumption | apply State.setTrib_keeps | apply State.clientSent_keeps | apply forEach_keeps | (refine fun (t : State) _ (_ : Keeps r t) => ?_))

theorem State.panelDone_keeps {r : State} {s0 : State} (h0 : Keeps r s0) : ∀ a0, Keeps r (State.panelDone s0 a0) := by
  intro a0
  unfold State.panelDone
  with_reducible repeat' (first | assumption | apply State.clientSent_keeps | apply forEach_keeps | apply State.setTrib_keeps | apply State.keyCounted_keeps | apply State.count_keeps | apply State.emit_keeps | apply State.unpin_keeps | (refine fun (t : State) _ (_ : Keeps r t) => ?_) | apply keeps_ite | split)

theorem State.panelFinish_keeps {r : State} {s0 : State} (h0 : Keeps r s0) : ∀ a0, Keeps r (State.panelFinish s0 a0) := by
  intro a0
  unfold State.panelFinish
  with_reducible repeat' (first | assumption | apply State.panelDone_keeps | apply keeps_ite)

theorem execTwPanelSent_keeps {r : State} {s0 : State} (h0 : Keeps r s0) : ∀ a0, KeepsOut r (execTwPanelSent a0 s0) := by
  intro a0
  unfold execTwPanelSent
  with_reducible repeat' (first | assumption | apply State.beginPanel_keeps | apply State.panelFinish_keeps | apply State.closeAhead_keeps | apply done_keeps | apply keeps_ite | apply keepsOut_ite)

theorem State.twArmEff_keeps {r : State} {s0 : State} (h0 : Keeps r s0) : ∀ a0 a1, Keeps r (State.twArmEff s0 a0 a1).1 := by
  intro a0 a1
  unfold State.twArmEff
  with_reducible repeat' (first | assumption | apply State.mirror_keeps | apply State.putN_keeps | apply State.setTrib_keeps | apply refuse_keeps | apply okay_keeps | apply keeps_ite | apply keeps_ite1)

theorem State.txFlip_keeps {r : State} {s0 : State} (h0 : Keeps r s0) : ∀ a0 a1, Keeps r (State.txFlip s0 a0 a1) := by
  intro a0 a1
  unfold State.txFlip
  with_reducible repeat' (first | assumption | apply State.mirror_keeps | apply State.raise_keeps | apply State.setTrib_keeps | apply State.putN_keeps | apply State.discardKeystream_keeps | apply keeps_ite)

theorem State.multiBoundary_keeps {r : State} {s0 : State} (h0 : Keeps r s0) : ∀ a0 a1, Keeps r (State.multiBoundary s0 a0 a1) := by
  intro a0 a1
  unfold State.multiBoundary
  with_reducible repeat' (first | assumption | apply State.setGrp_keeps | apply State.txFlip_keeps | apply forEach_keeps | (refine fun (t : State) _ (_ : Keeps r t) => ?_))

theorem execTwMultiframeBoundary_keeps {r : State} {s0 : State} (h0 : Keeps r s0) : ∀ a0 a1, KeepsOut r (execTwMultiframeBoundary a0 a1 s0) := by
  intro a0 a1
  unfold execTwMultiframeBoundary
  with_reducible repeat' (first | assumption | apply State.multiBoundary_keeps | apply done_keeps | apply keepsOut_ite)

theorem State.phaseReleased_keeps {r : State} {s0 : State} (h0 : Keeps r s0) : ∀ a0, Keeps r (State.phaseReleased s0 a0) := by
  intro a0
  unfold State.phaseReleased
  with_reducible repeat' (first | assumption | apply State.saEmptied_keeps | apply keeps_ite)

theorem execTwTxPhaseRelease_keeps {r : State} {s0 : State} (h0 : Keeps r s0) : ∀ a0, KeepsOut r (execTwTxPhaseRelease a0 s0) := by
  intro a0
  unfold execTwTxPhaseRelease
  with_reducible repeat' (first | assumption | apply State.raise_keeps | apply State.setTrib_keeps | apply State.phaseReleased_keeps | apply State.panelFinish_keeps | apply done_keeps | apply keeps_ite | split)

theorem State.decodeUnits_keeps {r : State} {s0 : State} (h0 : Keeps r s0) : ∀ a0 a1 a2, Keeps r (State.decodeUnits s0 a0 a1 a2) := by
  intro a0 a1 a2
  unfold State.decodeUnits
  with_reducible repeat' (first | assumption | apply State.tribFrameIn_keeps | apply forEach_keeps | apply State.setTrib_keeps | (refine fun (t : State) _ (_ : Keeps r t) => ?_))

theorem State.errorPanel_keeps {r : State} {s0 : State} (h0 : Keeps r s0) : ∀ a0, Keeps r (State.errorPanel s0 a0) := by
  intro a0
  unfold State.errorPanel
  with_reducible repeat' (first | assumption | apply State.decodeUnits_keeps | apply State.setTrib_keeps | apply keeps_ite)

theorem State.lossOf_keeps {r : State} {s0 : State} (h0 : Keeps r s0) : ∀ a0, Keeps r (State.lossOf s0 a0) := by
  intro a0
  unfold State.lossOf
  with_reducible repeat' (first | assumption | apply State.putN_keeps | apply State.setTrib_keeps | apply State.errorPanel_keeps)

theorem State.judgeLane_keeps {r : State} {s0 : State} (h0 : Keeps r s0) : ∀ a0 a1, Keeps r (State.judgeLane s0 a0 a1) := by
  intro a0 a1
  unfold State.judgeLane
  with_reducible repeat' (first | assumption | apply State.raise_keeps | apply State.setTwLane_keeps | apply forEach_keeps | (refine fun (t : State) _ (_ : Keeps r t) => ?_) | apply keeps_ite)

theorem State.judgePlm_keeps {r : State} {s0 : State} (h0 : Keeps r s0) : ∀ a0, Keeps r (State.judgePlm s0 a0) := by
  intro a0
  unfold State.judgePlm
  with_reducible repeat' (first | assumption | apply State.raise_keeps | apply State.putN_keeps | apply keeps_ite)

theorem State.judgeGroup_keeps {r : State} {s0 : State} (h0 : Keeps r s0) : ∀ a0, Keeps r (State.judgeGroup s0 a0) := by
  intro a0
  unfold State.judgeGroup
  with_reducible repeat' (first | assumption | apply State.judgeLane_keeps | apply State.judgePlm_keeps | apply forEach_keeps | (refine fun (t : State) _ (_ : Keeps r t) => ?_))

theorem State.detect_keeps {r : State} {s0 : State} (h0 : Keeps r s0) : ∀ a0 a1 a2, Keeps r (State.detect s0 a0 a1 a2) := by
  intro a0 a1 a2
  unfold State.detect
  with_reducible repeat' (first | assumption | apply State.judgeGroup_keeps | apply State.lossOf_keeps | apply forEach_keeps | apply State.setGrp_keeps | apply State.setTwLane_keeps | (refine fun (t : State) _ (_ : Keeps r t) => ?_) | apply keeps_ite)

theorem State.twLaneUpdate_keeps {r : State} {s0 : State} (h0 : Keeps r s0) : ∀ a0, Keeps r (State.twLaneUpdate s0 a0) := by
  intro a0
  unfold State.twLaneUpdate
  with_reducible repeat' (first | assumption | apply State.detect_keeps | split)

theorem execTwillDefectTimer_keeps {r : State} {s0 : State} (h0 : Keeps r s0) : ∀ a0 a1, KeepsOut r (execTwillDefectTimer a0 a1 s0) := by
  intro a0 a1
  unfold execTwillDefectTimer
  with_reducible repeat' (first | assumption | apply State.setTwLane_keeps | apply State.detect_keeps | apply done_keeps | apply keeps_ite | apply keepsOut_ite | split)

theorem execTgAcqHoldExpiry_keeps {r : State} {s0 : State} (h0 : Keeps r s0) : ∀ a0 a1, KeepsOut r (execTgAcqHoldExpiry a0 a1 s0) := by
  intro a0 a1
  unfold execTgAcqHoldExpiry
  with_reducible repeat' (first | assumption | apply State.judgeGroup_keeps | apply done_keeps | apply State.putN_keeps | apply State.bumpVersion_keeps | apply State.raise_keeps | apply keepsOut_ite)

theorem State.judgeTrib_keeps {r : State} {s0 : State} (h0 : Keeps r s0) : ∀ a0, Keeps r (State.judgeTrib s0 a0) := by
  intro a0
  unfold State.judgeTrib
  with_reducible repeat' (first | assumption | apply State.judgeGroup_keeps | apply keeps_ite)

theorem State.calReport_keeps {r : State} {s0 : State} (h0 : Keeps r s0) : ∀ a0 a1 a2, Keeps r (State.calReport s0 a0 a1 a2) := by
  intro a0 a1 a2
  unfold State.calReport
  with_reducible repeat' (first | assumption | apply State.judgeTrib_keeps | apply State.putN_keeps | apply State.bumpVersion_keeps | apply keeps_ite)

theorem State.comparePointer_keeps {r : State} {s0 : State} (h0 : Keeps r s0) : ∀ a0 a1 a2, Keeps r (State.comparePointer s0 a0 a1 a2) := by
  intro a0 a1 a2
  unfold State.comparePointer
  with_reducible repeat' (first | assumption | apply State.count_keeps | apply State.errorPanel_keeps | apply State.setTrib_keeps | apply keeps_ite)

theorem State.pointer_keeps {r : State} {s0 : State} (h0 : Keeps r s0) : ∀ a0 a1, Keeps r (State.pointer s0 a0 a1) := by
  intro a0 a1
  unfold State.pointer
  with_reducible repeat' (first | assumption | apply State.comparePointer_keeps | apply State.putN_keeps | apply State.setTrib_keeps | apply keeps_ite)

theorem State.rxBoundary_keeps {r : State} {s0 : State} (h0 : Keeps r s0) : ∀ a0, Keeps r (State.rxBoundary s0 a0) := by
  intro a0
  unfold State.rxBoundary
  with_reducible repeat' (first | assumption | apply State.raise_keeps | apply State.phaseReleased_keeps | apply State.putN_keeps | apply State.setTrib_keeps | apply keeps_ite)

theorem State.fecCount_keeps {r : State} {s0 : State} (h0 : Keeps r s0) : ∀ a0 a1, Keeps r (State.fecCount s0 a0 a1) := by
  intro a0 a1
  unfold State.fecCount
  with_reducible repeat' (first | assumption | apply State.setTwLane_keeps | apply State.countBy_keeps)

theorem State.overheadIn_keeps {r : State} {s0 : State} (h0 : Keeps r s0) : ∀ a0 a1 a2 a3, Keeps r (State.overheadIn s0 a0 a1 a2 a3) := by
  intro a0 a1 a2 a3
  unfold State.overheadIn
  with_reducible repeat' (first | assumption | apply State.rxBoundary_keeps | apply State.pointer_keeps | apply State.calReport_keeps | apply State.count_keeps | apply State.putN_keeps | apply forEach_keeps | apply State.setTwLane_keeps | (refine fun (t : State) _ (_ : Keeps r t) => ?_) | apply keeps_ite)

theorem State.farEnd_keeps {r : State} {s0 : State} (h0 : Keeps r s0) : ∀ a0 a1, Keeps r (State.farEnd s0 a0 a1) := by
  intro a0 a1
  unfold State.farEnd
  with_reducible repeat' (first | assumption | apply State.setLane_keeps | apply State.emit_keeps | apply forEach_keeps | (refine fun (t : State) _ (_ : Keeps r t) => ?_) | apply keeps_ite)

theorem execTwOverheadReceived_keeps {r : State} {s0 : State} (h0 : Keeps r s0) : ∀ a0 a1, KeepsOut r (execTwOverheadReceived a0 a1 s0) := by
  intro a0 a1
  unfold execTwOverheadReceived
  with_reducible repeat' (first | assumption | apply State.farEnd_keeps | apply State.fecCount_keeps | apply State.overheadIn_keeps | apply done_keeps | split)

theorem State.delineate_keeps {r : State} : ∀ (a2 : Nat) {s0 : State} (h0 : Keeps r s0) a0 a1, Keeps r (State.delineate s0 a0 a1 a2).2 := by
  intro a2
  induction a2 with
  | zero => intro s0 h0 a0 a1; unfold State.delineate; with_reducible repeat' (first | assumption)
  | succ n ih => intro s0 h0 a0 a1; unfold State.delineate; with_reducible repeat' (first | assumption | apply State.comparePointer_keeps | apply State.setTrib_keeps | apply ih | apply keeps_ite2 | split)

theorem State.seekCounter_keeps {r : State} {s0 : State} (h0 : Keeps r s0) : ∀ a0 a1 a2, Keeps r (State.seekCounter s0 a0 a1 a2).2 := by
  intro a0 a1 a2
  unfold State.seekCounter
  with_reducible repeat' (first | assumption | apply State.setTrib_keeps | apply keeps_ite2)

theorem State.labelSeen_keeps {r : State} {s0 : State} (h0 : Keeps r s0) : ∀ a0 a1, Keeps r (State.labelSeen s0 a0 a1) := by
  intro a0 a1
  unfold State.labelSeen
  with_reducible repeat' (first | assumption | apply State.judgeTrib_keeps | apply State.putN_keeps | apply State.setTrib_keeps | apply keeps_ite)

theorem State.plainUnits_keeps {r : State} {s0 : State} (h0 : Keeps r s0) : ∀ a0 a1 a2, Keeps r (State.plainUnits s0 a0 a1 a2) := by
  intro a0 a1 a2
  unfold State.plainUnits
  with_reducible repeat' (first | assumption | apply State.decodeUnits_keeps | apply State.setTrib_keeps | apply State.countBy_keeps | apply keeps_ite)

theorem State.follow_keeps {r : State} {s0 : State} (h0 : Keeps r s0) : ∀ a0 a1 a2 a3, Keeps r (State.follow s0 a0 a1 a2 a3) := by
  intro a0 a1 a2 a3
  unfold State.follow
  with_reducible repeat' (first | assumption | apply State.putN_keeps | apply State.raise_keeps)

theorem State.followPanel_keeps {r : State} {s0 : State} (h0 : Keeps r s0) : ∀ a0 a1, Keeps r (State.followPanel s0 a0 a1) := by
  intro a0 a1
  unfold State.followPanel
  with_reducible repeat' (first | assumption | apply State.discardKeystream_keeps | apply State.setTrib_keeps | apply State.follow_keeps | apply keeps_ite)

theorem State.panelCounter_keeps {r : State} {s0 : State} (h0 : Keeps r s0) : ∀ a0 a1 a2, Keeps r (State.panelCounter s0 a0 a1 a2) := by
  intro a0 a1 a2
  unfold State.panelCounter
  with_reducible repeat' (first | assumption | apply State.putN_keeps | apply State.setTrib_keeps)

theorem State.panelStream_keeps {r : State} {s0 : State} (h0 : Keeps r s0) : ∀ a0 a1 a2, Keeps r (State.panelStream s0 a0 a1 a2) := by
  intro a0 a1 a2
  unfold State.panelStream
  with_reducible repeat' (first | assumption | apply State.readRow_keeps | apply State.countClaim_keeps | apply State.issue_keeps)

theorem State.panelNextRx_keeps {r : State} {s0 : State} (h0 : Keeps r s0) : ∀ a0 a1 a2, Keeps r (State.panelNextRx s0 a0 a1 a2) := by
  intro a0 a1 a2
  unfold State.panelNextRx
  with_reducible repeat' (first | assumption | apply State.waitSlot_keeps | apply State.claimSlot_keeps | apply State.slotEnd_keeps | (refine keeps_eq2 ?_ (by assumption)) | apply keeps_ite | split)

theorem State.panelGood_keeps {r : State} {s0 : State} (h0 : Keeps r s0) : ∀ a0 a1 a2 a3 a4 a5, Keeps r (State.panelGood s0 a0 a1 a2 a3 a4 a5) := by
  intro a0 a1 a2 a3 a4 a5
  unfold State.panelGood
  with_reducible repeat' (first | assumption | apply State.labelSeen_keeps | apply State.plainUnits_keeps | apply State.pc_keeps | apply State.panelCounter_keeps | apply State.panelNextRx_keeps | apply State.followPanel_keeps | apply State.count_keeps | apply State.saTouch_keeps)

theorem State.panelAuthFail_keeps {r : State} {s0 : State} (h0 : Keeps r s0) : ∀ a0 a1, Keeps r (State.panelAuthFail s0 a0 a1) := by
  intro a0 a1
  unfold State.panelAuthFail
  with_reducible repeat' (first | assumption | apply State.setTrib_keeps | apply State.count_keeps)

theorem State.panelIn_keeps {r : State} {s0 : State} (h0 : Keeps r s0) : ∀ a0 a1 a2 a3 a4 a5, Keeps r (State.panelIn s0 a0 a1 a2 a3 a4 a5) := by
  intro a0 a1 a2 a3 a4 a5
  unfold State.panelIn
  with_reducible repeat' (first | assumption | apply State.plainUnits_keeps | apply State.draw_keeps | apply State.panelAuthFail_keeps | apply State.panelGood_keeps | apply State.panelStream_keeps | apply State.setTrib_keeps | apply State.count_keeps | apply State.errorPanel_keeps | apply keeps_ite | split)

theorem State.panelSkipped_keeps {r : State} {s0 : State} (h0 : Keeps r s0) : ∀ a0, Keeps r (State.panelSkipped s0 a0) := by
  intro a0
  unfold State.panelSkipped
  with_reducible repeat' (first | assumption | apply State.setTrib_keeps | apply State.errorPanel_keeps)

theorem State.panelOpen_keeps {r : State} {s0 : State} (h0 : Keeps r s0) : ∀ a0 a1 a2 a3, Keeps r (State.panelOpen s0 a0 a1 a2 a3) := by
  intro a0 a1 a2 a3
  unfold State.panelOpen
  with_reducible repeat' (first | assumption | apply State.panelIn_keeps | apply State.errorPanel_keeps | apply State.seekCounter_keeps | (refine keeps_eq2 ?_ (by assumption)) | split | ((try lift_lets); intro x; clear_value x))

theorem State.panelEnters_keeps {r : State} {s0 : State} (h0 : Keeps r s0) : ∀ a0 a1, Keeps r (State.panelEnters s0 a0 a1) := by
  intro a0 a1
  unfold State.panelEnters
  with_reducible repeat' (first | assumption | apply State.setTrib_keeps | apply State.deliver_keeps | apply forEach_keeps | (refine fun (t : State) _ (_ : Keeps r t) => ?_))

theorem State.panelReceived_keeps {r : State} {s0 : State} (h0 : Keeps r s0) : ∀ a0 a1, Keeps r (State.panelReceived s0 a0 a1) := by
  intro a0 a1
  unfold State.panelReceived
  with_reducible repeat' (first | assumption | apply State.panelOpen_keeps | apply State.panelEnters_keeps | apply State.count_keeps | apply State.panelSkipped_keeps | apply State.delineate_keeps | (refine keeps_eq2 ?_ (by assumption)) | apply keeps_ite | split)

theorem State.tribBegin_keeps {r : State} {s0 : State} (h0 : Keeps r s0) : ∀ a0, Keeps r (State.tribBegin s0 a0) := by
  intro a0
  unfold State.tribBegin
  with_reducible repeat' (first | assumption | apply State.lossOf_keeps | apply State.judgePlm_keeps | apply State.closeAhead_keeps | apply State.setTrib_keeps | apply State.putN_keeps | apply keeps_ite)

theorem State.tribCounterStart_keeps {r : State} {s0 : State} (h0 : Keeps r s0) : ∀ a0, Keeps r (State.tribCounterStart s0 a0) := by
  intro a0
  unfold State.tribCounterStart
  with_reducible repeat' (first | assumption | apply State.setPcNext_keeps)

theorem State.groupBegin_keeps {r : State} {s0 : State} (h0 : Keeps r s0) : ∀ a0, Keeps r (State.groupBegin s0 a0) := by
  intro a0
  unfold State.groupBegin
  with_reducible repeat' (first | assumption | apply State.twLaneUpdate_keeps | apply State.setTrib_keeps | apply State.tribBegin_keeps | apply State.putN_keeps | apply State.bumpVersion_keeps | apply State.raise_keeps | apply State.setTwLane_keeps | apply State.setLane_keeps | apply forEach_keeps | apply State.setGrp_keeps | (refine fun (t : State) _ (_ : Keeps r t) => ?_))

theorem State.tribStop_keeps {r : State} {s0 : State} (h0 : Keeps r s0) : ∀ a0, Keeps r (State.tribStop s0 a0) := by
  intro a0
  unfold State.tribStop
  with_reducible repeat' (first | assumption | apply State.putN_keeps | apply State.setTrib_keeps | apply State.discardKeystream_keeps | apply State.count_keeps | apply State.dropFinal_keeps | apply forEach_keeps | apply State.panelFinish_keeps | (refine fun (t : State) _ (_ : Keeps r t) => ?_))

theorem State.groupStop_keeps {r : State} {s0 : State} (h0 : Keeps r s0) : ∀ a0, Keeps r (State.groupStop s0 a0) := by
  intro a0
  unfold State.groupStop
  with_reducible repeat' (first | assumption | apply State.setTwLane_keeps | apply State.panelFinish_keeps | apply State.lossOf_keeps | apply State.putN_keeps | apply forEach_keeps | (refine fun (t : State) _ (_ : Keeps r t) => ?_) | apply keeps_ite)

theorem State.slotUnit_keeps {r : State} {s0 : State} (h0 : Keeps r s0) : ∀ a0 a1 a2, Keeps r (State.slotUnit s0 a0 a1 a2) := by
  intro a0 a1 a2
  unfold State.slotUnit
  with_reducible repeat' (first | assumption | apply State.panelDone_keeps | apply State.unitSent_keeps | apply State.setTrib_keeps | apply State.setGrp_keeps | apply State.beginPanel_keeps | apply keeps_ite)

theorem State.rotateTrib_keeps {r : State} {s0 : State} (h0 : Keeps r s0) : ∀ a0 a1, Keeps r (State.rotateTrib s0 a0 a1) := by
  intro a0 a1
  unfold State.rotateTrib
  with_reducible repeat' (first | assumption | apply State.slotUnit_keeps | apply forEach_keeps | apply State.setTrib_keeps | apply State.closeAhead_keeps | (refine fun (t : State) _ (_ : Keeps r t) => ?_) | apply keeps_ite)

theorem State.rotate_keeps {r : State} {s0 : State} (h0 : Keeps r s0) : ∀ a0, Keeps r (State.rotate s0 a0) := by
  intro a0
  unfold State.rotate
  with_reducible repeat' (first | assumption | apply State.rotateTrib_keeps | apply forEach_keeps | apply State.setGrp_keeps | (refine fun (t : State) _ (_ : Keeps r t) => ?_))

theorem State.panelPtrNow_keeps {r : State} {s0 : State} (h0 : Keeps r s0) : ∀ a0 a1, Keeps r (State.panelPtrNow s0 a0 a1).2 := by
  intro a0 a1
  unfold State.panelPtrNow
  with_reducible repeat' (first | assumption | apply State.draw_keeps | (refine keeps_eq2 ?_ (by assumption)) | split | ((try lift_lets); intro x; clear_value x))

theorem keeps_snd {α : Type} {r t : State} {a : α} (h : Keeps r t) : Keeps r (a, t).2 := h

theorem State.overheadUnit_keeps {r s0 : State} (h0 : Keeps r s0) (row l : Nat) : Keeps r (s0.overheadUnit row l).2 := by
  unfold State.overheadUnit
  extract_lets p vac x
  clear_value vac
  have hx : Keeps r x.2 := keeps_ite2 h0 (State.panelPtrNow_keeps h0 _ _)
  clear_value x
  exact keeps_snd hx

theorem State.unitOut_keeps {r : State} {s0 : State} (h0 : Keeps r s0) : ∀ a0, Keeps r (State.unitOut s0 a0) := by
  intro a0
  unfold State.unitOut
  with_reducible repeat' (first | assumption | apply State.setGrp_keeps | apply State.sendUnit_keeps | apply State.overheadUnit_keeps | apply forEach_keeps | (refine fun (t : State) _ (_ : Keeps r t) => ?_) | apply keeps_ite)

theorem State.unitTime_keeps {r : State} {s0 : State} (h0 : Keeps r s0) : ∀ a0, Keeps r (State.unitTime s0 a0) := by
  intro a0
  unfold State.unitTime
  with_reducible repeat' (first | assumption | apply State.setGrp_keeps | apply State.multiBoundary_keeps | apply State.unitOut_keeps | apply State.rotate_keeps | apply keeps_ite)

theorem State.framerTick_keeps {r : State} {s0 : State} (h0 : Keeps r s0) : ∀ a0, Keeps r (State.framerTick s0 a0) := by
  intro a0
  unfold State.framerTick
  with_reducible repeat' (first | assumption | apply State.unitTime_keeps | apply State.setGrp_keeps | apply keeps_ite)

theorem State.checkLevels_keeps {r : State} {s0 : State} (h0 : Keeps r s0) : ∀ a0 a1 a2, Keeps r (State.checkLevels s0 a0 a1 a2) := by
  intro a0 a1 a2
  unfold State.checkLevels
  with_reducible repeat' (first | assumption | apply State.countBy_keeps | apply State.setLane_keeps | split | ((try lift_lets); intro x; clear_value x))

theorem State.patternTick_keeps {r : State} {s0 : State} (h0 : Keeps r s0) : ∀ a0, Keeps r (State.patternTick s0 a0) := by
  intro a0
  unfold State.patternTick
  with_reducible repeat' (first | assumption | apply State.checkLevels_keeps | apply State.setLane_keeps | apply State.sendBits_keeps | apply keeps_ite)

theorem State.patterns_keeps {r : State} {s0 : State} (h0 : Keeps r s0) : Keeps r (State.patterns s0) := by
  unfold State.patterns
  with_reducible repeat' (first | assumption | apply State.patternTick_keeps | apply forEach_keeps | (refine fun (t : State) _ (_ : Keeps r t) => ?_) | apply keeps_ite)

theorem State.framers_keeps {r : State} {s0 : State} (h0 : Keeps r s0) : Keeps r (State.framers s0) := by
  unfold State.framers
  with_reducible repeat' (first | assumption | apply State.framerTick_keeps | apply forEach_keeps | (refine fun (t : State) _ (_ : Keeps r t) => ?_) | apply keeps_ite)

theorem State.laneChanged_keeps {r : State} {s0 : State} (h0 : Keeps r s0) : ∀ a0, Keeps r (State.laneChanged s0 a0) := by
  intro a0
  unfold State.laneChanged
  with_reducible repeat' (first | assumption | apply State.twLaneUpdate_keeps | apply State.conflictCheck_keeps | apply State.laneLink_keeps | apply keeps_ite)

theorem State.setLaneState_keeps {r : State} {s0 : State} (h0 : Keeps r s0) : ∀ a0 a1, Keeps r (State.setLaneState s0 a0 a1) := by
  intro a0 a1
  unfold State.setLaneState
  with_reducible repeat' (first | assumption | apply State.raiseOnce_keeps | apply State.count_keeps | apply State.putN_keeps | apply State.laneChanged_keeps | apply keeps_ite)

theorem State.acquire_keeps {r : State} {s0 : State} (h0 : Keeps r s0) : ∀ a0, Keeps r (State.acquire s0 a0) := by
  intro a0
  unfold State.acquire
  with_reducible repeat' (first | assumption | apply State.setLane_keeps | apply State.putN_keeps)

theorem State.laneReacquire_keeps {r : State} {s0 : State} (h0 : Keeps r s0) : ∀ a0, Keeps r (State.laneReacquire s0 a0) := by
  intro a0
  unfold State.laneReacquire
  with_reducible repeat' (first | assumption | apply State.toAcquire_keeps | apply keeps_ite | split)

theorem State.laneBegin_keeps {r : State} {s0 : State} (h0 : Keeps r s0) : ∀ a0, Keeps r (State.laneBegin s0 a0) := by
  intro a0
  unfold State.laneBegin
  with_reducible repeat' (first | assumption | apply State.laneReacquire_keeps | apply State.setLaneState_keeps | apply State.setLane_keeps)

theorem State.laneStop_keeps {r : State} {s0 : State} (h0 : Keeps r s0) : ∀ a0, Keeps r (State.laneStop s0 a0) := by
  intro a0
  unfold State.laneStop
  with_reducible repeat' (first | assumption | apply State.setLaneState_keeps | apply State.putN_keeps | apply State.setLane_keeps)

theorem execLaneSignalDetected_keeps {r : State} {s0 : State} (h0 : Keeps r s0) : ∀ a0, KeepsOut r (execLaneSignalDetected a0 s0) := by
  intro a0
  unfold execLaneSignalDetected
  with_reducible repeat' (first | assumption | apply State.acquire_keeps | apply State.setLaneState_keeps | apply State.setLane_keeps | apply done_keeps | apply keeps_ite | apply keepsOut_ite)

theorem execLaneSignalLost_keeps {r : State} {s0 : State} (h0 : Keeps r s0) : ∀ a0, KeepsOut r (execLaneSignalLost a0 s0) := by
  intro a0
  unfold execLaneSignalLost
  with_reducible repeat' (first | assumption | apply State.setLane_keeps | apply State.setLaneState_keeps | apply done_keeps | apply keepsOut_ite)

theorem execLaneLocked_keeps {r : State} {s0 : State} (h0 : Keeps r s0) : ∀ a0 a1 a2 a3, KeepsOut r (execLaneLocked a0 a1 a2 a3 s0) := by
  intro a0 a1 a2 a3
  unfold execLaneLocked
  with_reducible repeat' (first | assumption | apply State.putN_keeps | apply done_keeps | apply State.setLaneState_keeps | apply State.setLane_keeps | apply keepsOut_ite)

theorem execLaneAcqTimeout_keeps {r : State} {s0 : State} (h0 : Keeps r s0) : ∀ a0, KeepsOut r (execLaneAcqTimeout a0 s0) := by
  intro a0
  unfold execLaneAcqTimeout
  with_reducible repeat' (first | assumption | apply State.acquire_keeps | apply State.count_keeps | apply done_keeps | apply keepsOut_ite)

theorem execLaneLockLost_keeps {r : State} {s0 : State} (h0 : Keeps r s0) : ∀ a0, KeepsOut r (execLaneLockLost a0 s0) := by
  intro a0
  unfold execLaneLockLost
  with_reducible repeat' (first | assumption | apply State.acquire_keeps | apply State.count_keeps | apply State.setLaneState_keeps | apply done_keeps | apply keepsOut_ite)

theorem State.sleepEff_keeps {r : State} {s0 : State} (h0 : Keeps r s0) : ∀ a0 a1, Keeps r (State.sleepEff s0 a0 a1).1 := by
  intro a0 a1
  unfold State.sleepEff
  with_reducible repeat' (first | assumption | apply State.laneReacquire_keeps | apply State.setLane_keeps | apply State.setLaneState_keeps | apply okay_keeps | apply State.putN_keeps | apply refuse_keeps | apply keeps_ite1)

theorem execLaneWakeTxActive_keeps {r : State} {s0 : State} (h0 : Keeps r s0) : ∀ a0, KeepsOut r (execLaneWakeTxActive a0 s0) := by
  intro a0
  unfold execLaneWakeTxActive
  with_reducible repeat' (first | assumption | apply State.setLane_keeps | apply done_keeps | apply keepsOut_ite | split | ((try lift_lets); intro x; clear_value x))

theorem execLaneWakeTimeout_keeps {r : State} {s0 : State} (h0 : Keeps r s0) : ∀ a0, KeepsOut r (execLaneWakeTimeout a0 s0) := by
  intro a0
  unfold execLaneWakeTimeout
  with_reducible repeat' (first | assumption | apply State.setLaneState_keeps | apply done_keeps | apply State.setLane_keeps | apply State.count_keeps | apply State.raise_keeps | apply keeps_ite | apply keepsOut_ite | split | ((try lift_lets); intro x; clear_value x))

theorem State.ffeEff_keeps {r : State} {s0 : State} (h0 : Keeps r s0) : ∀ a0 a1, Keeps r (State.ffeEff s0 a0 a1).1 := by
  intro a0 a1
  unfold State.ffeEff
  with_reducible repeat' (first | assumption | apply State.putN_keeps | apply okay_keeps | apply refuse_keeps | apply keeps_ite1)

theorem execRefFaultDeclared_keeps {r : State} {s0 : State} (h0 : Keeps r s0) : ∀ a0 a1, KeepsOut r (execRefFaultDeclared a0 a1 s0) := by
  intro a0 a1
  unfold execRefFaultDeclared
  with_reducible repeat' (first | assumption | apply State.setLane_keeps | apply State.setLaneState_keeps | apply forEach_keeps | apply State.raise_keeps | apply State.count_keeps | apply State.putN_keeps | apply done_keeps | (refine fun (t : State) _ (_ : Keeps r t) => ?_) | apply keeps_ite | apply keepsOut_ite)

theorem execRefFaultCleared_keeps {r : State} {s0 : State} (h0 : Keeps r s0) : ∀ a0, KeepsOut r (execRefFaultCleared a0 s0) := by
  intro a0
  unfold execRefFaultCleared
  with_reducible repeat' (first | assumption | apply State.setLane_keeps | apply State.setLaneState_keeps | apply forEach_keeps | apply State.raise_keeps | apply State.putN_keeps | apply done_keeps | (refine fun (t : State) _ (_ : Keeps r t) => ?_) | apply keeps_ite | apply keepsOut_ite)

theorem execPatternCheckerSync_keeps {r : State} {s0 : State} (h0 : Keeps r s0) : ∀ a0 a1 a2 a3, KeepsOut r (execPatternCheckerSync a0 a1 a2 a3 s0) := by
  intro a0 a1 a2 a3
  unfold execPatternCheckerSync
  with_reducible repeat' (first | assumption | apply State.checkLevels_keeps | apply State.setLane_keeps | apply State.farEnd_keeps | apply done_keeps | apply keepsOut_ite)

end Sys2Proof.Machine
end

