-- ==== Sys2Proof/Laws/KeepsUnits.lean ====
section
/-! SUPPORT. What a step keeps, once for every operation of the units and their functions: the form of the storage and the bits already
burned (`Keeps`, Laws/Keeps.lean). A proof cites the lemma of the operation it meets and never unfolds it. -/

namespace Sys2Proof.Machine

theorem State.orphanJobs_keeps {r : State} {s0 : State} (h0 : Keeps r s0) : ∀ a0, Keeps r (State.orphanJobs s0 a0) := by
  intro a0
  unfold State.orphanJobs
  with_reducible repeat' (first | assumption | ((try lift_lets); intro x; unfold x; clear x; beta_reduce) | ((try lift_lets); intro x; clear_value x) | apply keeps_mk)

theorem State.freeSession_keeps {r : State} {s0 : State} (h0 : Keeps r s0) : ∀ a0, Keeps r (State.freeSession s0 a0) := by
  intro a0
  unfold State.freeSession
  with_reducible repeat' (first | assumption | split | ((try lift_lets); intro x; have hx : Keeps r x := (by unfold x; with_reducible repeat' (first | assumption | apply State.clearWhere_keeps | apply State.certEnd_keeps | apply State.jobAbort_keeps | apply State.orphanJobs_keeps)); clear_value x) | apply keeps_mk)

theorem State.closeSession_keeps {r : State} {s0 : State} (h0 : Keeps r s0) : ∀ a0 a1 a2, Keeps r (State.closeSession s0 a0 a1 a2) := by
  intro a0 a1 a2
  unfold State.closeSession
  with_reducible repeat' (first | assumption | apply State.raise_keeps | apply State.sendSecured_keeps | apply State.freeSession_keeps | apply keeps_ite)

theorem State.closeMarked_keeps {r : State} {s0 : State} (h0 : Keeps r s0) : Keeps r (State.closeMarked s0) := by
  unfold State.closeMarked
  with_reducible repeat' (first | assumption | apply State.closeSession_keeps | apply forEach_keeps | (refine fun (t : State) _ (_ : Keeps r t) => ?_) | split)

theorem State.markClose_keeps {r : State} {s0 : State} (h0 : Keeps r s0) : ∀ a0 a1, Keeps r (State.markClose s0 a0 a1) := by
  intro a0 a1
  unfold State.markClose
  with_reducible repeat' (first | assumption | apply State.setSession_keeps | apply keeps_ite)

theorem State.afterResponse_keeps {r : State} {s0 : State} (h0 : Keeps r s0) : Keeps r (State.afterResponse s0) := by
  unfold State.afterResponse
  with_reducible repeat' (first | assumption | apply State.clear_keeps | apply State.saveN_keeps | apply State.closeMarked_keeps | apply keeps_ite)

theorem hostDone_keeps {r : State} {s0 : State} (h0 : Keeps r s0) {e1 : Eff} (h1 : Keeps r e1.1) : ∀ a0, KeepsOut r (hostDone a0 s0 e1) := by
  intro a0
  unfold hostDone
  with_reducible repeat' (first | assumption | apply answered_keeps | apply State.afterResponse_keeps | apply done_keeps | apply keepsOut_ite)

theorem State.writeNum_keeps {r : State} {s0 : State} (h0 : Keeps r s0) {e1 : Eff} (h1 : Keeps r e1.1) : ∀ a0 a1 a2, Keeps r (State.writeNum s0 a0 a1 a2 e1).1 := by
  intro a0 a1 a2
  unfold State.writeNum
  with_reducible repeat' (first | assumption | apply State.request_keeps)

theorem hostWrite_keeps {r : State} {s0 : State} (h0 : Keeps r s0) {e1 : Eff} (h1 : Keeps r e1.1) : ∀ a0 a1 a2, KeepsOut r (hostWrite a0 a1 a2 s0 e1) := by
  intro a0 a1 a2
  unfold hostWrite
  with_reducible repeat' (first | assumption | apply State.writeNum_keeps | apply hostDone_keeps)

theorem hostRead_keeps {r : State} {s0 : State} (h0 : Keeps r s0) {e1 : Eff} (h1 : Keeps r e1.1) : ∀ a0 a1, KeepsOut r (hostRead a0 a1 s0 e1) := by
  intro a0 a1
  unfold hostRead
  with_reducible repeat' (first | assumption | apply State.request_keeps | apply hostDone_keeps)

theorem State.setFn_keeps {r : State} {s0 : State} (h0 : Keeps r s0) : ∀ a0 a1, Keeps r (State.setFn s0 a0 a1) := by
  intro a0 a1
  unfold State.setFn
  with_reducible repeat' (first | assumption | apply State.putN_keeps)

theorem State.lanesOwned_keeps {r : State} {s0 : State} (h0 : Keeps r s0) : ∀ a0, Keeps r (State.lanesOwned s0 a0) := by
  intro a0
  unfold State.lanesOwned
  with_reducible repeat' (first | assumption | apply State.conflictCheck_keeps | apply forEach_keeps | (refine fun (t : State) _ (_ : Keeps r t) => ?_))

theorem State.rangeOn_keeps {r s0 : State} (h0 : Keeps r s0) (k : Nat) :
    Keeps r { s0 with sm := s0.sm.put k { draw := s0.free, data := [] }, free := s0.free + 4 } := by
  refine keeps_mk (s := { s0 with sm := s0.sm.put k { draw := s0.free, data := [] } }) (keeps_sm h0 (fun hm e he => ?_))
  rcases FMap.mem_put he with rfl | he
  · rfl
  · exact hm e he

theorem State.rangeOff_keeps {r s0 : State} (h0 : Keeps r s0) (k : Nat) : Keeps r { s0 with sm := s0.sm.del k } :=
  keeps_sm h0 (fun hm e he => hm e (List.mem_filter.mp he).1)

theorem State.startFixes_keeps {r s0 : State} (h0 : Keeps r s0) (f : Fn) : Keeps r (s0.startFixes f) := by
  unfold State.startFixes
  split
  · exact State.mirror_keeps (State.setPort_keeps (State.putN_keeps h0 _ _) _ _) _
  · exact State.rangeOn_keeps h0 _
  · split
    · exact State.sendFault_keeps (State.linkEval_keeps (State.lanesOwned_keeps h0 _) _) _
    · exact h0
  · exact State.lanesOwned_keeps h0 _
  · exact h0

theorem State.fnRows_keeps {r : State} {s0 : State} (h0 : Keeps r s0) : ∀ a0, Keeps r (State.fnRows s0 a0) := by
  intro a0
  unfold State.fnRows
  with_reducible repeat' (first | assumption | apply forEach_keeps | apply State.saRefreshPort_keeps | (refine fun (t : State) _ (_ : Keeps r t) => ?_) | apply keeps_ite | split)

theorem State.beginStart_keeps {r : State} {s0 : State} (h0 : Keeps r s0) : ∀ a0, Keeps r (State.beginStart s0 a0) := by
  intro a0
  unfold State.beginStart
  with_reducible repeat' (first | assumption | apply State.startFixes_keeps | apply State.putN_keeps | split | ((try lift_lets); intro x; have hx : Keeps r x := (by unfold x; with_reducible repeat' (first | assumption | apply State.setFn_keeps | apply State.fnRows_keeps)); clear_value x))

theorem State.onRunning_keeps {r : State} {s0 : State} (h0 : Keeps r s0) : ∀ a0, Keeps r (State.onRunning s0 a0) := by
  intro a0
  unfold State.onRunning
  with_reducible repeat' (first | assumption | apply State.laneBegin_keeps | apply State.conflictCheck_keeps | apply State.tgApply_keeps | apply State.groupBegin_keeps | apply State.tribCounterStart_keeps | apply State.tribBegin_keeps | apply keeps_ite | split)

theorem State.endRun_keeps {r s0 : State} (h0 : Keeps r s0) (f : Fn) : Keeps r (s0.endRun f) := by
  unfold State.endRun
  split
  · dsimp only
    split
    · exact State.tribStop_keeps (State.setPort_keeps h0 _ _) _
    · exact State.setPort_keeps h0 _ _
  · exact State.groupStop_keeps h0 _
  · exact State.laneStop_keeps h0 _
  · exact State.rangeOff_keeps h0 _
  · exact h0

theorem State.onStopped_keeps {r : State} {s0 : State} (h0 : Keeps r s0) : ∀ a0, Keeps r (State.onStopped s0 a0) := by
  intro a0
  unfold State.onStopped
  with_reducible repeat' (first | assumption | apply State.linkEval_keeps | apply State.lanesOwned_keeps | apply State.endRun_keeps | apply keeps_ite | split)

theorem State.pauseEnd_keeps {r : State} {s0 : State} (h0 : Keeps r s0) : ∀ a0, Keeps r (State.pauseEnd s0 a0) := by
  intro a0
  unfold State.pauseEnd
  with_reducible repeat' (first | assumption | apply State.setPort_keeps | apply State.putN_keeps | apply State.sendPause_keeps | apply forEach_keeps | (refine fun (t : State) _ (_ : Keeps r t) => ?_) | apply keeps_ite)

theorem State.beginDrain_keeps {r : State} {s0 : State} (h0 : Keeps r s0) : ∀ a0, Keeps r (State.beginDrain s0 a0) := by
  intro a0
  unfold State.beginDrain
  with_reducible repeat' (first | assumption | apply State.setFn_keeps | apply State.onStopped_keeps | apply keeps_ite | split | ((try lift_lets); intro x; have hx : Keeps r x := (by unfold x; with_reducible repeat' (first | assumption | apply State.pauseEnd_keeps | apply State.setFn_keeps)); clear_value x) | apply keeps_mk)

theorem State.stopGate_keeps {r : State} {s0 : State} (h0 : Keeps r s0) : ∀ a0, Keeps r (State.stopGate s0 a0) := by
  intro a0
  unfold State.stopGate
  with_reducible repeat' (first | assumption | apply State.setPort_keeps | apply State.takeover_keeps | apply keeps_ite | split)

theorem State.stopFn_keeps {r : State} {s0 : State} (h0 : Keeps r s0) : ∀ a0, Keeps r (State.stopFn s0 a0) := by
  intro a0
  unfold State.stopFn
  with_reducible repeat' (first | assumption | apply State.setFn_keeps | apply State.beginDrain_keeps | apply State.stopGate_keeps | apply keeps_ite)

theorem State.startFn_keeps {r : State} {s0 : State} (h0 : Keeps r s0) : ∀ a0, Keeps r (State.startFn s0 a0) := by
  intro a0
  unfold State.startFn
  with_reducible repeat' (first | assumption | apply State.startFixes_keeps | apply State.beginStart_keeps | apply State.setFn_keeps | apply keeps_ite | split)

theorem State.fnWrite_keeps {r : State} {s0 : State} (h0 : Keeps r s0) : ∀ a0 a1 a2, Keeps r (State.fnWrite s0 a0 a1 a2).1 := by
  intro a0 a1 a2
  unfold State.fnWrite
  with_reducible repeat' (first | assumption | apply State.startFn_keeps | apply State.stopFn_keeps | apply okay_keeps | apply State.clear_keeps | apply check_keeps | apply refuse_keeps | apply keeps_ite | split)

theorem execFnStop_keeps {r : State} {s0 : State} (h0 : Keeps r s0) : ∀ a0 a1, KeepsOut r (execFnStop a0 a1 s0) := by
  intro a0 a1
  unfold execFnStop
  with_reducible repeat' (first | assumption | apply refuse_keeps | apply hostDone_keeps | apply State.fnWrite_keeps | apply hostWrite_keeps | apply keepsOut_ite)

theorem execFnStart_keeps {r : State} {s0 : State} (h0 : Keeps r s0) : ∀ a0 a1, KeepsOut r (execFnStart a0 a1 s0) := by
  intro a0 a1
  unfold execFnStart
  with_reducible repeat' (first | assumption | apply refuse_keeps | apply hostDone_keeps | apply State.fnWrite_keeps | apply hostWrite_keeps | apply keepsOut_ite)

theorem State.drainEnd_keeps {r : State} {s0 : State} (h0 : Keeps r s0) : ∀ a0, Keeps r (State.drainEnd s0 a0) := by
  intro a0
  unfold State.drainEnd
  with_reducible repeat' (first | assumption | apply State.setFn_keeps | apply State.onStopped_keeps | apply State.endRun_keeps | apply State.putN_keeps | apply State.beginStart_keeps | apply keeps_ite | apply keeps_mk)

theorem execFnDrainComplete_keeps {r : State} {s0 : State} (h0 : Keeps r s0) : ∀ a0, KeepsOut r (execFnDrainComplete a0 s0) := by
  intro a0
  unfold execFnDrainComplete
  with_reducible repeat' (first | assumption | apply State.drainEnd_keeps | apply done_keeps | apply keepsOut_ite)

theorem drainCount_keeps {r : State} {s0 : State} (h0 : Keeps r s0) : ∀ a0, Keeps r (drainCount a0 s0) := by
  intro a0
  unfold drainCount
  with_reducible repeat' (first | assumption | apply State.count_keeps | split)

theorem State.purgePipe_keeps {r : State} {s0 : State} (h0 : Keeps r s0) {f1 : State → State} (h1 : ∀ t, Keeps r t → Keeps r (f1 t)) : ∀ a0 a1 a2, Keeps r (State.purgePipe s0 a0 a1 a2 f1) := by
  intro a0 a1 a2
  unfold State.purgePipe
  with_reducible repeat' (first | assumption | apply State.unblock_keeps | apply State.unpinFrame_keeps | apply State.dropFinal_keeps | apply forEach_keeps | apply State.setPipe_keeps | apply h1 | (refine fun (t : State) _ (_ : Keeps r t) => ?_) | apply keeps_ite)

theorem State.purgeQueues_keeps {r : State} {s0 : State} (h0 : Keeps r s0) {f1 : State → State} (h1 : ∀ t, Keeps r t → Keeps r (f1 t)) : ∀ a0 a1, Keeps r (State.purgeQueues s0 a0 a1 f1) := by
  intro a0 a1
  unfold State.purgeQueues
  with_reducible repeat' (first | assumption | apply State.dropFinal_keeps | apply State.queueEmptied_keeps | apply forEach_keeps | apply State.setPort_keeps | apply State.settleCredit_keeps | apply h1 | (refine fun (t : State) _ (_ : Keeps r t) => ?_) | apply keeps_ite)

theorem State.drainDiscard_keeps {r : State} {s0 : State} (h0 : Keeps r s0) : ∀ a0, Keeps r (State.drainDiscard s0 a0) := by
  intro a0
  unfold State.drainDiscard
  with_reducible repeat' (first | assumption | apply State.tribStop_keeps | apply State.purgePipe_keeps | apply State.purgeQueues_keeps | apply forEach_keeps | apply drainCount_keeps | (refine fun (t : State) _ (_ : Keeps r t) => ?_) | (refine fun (t : State) (_ : Keeps r t) => ?_) | split)

theorem execFnDrainLimit_keeps {r : State} {s0 : State} (h0 : Keeps r s0) : ∀ a0, KeepsOut r (execFnDrainLimit a0 s0) := by
  intro a0
  unfold execFnDrainLimit
  with_reducible repeat' (first | assumption | apply State.drainDiscard_keeps | apply State.raise_keeps | apply State.drainEnd_keeps | apply done_keeps | apply keepsOut_ite | split)

theorem State.startFailed_keeps {r : State} {s0 : State} (h0 : Keeps r s0) : ∀ a0 a1, Keeps r (State.startFailed s0 a0 a1) := by
  intro a0 a1
  unfold State.startFailed
  with_reducible repeat' (first | assumption | apply State.setFn_keeps | apply State.onStopped_keeps | apply State.putN_keeps | apply State.raise_keeps)

theorem execFnStartComplete_keeps {r : State} {s0 : State} (h0 : Keeps r s0) : ∀ a0, KeepsOut r (execFnStartComplete a0 s0) := by
  intro a0
  unfold execFnStartComplete
  with_reducible repeat' (first | assumption | apply State.beginDrain_keeps | apply State.setFn_keeps | apply State.onRunning_keeps | apply State.startFailed_keeps | apply done_keeps | apply State.clear_keeps | apply keeps_ite | apply keepsOut_ite)

theorem State.ranged_keeps {r : State} {s0 : State} (h0 : Keeps r s0) : ∀ a0 a1 a2, Keeps r (State.ranged s0 a0 a1 a2).1 := by
  intro a0 a1 a2
  unfold State.ranged
  with_reducible repeat' (first | assumption | apply State.putN_keeps | apply okay_keeps | apply check_keeps)

theorem State.kindEff_keeps {r : State} {s0 : State} (h0 : Keeps r s0) : ∀ a0 a1, Keeps r (State.kindEff s0 a0 a1).1 := by
  intro a0 a1
  unfold State.kindEff
  with_reducible repeat' (first | assumption | apply State.portRoleChange_keeps | apply State.mirror_keeps | apply State.setTrib_keeps | apply State.setPort_keeps | apply State.putN_keeps | apply State.clear_keeps | apply forEach_keeps | apply okay_keeps | apply refuse_keeps | (refine fun (t : State) _ (_ : Keeps r t) => ?_) | apply keeps_ite | apply keeps_ite1)

theorem execPortKind_keeps {r : State} {s0 : State} (h0 : Keeps r s0) : ∀ a0 a1 a2, KeepsOut r (execPortKind a0 a1 a2 s0) := by
  intro a0 a1 a2
  unfold execPortKind
  with_reducible repeat' (first | assumption | apply State.kindEff_keeps | apply hostWrite_keeps)

theorem State.crossEff_keeps {r : State} {s0 : State} (h0 : Keeps r s0) : ∀ a0 a1, Keeps r (State.crossEff s0 a0 a1).1 := by
  intro a0 a1
  unfold State.crossEff
  with_reducible repeat' (first | assumption | apply State.putN_keeps | apply State.portRoleChange_keeps | apply okay_keeps | apply check_keeps | apply keeps_ite)

theorem State.parentEff_keeps {r : State} {s0 : State} (h0 : Keeps r s0) : ∀ a0 a1, Keeps r (State.parentEff s0 a0 a1).1 := by
  intro a0 a1
  unfold State.parentEff
  with_reducible repeat' (first | assumption | apply State.putN_keeps | apply okay_keeps | apply check_keeps)

theorem State.fwdEff_keeps {r : State} {s0 : State} (h0 : Keeps r s0) : ∀ a0 a1, Keeps r (State.fwdEff s0 a0 a1).1 := by
  intro a0 a1
  unfold State.fwdEff
  with_reducible repeat' (first | assumption | apply State.putN_keeps | apply State.portRoleChange_keeps | apply okay_keeps | apply check_keeps | apply keeps_ite)

theorem execCtStart_keeps {r : State} {s0 : State} (h0 : Keeps r s0) : ∀ a0 a1 a2, KeepsOut r (execCtStart a0 a1 a2 s0) := by
  intro a0 a1 a2
  unfold execCtStart
  with_reducible repeat' (first | assumption | apply State.ranged_keeps | apply hostWrite_keeps)

theorem State.limitEff_keeps {r : State} {s0 : State} (h0 : Keeps r s0) : ∀ a0 a1, Keeps r (State.limitEff s0 a0 a1).1 := by
  intro a0 a1
  unfold State.limitEff
  with_reducible repeat' (first | assumption | apply State.ranged_keeps)

theorem State.xoffEff_keeps {r : State} {s0 : State} (h0 : Keeps r s0) : ∀ a0 a1, Keeps r (State.xoffEff s0 a0 a1).1 := by
  intro a0 a1
  unfold State.xoffEff
  with_reducible repeat' (first | assumption | apply State.ranged_keeps)

theorem State.xonEff_keeps {r : State} {s0 : State} (h0 : Keeps r s0) : ∀ a0 a1, Keeps r (State.xonEff s0 a0 a1).1 := by
  intro a0 a1
  unfold State.xonEff
  with_reducible repeat' (first | assumption | apply State.ranged_keeps)

theorem execXoffXonThreshold_keeps {r : State} {s0 : State} (h0 : Keeps r s0) : ∀ a0 a1 a2 a3, KeepsOut r (execXoffXonThreshold a0 a1 a2 a3 s0) := by
  intro a0 a1 a2 a3
  unfold execXoffXonThreshold
  with_reducible repeat' (first | assumption | apply State.xoffEff_keeps | apply State.xonEff_keeps | apply hostWrite_keeps | apply keeps_ite1)

theorem State.bindEff_keeps {r : State} {s0 : State} (h0 : Keeps r s0) : ∀ a0 a1 a2, Keeps r (State.bindEff s0 a0 a1 a2).1 := by
  intro a0 a1 a2
  unfold State.bindEff
  with_reducible repeat' (first | assumption | apply State.putN_keeps | apply State.mirror_keeps | apply check_keeps | apply okay_keeps | apply keeps_ite1)

theorem execTxSaAn_keeps {r : State} {s0 : State} (h0 : Keeps r s0) : ∀ a0 a1 a2 a3, KeepsOut r (execTxSaAn a0 a1 a2 a3 s0) := by
  intro a0 a1 a2 a3
  unfold execTxSaAn
  with_reducible repeat' (first | assumption | apply refuse_keeps | apply hostDone_keeps | apply State.bindEff_keeps | apply hostWrite_keeps | apply keepsOut_ite)

theorem State.txAnEff_keeps {r : State} {s0 : State} (h0 : Keeps r s0) : ∀ a0 a1, Keeps r (State.txAnEff s0 a0 a1).1 := by
  intro a0 a1
  unfold State.txAnEff
  with_reducible repeat' (first | assumption | apply State.mirror_keeps | apply State.raise_keeps | apply State.discardKeystream_keeps | apply State.putN_keeps | apply okay_keeps | apply refuse_keeps | apply keeps_ite | apply keeps_ite1)

theorem execTxAn_keeps {r : State} {s0 : State} (h0 : Keeps r s0) : ∀ a0 a1 a2, KeepsOut r (execTxAn a0 a1 a2 s0) := by
  intro a0 a1 a2
  unfold execTxAn
  with_reducible repeat' (first | assumption | apply State.txAnEff_keeps | apply hostWrite_keeps)

theorem State.phaseRowEff_keeps {r : State} {s0 : State} (h0 : Keeps r s0) : ∀ a0 a1 a2, Keeps r (State.phaseRowEff s0 a0 a1 a2).1 := by
  intro a0 a1 a2
  unfold State.phaseRowEff
  with_reducible repeat' (first | assumption | apply State.putN_keeps | apply State.mirror_keeps | apply okay_keeps | apply check_keeps)

theorem execTwArmFlip_keeps {r : State} {s0 : State} (h0 : Keeps r s0) : ∀ a0 a1, KeepsOut r (execTwArmFlip a0 a1 s0) := by
  intro a0 a1
  unfold execTwArmFlip
  with_reducible repeat' (first | assumption | apply State.twArmEff_keeps | apply hostWrite_keeps)

theorem execTwArmCancel_keeps {r : State} {s0 : State} (h0 : Keeps r s0) : ∀ a0 a1, KeepsOut r (execTwArmCancel a0 a1 s0) := by
  intro a0 a1
  unfold execTwArmCancel
  with_reducible repeat' (first | assumption | apply State.twArmEff_keeps | apply hostWrite_keeps)

theorem State.adminEff_keeps {r : State} {s0 : State} (h0 : Keeps r s0) : ∀ a0 a1 a2, Keeps r (State.adminEff s0 a0 a1 a2).1 := by
  intro a0 a1 a2
  unfold State.adminEff
  with_reducible repeat' (first | assumption | apply State.putN_keeps | apply State.mirror_keeps | apply okay_keeps | apply check_keeps)

theorem State.setCmLevel_keeps {r : State} {s0 : State} (h0 : Keeps r s0) : ∀ a0 a1, Keeps r (State.setCmLevel s0 a0 a1) := by
  intro a0 a1
  unfold State.setCmLevel
  with_reducible repeat' (first | assumption | apply State.boltRoleChange_keeps | apply State.raise_keeps | apply State.discardAllKeystream_keeps | apply State.newEpoch_keeps | apply State.putN_keeps | apply keeps_ite)

theorem State.cmEff_keeps {r : State} {s0 : State} (h0 : Keeps r s0) : ∀ a0 a1, Keeps r (State.cmEff s0 a0 a1).1 := by
  intro a0 a1
  unfold State.cmEff
  with_reducible repeat' (first | assumption | apply State.setCmLevel_keeps | apply okay_keeps | apply check_keeps)

theorem execCmLevel_keeps {r : State} {s0 : State} (h0 : Keeps r s0) : ∀ a0 a1 a2, KeepsOut r (execCmLevel a0 a1 a2 s0) := by
  intro a0 a1 a2
  unfold execCmLevel
  with_reducible repeat' (first | assumption | apply State.cmEff_keeps | apply hostWrite_keeps)

theorem State.pnWarnEff_keeps {r : State} {s0 : State} (h0 : Keeps r s0) : ∀ a0 a1 a2, Keeps r (State.pnWarnEff s0 a0 a1 a2).1 := by
  intro a0 a1 a2
  unfold State.pnWarnEff
  with_reducible repeat' (first | assumption | apply State.ranged_keeps | apply keeps_ite1)

theorem execPnWarn_keeps {r : State} {s0 : State} (h0 : Keeps r s0) : ∀ a0 a1 a2 a3, KeepsOut r (execPnWarn a0 a1 a2 a3 s0) := by
  intro a0 a1 a2 a3
  unfold execPnWarn
  with_reducible repeat' (first | assumption | apply State.pnWarnEff_keeps | apply hostWrite_keeps)

theorem State.panelLimitEff_keeps {r : State} {s0 : State} (h0 : Keeps r s0) : ∀ a0 a1, Keeps r (State.panelLimitEff s0 a0 a1).1 := by
  intro a0 a1
  unfold State.panelLimitEff
  with_reducible repeat' (first | assumption | apply State.panelStop_keeps | apply forEach_keeps | apply okay_keeps | apply State.putN_keeps | apply check_keeps | (refine fun (t : State) _ (_ : Keeps r t) => ?_))

theorem execTwPanelLimit_keeps {r : State} {s0 : State} (h0 : Keeps r s0) : ∀ a0 a1 a2, KeepsOut r (execTwPanelLimit a0 a1 a2 s0) := by
  intro a0 a1 a2
  unfold execTwPanelLimit
  with_reducible repeat' (first | assumption | apply State.panelLimitEff_keeps | apply hostWrite_keeps)

theorem State.panelWarnEff_keeps {r : State} {s0 : State} (h0 : Keeps r s0) : ∀ a0 a1, Keeps r (State.panelWarnEff s0 a0 a1).1 := by
  intro a0 a1
  unfold State.panelWarnEff
  with_reducible repeat' (first | assumption | apply State.ranged_keeps)

theorem State.policyEff_keeps {r : State} {s0 : State} (h0 : Keeps r s0) : ∀ a0 a1, Keeps r (State.policyEff s0 a0 a1).1 := by
  intro a0 a1
  unfold State.policyEff
  with_reducible repeat' (first | assumption | apply State.putN_keeps | apply State.raise_keeps | apply State.mirror_keeps | apply check_keeps | apply okay_keeps | apply keeps_ite1)

theorem execPolicyActive_keeps {r : State} {s0 : State} (h0 : Keeps r s0) : ∀ a0 a1 a2, KeepsOut r (execPolicyActive a0 a1 a2 s0) := by
  intro a0 a1 a2
  unfold execPolicyActive
  with_reducible repeat' (first | assumption | apply State.policyEff_keeps | apply hostWrite_keeps)

theorem State.flushEff_keeps {r : State} {s0 : State} (h0 : Keeps r s0) : ∀ a0 a1, Keeps r (State.flushEff s0 a0 a1).1 := by
  intro a0 a1
  unfold State.flushEff
  with_reducible repeat' (first | assumption | apply State.flushStations_keeps | apply okay_keeps | apply check_keeps)

theorem execStnFlush_keeps {r : State} {s0 : State} (h0 : Keeps r s0) : ∀ a0 a1 a2, KeepsOut r (execStnFlush a0 a1 a2 s0) := by
  intro a0 a1 a2
  unfold execStnFlush
  with_reducible repeat' (first | assumption | apply State.flushEff_keeps | apply hostWrite_keeps)

theorem State.filterEff_keeps {r : State} {s0 : State} (h0 : Keeps r s0) : ∀ a0 a1 a2, Keeps r (State.filterEff s0 a0 a1 a2).1 := by
  intro a0 a1 a2
  unfold State.filterEff
  with_reducible repeat' (first | assumption | apply State.putN_keeps | apply State.clear_keeps | apply okay_keeps)

theorem State.rateEff_keeps {r : State} {s0 : State} (h0 : Keeps r s0) : ∀ a0 a1, Keeps r (State.rateEff s0 a0 a1).1 := by
  intro a0 a1
  unfold State.rateEff
  with_reducible repeat' (first | assumption | apply State.putN_keeps | apply State.conflictCheck_keeps | apply okay_keeps | apply check_keeps)

theorem execLaneSleep_keeps {r : State} {s0 : State} (h0 : Keeps r s0) : ∀ a0 a1, KeepsOut r (execLaneSleep a0 a1 s0) := by
  intro a0 a1
  unfold execLaneSleep
  with_reducible repeat' (first | assumption | apply State.sleepEff_keeps | apply hostWrite_keeps)

theorem execLaneWake_keeps {r : State} {s0 : State} (h0 : Keeps r s0) : ∀ a0 a1, KeepsOut r (execLaneWake a0 a1 s0) := by
  intro a0 a1
  unfold execLaneWake
  with_reducible repeat' (first | assumption | apply State.sleepEff_keeps | apply hostWrite_keeps)

theorem execLnFfe_keeps {r : State} {s0 : State} (h0 : Keeps r s0) : ∀ a0 a1 a2, KeepsOut r (execLnFfe a0 a1 a2 s0) := by
  intro a0 a1 a2
  unfold execLnFfe
  with_reducible repeat' (first | assumption | apply State.ffeEff_keeps | apply hostWrite_keeps)

theorem execLnCtle_keeps {r : State} {s0 : State} (h0 : Keeps r s0) : ∀ a0 a1 a2, KeepsOut r (execLnCtle a0 a1 a2 s0) := by
  intro a0 a1 a2
  unfold execLnCtle
  with_reducible repeat' (first | assumption | apply State.ranged_keeps | apply hostWrite_keeps)

theorem execSelect_keeps {r : State} {s0 : State} (h0 : Keeps r s0) : ∀ a0 a1 a2, KeepsOut r (execSelect a0 a1 a2 s0) := by
  intro a0 a1 a2
  unfold execSelect
  with_reducible repeat' (first | assumption | apply State.selectRow_keeps | apply hostWrite_keeps)

theorem execOpRead_keeps {r : State} {s0 : State} (h0 : Keeps r s0) : ∀ a0 a1, KeepsOut r (execOpRead a0 a1 s0) := by
  intro a0 a1
  unfold execOpRead
  with_reducible repeat' (first | assumption | apply State.opReadEff_keeps | apply hostWrite_keeps)

theorem execOpCommit_keeps {r : State} {s0 : State} (h0 : Keeps r s0) : ∀ a0 a1 a2, KeepsOut r (execOpCommit a0 a1 a2 s0) := by
  intro a0 a1 a2
  unfold execOpCommit
  with_reducible repeat' (first | assumption | apply State.opCommitEff_keeps | apply hostWrite_keeps)

theorem execOpCommitIfUnchanged_keeps {r : State} {s0 : State} (h0 : Keeps r s0) : ∀ a0 a1 a2, KeepsOut r (execOpCommitIfUnchanged a0 a1 a2 s0) := by
  intro a0 a1 a2
  unfold execOpCommitIfUnchanged
  with_reducible repeat' (first | assumption | apply State.opCommitEff_keeps | apply hostWrite_keeps)

theorem execOpDelete_keeps {r : State} {s0 : State} (h0 : Keeps r s0) : ∀ a0 a1, KeepsOut r (execOpDelete a0 a1 s0) := by
  intro a0 a1
  unfold execOpDelete
  with_reducible repeat' (first | assumption | apply State.opDeleteEff_keeps | apply hostWrite_keeps)

theorem execOpNext_keeps {r : State} {s0 : State} (h0 : Keeps r s0) : ∀ a0 a1, KeepsOut r (execOpNext a0 a1 s0) := by
  intro a0 a1
  unfold execOpNext
  with_reducible repeat' (first | assumption | apply State.opNextEff_keeps | apply hostWrite_keeps)

theorem execOpClear_keeps {r : State} {s0 : State} (h0 : Keeps r s0) : ∀ a0 a1, KeepsOut r (execOpClear a0 a1 s0) := by
  intro a0 a1
  unfold execOpClear
  with_reducible repeat' (first | assumption | apply State.opClearEff_keeps | apply hostWrite_keeps)

theorem execTgForceAcq_keeps {r : State} {s0 : State} (h0 : Keeps r s0) : ∀ a0 a1, KeepsOut r (execTgForceAcq a0 a1 s0) := by
  intro a0 a1
  unfold execTgForceAcq
  with_reducible repeat' (first | assumption | apply State.opCommitEff_keeps | apply hostDone_keeps | apply State.writeNum_keeps | split | ((try lift_lets); intro x; have hx : Keeps r x.1 := (by unfold x; with_reducible repeat' (first | assumption | apply State.putN_keeps | apply okay_keeps | apply State.writeNum_keeps)); clear_value x))

theorem execQIdleSlope_keeps {r : State} {s0 : State} (h0 : Keeps r s0) : ∀ a0 a1, KeepsOut r (execQIdleSlope a0 a1 s0) := by
  intro a0 a1
  unfold execQIdleSlope
  with_reducible repeat' (first | assumption | apply State.opCommitEff_keeps | apply hostDone_keeps | apply State.writeNum_keeps | split | ((try lift_lets); intro x; have hx : Keeps r x.1 := (by unfold x; with_reducible repeat' (first | assumption | apply State.putN_keeps | apply okay_keeps | apply State.writeNum_keeps)); clear_value x))

theorem execWrap_keeps {r : State} {s0 : State} (h0 : Keeps r s0) : ∀ a0 a1, KeepsOut r (execWrap a0 a1 s0) := by
  intro a0 a1
  unfold execWrap
  with_reducible repeat' (first | assumption | apply State.wrapEff_keeps | apply hostWrite_keeps)

theorem execLegacyGo_keeps {r : State} {s0 : State} (h0 : Keeps r s0) : ∀ a0 a1, KeepsOut r (execLegacyGo a0 a1 s0) := by
  intro a0 a1
  unfold execLegacyGo
  with_reducible repeat' (first | assumption | apply State.legacyEff_keeps | apply State.writeNum_keeps | apply legacyAfter_keeps | apply hostDone_keeps)

theorem State.latchLane_keeps {r : State} {s0 : State} (h0 : Keeps r s0) : ∀ a0, Keeps r (State.latchLane s0 a0) := by
  intro a0
  unfold State.latchLane
  with_reducible repeat' (first | assumption | apply State.setTwLane_keeps | apply State.putN_keeps)

theorem State.latchTrib_keeps {r : State} {s0 : State} (h0 : Keeps r s0) : ∀ a0, Keeps r (State.latchTrib s0 a0) := by
  intro a0
  unfold State.latchTrib
  with_reducible repeat' (first | assumption | apply State.putN_keeps | apply forEach_keeps | (refine fun (t : State) _ (_ : Keeps r t) => ?_))

theorem State.latchRing_keeps {r : State} {s0 : State} (h0 : Keeps r s0) : ∀ a0, Keeps r (State.latchRing s0 a0) := by
  intro a0
  unfold State.latchRing
  with_reducible repeat' (first | assumption | apply State.count_keeps | apply State.smWrite_keeps | split)

theorem State.latch_keeps {r : State} {s0 : State} (h0 : Keeps r s0) : ∀ a0 a1, Keeps r (State.latch s0 a0 a1) := by
  intro a0 a1
  unfold State.latch
  with_reducible repeat' (first | assumption | apply State.latchRing_keeps | apply State.latchLane_keeps | apply State.latchTrib_keeps | apply State.putN_keeps | apply forEach_keeps | (refine fun (t : State) _ (_ : Keeps r t) => ?_) | apply keeps_ite)

theorem State.judgeDeg_keeps {r : State} {s0 : State} (h0 : Keeps r s0) : ∀ a0, Keeps r (State.judgeDeg s0 a0) := by
  intro a0
  unfold State.judgeDeg
  with_reducible repeat' (first | assumption | apply State.detect_keeps | apply State.setTwLane_keeps | apply keeps_ite | split)

theorem State.tribSecond_keeps {r : State} {s0 : State} (h0 : Keeps r s0) : ∀ a0, Keeps r (State.tribSecond s0 a0) := by
  intro a0
  unfold State.tribSecond
  with_reducible repeat' (first | assumption | apply State.setTrib_keeps | apply State.raiseIn_keeps | apply keeps_ite)

theorem State.secondEvents_keeps {r : State} {s0 : State} (h0 : Keeps r s0) : Keeps r (State.secondEvents s0) := by
  unfold State.secondEvents
  with_reducible repeat' (first | assumption | apply State.clear_keeps | apply State.raiseIn_keeps | apply forEach_keeps | (refine fun (t : State) _ (_ : Keeps r t) => ?_) | apply keeps_ite)

theorem State.leaveSecond_keeps {r : State} {s0 : State} (h0 : Keeps r s0) : ∀ a0, Keeps r (State.leaveSecond s0 a0) := by
  intro a0
  unfold State.leaveSecond
  with_reducible repeat' (first | assumption | apply State.tribSecond_keeps | apply State.secondEvents_keeps | apply State.setTwLane_keeps | apply State.judgeDeg_keeps | apply forEach_keeps | (refine fun (t : State) _ (_ : Keeps r t) => ?_) | apply keeps_ite)

theorem State.timeSetEff_keeps {r : State} {s0 : State} (h0 : Keeps r s0) : ∀ a0, Keeps r (State.timeSetEff s0 a0).1 := by
  intro a0
  unfold State.timeSetEff
  with_reducible repeat' (first | assumption | apply State.certEnd_keeps | apply okay_keeps | apply State.latch_keeps | apply State.raise_keeps | apply State.putN_keeps | apply State.count_keeps | apply State.stepGates_keeps | apply State.leaveSecond_keeps | (refine fun (t : State) (_ : Keeps r t) => ?_) | apply keeps_ite | split | ((try lift_lets); intro x; clear_value x) | apply keeps_mk)

theorem execTimeSet_keeps {r : State} {s0 : State} (h0 : Keeps r s0) : ∀ a0 a1, KeepsOut r (execTimeSet a0 a1 s0) := by
  intro a0 a1
  unfold execTimeSet
  with_reducible repeat' (first | assumption | apply refuse_keeps | apply State.timeSetEff_keeps | apply State.request_keeps | apply hostDone_keeps | split)

theorem State.timeAdjEff_keeps {r : State} {s0 : State} (h0 : Keeps r s0) : ∀ a0, Keeps r (State.timeAdjEff s0 a0).1 := by
  intro a0
  unfold State.timeAdjEff
  with_reducible repeat' (first | assumption | apply okay_keeps | ((try lift_lets); intro x; clear_value x) | apply keeps_mk)

theorem execTimeAdj_keeps {r : State} {s0 : State} (h0 : Keeps r s0) : ∀ a0 a1, KeepsOut r (execTimeAdj a0 a1 s0) := by
  intro a0 a1
  unfold execTimeAdj
  with_reducible repeat' (first | assumption | apply State.timeAdjEff_keeps | apply hostWrite_keeps)

theorem execTimeFreq_keeps {r : State} {s0 : State} (h0 : Keeps r s0) : ∀ a0 a1, KeepsOut r (execTimeFreq a0 a1 s0) := by
  intro a0 a1
  unfold execTimeFreq
  with_reducible repeat' (first | assumption | apply State.putN_keeps | apply okay_keeps | apply hostWrite_keeps)

theorem execSlewComplete_keeps {r : State} {s0 : State} (h0 : Keeps r s0) : KeepsOut r (execSlewComplete s0) := by
  unfold execSlewComplete
  with_reducible repeat' (first | assumption | apply done_keeps | apply keepsOut_ite | ((try lift_lets); intro x; clear_value x) | apply keeps_mk)

theorem execPpsRise_keeps {r : State} {s0 : State} (h0 : Keeps r s0) : KeepsOut r (execPpsRise s0) := by
  unfold execPpsRise
  with_reducible repeat' (first | assumption | apply done_keeps | apply keepsOut_ite | ((try lift_lets); intro x; clear_value x) | apply keeps_mk)

theorem execPpsFall_keeps {r : State} {s0 : State} (h0 : Keeps r s0) : KeepsOut r (execPpsFall s0) := by
  unfold execPpsFall
  with_reducible repeat' (first | assumption | apply done_keeps | apply keepsOut_ite | ((try lift_lets); intro x; clear_value x) | apply keeps_mk)

theorem State.ppsEff_keeps {r : State} {s0 : State} (h0 : Keeps r s0) : ∀ a0, Keeps r (State.ppsEff s0 a0).1 := by
  intro a0
  unfold State.ppsEff
  with_reducible repeat' (first | assumption | apply okay_keeps | apply State.putN_keeps | apply keeps_ite | ((try lift_lets); intro x; clear_value x) | apply keeps_mk)

theorem execTsInEdge_keeps {r : State} {s0 : State} (h0 : Keeps r s0) : ∀ a0 a1 a2, KeepsOut r (execTsInEdge a0 a1 a2 s0) := by
  intro a0 a1 a2
  unfold execTsInEdge
  with_reducible repeat' (first | assumption | apply State.raise_keeps | apply State.count_keeps | apply done_keeps | apply keeps_ite | apply keepsOut_ite | dsimp only | apply keeps_mk)

theorem State.tsiPopEff_keeps {r : State} {s0 : State} (h0 : Keeps r s0) : ∀ a0 a1, Keeps r (State.tsiPopEff s0 a0 a1).1 := by
  intro a0 a1
  unfold State.tsiPopEff
  with_reducible repeat' (first | assumption | apply refuse_keeps | apply okay_keeps | apply keeps_ite1 | split | ((try lift_lets); intro x; clear_value x) | apply keeps_mk)

theorem execTsiPop_keeps {r : State} {s0 : State} (h0 : Keeps r s0) : ∀ a0 a1 a2, KeepsOut r (execTsiPop a0 a1 a2 s0) := by
  intro a0 a1 a2
  unfold execTsiPop
  with_reducible repeat' (first | assumption | apply State.tsiPopEff_keeps | apply hostWrite_keeps)

theorem execTcErrMax_keeps {r : State} {s0 : State} (h0 : Keeps r s0) : ∀ a0 a1 a2, KeepsOut r (execTcErrMax a0 a1 a2 s0) := by
  intro a0 a1 a2
  unfold execTcErrMax
  with_reducible repeat' (first | assumption | apply State.ranged_keeps | apply hostWrite_keeps)

theorem State.evtPopEff_keeps {r s0 : State} (h0 : Keeps r s0) (v : Nat) : Keeps r (s0.evtPopEff v).1 := by
  simp only [State.evtPopEff]
  split
  · rename_i x rest hq
    split
    · have h1 : Keeps r { s0 with events := { s0.events with queue := rest, dropped := 0 } } :=
        keeps_events h0 (fun h => by rw [hq] at h; simp at h; show rest.length ≤ 1024; omega)
      show Keeps r (if _ then _ else _)
      split
      · exact h1
      · exact State.raise_keeps h1 _ _ _
    · exact h0
  · exact h0

theorem execEvtPop_keeps {r : State} {s0 : State} (h0 : Keeps r s0) : ∀ a0 a1, KeepsOut r (execEvtPop a0 a1 s0) := by
  intro a0 a1
  unfold execEvtPop
  with_reducible repeat' (first | assumption | apply State.evtPopEff_keeps | apply hostWrite_keeps)

theorem execTjSample_keeps {r : State} {s0 : State} (h0 : Keeps r s0) : ∀ a0, KeepsOut r (execTjSample a0 s0) := by
  intro a0
  unfold execTjSample
  with_reducible repeat' (first | assumption | apply State.raise_keeps | apply done_keeps | apply State.putN_keeps | apply keeps_ite | apply keepsOut_ite | split | apply keeps_mk)

theorem execTjPeak_keeps {r : State} {s0 : State} (h0 : Keeps r s0) : ∀ a0 a1, KeepsOut r (execTjPeak a0 a1 s0) := by
  intro a0 a1
  unfold execTjPeak
  with_reducible repeat' (first | assumption | apply State.putN_keeps | apply okay_keeps | apply hostWrite_keeps)

theorem State.stallSecond_keeps {r : State} {s0 : State} (h0 : Keeps r s0) : ∀ a0, Keeps r (State.stallSecond s0 a0) := by
  intro a0
  unfold State.stallSecond
  with_reducible repeat' (first | assumption | apply State.countBy_keeps | apply State.raiseIn_keeps | apply keeps_ite)

theorem State.measured_keeps {r : State} {s0 : State} (h0 : Keeps r s0) : ∀ a0 a1, Keeps r (State.measured s0 a0 a1) := by
  intro a0 a1
  unfold State.measured
  with_reducible repeat' (first | assumption | apply State.raiseKeyed_keeps | apply State.putN_keeps | apply forEach_keeps | (refine fun (t : State) _ (_ : Keeps r t) => ?_) | apply keeps_ite)

theorem execDeviceSecondBoundary_keeps {r : State} {s0 : State} (h0 : Keeps r s0) : ∀ a0, KeepsOut r (execDeviceSecondBoundary a0 s0) := by
  intro a0
  unfold execDeviceSecondBoundary
  with_reducible repeat' (first | assumption | apply State.tgApply_keeps | apply State.measured_keeps | apply State.stallSecond_keeps | apply State.secondEvents_keeps | apply State.judgeDeg_keeps | apply State.latch_keeps | apply State.tribSecond_keeps | apply forEach_keeps | apply done_keeps | (refine fun (t : State) _ (_ : Keeps r t) => ?_) | apply keepsOut_ite | split | ((try lift_lets); intro x; clear_value x) | dsimp only | apply keeps_mk)

theorem execGeneratorReseedRetry_keeps {r : State} {s0 : State} (h0 : Keeps r s0) : ∀ a0 a1 a2, KeepsOut r (execGeneratorReseedRetry a0 a1 a2 s0) := by
  intro a0 a1 a2
  unfold execGeneratorReseedRetry
  with_reducible repeat' (first | assumption | apply State.raise_keeps | apply State.count_keeps | apply State.setPipe_keeps | apply done_keeps | apply keepsOut_ite)

theorem execRtcSecondTick_keeps {r : State} {s0 : State} (h0 : Keeps r s0) : KeepsOut r (execRtcSecondTick s0) := by
  unfold execRtcSecondTick
  with_reducible repeat' (first | assumption | apply done_keeps | apply keepsOut_ite | ((try lift_lets); intro x; clear_value x) | apply keeps_mk)

theorem State.enrol_keeps {r : State} {s0 : State} (h0 : Keeps r s0) : ∀ a0 a1, Keeps r (State.enrol s0 a0 a1) := by
  intro a0 a1
  unfold State.enrol
  with_reducible repeat' (first | assumption | apply State.certEnd_keeps | apply State.save_keeps | apply keeps_ite | split | ((try lift_lets); intro x; have hx : Keeps r x := (by unfold x; with_reducible repeat' (first | assumption | apply State.markClose_keeps | apply forEach_keeps | apply State.save_keeps | (refine fun (t : State) _ (_ : Keeps r t) => ?_) | apply keeps_ite)); clear_value x))

theorem State.dcMake_keeps {r : State} {s0 : State} (h0 : Keeps r s0) : ∀ a0 a1, Keeps r (State.dcMake s0 a0 a1) := by
  intro a0 a1
  unfold State.dcMake
  with_reducible repeat' (first | assumption | apply State.save_keeps | apply State.enrol_keeps | apply State.setCmLevel_keeps | apply State.withdraw_keeps | apply keeps_ite | split)

theorem State.dcApply_keeps {r s t : State} {a : Nat} {bs : Octets} (e : s.dcApply a bs = some t) (h : Keeps r s) : Keeps r t := by
  simp only [State.dcApply] at e
  split at e
  · exact absurd e (by simp)
  · cases e; exact State.dcMake_keeps h _ _

theorem State.dcNonceEff_keeps {r : State} {s0 : State} (h0 : Keeps r s0) : Keeps r (State.dcNonceEff s0).1 := by
  unfold State.dcNonceEff
  with_reducible repeat' (first | assumption | apply State.draw_keeps | (refine keeps_eq2 ?_ (by assumption)) | split | ((try lift_lets); intro x; clear_value x) | dsimp only | apply keeps_mk)

theorem execDcNonceRead_keeps {r : State} {s0 : State} (h0 : Keeps r s0) : ∀ a0, KeepsOut r (execDcNonceRead a0 s0) := by
  intro a0
  unfold execDcNonceRead
  with_reducible repeat' (first | assumption | apply State.dcNonceEff_keeps | apply hostRead_keeps)

theorem State.unlessHeld_keeps {r : State} {s0 : State} (h0 : Keeps r s0) {e1 : Eff} (h1 : Keeps r e1.1) : Keeps r (State.unlessHeld s0 e1).1 := by
  unfold State.unlessHeld
  with_reducible repeat' (first | assumption | apply refuse_keeps | apply keeps_ite1)

theorem State.submitEff_keeps {r : State} {s0 : State} (h0 : Keeps r s0) : ∀ a0, Keeps r (State.submitEff s0 a0).1 := by
  intro a0
  unfold State.submitEff
  with_reducible repeat' (first | assumption | apply refuse_keeps | apply State.raise_keeps | apply okay_keeps | apply State.putAll_keeps | apply withJobs_keeps | split | ((try lift_lets); intro x; clear_value x) | apply keeps_mk)

theorem State.approveEff_keeps {r : State} {s0 : State} (h0 : Keeps r s0) : ∀ a0, Keeps r (State.approveEff s0 a0).1 := by
  intro a0
  unfold State.approveEff
  with_reducible repeat' (first | assumption | apply State.freeSlot_keeps | apply State.raise_keeps | apply State.endProposal_keeps | apply okay_keeps | apply checkInOrder_keeps | apply withJobs_keeps | (refine State.dcApply_keeps (by assumption) ?_) | apply keeps_ite1 | split)

theorem State.cancelEff_keeps {r : State} {s0 : State} (h0 : Keeps r s0) : ∀ a0, Keeps r (State.cancelEff s0 a0).1 := by
  intro a0
  unfold State.cancelEff
  with_reducible repeat' (first | assumption | apply State.endProposal_keeps | apply okay_keeps | apply checkInOrder_keeps | apply withJobs_keeps)

theorem State.actionEff_keeps {r : State} {s0 : State} (h0 : Keeps r s0) : ∀ a0 a1, Keeps r (State.actionEff s0 a0 a1).1 := by
  intro a0 a1
  unfold State.actionEff
  with_reducible repeat' (first | assumption | apply refuse_keeps | apply State.cancelEff_keeps | apply State.approveEff_keeps | apply State.submitEff_keeps | apply State.unlessHeld_keeps | apply keeps_ite1)

theorem execPActionSubmit_keeps {r : State} {s0 : State} (h0 : Keeps r s0) : ∀ a0, KeepsOut r (execPActionSubmit a0 s0) := by
  intro a0
  unfold execPActionSubmit
  with_reducible repeat' (first | assumption | apply State.submitEff_keeps | apply State.unlessHeld_keeps | apply hostWrite_keeps)

theorem execPActionApprove_keeps {r : State} {s0 : State} (h0 : Keeps r s0) : ∀ a0, KeepsOut r (execPActionApprove a0 s0) := by
  intro a0
  unfold execPActionApprove
  with_reducible repeat' (first | assumption | apply State.approveEff_keeps | apply State.unlessHeld_keeps | apply hostWrite_keeps)

theorem execPActionCancel_keeps {r : State} {s0 : State} (h0 : Keeps r s0) : ∀ a0, KeepsOut r (execPActionCancel a0 s0) := by
  intro a0
  unfold execPActionCancel
  with_reducible repeat' (first | assumption | apply State.cancelEff_keeps | apply State.unlessHeld_keeps | apply hostWrite_keeps)

theorem execDcWindowExpiry_keeps {r : State} {s0 : State} (h0 : Keeps r s0) : ∀ a0, KeepsOut r (execDcWindowExpiry a0 s0) := by
  intro a0
  unfold execDcWindowExpiry
  with_reducible repeat' (first | assumption | apply State.endProposal_keeps | apply done_keeps | apply keepsOut_ite | split)

theorem State.enrolEff_keeps {r : State} {s0 : State} (h0 : Keeps r s0) : ∀ a0 a1, Keeps r (State.enrolEff s0 a0 a1).1 := by
  intro a0 a1
  unfold State.enrolEff
  with_reducible repeat' (first | assumption | apply State.raise_keeps | apply okay_keeps | apply State.enrol_keeps | apply check_keeps | apply keeps_ite)

theorem State.enrolWrite_keeps {r : State} {s0 : State} (h0 : Keeps r s0) : ∀ a0 a1 a2, Keeps r (State.enrolWrite s0 a0 a1 a2).1 := by
  intro a0 a1 a2
  unfold State.enrolWrite
  with_reducible repeat' (first | assumption | apply State.enrolEff_keeps | apply underAborts_keeps)

theorem execCredEnrolDirect_keeps {r : State} {s0 : State} (h0 : Keeps r s0) : ∀ a0 a1 a2, KeepsOut r (execCredEnrolDirect a0 a1 a2 s0) := by
  intro a0 a1 a2
  unfold execCredEnrolDirect
  with_reducible repeat' (first | assumption | apply State.enrolWrite_keeps | apply hostDone_keeps)

theorem State.setImageSlot_keeps {r s0 : State} (h0 : Keeps r s0) (k : Nat) {i : ImageSlot}
    (hi : Form s0 → Mem.wf i.bytes = true) : Keeps r (s0.setImageSlot k i) := by
  simp only [State.setImageSlot]
  split
  · exact h0.trans ⟨fun x => ⟨x.store, x.copies, x.queue, ⟨hi x, x.memory.2⟩⟩, Otp.Grows.refl _, rfl, rfl⟩
  · exact h0.trans ⟨fun x => ⟨x.store, x.copies, x.queue, ⟨x.memory.1, hi x, x.memory.2.2⟩⟩, Otp.Grows.refl _, rfl, rfl⟩

theorem State.imageSlot_form {s : State} (h : Form s) (k : Nat) : Mem.wf (s.imageSlot k).bytes = true := by
  unfold State.imageSlot
  split
  · exact h.memory.1
  · exact h.memory.2.1

theorem State.judgeSlot_keeps {r s0 : State} (h0 : Keeps r s0) (k : Nat) : Keeps r (s0.judgeSlot k).2 := by
  simp only [State.judgeSlot]
  split
  · exact State.setImageSlot_keeps h0 k (fun h => State.imageSlot_form h k)
  · exact State.setImageSlot_keeps h0 k (fun h => State.imageSlot_form h k)

theorem State.raiseFloor_keeps {r s0 : State} (h0 : Keeps r s0) (a : Nat) : Keeps r (s0.raiseFloor a) := by
  simp only [State.raiseFloor]
  split
  · exact h0
  · refine keeps_otp h0 ?_
    constructor <;> simp [← BitVec.or_assoc]

theorem State.internalReset_keeps {r s0 : State} (h0 : Keeps r s0) : Keeps r s0.internalReset := by
  have h1 := State.certEnd_keeps h0 5
  unfold State.internalReset
  generalize s0.certEnd 5 = s at h1
  refine ⟨fun x => ⟨rfl, (h1.form x).copies, Nat.zero_le _, (h1.form x).memory.1, (h1.form x).memory.2.1, ?_⟩, h1.otp, h1.part⟩
  intro e he
  exact absurd he (by simp [State.reset])

theorem execPowerGoodFall_keeps {r : State} {s0 : State} (h0 : Keeps r s0) : KeepsOut r (execPowerGoodFall s0) := by
  unfold execPowerGoodFall
  with_reducible repeat' (first | assumption | apply done_keeps | apply keepsOut_ite | ((try lift_lets); intro x; have hx : Keeps r x := (by unfold x; with_reducible repeat' (first | assumption | apply State.internalReset_keeps)); clear_value x) | apply keeps_mk)

theorem execRstNAssert_keeps {r : State} {s0 : State} (h0 : Keeps r s0) : KeepsOut r (execRstNAssert s0) := by
  unfold execRstNAssert
  with_reducible repeat' (first | assumption | apply done_keeps | apply keepsOut_ite | ((try lift_lets); intro x; have hx : Keeps r x := (by unfold x; with_reducible repeat' (first | assumption | apply State.internalReset_keeps)); clear_value x) | apply keeps_mk)

theorem execMainPowerLost_keeps {r : State} {s0 : State} (h0 : Keeps r s0) : KeepsOut r (execMainPowerLost s0) := by
  unfold execMainPowerLost
  with_reducible repeat' (first | assumption | apply done_keeps | apply State.internalReset_keeps | apply keepsOut_ite | ((try lift_lets); intro x; clear_value x) | apply keeps_mk)

theorem State.compTrip_keeps {r : State} {s0 : State} (h0 : Keeps r s0) : ∀ a0, Keeps r (State.compTrip s0 a0) := by
  intro a0
  unfold State.compTrip
  with_reducible repeat' (first | assumption | apply State.raiseEarly_keeps | apply State.raiseAlarm_keeps | apply keeps_ite | split | apply keeps_mk)

theorem execBkComparatorTrip_keeps {r : State} {s0 : State} (h0 : Keeps r s0) : ∀ a0, KeepsOut r (execBkComparatorTrip a0 s0) := by
  intro a0
  unfold execBkComparatorTrip
  with_reducible repeat' (first | assumption | apply State.compTrip_keeps | apply done_keeps | apply keepsOut_ite)

theorem execBkComparatorRelease_keeps {r : State} {s0 : State} (h0 : Keeps r s0) : ∀ a0, KeepsOut r (execBkComparatorRelease a0 s0) := by
  intro a0
  unfold execBkComparatorRelease
  with_reducible repeat' (first | assumption | apply done_keeps | apply keepsOut_ite | ((try lift_lets); intro x; clear_value x) | apply keeps_mk)

theorem State.bkClearEff_keeps {r : State} {s0 : State} (h0 : Keeps r s0) : ∀ a0 a1, Keeps r (State.bkClearEff s0 a0 a1).1 := by
  intro a0 a1
  unfold State.bkClearEff
  with_reducible repeat' (first | assumption | apply okay_keeps | apply check_keeps | ((try lift_lets); intro x; clear_value x) | dsimp only | apply keeps_mk)

theorem execBkClear_keeps {r : State} {s0 : State} (h0 : Keeps r s0) : ∀ a0 a1, KeepsOut r (execBkClear a0 a1 s0) := by
  intro a0 a1
  unfold execBkClear
  with_reducible repeat' (first | assumption | apply State.bkClearEff_keeps | apply hostWrite_keeps)

theorem execMainPowerReturned_keeps {r : State} {s0 : State} (h0 : Keeps r s0) : ∀ a0 a1 a2, KeepsOut r (execMainPowerReturned a0 a1 a2 s0) := by
  intro a0 a1 a2
  unfold execMainPowerReturned
  with_reducible repeat' (first | assumption | apply State.compTrip_keeps | apply done_keeps | apply keeps_ite | apply keepsOut_ite | split | ((try lift_lets); intro x; clear_value x) | dsimp only | apply keeps_mk)

theorem execVbatCollapse_keeps {r : State} {s0 : State} (h0 : Keeps r s0) : KeepsOut r (execVbatCollapse s0) := by
  unfold execVbatCollapse
  with_reducible repeat' (first | assumption | apply done_keeps | apply keepsOut_ite | apply keeps_mk)

theorem execFlueDetectorFire_keeps {r : State} {s0 : State} (h0 : Keeps r s0) : ∀ a0 a1, KeepsOut r (execFlueDetectorFire a0 a1 s0) := by
  intro a0 a1
  unfold execFlueDetectorFire
  with_reducible repeat' (first | assumption | apply State.flueEvent_keeps | apply State.setFlue_keeps | apply done_keeps | apply keepsOut_ite | split | ((try lift_lets); intro x; clear_value x))

theorem execFlueDetectorRelease_keeps {r : State} {s0 : State} (h0 : Keeps r s0) : ∀ a0 a1, KeepsOut r (execFlueDetectorRelease a0 a1 s0) := by
  intro a0 a1
  unfold execFlueDetectorRelease
  with_reducible repeat' (first | assumption | apply State.setFlue_keeps | apply done_keeps | apply keepsOut_ite)

theorem execFlueLoneRecognised_keeps {r : State} {s0 : State} (h0 : Keeps r s0) : ∀ a0, KeepsOut r (execFlueLoneRecognised a0 s0) := by
  intro a0
  unfold execFlueLoneRecognised
  with_reducible repeat' (first | assumption | apply State.setFlue_keeps | apply State.flueLone_keeps | apply done_keeps | split | ((try lift_lets); intro x; clear_value x))

theorem State.almAckEff_keeps {r : State} {s0 : State} (h0 : Keeps r s0) : ∀ a0, Keeps r (State.almAckEff s0 a0).1 := by
  intro a0
  unfold State.almAckEff
  with_reducible repeat' (first | assumption | apply State.putN_keeps | apply okay_keeps | apply check_keeps)

theorem execAlmAck_keeps {r : State} {s0 : State} (h0 : Keeps r s0) : ∀ a0 a1, KeepsOut r (execAlmAck a0 a1 s0) := by
  intro a0 a1
  unfold execAlmAck
  with_reducible repeat' (first | assumption | apply State.almAckEff_keeps | apply hostWrite_keeps)

theorem State.holdClearEff_keeps {r : State} {s0 : State} (h0 : Keeps r s0) : ∀ a0 a1, Keeps r (State.holdClearEff s0 a0 a1).1 := by
  intro a0 a1
  unfold State.holdClearEff
  with_reducible repeat' (first | assumption | apply State.putN_keeps | apply okay_keeps | apply check_keeps)

theorem execAlmHoldClear_keeps {r : State} {s0 : State} (h0 : Keeps r s0) : ∀ a0 a1, KeepsOut r (execAlmHoldClear a0 a1 s0) := by
  intro a0 a1
  unfold execAlmHoldClear
  with_reducible repeat' (first | assumption | apply State.holdClearEff_keeps | apply hostWrite_keeps)

theorem State.meshUnwrap_keeps {r : State} {s0 : State} (h0 : Keeps r s0) : ∀ a0 a1, Keeps r (State.meshUnwrap s0 a0 a1).2 := by
  intro a0 a1
  unfold State.meshUnwrap
  with_reducible repeat' (first | assumption | apply State.unwrapFailed_keeps | split)

theorem State.meshStart_keeps {r : State} {s0 : State} (h0 : Keeps r s0) : Keeps r (State.meshStart s0) := by
  unfold State.meshStart
  with_reducible repeat' (first | assumption | apply State.meshUnwrap_keeps | (refine keeps_eq2 ?_ (by assumption)) | apply keeps_ite2 | split | ((try lift_lets); intro x; unfold x; clear x; beta_reduce) | ((try lift_lets); intro x; clear_value x) | apply keeps_mk)

theorem State.emberBurn_keeps {r s0 : State} (h0 : Keeps r s0) (k bits : Nat) (ok : Bool) : Keeps r (s0.emberBurn k bits ok) := by
  simp only [State.emberBurn]
  split
  · refine keeps_otp h0 ?_
    constructor <;> simp [← BitVec.or_assoc]
  · refine keeps_otp h0 ?_
    constructor <;> simp [← BitVec.or_assoc]

theorem State.emberStart_keeps {r : State} {s0 : State} (h0 : Keeps r s0) : ∀ a0 a1, Keeps r (State.emberStart s0 a0 a1) := by
  intro a0 a1
  unfold State.emberStart
  with_reducible repeat' (first | assumption | apply State.emberBurn_keeps | apply State.draw_keeps | apply keeps_ite)

theorem State.identityJobs_keeps {r s0 : State} (h0 : Keeps r s0) (st : StartInput) : Keeps r (s0.identityJobs st) := by
  simp only [State.identityJobs]
  exact keeps_ite h0 (forEach_keeps (fun _ _ h => State.raiseAlarm_keeps h _ _ _)
    (State.countBy_keeps (State.countBy_keeps h0 _ _) _ _))

theorem State.identityStart_keeps {r s0 : State} (h0 : Keeps r s0) : Keeps r s0.identityStart := by
  simp only [State.identityStart]
  split
  · rename_i h
    refine keeps_otp h0 ?_
    constructor <;> simp [h.2.2]
  · exact h0

theorem State.configStart_keeps {r s0 : State} (h0 : Keeps r s0) (a : Bool) : Keeps r (s0.configStart a) := by
  unfold State.configStart
  extract_lets newest other s1
  have h1 : Keeps r s1 := State.putAll_keeps h0 _
  have hb : ∀ k, Keeps r { s0 with boot := { s0.boot with newest := k } } := fun k => keeps_boot h0 id (fun h => ⟨h.1, h.2.1⟩)
  refine keeps_ite (keeps_ite (State.record_keeps h1) h1) (keeps_ite (State.putAll_keeps (hb _) _) ?_)
  exact keeps_mk h0

theorem State.hotJoinCheck_keeps {r : State} {s0 : State} (h0 : Keeps r s0) : Keeps r (State.hotJoinCheck s0) := by
  unfold State.hotJoinCheck
  with_reducible repeat' (first | assumption | apply State.emit_keeps | apply keeps_ite | ((try lift_lets); intro x; clear_value x) | apply keeps_mk)

theorem State.startEvents_keeps {r s0 : State} (h0 : Keeps r s0) (a) : Keeps r (s0.startEvents a) :=
  forEach_keeps (fun _ _ h => State.raise_keeps h _ _ _) (keeps_events h0 id)

theorem State.bootFirmware_keeps {r : State} {s0 : State} (h0 : Keeps r s0) : ∀ a0 a1, Keeps r (State.bootFirmware s0 a0 a1) := by
  intro a0 a1
  unfold State.bootFirmware
  with_reducible repeat' (first | assumption | apply State.hotJoinCheck_keeps | apply State.setRole_keeps | apply State.meshStart_keeps | apply State.putN_keeps | apply forEach_keeps | apply State.startEvents_keeps | apply State.answerDeferred_keeps | apply State.emptyCreds_keeps | apply State.configStart_keeps | apply State.identityStart_keeps | apply State.identityJobs_keeps | apply State.emberStart_keeps | apply State.raiseFloor_keeps | (refine fun (t : State) _ (_ : Keeps r t) => ?_) | apply keeps_ite | split | ((try lift_lets); intro x; clear_value x) | dsimp only | apply keeps_mk)

theorem State.kindling_keeps {r : State} {s0 : State} (h0 : Keeps r s0) : Keeps r (State.kindling s0) := by
  unfold State.kindling
  with_reducible repeat' (first | assumption | apply State.bootFirmware_keeps | apply State.judgeSlot_keeps | (refine keeps_eq2 ?_ (by assumption)) | split | ((try lift_lets); intro x; clear_value x) | apply keeps_mk)

theorem execInternalResetEnd_keeps {r : State} {s0 : State} (h0 : Keeps r s0) : ∀ a0, KeepsOut r (execInternalResetEnd a0 s0) := by
  intro a0
  unfold execInternalResetEnd
  with_reducible repeat' (first | assumption | apply State.kindling_keeps | apply done_keeps | apply State.raiseAlarm_keeps | apply forEach_keeps | apply State.zeroiseWorking_keeps | apply State.emberErase_keeps | (refine fun (t : State) _ (_ : Keeps r t) => ?_) | apply keeps_ite | apply keepsOut_ite | split | ((try lift_lets); intro x; clear_value x) | dsimp only | apply keeps_mk)

theorem State.refuseHandshake_keeps {r : State} {s0 : State} (h0 : Keeps r s0) : ∀ a0 a1, Keeps r (State.refuseHandshake s0 a0 a1) := by
  intro a0 a1
  unfold State.refuseHandshake
  with_reducible repeat' (first | assumption | apply State.freeSession_keeps | apply State.count_keeps | apply State.raise_keeps | apply State.sendClear_keeps | split)

theorem State.hearthLost_keeps {r : State} {s0 : State} (h0 : Keeps r s0) : Keeps r (State.hearthLost s0) := by
  unfold State.hearthLost
  with_reducible repeat' (first | assumption | apply State.refuseHandshake_keeps | apply State.clear_keeps | apply forEach_keeps | (refine fun (t : State) _ (_ : Keeps r t) => ?_) | apply keeps_ite | ((try lift_lets); intro x; clear_value x) | apply keeps_mk)

theorem State.cursorsLost_keeps {r : State} {s0 : State} (h0 : Keeps r s0) : Keeps r (State.cursorsLost s0) := by
  unfold State.cursorsLost
  with_reducible repeat' (first | assumption | apply State.putN_keeps | apply forEach_keeps | apply State.clearWhere_keeps | (refine fun (t : State) _ (_ : Keeps r t) => ?_))

theorem State.hearthNoted_keeps {r : State} {s0 : State} (h0 : Keeps r s0) : ∀ a0 a1, Keeps r (State.hearthNoted s0 a0 a1) := by
  intro a0 a1
  unfold State.hearthNoted
  with_reducible repeat' (first | assumption | apply State.raise_keeps | apply State.count_keeps | apply State.putN_keeps)

theorem State.switchOver_keeps {r : State} {s0 : State} (h0 : Keeps r s0) : ∀ a0, Keeps r (State.switchOver s0 a0) := by
  intro a0
  unfold State.switchOver
  with_reducible repeat' (first | assumption | apply State.putN_keeps | apply State.hearthNoted_keeps | apply State.hearthLost_keeps | ((try lift_lets); intro x; clear_value x) | apply keeps_mk)

theorem State.kindlingRestart_keeps {r : State} {s0 : State} (h0 : Keeps r s0) : ∀ a0, Keeps r (State.kindlingRestart s0 a0) := by
  intro a0
  unfold State.kindlingRestart
  with_reducible repeat' (first | assumption | apply State.hearthLost_keeps | apply State.healthCheck_keeps | apply State.freeSlot_keeps | apply forEach_keeps | apply State.putN_keeps | apply State.hearthNoted_keeps | (refine fun (t : State) _ (_ : Keeps r t) => ?_) | ((try lift_lets); intro x; clear_value x) | apply keeps_mk)

theorem State.coreFails_keeps {r : State} {s0 : State} (h0 : Keeps r s0) : ∀ a0, Keeps r (State.coreFails s0 a0) := by
  intro a0
  unfold State.coreFails
  with_reducible repeat' (first | assumption | apply State.kindlingRestart_keeps | apply State.switchOver_keeps | apply keeps_ite)

theorem execWatchdogExpiry_keeps {r : State} {s0 : State} (h0 : Keeps r s0) : KeepsOut r (execWatchdogExpiry s0) := by
  unfold execWatchdogExpiry
  with_reducible repeat' (first | assumption | apply State.coreFails_keeps | apply done_keeps)

theorem execHearthMemoryError_keeps {r : State} {s0 : State} (h0 : Keeps r s0) : KeepsOut r (execHearthMemoryError s0) := by
  unfold execHearthMemoryError
  with_reducible repeat' (first | assumption | apply State.coreFails_keeps | apply done_keeps)

theorem State.hearthCmdEff_keeps {r : State} {s0 : State} (h0 : Keeps r s0) : ∀ a0, Keeps r (State.hearthCmdEff s0 a0).1 := by
  intro a0
  unfold State.hearthCmdEff
  with_reducible repeat' (first | assumption | apply State.switchOver_keeps | apply okay_keeps | apply check_keeps)

theorem execHearthCmd_keeps {r : State} {s0 : State} (h0 : Keeps r s0) : ∀ a0 a1, KeepsOut r (execHearthCmd a0 a1 s0) := by
  intro a0 a1
  unfold execHearthCmd
  with_reducible repeat' (first | assumption | apply State.hearthCmdEff_keeps | apply hostWrite_keeps)

theorem execSwitchOverComplete_keeps {r : State} {s0 : State} (h0 : Keeps r s0) : KeepsOut r (execSwitchOverComplete s0) := by
  unfold execSwitchOverComplete
  with_reducible repeat' (first | assumption | apply State.cursorsLost_keeps | apply State.putN_keeps | apply done_keeps | apply keepsOut_ite | ((try lift_lets); intro x; clear_value x) | apply keeps_mk)

theorem execKindlingRestartComplete_keeps {r : State} {s0 : State} (h0 : Keeps r s0) : KeepsOut r (execKindlingRestartComplete s0) := by
  unfold execKindlingRestartComplete
  with_reducible repeat' (first | assumption | apply State.cursorsLost_keeps | apply State.putN_keeps | apply done_keeps | apply keepsOut_ite | ((try lift_lets); intro x; clear_value x) | apply keeps_mk)

theorem execHearthBankedInStep_keeps {r : State} {s0 : State} (h0 : Keeps r s0) : KeepsOut r (execHearthBankedInStep s0) := by
  unfold execHearthBankedInStep
  with_reducible repeat' (first | assumption | apply State.putN_keeps | apply done_keeps | apply keepsOut_ite)

theorem State.openTest_keeps {r s0 : State} (h0 : Keeps r s0) : Keeps r s0.openTest := by
  simp only [State.openTest]
  split
  · exact h0
  · refine State.lcMove_keeps (State.raise_keeps (keeps_otp h0 ?_) _ _ _) _
    constructor <;> simp [← BitVec.or_assoc]

theorem State.lcEff_keeps {r s0 : State} (h0 : Keeps r s0) (n v : Nat) : Keeps r (s0.lcEff n v).1 := by
  have hm : ∀ t, Keeps r (okay (s0.lcMove t)).1 := fun t => okay_keeps (State.lcMove_keeps h0 t)
  have hw : ∀ t, Keeps r (okay (s0.withdraw t)).1 := fun t => okay_keeps (State.withdraw_keeps h0 t)
  have hn : ∀ c, Keeps r (refuse s0 c).1 := fun _ => refuse_keeps h0 _
  have ho : Keeps r (okay s0.openTest).1 := okay_keeps (State.openTest_keeps h0)
  have hi : ∀ a b : Nat, ∀ c : Prop, ∀ _ : Decidable c, Keeps r (okay (if c then s0.withdraw a else s0.lcMove b)).1 := by
    intro a b c _; exact okay_keeps (keeps_ite (State.withdraw_keeps h0 _) (State.lcMove_keeps h0 _))
  have hk : ∀ cs e, Keeps r e.1 → Keeps r (check s0 cs e).1 := fun cs e h => check_keeps h0 cs h
  unfold State.lcEff
  dsimp only
  with_reducible repeat' (first | apply hm | apply hw | apply hn | apply hi | exact ho | apply hk | apply keeps_ite1)

theorem execLcRequestTestLocked_keeps {r : State} {s0 : State} (h0 : Keeps r s0) : ∀ a0, KeepsOut r (execLcRequestTestLocked a0 s0) := by
  intro a0
  unfold execLcRequestTestLocked
  with_reducible repeat' (first | assumption | apply State.lcEff_keeps | apply hostWrite_keeps)

theorem execLcRequestTestOpen_keeps {r : State} {s0 : State} (h0 : Keeps r s0) : ∀ a0, KeepsOut r (execLcRequestTestOpen a0 s0) := by
  intro a0
  unfold execLcRequestTestOpen
  with_reducible repeat' (first | assumption | apply State.lcEff_keeps | apply hostWrite_keeps)

theorem execLcRequestFactory_keeps {r : State} {s0 : State} (h0 : Keeps r s0) : ∀ a0, KeepsOut r (execLcRequestFactory a0 s0) := by
  intro a0
  unfold execLcRequestFactory
  with_reducible repeat' (first | assumption | apply State.lcEff_keeps | apply hostWrite_keeps)

theorem execLcRequestIssued_keeps {r : State} {s0 : State} (h0 : Keeps r s0) : ∀ a0, KeepsOut r (execLcRequestIssued a0 s0) := by
  intro a0
  unfold execLcRequestIssued
  with_reducible repeat' (first | assumption | apply State.lcEff_keeps | apply hostWrite_keeps)

theorem execLcRequestService_keeps {r : State} {s0 : State} (h0 : Keeps r s0) : ∀ a0, KeepsOut r (execLcRequestService a0 s0) := by
  intro a0
  unfold execLcRequestService
  with_reducible repeat' (first | assumption | apply State.lcEff_keeps | apply hostWrite_keeps)

theorem execLcRequestReturn_keeps {r : State} {s0 : State} (h0 : Keeps r s0) : ∀ a0, KeepsOut r (execLcRequestReturn a0 s0) := by
  intro a0
  unfold execLcRequestReturn
  with_reducible repeat' (first | assumption | apply State.lcEff_keeps | apply hostWrite_keeps)

theorem execLcRequestEnd_keeps {r : State} {s0 : State} (h0 : Keeps r s0) : ∀ a0, KeepsOut r (execLcRequestEnd a0 s0) := by
  intro a0
  unfold execLcRequestEnd
  with_reducible repeat' (first | assumption | apply State.lcEff_keeps | apply hostWrite_keeps)

theorem execLcResumeBurn_keeps {r : State} {s0 : State} (h0 : Keeps r s0) : ∀ a0 a1, KeepsOut r (execLcResumeBurn a0 a1 s0) := by
  intro a0 a1
  unfold execLcResumeBurn
  with_reducible repeat' (first | assumption | apply State.lcEff_keeps | apply hostWrite_keeps)

theorem State.idcEff_keeps {r : State} {s0 : State} (h0 : Keeps r s0) : ∀ a0, Keeps r (State.idcEff s0 a0).1 := by
  intro a0
  unfold State.idcEff
  with_reducible repeat' (first | assumption | apply State.saveN_keeps | apply okay_keeps | apply refuse_keeps | apply withJobs_keeps | apply check_keeps | split)

theorem execIdcInstall_keeps {r : State} {s0 : State} (h0 : Keeps r s0) : ∀ a0 a1, KeepsOut r (execIdcInstall a0 a1 s0) := by
  intro a0 a1
  unfold execIdcInstall
  with_reducible repeat' (first | assumption | apply State.idcEff_keeps | apply hostWrite_keeps)

theorem State.mlSignature_keeps {r : State} : ∀ (a1 : Nat) {s0 : State} (h0 : Keeps r s0) a0, Keeps r (State.mlSignature s0 a0 a1).2 := by
  intro a1
  induction a1 with
  | zero => intro s0 h0 a0; unfold State.mlSignature; with_reducible repeat' (first | assumption | apply State.drawBytes_keeps)
  | succ n ih => intro s0 h0 a0; unfold State.mlSignature; with_reducible repeat' (first | assumption | apply State.drawBytes_keeps | apply ih | (refine keeps_eq2 ?_ (by assumption)) | split)

theorem State.identitySign_keeps {r : State} {s0 : State} (h0 : Keeps r s0) : ∀ a0, Keeps r (State.identitySign s0 a0).2.2 := by
  intro a0
  unfold State.identitySign
  with_reducible repeat' (first | assumption | apply State.mlSignature_keeps)

theorem State.stmtEff_keeps {r : State} {s0 : State} (h0 : Keeps r s0) : ∀ a0 a1, Keeps r (State.stmtEff s0 a0 a1).1 := by
  intro a0 a1
  unfold State.stmtEff
  with_reducible repeat' (first | assumption | apply State.putAll_keeps | apply okay_keeps | apply State.identitySign_keeps | apply refuse_keeps | apply withJobs_keeps | apply check_keeps | apply keeps_ite1)

theorem execStmtGo_keeps {r : State} {s0 : State} (h0 : Keeps r s0) : ∀ a0 a1, KeepsOut r (execStmtGo a0 a1 s0) := by
  intro a0 a1
  unfold execStmtGo
  with_reducible repeat' (first | assumption | apply State.stmtEff_keeps | apply hostWrite_keeps)

theorem State.dbgNonceEff_keeps {r : State} {s0 : State} (h0 : Keeps r s0) : Keeps r (State.dbgNonceEff s0).1 := by
  unfold State.dbgNonceEff
  with_reducible repeat' (first | assumption | apply State.drawBytes_keeps | (refine keeps_eq2 ?_ (by assumption)) | split | ((try lift_lets); intro x; clear_value x) | dsimp only | apply keeps_mk)

theorem execDbgNonceRead_keeps {r : State} {s0 : State} (h0 : Keeps r s0) : ∀ a0, KeepsOut r (execDbgNonceRead a0 s0) := by
  intro a0
  unfold execDbgNonceRead
  with_reducible repeat' (first | assumption | apply State.dbgNonceEff_keeps | apply hostRead_keeps)

theorem State.dbgAccept_keeps {r : State} {s0 : State} (h0 : Keeps r s0) : ∀ a0, Keeps r (State.dbgAccept s0 a0).1 := by
  intro a0
  unfold State.dbgAccept
  with_reducible repeat' (first | assumption | apply State.raise_keeps | apply okay_keeps | apply checkInOrder_keeps | apply withJobs_keeps | ((try lift_lets); intro x; clear_value x) | apply keeps_mk)

theorem State.dbgCmdEff_keeps {r : State} {s0 : State} (h0 : Keeps r s0) : ∀ a0 a1, Keeps r (State.dbgCmdEff s0 a0 a1).1 := by
  intro a0 a1
  unfold State.dbgCmdEff
  with_reducible repeat' (first | assumption | apply refuse_keeps | apply State.certEnd_keeps | apply okay_keeps | apply State.dbgAccept_keeps | apply keeps_ite1)

theorem execDbgCmdAccept_keeps {r : State} {s0 : State} (h0 : Keeps r s0) : ∀ a0, KeepsOut r (execDbgCmdAccept a0 s0) := by
  intro a0
  unfold execDbgCmdAccept
  with_reducible repeat' (first | assumption | apply State.dbgCmdEff_keeps | apply hostWrite_keeps)

theorem execDbgCmdEnd_keeps {r : State} {s0 : State} (h0 : Keeps r s0) : ∀ a0, KeepsOut r (execDbgCmdEnd a0 s0) := by
  intro a0
  unfold execDbgCmdEnd
  with_reducible repeat' (first | assumption | apply State.dbgCmdEff_keeps | apply hostWrite_keeps)

theorem execDbgCertExpiry_keeps {r : State} {s0 : State} (h0 : Keeps r s0) : KeepsOut r (execDbgCertExpiry s0) := by
  unfold execDbgCertExpiry
  with_reducible repeat' (first | assumption | apply State.certEnd_keeps | apply done_keeps | apply keepsOut_ite | split)

theorem State.dbgDataEff_keeps {r : State} {s0 : State} (h0 : Keeps r s0) : ∀ a0, Keeps r (State.dbgDataEff s0 a0).1 := by
  intro a0
  unfold State.dbgDataEff
  with_reducible repeat' (first | assumption | apply State.putN_keeps | apply State.draw_keeps | apply State.drawBytes_keeps | apply check_keeps | apply keeps_ite1)

theorem execDbgDataRead_keeps {r : State} {s0 : State} (h0 : Keeps r s0) : ∀ a0, KeepsOut r (execDbgDataRead a0 s0) := by
  intro a0
  unfold execDbgDataRead
  with_reducible repeat' (first | assumption | apply State.dbgDataEff_keeps | apply hostRead_keeps)

theorem State.dbgHearthEff_keeps {r : State} {s0 : State} (h0 : Keeps r s0) : ∀ a0 a1, Keeps r (State.dbgHearthEff s0 a0 a1).1 := by
  intro a0 a1
  unfold State.dbgHearthEff
  with_reducible repeat' (first | assumption | apply State.putN_keeps | apply okay_keeps | apply check_keeps | apply keeps_ite1 | ((try lift_lets); intro x; clear_value x) | apply keeps_mk)

theorem execDbgHearthHalt_keeps {r : State} {s0 : State} (h0 : Keeps r s0) : ∀ a0, KeepsOut r (execDbgHearthHalt a0 s0) := by
  intro a0
  unfold execDbgHearthHalt
  with_reducible repeat' (first | assumption | apply State.dbgHearthEff_keeps | apply hostWrite_keeps)

theorem execDbgHearthResume_keeps {r : State} {s0 : State} (h0 : Keeps r s0) : ∀ a0, KeepsOut r (execDbgHearthResume a0 s0) := by
  intro a0
  unfold execDbgHearthResume
  with_reducible repeat' (first | assumption | apply State.dbgHearthEff_keeps | apply hostWrite_keeps)

theorem State.fwStepDone_keeps {r : State} {s0 : State} (h0 : Keeps r s0) : ∀ a0, Keeps r (State.fwStepDone s0 a0) := by
  intro a0
  unfold State.fwStepDone
  with_reducible repeat' (first | assumption | apply State.putN_keeps | apply State.raise_keeps)

theorem State.chunkEff_keeps {r s0 : State} (h0 : Keeps r s0) (n : Nat) (bs : Octets) : Keeps r (s0.chunkEff n bs).1 := by
  refine check_keeps h0 _ ?_
  split
  · split
    · exact State.tagFailure_keeps h0 _ _ _
    · exact State.smWrite_keeps h0 _ _ _
  · exact State.setImageSlot_keeps h0 _ (fun h => Mem.writeAll_wf (State.imageSlot_form h _) _ _)

theorem execFwChunk_keeps {r : State} {s0 : State} (h0 : Keeps r s0) : ∀ a0 a1, KeepsOut r (execFwChunk a0 a1 s0) := by
  intro a0 a1
  unfold execFwChunk
  with_reducible repeat' (first | assumption | apply State.chunkEff_keeps | apply State.request_keeps | apply hostDone_keeps)

theorem State.stagedImage_keeps {r s t : State} {k : Option Nat} {c : Nat} (e : s.stagedImage k = .error (t, c)) (h : Keeps r s) :
    Keeps r t := by
  have h0 : Keeps r (s.setImageSlot s.newSlot { s.imageSlot s.newSlot with state := 1 }) :=
    State.setImageSlot_keeps h _ (fun x => State.imageSlot_form x s.newSlot)
  unfold State.stagedImage at e
  generalize (s.setImageSlot s.newSlot { s.imageSlot s.newSlot with state := 1 }) = u at h0 e
  split at e
  · dsimp only at e
    split at e
    · have e1 : u.tagFailure _ _ _ = t := congrArg Prod.fst (Except.error.inj e)
      rw [← e1]
      exact State.tagFailure_keeps h0 _ _ _
    · exact absurd e (by simp)
  · exact absurd e (by simp)

theorem Mem.filter_wf {m : Mem} (h : Mem.wf m = true) (p : Host.Cell → Bool) : Mem.wf (m.filter p) = true := by
  rw [Mem.wf_iff] at *
  exact ⟨h.1.filter p, fun e he => h.2 e (List.mem_filter.mp he).1⟩

theorem State.stagedImage_form {s : State} {k : Option Nat} {i : ImageSlot} (e : s.stagedImage k = .ok i) (h : Form s) :
    Mem.wf i.bytes = true := by
  have hsm : ∀ n, Mem.wf ((s.sm.getD n {}).data.filter (fun c => decide (c.1 < slotBytes))) = true := by
    intro n
    refine Mem.filter_wf ?_ _
    unfold FMap.getD
    split
    · exact h.memory.2.2 _ (FMap.mem_of_get? (by assumption))
    · rfl
  simp only [State.stagedImage] at e
  split at e
  · split at e
    · exact absurd e (by simp)
    · cases e; exact hsm _
  · cases e; exact State.imageSlot_form h _

theorem State.setPreferred_keeps {r s0 : State} (h0 : Keeps r s0) (k : Nat) :
    Keeps r { s0 with boot := { s0.boot with preferred := k } } := keeps_boot h0 id (fun h => ⟨h.1, h.2.1⟩)

theorem State.fwVerifyEff_keeps {r s0 : State} (h0 : Keeps r s0) (k : Option Nat) : Keeps r (s0.fwVerifyEff k).1 := by
  simp only [State.fwVerifyEff]
  split
  · exact h0
  · split
    · rename_i heq
      exact State.stagedImage_keeps heq h0
    · rename_i j heq
      refine withJobs_keeps ?_ _ _
      split
      · exact h0
      · split
        · exact State.setImageSlot_keeps h0 _ (fun h => State.imageSlot_form h _)
        · have h2 := State.setImageSlot_keeps (i := { j with state := 2 }) h0 s0.newSlot (fun h => (show Mem.wf j.bytes = true from State.stagedImage_form heq h))
          split
          · exact State.putN_keeps (State.bootFirmware_keeps (State.setPreferred_keeps h2 _) _ _) _ _
          · exact State.fwStepDone_keeps h2 _

theorem State.loadBanked_keeps {r : State} {s0 : State} (h0 : Keeps r s0) : ∀ a0, Keeps r (State.loadBanked s0 a0) := by
  intro a0
  unfold State.loadBanked
  with_reducible repeat' (first | assumption | apply State.putN_keeps | split | ((try lift_lets); intro x; clear_value x) | dsimp only | apply keeps_mk)

theorem State.fwAbandonNow_keeps {r : State} {s0 : State} (h0 : Keeps r s0) : Keeps r (State.fwAbandonNow s0) := by
  unfold State.fwAbandonNow
  with_reducible repeat' (first | assumption | apply State.switchOver_keeps | apply State.loadBanked_keeps | apply State.fwStepDone_keeps | apply keeps_ite | ((try lift_lets); intro x; clear_value x) | apply keeps_mk)

theorem State.fwEff_keeps {r s0 : State} (h0 : Keeps r s0) (n v : Nat) (k : Option Nat) : Keeps r (s0.fwEff n v k).1 := by
  unfold State.fwEff
  refine underAborts_keeps h0 _ ?_
  have ho : ∀ ok t, Keeps r t → Keeps r (check s0 [abortIf (!ok) 0x120031] (okay t)).1 := fun ok t h => check_keeps h0 _ h
  split
  · exact State.fwVerifyEff_keeps h0 _
  split
  · exact ho _ _ (State.fwStepDone_keeps (State.loadBanked_keeps h0 _) _)
  split
  · exact ho _ _ (State.switchOver_keeps (State.fwStepDone_keeps h0 _) _)
  split
  · exact ho _ _ (State.fwStepDone_keeps (State.loadBanked_keeps h0 _) _)
  split
  · exact ho _ _ (State.switchOver_keeps (State.fwStepDone_keeps h0 _) _)
  split
  · exact ho _ _ (State.raiseFloor_keeps (State.setPreferred_keeps (State.fwStepDone_keeps h0 _) _) _)
  split
  · exact ho _ _ (State.fwAbandonNow_keeps h0)
  split
  · exact ho _ _ (State.fwStepDone_keeps (State.setImageSlot_keeps h0 _ (fun _ => rfl)) _)
  · exact h0

theorem fwWrite_keeps {r : State} {s0 : State} (h0 : Keeps r s0) : ∀ a0 a1 a2, KeepsOut r (fwWrite a0 a1 a2 s0) := by
  intro a0 a1 a2
  unfold fwWrite
  with_reducible repeat' (first | assumption | apply State.fwEff_keeps | apply hostWrite_keeps)

theorem execFwVerify_keeps {r : State} {s0 : State} (h0 : Keeps r s0) : ∀ a0 a1, KeepsOut r (execFwVerify a0 a1 s0) := by
  intro a0 a1
  unfold execFwVerify
  with_reducible repeat' (first | assumption | apply fwWrite_keeps)

theorem execFwLoadBanked_keeps {r : State} {s0 : State} (h0 : Keeps r s0) : ∀ a0, KeepsOut r (execFwLoadBanked a0 s0) := by
  intro a0
  unfold execFwLoadBanked
  with_reducible repeat' (first | assumption | apply fwWrite_keeps)

theorem execFwSwitch_keeps {r : State} {s0 : State} (h0 : Keeps r s0) : ∀ a0, KeepsOut r (execFwSwitch a0 s0) := by
  intro a0
  unfold execFwSwitch
  with_reducible repeat' (first | assumption | apply fwWrite_keeps)

theorem execFwLoadOther_keeps {r : State} {s0 : State} (h0 : Keeps r s0) : ∀ a0, KeepsOut r (execFwLoadOther a0 s0) := by
  intro a0
  unfold execFwLoadOther
  with_reducible repeat' (first | assumption | apply fwWrite_keeps)

theorem execFwRevert_keeps {r : State} {s0 : State} (h0 : Keeps r s0) : ∀ a0, KeepsOut r (execFwRevert a0 s0) := by
  intro a0
  unfold execFwRevert
  with_reducible repeat' (first | assumption | apply fwWrite_keeps)

theorem execFwCommit_keeps {r : State} {s0 : State} (h0 : Keeps r s0) : ∀ a0, KeepsOut r (execFwCommit a0 s0) := by
  intro a0
  unfold execFwCommit
  with_reducible repeat' (first | assumption | apply fwWrite_keeps)

theorem execFwAbandon_keeps {r : State} {s0 : State} (h0 : Keeps r s0) : ∀ a0, KeepsOut r (execFwAbandon a0 s0) := by
  intro a0
  unfold execFwAbandon
  with_reducible repeat' (first | assumption | apply fwWrite_keeps)

theorem execFwErase_keeps {r : State} {s0 : State} (h0 : Keeps r s0) : ∀ a0, KeepsOut r (execFwErase a0 s0) := by
  intro a0
  unfold execFwErase
  with_reducible repeat' (first | assumption | apply fwWrite_keeps)

theorem State.chEnableEff_keeps {r : State} {s0 : State} (h0 : Keeps r s0) : ∀ a0 a1, Keeps r (State.chEnableEff s0 a0 a1).1 := by
  intro a0 a1
  unfold State.chEnableEff
  with_reducible repeat' (first | assumption | apply State.saveN_keeps | apply State.putN_keeps | apply okay_keeps | apply check_keeps | apply keeps_ite1)

theorem execSmChEnable_keeps {r : State} {s0 : State} (h0 : Keeps r s0) : ∀ a0 a1 a2, KeepsOut r (execSmChEnable a0 a1 a2 s0) := by
  intro a0 a1 a2
  unfold execSmChEnable
  with_reducible repeat' (first | assumption | apply State.chEnableEff_keeps | apply hostWrite_keeps)

theorem execSmChannelTrained_keeps {r : State} {s0 : State} (h0 : Keeps r s0) : ∀ a0 a1, KeepsOut r (execSmChannelTrained a0 a1 s0) := by
  intro a0 a1
  unfold execSmChannelTrained
  with_reducible repeat' (first | assumption | apply State.raise_keeps | apply State.putN_keeps | apply done_keeps | apply keepsOut_ite)

theorem State.accEff_keeps {r s0 : State} (h0 : Keeps r s0) {n : Nat} {w : Bool} {act : Nat → Nat → Eff}
    (he : ∀ a b, Keeps r (act a b).1) : Keeps r (s0.accEff n w act).1 := by
  refine check_keeps h0 _ ?_
  split
  · exact State.count_keeps h0 _
  · exact check_keeps h0 _ (he _ _)

theorem State.accWriteEff_keeps {r s0 : State} (h0 : Keeps r s0) (n : Nat) (bs : Octets) :
    Keeps r (s0.accWriteEff n bs).1 :=
  State.accEff_keeps h0 (fun _ _ => State.putN_keeps (State.smWrite_keeps h0 _ _ _) _ _)

theorem State.accReadEff_keeps {r s0 : State} (h0 : Keeps r s0) (n : Nat) (k : Option Nat) :
    Keeps r (s0.accReadEff n k).1 := by
  refine State.accEff_keeps h0 (fun _ _ => ?_)
  split
  · exact State.tagFailure_keeps h0 _ _ _
  · exact State.putN_keeps h0 _ _

theorem execSmAccDataWrite_keeps {r : State} {s0 : State} (h0 : Keeps r s0) : ∀ a0 a1 a2, KeepsOut r (execSmAccDataWrite a0 a1 a2 s0) := by
  intro a0 a1 a2
  unfold execSmAccDataWrite
  with_reducible repeat' (first | assumption | apply State.accWriteEff_keeps | apply State.request_keeps | apply hostDone_keeps)

theorem execSmAccDataRead_keeps {r : State} {s0 : State} (h0 : Keeps r s0) : ∀ a0 a1, KeepsOut r (execSmAccDataRead a0 a1 s0) := by
  intro a0 a1
  unfold execSmAccDataRead
  with_reducible repeat' (first | assumption | apply State.accReadEff_keeps | apply hostRead_keeps)

theorem keeps_ite4 {α β γ : Type} {r : State} {a b : α × β × γ × State} {c : Prop} {_ : Decidable c} (ha : Keeps r a.2.2.2)
    (hb : Keeps r b.2.2.2) : Keeps r (if c then a else b).2.2.2 := by
  split <;> assumption

theorem State.jobRun_keeps {r s0 : State} (h0 : Keeps r s0) (j : Job) : Keeps r (s0.jobRun j).2.2.2 := by
  have hd : ∀ n, Keeps r (s0.drawBytes n).2 := fun n => State.drawBytes_keeps h0 n
  have hs : ∀ (c : Prop) [Decidable c] (n : Nat) (a : Octets), Keeps r (if c then s0.drawBytes n else (a, s0)).2 := by
    intro c _ n a
    split
    · exact hd n
    · exact h0
  have hz : ∀ z : Nat × Octets × Octets × State, Keeps r z.2.2.2 → ∀ (x : Octets × State), Keeps r x.2 → ∀ f : Octets → Octets,
      Keeps r (match x with | (seed, s1) => if allZero seed then z else (0, f seed, seed, s1)).2.2.2 := by
    intro z hz x hx f
    obtain ⟨seed, s1⟩ := x
    exact keeps_ite4 hz hx
  have hr : Keeps r (match s0.drawBytes 32 with
      | (rnd, s1) => match Config.mlSign j.a j.b rnd with
        | some sig => ((0, sig, [], s1) : Nat × Octets × Octets × State)
        | none => (2, [], [], s1)).2.2.2 := by
    have h1 := hd 32
    generalize s0.drawBytes 32 = x at h1
    obtain ⟨rnd, s1⟩ := x
    dsimp only
    split
    · exact h1
    · exact h1
  unfold State.jobRun
  exact keeps_ite4 (keeps_ite4 h0 h0) (keeps_ite4 h0 (keeps_ite4 h0 (keeps_ite4 (hz _ h0 _ (hs _ _ _) _)
    (keeps_ite4 (keeps_ite4 h0 hr) (keeps_ite4 h0 (keeps_ite4 (hz _ h0 _ (hs _ _ _) _)
    (keeps_ite4 (keeps_ite4 h0 (keeps_ite4 h0 (hd 32))) (keeps_ite4 (keeps_ite4 h0 h0) (keeps_ite4 h0 h0)))))))))

theorem State.jobSubmit_keeps {r : State} {s0 : State} (h0 : Keeps r s0) : ∀ a0, Keeps r (State.jobSubmit s0 a0).1 := by
  intro a0
  unfold State.jobSubmit
  with_reducible repeat' (first | assumption | apply okay_keeps | apply State.clear_keeps | apply State.putN_keeps | apply check_keeps | ((try lift_lets); intro x; clear_value x) | apply keeps_mk)

theorem State.jobGoEff_keeps {r : State} {s0 : State} (h0 : Keeps r s0) : ∀ a0 a1, Keeps r (State.jobGoEff s0 a0 a1).1 := by
  intro a0 a1
  unfold State.jobGoEff
  with_reducible repeat' (first | assumption | apply refuse_keeps | apply State.jobAbort_keeps | apply okay_keeps | apply State.jobSubmit_keeps | apply keeps_ite1)

theorem execJobGoSubmit_keeps {r : State} {s0 : State} (h0 : Keeps r s0) : ∀ a0, KeepsOut r (execJobGoSubmit a0 s0) := by
  intro a0
  unfold execJobGoSubmit
  with_reducible repeat' (first | assumption | apply State.jobGoEff_keeps | apply hostWrite_keeps)

theorem execJobGoAbort_keeps {r : State} {s0 : State} (h0 : Keeps r s0) : ∀ a0, KeepsOut r (execJobGoAbort a0 s0) := by
  intro a0
  unfold execJobGoAbort
  with_reducible repeat' (first | assumption | apply State.jobGoEff_keeps | apply hostWrite_keeps)

theorem execJobStart_keeps {r : State} {s0 : State} (h0 : Keeps r s0) : KeepsOut r (execJobStart s0) := by
  unfold execJobStart
  with_reducible repeat' (first | assumption | apply State.putN_keeps | apply done_keeps | split | ((try lift_lets); intro x; clear_value x) | apply keeps_mk)

theorem State.jobFails_keeps {r : State} {s0 : State} (h0 : Keeps r s0) : ∀ a0, Keeps r (State.jobFails s0 a0) := by
  intro a0
  unfold State.jobFails
  with_reducible repeat' (first | assumption | apply State.refuseHandshake_keeps | split)

theorem execJobComplete_keeps {r : State} {s0 : State} (h0 : Keeps r s0) : ∀ a0, KeepsOut r (execJobComplete a0 s0) := by
  intro a0
  unfold execJobComplete
  with_reducible repeat' (first | assumption | apply State.jobRun_keeps | apply State.raiseAlarm_keeps | apply State.jobFails_keeps | apply State.raise_keeps | apply State.jobDone_keeps | apply done_keeps | apply keepsOut_ite | split | ((try lift_lets); intro x; clear_value x) | apply keeps_mk)

theorem execJobAbortErased_keeps {r : State} {s0 : State} (h0 : Keeps r s0) : KeepsOut r (execJobAbortErased s0) := by
  unfold execJobAbortErased
  with_reducible repeat' (first | assumption | apply State.jobDone_keeps | apply State.jobFails_keeps | apply done_keeps | apply keepsOut_ite | split | ((try lift_lets); intro x; clear_value x) | apply keeps_mk)

theorem State.linkEvent_keeps {r : State} {s0 : State} (h0 : Keeps r s0) : ∀ a0, Keeps r (State.linkEvent s0 a0) := by
  intro a0
  unfold State.linkEvent
  with_reducible repeat' (first | assumption | apply State.raise_keeps)

theorem State.linkDown_keeps {r : State} {s0 : State} (h0 : Keeps r s0) : ∀ a0, Keeps r (State.linkDown s0 a0) := by
  intro a0
  unfold State.linkDown
  with_reducible repeat' (first | assumption | apply State.linkEvent_keeps | apply State.putN_keeps | apply State.clearUnused_keeps | apply keeps_ite | ((try lift_lets); intro x; clear_value x) | apply keeps_mk)

theorem State.attemptFails_keeps {r : State} {s0 : State} (h0 : Keeps r s0) : ∀ a0, Keeps r (State.attemptFails s0 a0) := by
  intro a0
  unfold State.attemptFails
  with_reducible repeat' (first | assumption | apply State.linkEvent_keeps | ((try lift_lets); intro x; have hx : Keeps r x := (by unfold x; with_reducible repeat' (first | assumption | apply State.putN_keeps)); clear_value x) | ((try lift_lets); intro x; clear_value x) | apply keeps_mk)

theorem execMirrorLinkAttempt_keeps {r : State} {s0 : State} (h0 : Keeps r s0) : ∀ a0, KeepsOut r (execMirrorLinkAttempt a0 s0) := by
  intro a0
  unfold execMirrorLinkAttempt
  with_reducible repeat' (first | assumption | apply State.attemptFails_keeps | apply State.putN_keeps | apply State.linkEvent_keeps | apply done_keeps | apply keepsOut_ite)

theorem State.tribMemory_keeps {r : State} {s0 : State} (h0 : Keeps r s0) : ∀ a0 a1, Keeps r (State.tribMemory s0 a0 a1) := by
  intro a0 a1
  unfold State.tribMemory
  with_reducible repeat' (first | assumption | apply State.count_keeps | apply State.raise_keeps | apply State.setPcNext_keeps | apply State.putN_keeps | apply keeps_ite | split)

theorem State.linkRoles_keeps {r : State} {s0 : State} (h0 : Keeps r s0) : Keeps r (State.linkRoles s0) := by
  unfold State.linkRoles
  with_reducible repeat' (first | assumption | apply State.resync_keeps | apply State.giveUp_keeps | apply State.setRole_keeps | apply keeps_ite)

theorem execMirrorLinkUp_keeps {r : State} {s0 : State} (h0 : Keeps r s0) : ∀ a0, KeepsOut r (execMirrorLinkUp a0 s0) := by
  intro a0
  unfold execMirrorLinkUp
  with_reducible repeat' (first | assumption | apply State.update_keeps | apply State.linkRoles_keeps | apply State.tribMemory_keeps | apply forEach_keeps | apply State.refreshMemory_keeps | apply State.pairSend_keeps | apply State.putN_keeps | apply State.linkEvent_keeps | apply State.setPartition_keeps | apply State.drawBytes_keeps | apply State.attemptFails_keeps | apply done_keeps | (refine fun (t : State) _ (_ : Keeps r t) => ?_) | apply keepsOut_ite | split | ((try lift_lets); intro x; clear_value x) | apply keeps_mk)

theorem State.pairJoinEff_keeps {r : State} {s0 : State} (h0 : Keeps r s0) : ∀ a0, Keeps r (State.pairJoinEff s0 a0).1 := by
  intro a0
  unfold State.pairJoinEff
  with_reducible repeat' (first | assumption | apply State.linkDown_keeps | apply State.giveUp_keeps | apply State.saveN_keeps | apply State.setRole_keeps | apply okay_keeps | apply keeps_ite | apply keeps_ite1)

theorem execPairJoinSet_keeps {r : State} {s0 : State} (h0 : Keeps r s0) : ∀ a0, KeepsOut r (execPairJoinSet a0 s0) := by
  intro a0
  unfold execPairJoinSet
  with_reducible repeat' (first | assumption | apply State.pairJoinEff_keeps | apply hostWrite_keeps)

theorem execPairJoinClear_keeps {r : State} {s0 : State} (h0 : Keeps r s0) : ∀ a0, KeepsOut r (execPairJoinClear a0 s0) := by
  intro a0
  unfold execPairJoinClear
  with_reducible repeat' (first | assumption | apply State.pairJoinEff_keeps | apply hostWrite_keeps)

theorem State.becomeLit_keeps {r : State} {s0 : State} (h0 : Keeps r s0) : ∀ a0, Keeps r (State.becomeLit s0 a0) := by
  intro a0
  unfold State.becomeLit
  with_reducible repeat' (first | assumption | ((try lift_lets); intro x; clear_value x) | apply keeps_mk)

theorem State.claimWitness_keeps {r : State} {s0 : State} (h0 : Keeps r s0) : ∀ a0, Keeps r (State.claimWitness s0 a0) := by
  intro a0
  unfold State.claimWitness
  with_reducible repeat' (first | assumption | ((try lift_lets); intro x; clear_value x) | apply keeps_mk)

theorem State.takeEff_keeps {r : State} {s0 : State} (h0 : Keeps r s0) : Keeps r (State.takeEff s0).1 := by
  unfold State.takeEff
  with_reducible repeat' (first | assumption | apply State.claimWitness_keeps | apply State.becomeLit_keeps | apply okay_keeps | apply State.heartbeat_keeps | apply check_keeps | apply keeps_ite | apply keeps_ite1 | ((try lift_lets); intro x; clear_value x) | apply keeps_mk)

theorem State.giveEff_keeps {r : State} {s0 : State} (h0 : Keeps r s0) : Keeps r (State.giveEff s0).1 := by
  unfold State.giveEff
  with_reducible repeat' (first | assumption | apply State.giveUp_keeps | apply okay_keeps | apply check_keeps)

theorem State.pairCmdEff_keeps {r : State} {s0 : State} (h0 : Keeps r s0) : ∀ a0, Keeps r (State.pairCmdEff s0 a0).1 := by
  intro a0
  unfold State.pairCmdEff
  with_reducible repeat' (first | assumption | apply refuse_keeps | apply State.giveEff_keeps | apply State.takeEff_keeps | apply keeps_ite1)

theorem execPairCmdTake_keeps {r : State} {s0 : State} (h0 : Keeps r s0) : ∀ a0, KeepsOut r (execPairCmdTake a0 s0) := by
  intro a0
  unfold execPairCmdTake
  with_reducible repeat' (first | assumption | apply State.pairCmdEff_keeps | apply hostWrite_keeps)

theorem execPairCmdGive_keeps {r : State} {s0 : State} (h0 : Keeps r s0) : ∀ a0, KeepsOut r (execPairCmdGive a0 s0) := by
  intro a0
  unfold execPairCmdGive
  with_reducible repeat' (first | assumption | apply State.pairCmdEff_keeps | apply hostWrite_keeps)

theorem execHeartbeatSend_keeps {r : State} {s0 : State} (h0 : Keeps r s0) : KeepsOut r (execHeartbeatSend s0) := by
  unfold execHeartbeatSend
  with_reducible repeat' (first | assumption | apply State.heartbeat_keeps | apply done_keeps | apply keepsOut_ite | ((try lift_lets); intro x; clear_value x) | apply keeps_mk)

theorem State.handoverAsked_keeps {r : State} {s0 : State} (h0 : Keeps r s0) : Keeps r (State.handoverAsked s0) := by
  unfold State.handoverAsked
  with_reducible repeat' (first | assumption | apply State.giveUp_keeps | apply keeps_ite | ((try lift_lets); intro x; clear_value x) | apply keeps_mk)

theorem execHeartbeatReceived_keeps {r : State} {s0 : State} (h0 : Keeps r s0) : ∀ a0, KeepsOut r (execHeartbeatReceived a0 s0) := by
  intro a0
  unfold execHeartbeatReceived
  with_reducible repeat' (first | assumption | apply State.handoverAsked_keeps | apply State.becomeLit_keeps | apply State.resync_keeps | apply State.hear_keeps | apply done_keeps | apply keeps_ite | apply keepsOut_ite | split | ((try lift_lets); intro x; clear_value x) | apply keeps_mk)

theorem execHeartbeatLoss_keeps {r : State} {s0 : State} (h0 : Keeps r s0) : KeepsOut r (execHeartbeatLoss s0) := by
  unfold execHeartbeatLoss
  with_reducible repeat' (first | assumption | apply State.setPartition_keeps | apply State.claimWitness_keeps | apply State.linkDown_keeps | apply done_keeps | apply keepsOut_ite)

theorem execWitnessClaimDone_keeps {r : State} {s0 : State} (h0 : Keeps r s0) : ∀ a0, KeepsOut r (execWitnessClaimDone a0 s0) := by
  intro a0
  unfold execWitnessClaimDone
  with_reducible repeat' (first | assumption | apply State.setPartition_keeps | apply State.becomeLit_keeps | apply done_keeps | apply keeps_ite | apply keepsOut_ite | split | ((try lift_lets); intro x; clear_value x) | dsimp only | apply keeps_mk)

theorem execTakeoverComplete_keeps {r : State} {s0 : State} (h0 : Keeps r s0) : KeepsOut r (execTakeoverComplete s0) := by
  unfold execTakeoverComplete
  with_reducible repeat' (first | assumption | apply State.setRole_keeps | apply done_keeps | split | ((try lift_lets); intro x; clear_value x) | apply keeps_mk)

theorem State.mirrorRefuse_keeps {r : State} {s0 : State} (h0 : Keeps r s0) : ∀ a0 a1, Keeps r (State.mirrorRefuse s0 a0 a1) := by
  intro a0 a1
  unfold State.mirrorRefuse
  with_reducible repeat' (first | assumption | apply State.raise_keeps | apply State.count_keeps | apply keeps_ite)

theorem State.applySaRow_keeps {r : State} {s0 : State} (h0 : Keeps r s0) : ∀ a0 a1 a2 a3, Keeps r (State.applySaRow s0 a0 a1 a2 a3) := by
  intro a0 a1 a2 a3
  unfold State.applySaRow
  with_reducible repeat' (first | assumption | apply State.count_keeps | apply State.pnExhaust_keeps | apply State.bumpVersion_keeps | apply State.setRowState_keeps | apply State.keyMarked_keeps | apply State.putO_keeps | apply State.putN_keeps | apply State.putAll_keeps | apply State.clearRow_keeps | apply State.mirrorRefuse_keeps | apply keeps_ite | split)

theorem State.applyFlip_keeps {r : State} {s0 : State} (h0 : Keeps r s0) : ∀ a0 a1 a2, Keeps r (State.applyFlip s0 a0 a1 a2) := by
  intro a0 a1 a2
  unfold State.applyFlip
  with_reducible repeat' (first | assumption | apply State.setTrib_keeps | apply State.discardKeystream_keeps | apply State.putN_keeps | apply keeps_ite)

theorem State.applyItem_keeps {r : State} {s0 : State} (h0 : Keeps r s0) : ∀ a0, Keeps r (State.applyItem s0 a0) := by
  intro a0
  unfold State.applyItem
  with_reducible repeat' (first | assumption | apply State.refreshMemory_keeps | apply State.tribMemory_keeps | apply State.policyEff_keeps | apply State.applyFlip_keeps | apply State.twArmEff_keeps | apply State.txAnEff_keeps | apply State.putN_keeps | apply State.clearRow_keeps | apply State.bumpVersion_keeps | apply State.putAll_keeps | apply State.setRowState_keeps | apply State.saEmptied_keeps | apply State.applySaRow_keeps | apply State.count_keeps | apply keeps_ite | split)

theorem execMirrorUpdateReceived_keeps {r : State} {s0 : State} (h0 : Keeps r s0) : ∀ a0, KeepsOut r (execMirrorUpdateReceived a0 s0) := by
  intro a0
  unfold execMirrorUpdateReceived
  with_reducible repeat' (first | assumption | apply State.applyItem_keeps | apply State.count_keeps | apply State.raise_keeps | apply State.resync_keeps | apply done_keeps | apply keepsOut_ite | split | ((try lift_lets); intro x; clear_value x) | apply keeps_mk)

theorem execResyncComplete_keeps {r : State} {s0 : State} (h0 : Keeps r s0) : KeepsOut r (execResyncComplete s0) := by
  unfold execResyncComplete
  with_reducible repeat' (first | assumption | apply State.putN_keeps | apply done_keeps | apply keepsOut_ite)

theorem execCounterReport_keeps {r : State} {s0 : State} (h0 : Keeps r s0) : KeepsOut r (execCounterReport s0) := by
  unfold execCounterReport
  with_reducible repeat' (first | assumption | apply State.mirror_keeps | apply done_keeps | apply keepsOut_ite | ((try lift_lets); intro x; clear_value x) | apply keeps_mk)

theorem execPairHoldoffExpiry_keeps {r : State} {s0 : State} (h0 : Keeps r s0) : KeepsOut r (execPairHoldoffExpiry s0) := by
  unfold execPairHoldoffExpiry
  with_reducible repeat' (first | assumption | apply State.heartbeat_keeps | apply done_keeps | apply keepsOut_ite | split | ((try lift_lets); intro x; clear_value x) | apply keeps_mk)

theorem State.witnessWired_keeps {r : State} {s0 : State} (h0 : Keeps r s0) : ∀ a0, Keeps r (State.witnessWired s0 a0) := by
  intro a0
  unfold State.witnessWired
  with_reducible repeat' (first | assumption | ((try lift_lets); intro x; have hx : Keeps r x := (by unfold x; with_reducible repeat' (first | assumption | apply State.saveN_keeps)); clear_value x) | ((try lift_lets); intro x; clear_value x) | apply keeps_mk)

theorem State.watchWritten_keeps {r : State} {s0 : State} (h0 : Keeps r s0) : ∀ a0, Keeps r (State.watchWritten s0 a0) := by
  intro a0
  unfold State.watchWritten
  with_reducible repeat' (first | assumption | apply State.saveN_keeps | apply State.healthCheck_keeps)

theorem execPairWatchTimeout_keeps {r : State} {s0 : State} (h0 : Keeps r s0) : ∀ a0, KeepsOut r (execPairWatchTimeout a0 s0) := by
  intro a0
  unfold execPairWatchTimeout
  with_reducible repeat' (first | assumption | apply State.healthCheck_keeps | apply done_keeps | apply keepsOut_ite | ((try lift_lets); intro x; clear_value x) | apply keeps_mk)

theorem State.pcZero_keeps {r : State} {s0 : State} (h0 : Keeps r s0) : ∀ a0 a1, Keeps r (State.pcZero s0 a0 a1) := by
  intro a0 a1
  unfold State.pcZero
  with_reducible repeat' (first | assumption | apply State.putN_keeps)

theorem State.pcSelEff_keeps {r : State} {s0 : State} (h0 : Keeps r s0) : ∀ a0 a1 a2, Keeps r (State.pcSelEff s0 a0 a1 a2).1 := by
  intro a0 a1 a2
  unfold State.pcSelEff
  with_reducible repeat' (first | assumption | apply State.putN_keeps | apply State.pcZero_keeps | apply okay_keeps | apply check_keeps)

theorem execPcSel_keeps {r : State} {s0 : State} (h0 : Keeps r s0) : ∀ a0 a1 a2 a3, KeepsOut r (execPcSel a0 a1 a2 a3 s0) := by
  intro a0 a1 a2 a3
  unfold execPcSel
  with_reducible repeat' (first | assumption | apply State.pcSelEff_keeps | apply hostWrite_keeps)

theorem State.pcClearEff_keeps {r : State} {s0 : State} (h0 : Keeps r s0) : ∀ a0 a1, Keeps r (State.pcClearEff s0 a0 a1).1 := by
  intro a0 a1
  unfold State.pcClearEff
  with_reducible repeat' (first | assumption | apply State.pcZero_keeps | apply forEach_keeps | apply okay_keeps | (refine fun (t : State) _ (_ : Keeps r t) => ?_))

theorem execPcClear_keeps {r : State} {s0 : State} (h0 : Keeps r s0) : ∀ a0 a1 a2, KeepsOut r (execPcClear a0 a1 a2 s0) := by
  intro a0 a1 a2
  unfold execPcClear
  with_reducible repeat' (first | assumption | apply State.pcClearEff_keeps | apply hostWrite_keeps)

theorem State.pcReadEff_keeps {r : State} {s0 : State} (h0 : Keeps r s0) : ∀ a0 a1 a2, Keeps r (State.pcReadEff s0 a0 a1 a2).1 := by
  intro a0 a1 a2
  unfold State.pcReadEff
  with_reducible repeat' (first | assumption | apply State.putN_keeps)

theorem execPcValRead_keeps {r : State} {s0 : State} (h0 : Keeps r s0) : ∀ a0 a1 a2, KeepsOut r (execPcValRead a0 a1 a2 s0) := by
  intro a0 a1 a2
  unfold execPcValRead
  with_reducible repeat' (first | assumption | apply State.pcReadEff_keeps | apply hostRead_keeps)

theorem State.traceSelEff_keeps {r : State} {s0 : State} (h0 : Keeps r s0) : ∀ a0 a1, Keeps r (State.traceSelEff s0 a0 a1).1 := by
  intro a0 a1
  unfold State.traceSelEff
  with_reducible repeat' (first | assumption | apply State.putN_keeps | apply okay_keeps | apply check_keeps)

theorem State.traceReadEff_keeps {r : State} {s0 : State} (h0 : Keeps r s0) : ∀ a0, Keeps r (State.traceReadEff s0 a0).1 := by
  intro a0
  unfold State.traceReadEff
  with_reducible repeat' (first | assumption | apply check_keeps)

theorem State.meshIdEff_keeps {r : State} {s0 : State} (h0 : Keeps r s0) : ∀ a0, Keeps r (State.meshIdEff s0 a0).1 := by
  intro a0
  unfold State.meshIdEff
  with_reducible repeat' (first | assumption | apply State.saveN_keeps | apply okay_keeps | apply check_keeps)

theorem execMeshId_keeps {r : State} {s0 : State} (h0 : Keeps r s0) : ∀ a0 a1, KeepsOut r (execMeshId a0 a1 s0) := by
  intro a0 a1
  unfold execMeshId
  with_reducible repeat' (first | assumption | apply State.meshIdEff_keeps | apply hostWrite_keeps)

theorem State.meshKeyLoadEff_keeps {r : State} {s0 : State} (h0 : Keeps r s0) : ∀ a0, Keeps r (State.meshKeyLoadEff s0 a0).1 := by
  intro a0
  unfold State.meshKeyLoadEff
  with_reducible repeat' (first | assumption | apply State.save_keeps | apply okay_keeps | apply State.unwrapFailed_keeps | apply refuse_keeps | apply keeps_ite1 | split | ((try lift_lets); intro x; clear_value x) | apply keeps_mk)

theorem execMeshKeyLoad_keeps {r : State} {s0 : State} (h0 : Keeps r s0) : ∀ a0 a1, KeepsOut r (execMeshKeyLoad a0 a1 s0) := by
  intro a0 a1
  unfold execMeshKeyLoad
  with_reducible repeat' (first | assumption | apply State.meshKeyLoadEff_keeps | apply hostWrite_keeps)

theorem State.meshAdvance_keeps {r : State} {s0 : State} (h0 : Keeps r s0) : Keeps r (State.meshAdvance s0) := by
  unfold State.meshAdvance
  with_reducible repeat' (first | assumption | apply State.raise_keeps | apply State.putO_keeps | apply State.clear_keeps | apply State.saveN_keeps | ((try lift_lets); intro x; clear_value x) | apply keeps_mk)

theorem State.meshAdvanceEff_keeps {r : State} {s0 : State} (h0 : Keeps r s0) : ∀ a0, Keeps r (State.meshAdvanceEff s0 a0).1 := by
  intro a0
  unfold State.meshAdvanceEff
  with_reducible repeat' (first | assumption | apply State.meshAdvance_keeps | apply okay_keeps | apply check_keeps)

theorem execMeshAdvance_keeps {r : State} {s0 : State} (h0 : Keeps r s0) : ∀ a0 a1, KeepsOut r (execMeshAdvance a0 a1 s0) := by
  intro a0 a1
  unfold execMeshAdvance
  with_reducible repeat' (first | assumption | apply State.meshAdvanceEff_keeps | apply hostWrite_keeps)

theorem execMeshHelloSend_keeps {r : State} {s0 : State} (h0 : Keeps r s0) : KeepsOut r (execMeshHelloSend s0) := by
  unfold execMeshHelloSend
  with_reducible repeat' (first | assumption | apply State.meshOut_keeps | apply forEach_keeps | apply done_keeps | (refine fun (t : State) _ (_ : Keeps r t) => ?_) | apply keepsOut_ite | split)

theorem State.meshHello_keeps {r : State} {s0 : State} (h0 : Keeps r s0) : ∀ a0, Keeps r (State.meshHello s0 a0) := by
  intro a0
  unfold State.meshHello
  with_reducible repeat' (first | assumption | apply State.raise_keeps | apply keeps_ite | ((try lift_lets); intro x; clear_value x) | apply keeps_mk)

theorem execMeshNeighbourDead_keeps {r : State} {s0 : State} (h0 : Keeps r s0) : ∀ a0, KeepsOut r (execMeshNeighbourDead a0 s0) := by
  intro a0
  unfold execMeshNeighbourDead
  with_reducible repeat' (first | assumption | apply State.raise_keeps | apply done_keeps | apply keepsOut_ite | ((try lift_lets); intro x; clear_value x) | apply keeps_mk)

theorem State.sessCloseEff_keeps {r : State} {s0 : State} (h0 : Keeps r s0) : ∀ a0 a1, Keeps r (State.sessCloseEff s0 a0 a1).1 := by
  intro a0 a1
  unfold State.sessCloseEff
  with_reducible repeat' (first | assumption | apply State.markClose_keeps | apply okay_keeps | apply check_keeps)

theorem execSessClose_keeps {r : State} {s0 : State} (h0 : Keeps r s0) : ∀ a0 a1 a2, KeepsOut r (execSessClose a0 a1 a2 s0) := by
  intro a0 a1 a2
  unfold execSessClose
  with_reducible repeat' (first | assumption | apply State.sessCloseEff_keeps | apply hostWrite_keeps)

theorem State.t1sEff_keeps {r : State} {s0 : State} (h0 : Keeps r s0) : ∀ a0, Keeps r (State.t1sEff s0 a0).1 := by
  intro a0
  unfold State.t1sEff
  with_reducible repeat' (first | assumption | apply State.markClose_keeps | apply forEach_keeps | apply okay_keeps | apply State.saveN_keeps | (refine fun (t : State) _ (_ : Keeps r t) => ?_) | apply keeps_ite | ((try lift_lets); intro x; clear_value x) | apply keeps_mk)

theorem execT1sEnable_keeps {r : State} {s0 : State} (h0 : Keeps r s0) : ∀ a0 a1, KeepsOut r (execT1sEnable a0 a1 s0) := by
  intro a0 a1
  unfold execT1sEnable
  with_reducible repeat' (first | assumption | apply State.t1sEff_keeps | apply hostWrite_keeps)

theorem State.mgmtInEff_keeps {r : State} {s0 : State} (h0 : Keeps r s0) : ∀ a0 a1, Keeps r (State.mgmtInEff s0 a0 a1).1 := by
  intro a0 a1
  unfold State.mgmtInEff
  with_reducible repeat' (first | assumption | apply State.markClose_keeps | apply forEach_keeps | apply okay_keeps | apply State.putN_keeps | (refine fun (t : State) _ (_ : Keeps r t) => ?_) | apply keeps_ite)

theorem execMgmtIn_keeps {r : State} {s0 : State} (h0 : Keeps r s0) : ∀ a0 a1 a2, KeepsOut r (execMgmtIn a0 a1 a2 s0) := by
  intro a0 a1 a2
  unfold execMgmtIn
  with_reducible repeat' (first | assumption | apply State.mgmtInEff_keeps | apply hostWrite_keeps)

theorem State.etypeEff_keeps {r : State} {s0 : State} (h0 : Keeps r s0) : ∀ a0, Keeps r (State.etypeEff s0 a0).1 := by
  intro a0
  unfold State.etypeEff
  with_reducible repeat' (first | assumption | apply State.putN_keeps | apply okay_keeps | apply check_keeps)

theorem execSilsyEtype_keeps {r : State} {s0 : State} (h0 : Keeps r s0) : ∀ a0 a1, KeepsOut r (execSilsyEtype a0 a1 s0) := by
  intro a0 a1
  unfold execSilsyEtype
  with_reducible repeat' (first | assumption | apply State.etypeEff_keeps | apply hostWrite_keeps)

end Sys2Proof.Machine
end

