-- ==== Sys2Proof/Laws/KeepsCommands.lean ====
section
/-! SUPPORT. What a step keeps, once for every operation of the commands and the idle step: the form of the storage and the bits already
burned (`Keeps`, Laws/Keeps.lean). A proof cites the lemma of the operation it meets and never unfolds it. -/

namespace Sys2Proof.Machine

theorem State.keep_keeps {r : State} {s0 : State} (h0 : Keeps r s0) : ∀ a0 a1 a2, Keeps r (State.keep s0 a0 a1 a2).1 := by
  intro a0 a1 a2
  unfold State.keep
  with_reducible repeat' (first | assumption | apply State.save_keeps | apply okay_keeps)

theorem State.within_keeps {r : State} {s0 : State} (h0 : Keeps r s0) : ∀ a0 a1 a2 a3 a4, Keeps r (State.within s0 a0 a1 a2 a3 a4).1 := by
  intro a0 a1 a2 a3 a4
  unfold State.within
  with_reducible repeat' (first | assumption | apply State.keep_keeps | apply check_keeps)

theorem State.withinI_keeps {r : State} {s0 : State} (h0 : Keeps r s0) : ∀ a0 a1 a2 a3 a4, Keeps r (State.withinI s0 a0 a1 a2 a3 a4).1 := by
  intro a0 a1 a2 a3 a4
  unfold State.withinI
  with_reducible repeat' (first | assumption | apply State.keep_keeps | apply check_keeps)

theorem State.portWrite_keeps {r : State} {s0 : State} (h0 : Keeps r s0) : ∀ a0 a1 a2 a3 a4 a5, Keeps r (State.portWrite s0 a0 a1 a2 a3 a4 a5).1 := by
  intro a0 a1 a2 a3 a4 a5
  unfold State.portWrite
  with_reducible repeat' (first | assumption | apply State.adminEff_keeps | apply State.withinI_keeps | apply State.twArmEff_keeps | apply State.phaseRowEff_keeps | apply State.txAnEff_keeps | apply State.bindEff_keeps | apply check_keeps | apply State.mgmtInEff_keeps | apply State.fwdEff_keeps | apply State.xonEff_keeps | apply State.xoffEff_keeps | apply State.limitEff_keeps | apply State.crossEff_keeps | apply State.keep_keeps | apply State.parentEff_keeps | apply State.within_keeps | apply State.kindEff_keeps | apply keeps_ite1)

theorem State.boltWrite_keeps {r : State} {s0 : State} (h0 : Keeps r s0) : ∀ a0 a1 a2 a3 a4 a5, Keeps r (State.boltWrite s0 a0 a1 a2 a3 a4 a5).1 := by
  intro a0 a1 a2 a3 a4 a5
  unfold State.boltWrite
  with_reducible repeat' (first | assumption | apply State.keep_keeps | apply State.filterEff_keeps | apply State.flushEff_keeps | apply State.within_keeps | apply State.policyEff_keeps | apply State.panelWarnEff_keeps | apply State.panelLimitEff_keeps | apply State.pnWarnEff_keeps | apply State.cmEff_keeps | apply keeps_ite1)

theorem State.windowWrite_keeps {r : State} {s0 : State} (h0 : Keeps r s0) : ∀ a0 a1 a2 a3 a4, Keeps r (State.windowWrite s0 a0 a1 a2 a3 a4).1 := by
  intro a0 a1 a2 a3 a4
  unfold State.windowWrite
  with_reducible repeat' (first | assumption | apply State.within_keeps | apply State.keep_keeps | apply check_keeps | apply State.wrapEff_keeps | apply State.opEff_keeps | apply State.selectRow_keeps | apply keeps_ite1)

theorem State.laneWrite_keeps {r : State} {s0 : State} (h0 : Keeps r s0) : ∀ a0 a1 a2 a3 a4, Keeps r (State.laneWrite s0 a0 a1 a2 a3 a4).1 := by
  intro a0 a1 a2 a3 a4
  unfold State.laneWrite
  with_reducible repeat' (first | assumption | apply State.sleepEff_keeps | apply State.ffeEff_keeps | apply State.within_keeps | apply State.rateEff_keeps | apply keeps_ite1)

theorem State.chSizeEff_keeps {r : State} {s0 : State} (h0 : Keeps r s0) : ∀ a0 a1 a2 a3, Keeps r (State.chSizeEff s0 a0 a1 a2 a3).1 := by
  intro a0 a1 a2 a3
  unfold State.chSizeEff
  with_reducible repeat' (first | assumption | apply State.keep_keeps | apply check_keeps)

theorem State.rangeWrite_keeps {r : State} {s0 : State} (h0 : Keeps r s0) : ∀ a0 a1 a2 a3, Keeps r (State.rangeWrite s0 a0 a1 a2 a3).1 := by
  intro a0 a1 a2 a3
  unfold State.rangeWrite
  with_reducible repeat' (first | assumption | apply State.keep_keeps | apply check_keeps | apply State.within_keeps | apply keeps_ite1)

theorem State.deviceWrite_keeps {r : State} {s0 : State} (h0 : Keeps r s0) : ∀ a0 a1 a2, Keeps r (State.deviceWrite s0 a0 a1 a2).1 := by
  intro a0 a1 a2
  unfold State.deviceWrite
  with_reducible repeat' (first | assumption | apply State.traceSelEff_keeps | apply State.jobGoEff_keeps | apply State.meshAdvanceEff_keeps | apply State.meshKeyLoadEff_keeps | apply State.meshIdEff_keeps | apply State.pairCmdEff_keeps | apply State.watchWritten_keeps | apply State.witnessWired_keeps | apply State.pairJoinEff_keeps | apply State.hearthCmdEff_keeps | apply State.bkClearEff_keeps | apply State.holdClearEff_keeps | apply State.almAckEff_keeps | apply State.evtPopEff_keeps | apply State.fwEff_keeps | apply State.keep_keeps | apply check_keeps | apply State.dbgHearthEff_keeps | apply State.dbgCmdEff_keeps | apply State.stmtEff_keeps | apply State.idcEff_keeps | apply State.actionEff_keeps | apply State.lcEff_keeps | apply State.ppsEff_keeps | apply State.timeAdjEff_keeps | apply State.timeSetEff_keeps | apply State.within_keeps | apply State.t1sEff_keeps | apply State.etypeEff_keeps | apply State.withinI_keeps | apply State.putN_keeps | apply okay_keeps | apply keeps_ite1)

theorem State.numWrite_keeps {r : State} {s0 : State} (h0 : Keeps r s0) : ∀ a0 a1 a2, Keeps r (State.numWrite s0 a0 a1 a2).1 := by
  intro a0 a1 a2
  unfold State.numWrite
  with_reducible repeat' (first | assumption | apply State.deviceWrite_keeps | apply State.keep_keeps | apply check_keeps | apply State.pcSelEff_keeps | apply State.pcClearEff_keeps | apply State.rangeWrite_keeps | apply State.chSizeEff_keeps | apply State.chEnableEff_keeps | apply State.within_keeps | apply State.tsiPopEff_keeps | apply State.sessCloseEff_keeps | apply State.laneWrite_keeps | apply State.windowWrite_keeps | apply State.boltWrite_keeps | apply State.portWrite_keeps | apply State.fnWrite_keeps | apply okay_keeps | apply keeps_ite1)

theorem State.neighboursEff_keeps {r : State} {s0 : State} (h0 : Keeps r s0) : ∀ a0 a1, Keeps r (State.neighboursEff s0 a0 a1).1 := by
  intro a0 a1
  unfold State.neighboursEff
  with_reducible repeat' (first | assumption | apply State.raise_keeps | apply okay_keeps | apply keeps_ite | split | ((try lift_lets); intro x; have hx : Keeps r x := (by unfold x; with_reducible repeat' (first | assumption | apply State.keep_keeps)); clear_value x) | apply keeps_mk)

theorem State.octWrite_keeps {r : State} {s0 : State} (h0 : Keeps r s0) : ∀ a0 a1 a2, Keeps r (State.octWrite s0 a0 a1 a2).1 := by
  intro a0 a1 a2
  unfold State.octWrite
  with_reducible repeat' (first | assumption | apply State.keep_keeps | apply check_keeps | apply State.neighboursEff_keeps | apply State.accWriteEff_keeps | apply State.chunkEff_keeps | apply keeps_ite1)

theorem State.writeEff_keeps {r : State} {s0 : State} (h0 : Keeps r s0) : ∀ a0 a1 a2 a3, Keeps r (State.writeEff s0 a0 a1 a2 a3).1 := by
  intro a0 a1 a2 a3
  unfold State.writeEff
  with_reducible repeat' (first | assumption | apply State.octWrite_keeps | apply State.enrolWrite_keeps | apply State.numWrite_keeps | apply State.legacyEff_keeps | apply State.request_keeps | apply legacyAfter_keeps | apply keeps_ite1 | split | ((try lift_lets); intro x; clear_value x))

theorem execObjectWrite_keeps {r : State} {s0 : State} (h0 : Keeps r s0) : ∀ a0 a1 a2 a3, KeepsOut r (execObjectWrite a0 a1 a2 a3 s0) := by
  intro a0 a1 a2 a3
  unfold execObjectWrite
  with_reducible repeat' (first | assumption | apply State.writeEff_keeps | apply hostDone_keeps)

theorem State.windowFnEff_keeps {r : State} {s0 : State} (h0 : Keeps r s0) : ∀ a0 a1 a2, Keeps r (State.windowFnEff s0 a0 a1 a2).1 := by
  intro a0 a1 a2
  unfold State.windowFnEff
  with_reducible repeat' (first | assumption | apply refuse_keeps | split)

theorem State.readValue_keeps {r : State} {s0 : State} (h0 : Keeps r s0) : ∀ a0 a1, Keeps r (State.readValue s0 a0 a1).1 := by
  intro a0 a1
  unfold State.readValue
  with_reducible repeat' (first | assumption | apply State.pcReadEff_keeps | apply State.traceReadEff_keeps | apply State.accReadEff_keeps | apply State.dbgDataEff_keeps | apply State.dbgNonceEff_keeps | apply State.dcNonceEff_keeps | apply State.windowFnEff_keeps | apply State.draw_keeps | apply keeps_ite1 | split)

theorem State.readEff_keeps {r : State} {s0 : State} (h0 : Keeps r s0) : ∀ a0 a1, Keeps r (State.readEff s0 a0 a1).1 := by
  intro a0 a1
  unfold State.readEff
  with_reducible repeat' (first | assumption | apply State.readValue_keeps | apply State.request_keeps)

theorem State.readyI3c_keeps {r : State} {s0 : State} (h0 : Keeps r s0) : ∀ a0, Keeps r (State.readyI3c s0 a0) := by
  intro a0
  unfold State.readyI3c
  with_reducible repeat' (first | assumption | apply State.setSession_keeps | apply keeps_ite | ((try lift_lets); intro x; clear_value x) | apply keeps_mk)

theorem State.sendResponse_keeps {r : State} {s0 : State} (h0 : Keeps r s0) : ∀ a0 a1, Keeps r (State.sendResponse s0 a0 a1) := by
  intro a0 a1
  unfold State.sendResponse
  with_reducible repeat' (first | assumption | apply State.sendSecured_keeps | apply State.readyI3c_keeps | apply keeps_ite)

theorem State.countCrc_keeps {r : State} {s0 : State} (h0 : Keeps r s0) : ∀ a0 a1, Keeps r (State.countCrc s0 a0 a1) := by
  intro a0 a1
  unfold State.countCrc
  with_reducible repeat' (first | assumption | apply State.count_keeps | apply keeps_ite)

theorem State.requestEff_keeps {r : State} {s0 : State} (h0 : Keeps r s0) : ∀ a0 a1, Keeps r (State.requestEff s0 a0 a1).1 := by
  intro a0 a1
  unfold State.requestEff
  with_reducible repeat' (first | assumption | apply State.writeEff_keeps | apply State.readEff_keeps | apply keeps_ite1)

theorem State.execute_keeps {r : State} {s0 : State} (h0 : Keeps r s0) : ∀ a0 a1, Keeps r (State.execute s0 a0 a1) := by
  intro a0 a1
  unfold State.execute
  with_reducible repeat' (first | assumption | apply State.afterResponse_keeps | apply State.setSession_keeps | apply answered_keeps | apply State.requestEff_keeps | apply State.countCrc_keeps | apply State.sendResponse_keeps | apply keeps_ite | split)

theorem State.serveOne_keeps {r : State} {s0 : State} (h0 : Keeps r s0) : ∀ a0, Keeps r (State.serveOne s0 a0) := by
  intro a0
  unfold State.serveOne
  with_reducible repeat' (first | assumption | apply State.setSession_keeps | apply State.execute_keeps | apply keeps_ite | split)

theorem State.serve_keeps {r : State} {s0 : State} (h0 : Keeps r s0) : Keeps r (State.serve s0) := by
  unfold State.serve
  with_reducible repeat' (first | assumption | apply State.serveOne_keeps | apply keeps_ite | split | apply keeps_mk)

theorem State.turnedAway_keeps {r : State} {s0 : State} (h0 : Keeps r s0) : ∀ a0 a1 a2, Keeps r (State.turnedAway s0 a0 a1 a2) := by
  intro a0 a1 a2
  unfold State.turnedAway
  with_reducible repeat' (first | assumption | apply legacyAfter_keeps | apply keeps_ite)

theorem State.receive_keeps {r : State} {s0 : State} (h0 : Keeps r s0) : ∀ a0 a1 a2, Keeps r (State.receive s0 a0 a1 a2) := by
  intro a0 a1 a2
  unfold State.receive
  with_reducible repeat' (first | assumption | apply State.setSession_keeps | apply State.turnedAway_keeps | apply State.countCrc_keeps | apply State.sendResponse_keeps | apply keeps_ite | split | apply keeps_mk)

theorem State.i3cWrite_keeps {r : State} {s0 : State} (h0 : Keeps r s0) : ∀ a0, Keeps r (State.i3cWrite s0 a0) := by
  intro a0
  unfold State.i3cWrite
  with_reducible repeat' (first | assumption | apply State.receive_keeps | apply State.setSession_keeps | apply State.count_keeps | apply keeps_ite)

theorem State.leaveHdr_keeps {r : State} {s0 : State} (h0 : Keeps r s0) : Keeps r (State.leaveHdr s0) := by
  unfold State.leaveHdr
  with_reducible repeat' (first | assumption | ((try lift_lets); intro x; clear_value x) | apply keeps_mk)

theorem State.privateTransfer_keeps {r : State} {s0 : State} (h0 : Keeps r s0) {f1 : State → State} (h1 : ∀ t, Keeps r t → Keeps r (f1 t)) : ∀ a0 a1, Keeps r (State.privateTransfer s0 a0 a1 f1) := by
  intro a0 a1
  unfold State.privateTransfer
  with_reducible repeat' (first | assumption | apply State.emit_keeps | apply State.leaveHdr_keeps | apply h1 | apply keeps_ite | split)

theorem execI3cPrivateWrite_keeps {r : State} {s0 : State} (h0 : Keeps r s0) : ∀ a0, KeepsOut r (execI3cPrivateWrite a0 s0) := by
  intro a0
  unfold execI3cPrivateWrite
  with_reducible repeat' (first | assumption | apply State.i3cWrite_keeps | apply State.emit_keeps | apply State.privateTransfer_keeps | apply done_keeps | (refine fun (t : State) (_ : Keeps r t) => ?_) | apply keeps_ite)

theorem State.i3cRead_keeps {r : State} {s0 : State} (h0 : Keeps r s0) : ∀ a0, Keeps r (State.i3cRead s0 a0) := by
  intro a0
  unfold State.i3cRead
  with_reducible repeat' (first | assumption | apply State.setSession_keeps | apply State.emit_keeps | apply keeps_ite)

theorem execI3cPrivateRead_keeps {r : State} {s0 : State} (h0 : Keeps r s0) : ∀ a0, KeepsOut r (execI3cPrivateRead a0 s0) := by
  intro a0
  unfold execI3cPrivateRead
  with_reducible repeat' (first | assumption | apply State.i3cRead_keeps | apply State.privateTransfer_keeps | apply done_keeps | (refine fun (t : State) (_ : Keeps r t) => ?_))

theorem execIbiAccepted_keeps {r : State} {s0 : State} (h0 : Keeps r s0) : KeepsOut r (execIbiAccepted s0) := by
  unfold execIbiAccepted
  with_reducible repeat' (first | assumption | apply State.emit_keeps | apply done_keeps | apply keepsOut_ite | split | ((try lift_lets); intro x; clear_value x) | apply keeps_mk)

theorem State.takeAddress_keeps {r : State} {s0 : State} (h0 : Keeps r s0) : ∀ a0, Keeps r (State.takeAddress s0 a0) := by
  intro a0
  unfold State.takeAddress
  with_reducible repeat' (first | assumption | apply State.putN_keeps | apply keeps_ite)

theorem execEntdaa_keeps {r : State} {s0 : State} (h0 : Keeps r s0) : ∀ a0, KeepsOut r (execEntdaa a0 s0) := by
  intro a0
  unfold execEntdaa
  with_reducible repeat' (first | assumption | apply State.emit_keeps | apply State.takeAddress_keeps | apply State.leaveHdr_keeps | apply done_keeps | apply keepsOut_ite)

theorem execSetdasa_keeps {r : State} {s0 : State} (h0 : Keeps r s0) : ∀ a0 a1, KeepsOut r (execSetdasa a0 a1 s0) := by
  intro a0 a1
  unfold execSetdasa
  with_reducible repeat' (first | assumption | apply State.takeAddress_keeps | apply State.leaveHdr_keeps | apply done_keeps | apply keepsOut_ite)

theorem execRstdaa_keeps {r : State} {s0 : State} (h0 : Keeps r s0) : KeepsOut r (execRstdaa s0) := by
  unfold execRstdaa
  with_reducible repeat' (first | assumption | apply State.leaveHdr_keeps | apply State.putN_keeps | apply done_keeps | apply keepsOut_ite)

theorem State.i3cEvents_keeps {r : State} {s0 : State} (h0 : Keeps r s0) : ∀ a0 a1, Keeps r (State.i3cEvents s0 a0 a1) := by
  intro a0 a1
  unfold State.i3cEvents
  with_reducible repeat' (first | assumption | split | ((try lift_lets); intro x; clear_value x) | apply keeps_mk)

theorem execEnec_keeps {r : State} {s0 : State} (h0 : Keeps r s0) : ∀ a0, KeepsOut r (execEnec a0 s0) := by
  intro a0
  unfold execEnec
  with_reducible repeat' (first | assumption | apply State.leaveHdr_keeps | apply State.i3cEvents_keeps | apply done_keeps | apply keepsOut_ite)

theorem execDisec_keeps {r : State} {s0 : State} (h0 : Keeps r s0) : ∀ a0, KeepsOut r (execDisec a0 s0) := by
  intro a0
  unfold execDisec
  with_reducible repeat' (first | assumption | apply State.leaveHdr_keeps | apply State.i3cEvents_keeps | apply done_keeps | apply keepsOut_ite)

theorem execSetmwl_keeps {r : State} {s0 : State} (h0 : Keeps r s0) : ∀ a0, KeepsOut r (execSetmwl a0 s0) := by
  intro a0
  unfold execSetmwl
  with_reducible repeat' (first | assumption | apply State.leaveHdr_keeps | apply done_keeps | apply keepsOut_ite | ((try lift_lets); intro x; clear_value x) | apply keeps_mk)

theorem execSetmrl_keeps {r : State} {s0 : State} (h0 : Keeps r s0) : ∀ a0, KeepsOut r (execSetmrl a0 s0) := by
  intro a0
  unfold execSetmrl
  with_reducible repeat' (first | assumption | apply State.leaveHdr_keeps | apply done_keeps | apply keepsOut_ite | ((try lift_lets); intro x; clear_value x) | apply keeps_mk)

theorem State.ccc_keeps {r : State} {s0 : State} (h0 : Keeps r s0) : ∀ a0, Keeps r (State.ccc s0 a0) := by
  intro a0
  unfold State.ccc
  with_reducible repeat' (first | assumption | apply State.leaveHdr_keeps | apply State.emit_keeps | apply keeps_ite)

theorem execGetmwl_keeps {r : State} {s0 : State} (h0 : Keeps r s0) : KeepsOut r (execGetmwl s0) := by
  unfold execGetmwl
  with_reducible repeat' (first | assumption | apply State.ccc_keeps | apply done_keeps)

theorem execGetmrl_keeps {r : State} {s0 : State} (h0 : Keeps r s0) : KeepsOut r (execGetmrl s0) := by
  unfold execGetmrl
  with_reducible repeat' (first | assumption | apply State.ccc_keeps | apply done_keeps)

theorem execGetpid_keeps {r : State} {s0 : State} (h0 : Keeps r s0) : KeepsOut r (execGetpid s0) := by
  unfold execGetpid
  with_reducible repeat' (first | assumption | apply State.ccc_keeps | apply done_keeps)

theorem execGetbcr_keeps {r : State} {s0 : State} (h0 : Keeps r s0) : KeepsOut r (execGetbcr s0) := by
  unfold execGetbcr
  with_reducible repeat' (first | assumption | apply State.ccc_keeps | apply done_keeps)

theorem execGetdcr_keeps {r : State} {s0 : State} (h0 : Keeps r s0) : KeepsOut r (execGetdcr s0) := by
  unfold execGetdcr
  with_reducible repeat' (first | assumption | apply State.ccc_keeps | apply done_keeps)

theorem State.freeBytes_keeps {r : State} {s0 : State} (h0 : Keeps r s0) : ∀ a0, Keeps r (State.freeBytes s0 a0).2 := by
  intro a0
  unfold State.freeBytes
  with_reducible repeat' (first | assumption | apply State.drawBytes_keeps)

theorem execGetstatus_keeps {r : State} {s0 : State} (h0 : Keeps r s0) : KeepsOut r (execGetstatus s0) := by
  unfold execGetstatus
  with_reducible repeat' (first | assumption | apply State.ccc_keeps | apply done_keeps | apply State.freeBytes_keeps)

theorem execGetmxds_keeps {r : State} {s0 : State} (h0 : Keeps r s0) : KeepsOut r (execGetmxds s0) := by
  unfold execGetmxds
  with_reducible repeat' (first | assumption | apply State.ccc_keeps | apply done_keeps | apply State.freeBytes_keeps)

theorem execGetcaps_keeps {r : State} {s0 : State} (h0 : Keeps r s0) : KeepsOut r (execGetcaps s0) := by
  unfold execGetcaps
  with_reducible repeat' (first | assumption | apply State.ccc_keeps | apply done_keeps | apply State.freeBytes_keeps)

theorem execEnthdr0_keeps {r : State} {s0 : State} (h0 : Keeps r s0) : KeepsOut r (execEnthdr0 s0) := by
  unfold execEnthdr0
  with_reducible repeat' (first | assumption | apply done_keeps | apply keepsOut_ite | ((try lift_lets); intro x; clear_value x) | apply keeps_mk)

theorem execUnsupportedCcc_keeps {r : State} {s0 : State} (h0 : Keeps r s0) : ∀ a0 a1, KeepsOut r (execUnsupportedCcc a0 a1 s0) := by
  intro a0 a1
  unfold execUnsupportedCcc
  with_reducible repeat' (first | assumption | apply State.leaveHdr_keeps | apply State.emit_keeps | apply done_keeps | apply keepsOut_ite)

theorem State.takeToken_keeps {r : State} {s0 : State} (h0 : Keeps r s0) : Keeps r (State.takeToken s0).2 := by
  unfold State.takeToken
  with_reducible repeat' (first | assumption | apply keeps_ite2 | dsimp only | apply keeps_mk)

theorem State.rateLimited_keeps {r : State} {s0 : State} (h0 : Keeps r s0) {f1 : State → State} (h1 : ∀ t, Keeps r t → Keeps r (f1 t)) : Keeps r (State.rateLimited s0 f1) := by
  unfold State.rateLimited
  with_reducible repeat' (first | assumption | apply State.count_keeps | apply State.takeToken_keeps | apply h1 | (refine keeps_eq2 ?_ (by assumption)) | split)

theorem State.admitInband_keeps {r : State} {s0 : State} (h0 : Keeps r s0) {f1 : State → State} (h1 : ∀ t, Keeps r t → Keeps r (f1 t)) : ∀ a0, Keeps r (State.admitInband s0 a0 f1) := by
  intro a0
  unfold State.admitInband
  with_reducible repeat' (first | assumption | apply State.rateLimited_keeps | apply State.count_keeps | apply keeps_ite)

theorem State.admitVia_keeps {r : State} {s0 : State} (h0 : Keeps r s0) {f1 : State → State} (h1 : ∀ t, Keeps r t → Keeps r (f1 t)) : ∀ a0, Keeps r (State.admitVia s0 a0 f1) := by
  intro a0
  unfold State.admitVia
  with_reducible repeat' (first | assumption | apply State.admitInband_keeps | apply h1 | apply keeps_ite | split)

theorem State.refuseFrame_keeps {r : State} {s0 : State} (h0 : Keeps r s0) : ∀ a0 a1 a2 a3, Keeps r (State.refuseFrame s0 a0 a1 a2 a3) := by
  intro a0 a1 a2 a3
  unfold State.refuseFrame
  with_reducible repeat' (first | assumption | apply State.sendClear_keeps | apply State.count_keeps | apply State.raise_keeps)

theorem State.helloIn_keeps {r : State} {s0 : State} (h0 : Keeps r s0) : ∀ a0 a1, Keeps r (State.helloIn s0 a0 a1) := by
  intro a0 a1
  unfold State.helloIn
  with_reducible repeat' (first | assumption | apply State.refuseFrame_keeps | apply keeps_ite | split | ((try lift_lets); intro x; have hx : Keeps r x := (by unfold x; with_reducible repeat' (first | assumption | apply State.setSession_keeps | apply State.putN_keeps | apply State.putO_keeps)); clear_value x) | ((try lift_lets); intro x; clear_value x) | apply keeps_mk)

theorem execHello_keeps {r : State} {s0 : State} (h0 : Keeps r s0) : ∀ a0 a1, KeepsOut r (execHello a0 a1 s0) := by
  intro a0 a1
  unfold execHello
  with_reducible repeat' (first | assumption | apply State.helloIn_keeps | apply State.admitVia_keeps | apply done_keeps | (refine fun (t : State) (_ : Keeps r t) => ?_))

theorem State.helloReply_keeps {r : State} {s0 : State} (h0 : Keeps r s0) : ∀ a0 a1 a2, Keeps r (State.helloReply s0 a0 a1 a2) := by
  intro a0 a1 a2
  unfold State.helloReply
  with_reducible repeat' (first | assumption | apply State.setSession_keeps | apply State.sendClear_keeps | apply State.identitySign_keeps | apply State.refuseHandshake_keeps | apply State.drawBytes_keeps | apply keeps_ite)

theorem execHelloReplySent_keeps {r : State} {s0 : State} (h0 : Keeps r s0) : ∀ a0, KeepsOut r (execHelloReplySent a0 s0) := by
  intro a0
  unfold execHelloReplySent
  with_reducible repeat' (first | assumption | apply State.helloReply_keeps | apply done_keeps | apply keepsOut_ite | split)

theorem State.authIn_keeps {r : State} {s0 : State} (h0 : Keeps r s0) : ∀ a0 a1 a2, Keeps r (State.authIn s0 a0 a1 a2) := by
  intro a0 a1 a2
  unfold State.authIn
  with_reducible repeat' (first | assumption | apply State.refuseHandshake_keeps | apply State.refuseFrame_keeps | apply keeps_ite | split | ((try lift_lets); intro x; have hx : Keeps r x := (by unfold x; with_reducible repeat' (first | assumption | apply State.setSession_keeps)); clear_value x) | ((try lift_lets); intro x; clear_value x) | apply keeps_mk)

theorem State.joinFragment_keeps {r : State} {s0 : State} (h0 : Keeps r s0) : ∀ a0 a1 a2 a3, Keeps r (State.joinFragment s0 a0 a1 a2 a3).2 := by
  intro a0 a1 a2 a3
  unfold State.joinFragment
  with_reducible repeat' (first | assumption | apply State.setSession_keeps | apply State.count_keeps | apply keeps_ite | apply keeps_ite2)

theorem State.authFrame_keeps {r : State} {s0 : State} (h0 : Keeps r s0) : ∀ a0 a1 a2 a3, Keeps r (State.authFrame s0 a0 a1 a2 a3) := by
  intro a0 a1 a2 a3
  unfold State.authFrame
  with_reducible repeat' (first | assumption | apply State.authIn_keeps | apply State.joinFragment_keeps | (refine keeps_eq2 ?_ (by assumption)) | apply keeps_ite | split)

theorem State.byFrames_keeps {r s0 : State} (h0 : Keeps r s0) (via : Via) (m : Octets) {f : State → Nat → Octets → State}
    (hf : ∀ t a b, Keeps r t → Keeps r (f t a b)) : Keeps r (s0.byFrames via m f) :=
  forEach_keeps (fun _ _ h => State.admitVia_keeps h (fun _ ht => hf _ _ _ ht) _) h0

theorem execAuth_keeps {r s0 : State} (h0 : Keeps r s0) (n : Nat) (via : Via) (b : Octets) : KeepsOut r (execAuth n via b s0) :=
  done_keeps (State.byFrames_keeps h0 via b (fun _ _ _ h => State.authFrame_keeps h _ _ _ _))

theorem State.openSession_keeps {r : State} {s0 : State} (h0 : Keeps r s0) : ∀ a0 a1, Keeps r (State.openSession s0 a0 a1) := by
  intro a0 a1
  unfold State.openSession
  with_reducible repeat' (first | assumption | apply State.sendSecured_keeps | apply State.raise_keeps | apply State.putN_keeps | apply State.setSession_keeps)

theorem execAuthOkSent_keeps {r : State} {s0 : State} (h0 : Keeps r s0) : ∀ a0, KeepsOut r (execAuthOkSent a0 s0) := by
  intro a0
  unfold execAuthOkSent
  with_reducible repeat' (first | assumption | apply State.refuseHandshake_keeps | apply State.openSession_keeps | apply done_keeps | apply keepsOut_ite | split)

theorem execAuthTimeout_keeps {r : State} {s0 : State} (h0 : Keeps r s0) : ∀ a0, KeepsOut r (execAuthTimeout a0 s0) := by
  intro a0
  unfold execAuthTimeout
  with_reducible repeat' (first | assumption | apply State.refuseHandshake_keeps | apply done_keeps | apply keepsOut_ite | split)

theorem State.authFail_keeps {r : State} {s0 : State} (h0 : Keeps r s0) : Keeps r (State.authFail s0) := by
  unfold State.authFail
  with_reducible repeat' (first | assumption | apply State.count_keeps)

theorem State.acceptFrame_keeps {r : State} {s0 : State} (h0 : Keeps r s0) : ∀ a0 a1 a2, Keeps r (State.acceptFrame s0 a0 a1 a2).2 := by
  intro a0 a1 a2
  unfold State.acceptFrame
  with_reducible repeat' (first | assumption | apply State.setSession_keeps | apply State.authFail_keeps | apply keeps_ite2 | split)

theorem State.dataIn_keeps {r : State} {s0 : State} (h0 : Keeps r s0) : ∀ a0 a1 a2, Keeps r (State.dataIn s0 a0 a1 a2) := by
  intro a0 a1 a2
  unfold State.dataIn
  with_reducible repeat' (first | assumption | apply State.receive_keeps | apply State.joinFragment_keeps | apply State.acceptFrame_keeps | (refine keeps_eq2 ?_ (by assumption)) | split | ((try lift_lets); intro x; clear_value x))

theorem execDataFrameReceived_keeps {r : State} {s0 : State} (h0 : Keeps r s0) : ∀ a0 a1 a2, KeepsOut r (execDataFrameReceived a0 a1 a2 s0) := by
  intro a0 a1 a2
  unfold execDataFrameReceived
  with_reducible repeat' (first | assumption | apply State.dataIn_keeps | apply State.admitVia_keeps | apply done_keeps | (refine fun (t : State) (_ : Keeps r t) => ?_) | apply keepsOut_ite)

theorem State.closeIn_keeps {r : State} {s0 : State} (h0 : Keeps r s0) : ∀ a0 a1 a2, Keeps r (State.closeIn s0 a0 a1 a2) := by
  intro a0 a1 a2
  unfold State.closeIn
  with_reducible repeat' (first | assumption | apply State.closeSession_keeps | apply State.acceptFrame_keeps | (refine keeps_eq2 ?_ (by assumption)) | split)

theorem execCloseReceived_keeps {r : State} {s0 : State} (h0 : Keeps r s0) : ∀ a0 a1 a2, KeepsOut r (execCloseReceived a0 a1 a2 s0) := by
  intro a0 a1 a2
  unfold execCloseReceived
  with_reducible repeat' (first | assumption | apply State.closeIn_keeps | apply State.admitVia_keeps | apply done_keeps | (refine fun (t : State) (_ : Keeps r t) => ?_) | apply keepsOut_ite)

theorem execSessionIdleExpiry_keeps {r : State} {s0 : State} (h0 : Keeps r s0) : ∀ a0, KeepsOut r (execSessionIdleExpiry a0 s0) := by
  intro a0
  unfold execSessionIdleExpiry
  with_reducible repeat' (first | assumption | apply State.closeSession_keeps | apply done_keeps | apply keepsOut_ite)

theorem State.plainEff_keeps {r : State} {s0 : State} (h0 : Keeps r s0) : ∀ a0, Keeps r (State.plainEff s0 a0).1 := by
  intro a0
  unfold State.plainEff
  with_reducible repeat' (first | assumption | apply legacyAfter_keeps | apply okay_keeps | apply State.request_keeps | apply State.readEff_keeps | apply refuse_keeps | apply keeps_ite1 | split)

theorem State.plainLater_keeps {r : State} {s0 : State} (h0 : Keeps r s0) : ∀ a0 a1 a2, Keeps r (State.plainLater s0 a0 a1 a2) := by
  intro a0 a1 a2
  unfold State.plainLater
  with_reducible repeat' (first | assumption | apply keeps_ite | ((try lift_lets); intro x; clear_value x) | apply keeps_mk)

theorem State.plainIn_keeps {r : State} {s0 : State} (h0 : Keeps r s0) : ∀ a0 a1 a2 a3, Keeps r (State.plainIn s0 a0 a1 a2 a3) := by
  intro a0 a1 a2 a3
  unfold State.plainIn
  with_reducible repeat' (first | assumption | apply State.sendClear_keeps | apply State.plainLater_keeps | apply State.plainEff_keeps | apply keeps_ite)

theorem State.joinClear_keeps {r : State} {s0 : State} (h0 : Keeps r s0) : ∀ a0 a1 a2, Keeps r (State.joinClear s0 a0 a1 a2).2 := by
  intro a0 a1 a2
  unfold State.joinClear
  with_reducible repeat' (first | assumption | apply State.setSession_keeps | apply State.joinFragment_keeps)

theorem State.plainFrame_keeps {r : State} {s0 : State} (h0 : Keeps r s0) : ∀ a0 a1 a2 a3 a4, Keeps r (State.plainFrame s0 a0 a1 a2 a3 a4) := by
  intro a0 a1 a2 a3 a4
  unfold State.plainFrame
  with_reducible repeat' (first | assumption | apply State.plainIn_keeps | apply State.joinClear_keeps | (refine keeps_eq2 ?_ (by assumption)) | split)

theorem execPlainReceived_keeps {r s0 : State} (h0 : Keeps r s0) (n : Nat) (via : Via) (br : Bool) (m : Octets) :
    KeepsOut r (execPlainReceived n via br m s0) :=
  done_keeps (State.byFrames_keeps h0 via m (fun _ _ _ h => State.plainFrame_keeps h _ _ _ _ _))

theorem State.silsyIn_keeps {r : State} {s0 : State} (h0 : Keeps r s0) : ∀ a0 a1 a2, Keeps r (State.silsyIn s0 a0 a1 a2) := by
  intro a0 a1 a2
  unfold State.silsyIn
  with_reducible repeat' (first | assumption | apply State.authFail_keeps | apply State.plainFrame_keeps | apply State.closeIn_keeps | apply State.dataIn_keeps | apply State.authFrame_keeps | apply State.helloIn_keeps | apply State.joinClear_keeps | (refine keeps_eq2 ?_ (by assumption)) | apply keeps_ite | split)

theorem State.meshHost_keeps {r : State} {s0 : State} (h0 : Keeps r s0) : ∀ a0 a1, Keeps r (State.meshHost s0 a0 a1) := by
  intro a0 a1
  unfold State.meshHost
  with_reducible repeat' (first | assumption | apply State.meshSend_keeps | apply State.silsyIn_keeps | apply keeps_ite | ((try lift_lets); intro x; clear_value x) | apply keeps_mk)

theorem State.meshInner_keeps {r : State} {s0 : State} (h0 : Keeps r s0) : ∀ a0 a1 a2 a3 a4, Keeps r (State.meshInner s0 a0 a1 a2 a3 a4) := by
  intro a0 a1 a2 a3 a4
  unfold State.meshInner
  with_reducible repeat' (first | assumption | apply State.silsyIn_keeps | apply State.sendVia_keeps | apply keeps_ite | split)

theorem State.meshForward_keeps {r : State} {s0 : State} (h0 : Keeps r s0) : ∀ a0 a1 a2 a3, Keeps r (State.meshForward s0 a0 a1 a2 a3) := by
  intro a0 a1 a2 a3
  unfold State.meshForward
  with_reducible repeat' (first | assumption | apply State.meshOut_keeps | apply State.count_keeps | apply State.meshHello_keeps | apply State.meshInner_keeps | apply keeps_ite)

theorem State.meshIn_keeps {r : State} {s0 : State} (h0 : Keeps r s0) : ∀ a0 a1 a2 a3, Keeps r (State.meshIn s0 a0 a1 a2 a3) := by
  intro a0 a1 a2 a3
  unfold State.meshIn
  with_reducible repeat' (first | assumption | apply State.meshForward_keeps | apply State.meshAdvance_keeps | apply State.raiseOnce_keeps | apply State.count_keeps | apply keeps_ite | split)

theorem State.inbandIn_keeps {r : State} {s0 : State} (h0 : Keeps r s0) : ∀ a0 a1 a2, Keeps r (State.inbandIn s0 a0 a1 a2) := by
  intro a0 a1 a2
  unfold State.inbandIn
  with_reducible repeat' (first | assumption | apply State.meshIn_keeps | apply State.meshHost_keeps | apply State.silsyIn_keeps | apply State.admitInband_keeps | apply State.count_keeps | (refine fun (t : State) (_ : Keeps r t) => ?_) | apply keeps_ite)

theorem State.drainHearth_keeps {r : State} {s0 : State} (h0 : Keeps r s0) : Keeps r (State.drainHearth s0) := by
  unfold State.drainHearth
  with_reducible repeat' (first | assumption | apply State.inbandIn_keeps | apply forEach_keeps | (refine fun (t : State) _ (_ : Keeps r t) => ?_) | apply keeps_mk)

theorem execInbandSilsyReceived_keeps {r : State} {s0 : State} (h0 : Keeps r s0) : ∀ a0 a1 a2, KeepsOut r (execInbandSilsyReceived a0 a1 a2 s0) := by
  intro a0 a1 a2
  unfold execInbandSilsyReceived
  with_reducible repeat' (first | assumption | apply State.inbandIn_keeps | apply done_keeps)

theorem execMeshFrameReceived_keeps {r : State} {s0 : State} (h0 : Keeps r s0) : ∀ a0 a1 a2, KeepsOut r (execMeshFrameReceived a0 a1 a2 s0) := by
  intro a0 a1 a2
  unfold execMeshFrameReceived
  with_reducible repeat' (first | assumption | apply State.inbandIn_keeps | apply done_keeps | apply keepsOut_ite)

theorem execMeshHostFrame_keeps {r : State} {s0 : State} (h0 : Keeps r s0) : ∀ a0 a1, KeepsOut r (execMeshHostFrame a0 a1 s0) := by
  intro a0 a1
  unfold execMeshHostFrame
  with_reducible repeat' (first | assumption | apply State.admitInband_keeps | apply State.meshHost_keeps | apply State.rateLimited_keeps | apply done_keeps | (refine fun (t : State) (_ : Keeps r t) => ?_) | apply keepsOut_ite | split)

theorem execT1sFrameReceived_keeps {r : State} {s0 : State} (h0 : Keeps r s0) : ∀ a0 a1, KeepsOut r (execT1sFrameReceived a0 a1 s0) := by
  intro a0 a1
  unfold execT1sFrameReceived
  with_reducible repeat' (first | assumption | apply State.meshHost_keeps | apply State.rateLimited_keeps | apply State.silsyIn_keeps | apply done_keeps | (refine fun (t : State) (_ : Keeps r t) => ?_) | apply keepsOut_ite)

theorem State.t1sSent_keeps {r : State} {s0 : State} (h0 : Keeps r s0) : Keeps r (State.t1sSent s0) := by
  unfold State.t1sSent
  with_reducible repeat' (first | assumption | apply State.emit_keeps | split | ((try lift_lets); intro x; clear_value x) | apply keeps_mk)

theorem State.t1sCollides_keeps {r : State} {s0 : State} (h0 : Keeps r s0) : Keeps r (State.t1sCollides s0) := by
  unfold State.t1sCollides
  with_reducible repeat' (first | assumption | apply State.draw_keeps | apply State.count_keeps | (refine keeps_eq2 ?_ (by assumption)) | apply keeps_ite | split | ((try lift_lets); intro x; clear_value x) | apply keeps_mk)

theorem execT1sCollision_keeps {r : State} {s0 : State} (h0 : Keeps r s0) : KeepsOut r (execT1sCollision s0) := by
  unfold execT1sCollision
  with_reducible repeat' (first | assumption | apply State.t1sCollides_keeps | apply done_keeps | apply keepsOut_ite)

theorem execT1sBackoffExpiry_keeps {r : State} {s0 : State} (h0 : Keeps r s0) : ∀ a0, KeepsOut r (execT1sBackoffExpiry a0 s0) := by
  intro a0
  unfold execT1sBackoffExpiry
  with_reducible repeat' (first | assumption | apply State.t1sCollides_keeps | apply State.t1sSent_keeps | apply done_keeps | apply keepsOut_ite)

theorem execPlainReplyDelayExpiry_keeps {r : State} {s0 : State} (h0 : Keeps r s0) : KeepsOut r (execPlainReplyDelayExpiry s0) := by
  unfold execPlainReplyDelayExpiry
  with_reducible repeat' (first | assumption | apply State.sendT1s_keeps | apply done_keeps | split | ((try lift_lets); intro x; clear_value x) | apply keeps_mk)

theorem State.received_keeps {r : State} {s0 : State} (h0 : Keeps r s0) {f1 : State → State} (h1 : ∀ t, Keeps r t → Keeps r (f1 t)) : Keeps r (State.received s0 f1) := by
  unfold State.received
  with_reducible repeat' (first | assumption | apply State.drainHearth_keeps | apply h1 | apply keeps_ite)

theorem execClearFrameReceived_keeps {r : State} {s0 : State} (h0 : Keeps r s0) : ∀ a0 a1, KeepsOut r (execClearFrameReceived a0 a1 s0) := by
  intro a0 a1
  unfold execClearFrameReceived
  with_reducible repeat' (first | assumption | apply State.clearIn_keeps | apply State.received_keeps | apply done_keeps | (refine fun (t : State) (_ : Keeps r t) => ?_))

theorem execLineFrameReceived_keeps {r : State} {s0 : State} (h0 : Keeps r s0) : ∀ a0 a1, KeepsOut r (execLineFrameReceived a0 a1 s0) := by
  intro a0 a1
  unfold execLineFrameReceived
  with_reducible repeat' (first | assumption | apply State.lineIn_keeps | apply State.received_keeps | apply done_keeps | (refine fun (t : State) (_ : Keeps r t) => ?_))

theorem execKeystreamMissFilled_keeps {r : State} {s0 : State} (h0 : Keeps r s0) : ∀ a0 a1, KeepsOut r (execKeystreamMissFilled a0 a1 s0) := by
  intro a0 a1
  unfold execKeystreamMissFilled
  with_reducible repeat' (first | assumption | apply State.fillKey_keeps | apply State.received_keeps | apply done_keeps | (refine fun (t : State) (_ : Keeps r t) => ?_) | apply keeps_ite)

theorem execSectorTransformDone_keeps {r : State} {s0 : State} (h0 : Keeps r s0) : ∀ a0 a1, KeepsOut r (execSectorTransformDone a0 a1 s0) := by
  intro a0 a1
  unfold execSectorTransformDone
  with_reducible repeat' (first | assumption | apply State.sectorDoneD_keeps | apply State.sectorDoneE_keeps | apply State.received_keeps | apply done_keeps | (refine fun (t : State) (_ : Keeps r t) => ?_) | apply keeps_ite | split)

theorem execTwPanelReceived_keeps {r : State} {s0 : State} (h0 : Keeps r s0) : ∀ a0 a1, KeepsOut r (execTwPanelReceived a0 a1 s0) := by
  intro a0 a1
  unfold execTwPanelReceived
  with_reducible repeat' (first | assumption | apply State.panelReceived_keeps | apply State.received_keeps | apply done_keeps | (refine fun (t : State) (_ : Keeps r t) => ?_))

theorem State.gateTick_keeps {r : State} {s0 : State} (h0 : Keeps r s0) : Keeps r (State.gateTick s0) := by
  unfold State.gateTick
  with_reducible repeat' (first | assumption | apply State.settleCredit_keeps | apply forEach_keeps | (refine fun (t : State) _ (_ : Keeps r t) => ?_) | apply keeps_ite)

theorem State.clocks_keeps {r : State} {s0 : State} (h0 : Keeps r s0) : Keeps r (State.clocks s0) := by
  unfold State.clocks
  with_reducible repeat' (first | assumption | apply keeps_ite | split | ((try lift_lets); intro x; clear_value x) | dsimp only | apply keeps_mk)

theorem State.alarmPeriod_keeps {r : State} {s0 : State} (h0 : Keeps r s0) : Keeps r (State.alarmPeriod s0) := by
  unfold State.alarmPeriod
  with_reducible repeat' (first | assumption | apply State.closePeriod_keeps | apply keeps_ite)

theorem State.t1sIdle_keeps {r : State} {s0 : State} (h0 : Keeps r s0) : Keeps r (State.t1sIdle s0) := by
  unfold State.t1sIdle
  with_reducible repeat' (first | assumption | apply State.t1sSent_keeps | apply keeps_ite | ((try lift_lets); intro x; clear_value x) | apply keeps_mk)

theorem State.idle_keeps {r : State} {s0 : State} (h0 : Keeps r s0) : Keeps r (State.idle s0) := by
  unfold State.idle
  with_reducible repeat' (first | assumption | apply State.clocks_keeps | apply State.gateTick_keeps | apply State.framers_keeps | apply State.patterns_keeps | apply State.badLogged_keeps | apply State.alarmPeriod_keeps | apply State.drainHearth_keeps | apply State.serve_keeps | apply State.t1sIdle_keeps | apply State.settle_keeps)

end Sys2Proof.Machine
end

