-- ==== Sys2Proof/Laws/State.lean ====
section
/-! SUPPORT. Laws/State.lean: what each named update of the state leaves in each field, and what a read after a write gives. -/

namespace Sys2Proof.Machine

/-! put writes objs and nothing else. -/

@[simp] theorem State.put_part (s : State) (k : Key) (v : Val) : (s.put k v).part = s.part := rfl
@[simp] theorem State.put_siliconStep (s : State) (k : Key) (v : Val) : (s.put k v).siliconStep = s.siliconStep := rfl
@[simp] theorem State.put_mainPower (s : State) (k : Key) (v : Val) : (s.put k v).mainPower = s.mainPower := rfl
@[simp] theorem State.put_powerGood (s : State) (k : Key) (v : Val) : (s.put k v).powerGood = s.powerGood := rfl
@[simp] theorem State.put_rstLow (s : State) (k : Key) (v : Val) : (s.put k v).rstLow = s.rstLow := rfl
@[simp] theorem State.put_phase (s : State) (k : Key) (v : Val) : (s.put k v).phase = s.phase := rfl
@[simp] theorem State.put_addrSel (s : State) (k : Key) (v : Val) : (s.put k v).addrSel = s.addrSel := rfl
@[simp] theorem State.put_pairId (s : State) (k : Key) (v : Val) : (s.put k v).pairId = s.pairId := rfl
@[simp] theorem State.put_objs (s : State) (k : Key) (v : Val) : (s.put k v).objs = Store.wr s.objs k v := rfl
@[simp] theorem State.put_time (s : State) (k : Key) (v : Val) : (s.put k v).time = s.time := rfl
@[simp] theorem State.put_tsIn (s : State) (k : Key) (v : Val) : (s.put k v).tsIn = s.tsIn := rfl
@[simp] theorem State.put_otp (s : State) (k : Key) (v : Val) : (s.put k v).otp = s.otp := rfl
@[simp] theorem State.put_boot (s : State) (k : Key) (v : Val) : (s.put k v).boot = s.boot := rfl
@[simp] theorem State.put_hearth (s : State) (k : Key) (v : Val) : (s.put k v).hearth = s.hearth := rfl
@[simp] theorem State.put_sessions (s : State) (k : Key) (v : Val) : (s.put k v).sessions = s.sessions := rfl
@[simp] theorem State.put_arrivals (s : State) (k : Key) (v : Val) : (s.put k v).arrivals = s.arrivals := rfl
@[simp] theorem State.put_proposals (s : State) (k : Key) (v : Val) : (s.put k v).proposals = s.proposals := rfl
@[simp] theorem State.put_events (s : State) (k : Key) (v : Val) : (s.put k v).events = s.events := rfl
@[simp] theorem State.put_drains (s : State) (k : Key) (v : Val) : (s.put k v).drains = s.drains := rfl
@[simp] theorem State.put_bolts (s : State) (k : Key) (v : Val) : (s.put k v).bolts = s.bolts := rfl
@[simp] theorem State.put_ports (s : State) (k : Key) (v : Val) : (s.put k v).ports = s.ports := rfl
@[simp] theorem State.put_tribs (s : State) (k : Key) (v : Val) : (s.put k v).tribs = s.tribs := rfl
@[simp] theorem State.put_groups (s : State) (k : Key) (v : Val) : (s.put k v).groups = s.groups := rfl
@[simp] theorem State.put_twLanes (s : State) (k : Key) (v : Val) : (s.put k v).twLanes = s.twLanes := rfl
@[simp] theorem State.put_lanes (s : State) (k : Key) (v : Val) : (s.put k v).lanes = s.lanes := rfl
@[simp] theorem State.put_alarm (s : State) (k : Key) (v : Val) : (s.put k v).alarm = s.alarm := rfl
@[simp] theorem State.put_flue (s : State) (k : Key) (v : Val) : (s.put k v).flue = s.flue := rfl
@[simp] theorem State.put_backup (s : State) (k : Key) (v : Val) : (s.put k v).backup = s.backup := rfl
@[simp] theorem State.put_retort (s : State) (k : Key) (v : Val) : (s.put k v).retort = s.retort := rfl
@[simp] theorem State.put_sm (s : State) (k : Key) (v : Val) : (s.put k v).sm = s.sm := rfl
@[simp] theorem State.put_pair (s : State) (k : Key) (v : Val) : (s.put k v).pair = s.pair := rfl
@[simp] theorem State.put_mesh (s : State) (k : Key) (v : Val) : (s.put k v).mesh = s.mesh := rfl
@[simp] theorem State.put_trust (s : State) (k : Key) (v : Val) : (s.put k v).trust = s.trust := rfl
@[simp] theorem State.put_i3c (s : State) (k : Key) (v : Val) : (s.put k v).i3c = s.i3c := rfl
@[simp] theorem State.put_t1s (s : State) (k : Key) (v : Val) : (s.put k v).t1s = s.t1s := rfl
@[simp] theorem State.put_bucket (s : State) (k : Key) (v : Val) : (s.put k v).bucket = s.bucket := rfl
@[simp] theorem State.put_tracer (s : State) (k : Key) (v : Val) : (s.put k v).tracer = s.tracer := rfl
@[simp] theorem State.put_hearthIn (s : State) (k : Key) (v : Val) : (s.put k v).hearthIn = s.hearthIn := rfl
@[simp] theorem State.put_tjWarned (s : State) (k : Key) (v : Val) : (s.put k v).tjWarned = s.tjWarned := rfl
@[simp] theorem State.put_free (s : State) (k : Key) (v : Val) : (s.put k v).free = s.free := rfl
@[simp] theorem State.put_serial (s : State) (k : Key) (v : Val) : (s.put k v).serial = s.serial := rfl
@[simp] theorem State.put_wire (s : State) (k : Key) (v : Val) : (s.put k v).wire = s.wire := rfl
@[simp] theorem State.put_pending (s : State) (k : Key) (v : Val) : (s.put k v).pending = s.pending := rfl

/-! putN writes objs and nothing else. -/

@[simp] theorem State.putN_part (s : State) (k : Key) (n : Nat) : (s.putN k n).part = s.part := rfl
@[simp] theorem State.putN_siliconStep (s : State) (k : Key) (n : Nat) : (s.putN k n).siliconStep = s.siliconStep := rfl
@[simp] theorem State.putN_mainPower (s : State) (k : Key) (n : Nat) : (s.putN k n).mainPower = s.mainPower := rfl
@[simp] theorem State.putN_powerGood (s : State) (k : Key) (n : Nat) : (s.putN k n).powerGood = s.powerGood := rfl
@[simp] theorem State.putN_rstLow (s : State) (k : Key) (n : Nat) : (s.putN k n).rstLow = s.rstLow := rfl
@[simp] theorem State.putN_phase (s : State) (k : Key) (n : Nat) : (s.putN k n).phase = s.phase := rfl
@[simp] theorem State.putN_addrSel (s : State) (k : Key) (n : Nat) : (s.putN k n).addrSel = s.addrSel := rfl
@[simp] theorem State.putN_pairId (s : State) (k : Key) (n : Nat) : (s.putN k n).pairId = s.pairId := rfl
@[simp] theorem State.putN_objs (s : State) (k : Key) (n : Nat) : (s.putN k n).objs = Store.wr s.objs k (.num n) := rfl
@[simp] theorem State.putN_time (s : State) (k : Key) (n : Nat) : (s.putN k n).time = s.time := rfl
@[simp] theorem State.putN_tsIn (s : State) (k : Key) (n : Nat) : (s.putN k n).tsIn = s.tsIn := rfl
@[simp] theorem State.putN_otp (s : State) (k : Key) (n : Nat) : (s.putN k n).otp = s.otp := rfl
@[simp] theorem State.putN_boot (s : State) (k : Key) (n : Nat) : (s.putN k n).boot = s.boot := rfl
@[simp] theorem State.putN_hearth (s : State) (k : Key) (n : Nat) : (s.putN k n).hearth = s.hearth := rfl
@[simp] theorem State.putN_sessions (s : State) (k : Key) (n : Nat) : (s.putN k n).sessions = s.sessions := rfl
@[simp] theorem State.putN_arrivals (s : State) (k : Key) (n : Nat) : (s.putN k n).arrivals = s.arrivals := rfl
@[simp] theorem State.putN_proposals (s : State) (k : Key) (n : Nat) : (s.putN k n).proposals = s.proposals := rfl
@[simp] theorem State.putN_events (s : State) (k : Key) (n : Nat) : (s.putN k n).events = s.events := rfl
@[simp] theorem State.putN_drains (s : State) (k : Key) (n : Nat) : (s.putN k n).drains = s.drains := rfl
@[simp] theorem State.putN_bolts (s : State) (k : Key) (n : Nat) : (s.putN k n).bolts = s.bolts := rfl
@[simp] theorem State.putN_ports (s : State) (k : Key) (n : Nat) : (s.putN k n).ports = s.ports := rfl
@[simp] theorem State.putN_tribs (s : State) (k : Key) (n : Nat) : (s.putN k n).tribs = s.tribs := rfl
@[simp] theorem State.putN_groups (s : State) (k : Key) (n : Nat) : (s.putN k n).groups = s.groups := rfl
@[simp] theorem State.putN_twLanes (s : State) (k : Key) (n : Nat) : (s.putN k n).twLanes = s.twLanes := rfl
@[simp] theorem State.putN_lanes (s : State) (k : Key) (n : Nat) : (s.putN k n).lanes = s.lanes := rfl
@[simp] theorem State.putN_alarm (s : State) (k : Key) (n : Nat) : (s.putN k n).alarm = s.alarm := rfl
@[simp] theorem State.putN_flue (s : State) (k : Key) (n : Nat) : (s.putN k n).flue = s.flue := rfl
@[simp] theorem State.putN_backup (s : State) (k : Key) (n : Nat) : (s.putN k n).backup = s.backup := rfl
@[simp] theorem State.putN_retort (s : State) (k : Key) (n : Nat) : (s.putN k n).retort = s.retort := rfl
@[simp] theorem State.putN_sm (s : State) (k : Key) (n : Nat) : (s.putN k n).sm = s.sm := rfl
@[simp] theorem State.putN_pair (s : State) (k : Key) (n : Nat) : (s.putN k n).pair = s.pair := rfl
@[simp] theorem State.putN_mesh (s : State) (k : Key) (n : Nat) : (s.putN k n).mesh = s.mesh := rfl
@[simp] theorem State.putN_trust (s : State) (k : Key) (n : Nat) : (s.putN k n).trust = s.trust := rfl
@[simp] theorem State.putN_i3c (s : State) (k : Key) (n : Nat) : (s.putN k n).i3c = s.i3c := rfl
@[simp] theorem State.putN_t1s (s : State) (k : Key) (n : Nat) : (s.putN k n).t1s = s.t1s := rfl
@[simp] theorem State.putN_bucket (s : State) (k : Key) (n : Nat) : (s.putN k n).bucket = s.bucket := rfl
@[simp] theorem State.putN_tracer (s : State) (k : Key) (n : Nat) : (s.putN k n).tracer = s.tracer := rfl
@[simp] theorem State.putN_hearthIn (s : State) (k : Key) (n : Nat) : (s.putN k n).hearthIn = s.hearthIn := rfl
@[simp] theorem State.putN_tjWarned (s : State) (k : Key) (n : Nat) : (s.putN k n).tjWarned = s.tjWarned := rfl
@[simp] theorem State.putN_free (s : State) (k : Key) (n : Nat) : (s.putN k n).free = s.free := rfl
@[simp] theorem State.putN_serial (s : State) (k : Key) (n : Nat) : (s.putN k n).serial = s.serial := rfl
@[simp] theorem State.putN_wire (s : State) (k : Key) (n : Nat) : (s.putN k n).wire = s.wire := rfl
@[simp] theorem State.putN_pending (s : State) (k : Key) (n : Nat) : (s.putN k n).pending = s.pending := rfl

/-! putO writes objs and nothing else. -/

@[simp] theorem State.putO_part (s : State) (k : Key) (bs : Octets) : (s.putO k bs).part = s.part := rfl
@[simp] theorem State.putO_siliconStep (s : State) (k : Key) (bs : Octets) : (s.putO k bs).siliconStep = s.siliconStep := rfl
@[simp] theorem State.putO_mainPower (s : State) (k : Key) (bs : Octets) : (s.putO k bs).mainPower = s.mainPower := rfl
@[simp] theorem State.putO_powerGood (s : State) (k : Key) (bs : Octets) : (s.putO k bs).powerGood = s.powerGood := rfl
@[simp] theorem State.putO_rstLow (s : State) (k : Key) (bs : Octets) : (s.putO k bs).rstLow = s.rstLow := rfl
@[simp] theorem State.putO_phase (s : State) (k : Key) (bs : Octets) : (s.putO k bs).phase = s.phase := rfl
@[simp] theorem State.putO_addrSel (s : State) (k : Key) (bs : Octets) : (s.putO k bs).addrSel = s.addrSel := rfl
@[simp] theorem State.putO_pairId (s : State) (k : Key) (bs : Octets) : (s.putO k bs).pairId = s.pairId := rfl
@[simp] theorem State.putO_objs (s : State) (k : Key) (bs : Octets) : (s.putO k bs).objs = Store.wr s.objs k (.oct bs) := rfl
@[simp] theorem State.putO_time (s : State) (k : Key) (bs : Octets) : (s.putO k bs).time = s.time := rfl
@[simp] theorem State.putO_tsIn (s : State) (k : Key) (bs : Octets) : (s.putO k bs).tsIn = s.tsIn := rfl
@[simp] theorem State.putO_otp (s : State) (k : Key) (bs : Octets) : (s.putO k bs).otp = s.otp := rfl
@[simp] theorem State.putO_boot (s : State) (k : Key) (bs : Octets) : (s.putO k bs).boot = s.boot := rfl
@[simp] theorem State.putO_hearth (s : State) (k : Key) (bs : Octets) : (s.putO k bs).hearth = s.hearth := rfl
@[simp] theorem State.putO_sessions (s : State) (k : Key) (bs : Octets) : (s.putO k bs).sessions = s.sessions := rfl
@[simp] theorem State.putO_arrivals (s : State) (k : Key) (bs : Octets) : (s.putO k bs).arrivals = s.arrivals := rfl
@[simp] theorem State.putO_proposals (s : State) (k : Key) (bs : Octets) : (s.putO k bs).proposals = s.proposals := rfl
@[simp] theorem State.putO_events (s : State) (k : Key) (bs : Octets) : (s.putO k bs).events = s.events := rfl
@[simp] theorem State.putO_drains (s : State) (k : Key) (bs : Octets) : (s.putO k bs).drains = s.drains := rfl
@[simp] theorem State.putO_bolts (s : State) (k : Key) (bs : Octets) : (s.putO k bs).bolts = s.bolts := rfl
@[simp] theorem State.putO_ports (s : State) (k : Key) (bs : Octets) : (s.putO k bs).ports = s.ports := rfl
@[simp] theorem State.putO_tribs (s : State) (k : Key) (bs : Octets) : (s.putO k bs).tribs = s.tribs := rfl
@[simp] theorem State.putO_groups (s : State) (k : Key) (bs : Octets) : (s.putO k bs).groups = s.groups := rfl
@[simp] theorem State.putO_twLanes (s : State) (k : Key) (bs : Octets) : (s.putO k bs).twLanes = s.twLanes := rfl
@[simp] theorem State.putO_lanes (s : State) (k : Key) (bs : Octets) : (s.putO k bs).lanes = s.lanes := rfl
@[simp] theorem State.putO_alarm (s : State) (k : Key) (bs : Octets) : (s.putO k bs).alarm = s.alarm := rfl
@[simp] theorem State.putO_flue (s : State) (k : Key) (bs : Octets) : (s.putO k bs).flue = s.flue := rfl
@[simp] theorem State.putO_backup (s : State) (k : Key) (bs : Octets) : (s.putO k bs).backup = s.backup := rfl
@[simp] theorem State.putO_retort (s : State) (k : Key) (bs : Octets) : (s.putO k bs).retort = s.retort := rfl
@[simp] theorem State.putO_sm (s : State) (k : Key) (bs : Octets) : (s.putO k bs).sm = s.sm := rfl
@[simp] theorem State.putO_pair (s : State) (k : Key) (bs : Octets) : (s.putO k bs).pair = s.pair := rfl
@[simp] theorem State.putO_mesh (s : State) (k : Key) (bs : Octets) : (s.putO k bs).mesh = s.mesh := rfl
@[simp] theorem State.putO_trust (s : State) (k : Key) (bs : Octets) : (s.putO k bs).trust = s.trust := rfl
@[simp] theorem State.putO_i3c (s : State) (k : Key) (bs : Octets) : (s.putO k bs).i3c = s.i3c := rfl
@[simp] theorem State.putO_t1s (s : State) (k : Key) (bs : Octets) : (s.putO k bs).t1s = s.t1s := rfl
@[simp] theorem State.putO_bucket (s : State) (k : Key) (bs : Octets) : (s.putO k bs).bucket = s.bucket := rfl
@[simp] theorem State.putO_tracer (s : State) (k : Key) (bs : Octets) : (s.putO k bs).tracer = s.tracer := rfl
@[simp] theorem State.putO_hearthIn (s : State) (k : Key) (bs : Octets) : (s.putO k bs).hearthIn = s.hearthIn := rfl
@[simp] theorem State.putO_tjWarned (s : State) (k : Key) (bs : Octets) : (s.putO k bs).tjWarned = s.tjWarned := rfl
@[simp] theorem State.putO_free (s : State) (k : Key) (bs : Octets) : (s.putO k bs).free = s.free := rfl
@[simp] theorem State.putO_serial (s : State) (k : Key) (bs : Octets) : (s.putO k bs).serial = s.serial := rfl
@[simp] theorem State.putO_wire (s : State) (k : Key) (bs : Octets) : (s.putO k bs).wire = s.wire := rfl
@[simp] theorem State.putO_pending (s : State) (k : Key) (bs : Octets) : (s.putO k bs).pending = s.pending := rfl

/-! clear writes objs and nothing else. -/

@[simp] theorem State.clear_part (s : State) (k : Key) : (s.clear k).part = s.part := rfl
@[simp] theorem State.clear_siliconStep (s : State) (k : Key) : (s.clear k).siliconStep = s.siliconStep := rfl
@[simp] theorem State.clear_mainPower (s : State) (k : Key) : (s.clear k).mainPower = s.mainPower := rfl
@[simp] theorem State.clear_powerGood (s : State) (k : Key) : (s.clear k).powerGood = s.powerGood := rfl
@[simp] theorem State.clear_rstLow (s : State) (k : Key) : (s.clear k).rstLow = s.rstLow := rfl
@[simp] theorem State.clear_phase (s : State) (k : Key) : (s.clear k).phase = s.phase := rfl
@[simp] theorem State.clear_addrSel (s : State) (k : Key) : (s.clear k).addrSel = s.addrSel := rfl
@[simp] theorem State.clear_pairId (s : State) (k : Key) : (s.clear k).pairId = s.pairId := rfl
@[simp] theorem State.clear_objs (s : State) (k : Key) : (s.clear k).objs = Store.erase s.objs k := rfl
@[simp] theorem State.clear_time (s : State) (k : Key) : (s.clear k).time = s.time := rfl
@[simp] theorem State.clear_tsIn (s : State) (k : Key) : (s.clear k).tsIn = s.tsIn := rfl
@[simp] theorem State.clear_otp (s : State) (k : Key) : (s.clear k).otp = s.otp := rfl
@[simp] theorem State.clear_boot (s : State) (k : Key) : (s.clear k).boot = s.boot := rfl
@[simp] theorem State.clear_hearth (s : State) (k : Key) : (s.clear k).hearth = s.hearth := rfl
@[simp] theorem State.clear_sessions (s : State) (k : Key) : (s.clear k).sessions = s.sessions := rfl
@[simp] theorem State.clear_arrivals (s : State) (k : Key) : (s.clear k).arrivals = s.arrivals := rfl
@[simp] theorem State.clear_proposals (s : State) (k : Key) : (s.clear k).proposals = s.proposals := rfl
@[simp] theorem State.clear_events (s : State) (k : Key) : (s.clear k).events = s.events := rfl
@[simp] theorem State.clear_drains (s : State) (k : Key) : (s.clear k).drains = s.drains := rfl
@[simp] theorem State.clear_bolts (s : State) (k : Key) : (s.clear k).bolts = s.bolts := rfl
@[simp] theorem State.clear_ports (s : State) (k : Key) : (s.clear k).ports = s.ports := rfl
@[simp] theorem State.clear_tribs (s : State) (k : Key) : (s.clear k).tribs = s.tribs := rfl
@[simp] theorem State.clear_groups (s : State) (k : Key) : (s.clear k).groups = s.groups := rfl
@[simp] theorem State.clear_twLanes (s : State) (k : Key) : (s.clear k).twLanes = s.twLanes := rfl
@[simp] theorem State.clear_lanes (s : State) (k : Key) : (s.clear k).lanes = s.lanes := rfl
@[simp] theorem State.clear_alarm (s : State) (k : Key) : (s.clear k).alarm = s.alarm := rfl
@[simp] theorem State.clear_flue (s : State) (k : Key) : (s.clear k).flue = s.flue := rfl
@[simp] theorem State.clear_backup (s : State) (k : Key) : (s.clear k).backup = s.backup := rfl
@[simp] theorem State.clear_retort (s : State) (k : Key) : (s.clear k).retort = s.retort := rfl
@[simp] theorem State.clear_sm (s : State) (k : Key) : (s.clear k).sm = s.sm := rfl
@[simp] theorem State.clear_pair (s : State) (k : Key) : (s.clear k).pair = s.pair := rfl
@[simp] theorem State.clear_mesh (s : State) (k : Key) : (s.clear k).mesh = s.mesh := rfl
@[simp] theorem State.clear_trust (s : State) (k : Key) : (s.clear k).trust = s.trust := rfl
@[simp] theorem State.clear_i3c (s : State) (k : Key) : (s.clear k).i3c = s.i3c := rfl
@[simp] theorem State.clear_t1s (s : State) (k : Key) : (s.clear k).t1s = s.t1s := rfl
@[simp] theorem State.clear_bucket (s : State) (k : Key) : (s.clear k).bucket = s.bucket := rfl
@[simp] theorem State.clear_tracer (s : State) (k : Key) : (s.clear k).tracer = s.tracer := rfl
@[simp] theorem State.clear_hearthIn (s : State) (k : Key) : (s.clear k).hearthIn = s.hearthIn := rfl
@[simp] theorem State.clear_tjWarned (s : State) (k : Key) : (s.clear k).tjWarned = s.tjWarned := rfl
@[simp] theorem State.clear_free (s : State) (k : Key) : (s.clear k).free = s.free := rfl
@[simp] theorem State.clear_serial (s : State) (k : Key) : (s.clear k).serial = s.serial := rfl
@[simp] theorem State.clear_wire (s : State) (k : Key) : (s.clear k).wire = s.wire := rfl
@[simp] theorem State.clear_pending (s : State) (k : Key) : (s.clear k).pending = s.pending := rfl

/-! setPort writes ports and nothing else. -/

@[simp] theorem State.setPort_part (s : State) (p : Nat) (x : PortState) : (s.setPort p x).part = s.part := rfl
@[simp] theorem State.setPort_siliconStep (s : State) (p : Nat) (x : PortState) : (s.setPort p x).siliconStep = s.siliconStep := rfl
@[simp] theorem State.setPort_mainPower (s : State) (p : Nat) (x : PortState) : (s.setPort p x).mainPower = s.mainPower := rfl
@[simp] theorem State.setPort_powerGood (s : State) (p : Nat) (x : PortState) : (s.setPort p x).powerGood = s.powerGood := rfl
@[simp] theorem State.setPort_rstLow (s : State) (p : Nat) (x : PortState) : (s.setPort p x).rstLow = s.rstLow := rfl
@[simp] theorem State.setPort_phase (s : State) (p : Nat) (x : PortState) : (s.setPort p x).phase = s.phase := rfl
@[simp] theorem State.setPort_addrSel (s : State) (p : Nat) (x : PortState) : (s.setPort p x).addrSel = s.addrSel := rfl
@[simp] theorem State.setPort_pairId (s : State) (p : Nat) (x : PortState) : (s.setPort p x).pairId = s.pairId := rfl
@[simp] theorem State.setPort_objs (s : State) (p : Nat) (x : PortState) : (s.setPort p x).objs = s.objs := rfl
@[simp] theorem State.setPort_time (s : State) (p : Nat) (x : PortState) : (s.setPort p x).time = s.time := rfl
@[simp] theorem State.setPort_tsIn (s : State) (p : Nat) (x : PortState) : (s.setPort p x).tsIn = s.tsIn := rfl
@[simp] theorem State.setPort_otp (s : State) (p : Nat) (x : PortState) : (s.setPort p x).otp = s.otp := rfl
@[simp] theorem State.setPort_boot (s : State) (p : Nat) (x : PortState) : (s.setPort p x).boot = s.boot := rfl
@[simp] theorem State.setPort_hearth (s : State) (p : Nat) (x : PortState) : (s.setPort p x).hearth = s.hearth := rfl
@[simp] theorem State.setPort_sessions (s : State) (p : Nat) (x : PortState) : (s.setPort p x).sessions = s.sessions := rfl
@[simp] theorem State.setPort_arrivals (s : State) (p : Nat) (x : PortState) : (s.setPort p x).arrivals = s.arrivals := rfl
@[simp] theorem State.setPort_proposals (s : State) (p : Nat) (x : PortState) : (s.setPort p x).proposals = s.proposals := rfl
@[simp] theorem State.setPort_events (s : State) (p : Nat) (x : PortState) : (s.setPort p x).events = s.events := rfl
@[simp] theorem State.setPort_drains (s : State) (p : Nat) (x : PortState) : (s.setPort p x).drains = s.drains := rfl
@[simp] theorem State.setPort_bolts (s : State) (p : Nat) (x : PortState) : (s.setPort p x).bolts = s.bolts := rfl
@[simp] theorem State.setPort_ports (s : State) (p : Nat) (x : PortState) : (s.setPort p x).ports = s.ports.put p x := rfl
@[simp] theorem State.setPort_tribs (s : State) (p : Nat) (x : PortState) : (s.setPort p x).tribs = s.tribs := rfl
@[simp] theorem State.setPort_groups (s : State) (p : Nat) (x : PortState) : (s.setPort p x).groups = s.groups := rfl
@[simp] theorem State.setPort_twLanes (s : State) (p : Nat) (x : PortState) : (s.setPort p x).twLanes = s.twLanes := rfl
@[simp] theorem State.setPort_lanes (s : State) (p : Nat) (x : PortState) : (s.setPort p x).lanes = s.lanes := rfl
@[simp] theorem State.setPort_alarm (s : State) (p : Nat) (x : PortState) : (s.setPort p x).alarm = s.alarm := rfl
@[simp] theorem State.setPort_flue (s : State) (p : Nat) (x : PortState) : (s.setPort p x).flue = s.flue := rfl
@[simp] theorem State.setPort_backup (s : State) (p : Nat) (x : PortState) : (s.setPort p x).backup = s.backup := rfl
@[simp] theorem State.setPort_retort (s : State) (p : Nat) (x : PortState) : (s.setPort p x).retort = s.retort := rfl
@[simp] theorem State.setPort_sm (s : State) (p : Nat) (x : PortState) : (s.setPort p x).sm = s.sm := rfl
@[simp] theorem State.setPort_pair (s : State) (p : Nat) (x : PortState) : (s.setPort p x).pair = s.pair := rfl
@[simp] theorem State.setPort_mesh (s : State) (p : Nat) (x : PortState) : (s.setPort p x).mesh = s.mesh := rfl
@[simp] theorem State.setPort_trust (s : State) (p : Nat) (x : PortState) : (s.setPort p x).trust = s.trust := rfl
@[simp] theorem State.setPort_i3c (s : State) (p : Nat) (x : PortState) : (s.setPort p x).i3c = s.i3c := rfl
@[simp] theorem State.setPort_t1s (s : State) (p : Nat) (x : PortState) : (s.setPort p x).t1s = s.t1s := rfl
@[simp] theorem State.setPort_bucket (s : State) (p : Nat) (x : PortState) : (s.setPort p x).bucket = s.bucket := rfl
@[simp] theorem State.setPort_tracer (s : State) (p : Nat) (x : PortState) : (s.setPort p x).tracer = s.tracer := rfl
@[simp] theorem State.setPort_hearthIn (s : State) (p : Nat) (x : PortState) : (s.setPort p x).hearthIn = s.hearthIn := rfl
@[simp] theorem State.setPort_tjWarned (s : State) (p : Nat) (x : PortState) : (s.setPort p x).tjWarned = s.tjWarned := rfl
@[simp] theorem State.setPort_free (s : State) (p : Nat) (x : PortState) : (s.setPort p x).free = s.free := rfl
@[simp] theorem State.setPort_serial (s : State) (p : Nat) (x : PortState) : (s.setPort p x).serial = s.serial := rfl
@[simp] theorem State.setPort_wire (s : State) (p : Nat) (x : PortState) : (s.setPort p x).wire = s.wire := rfl
@[simp] theorem State.setPort_pending (s : State) (p : Nat) (x : PortState) : (s.setPort p x).pending = s.pending := rfl

/-! setBolt writes bolts and nothing else. -/

@[simp] theorem State.setBolt_part (s : State) (b : Nat) (x : BoltState) : (s.setBolt b x).part = s.part := rfl
@[simp] theorem State.setBolt_siliconStep (s : State) (b : Nat) (x : BoltState) : (s.setBolt b x).siliconStep = s.siliconStep := rfl
@[simp] theorem State.setBolt_mainPower (s : State) (b : Nat) (x : BoltState) : (s.setBolt b x).mainPower = s.mainPower := rfl
@[simp] theorem State.setBolt_powerGood (s : State) (b : Nat) (x : BoltState) : (s.setBolt b x).powerGood = s.powerGood := rfl
@[simp] theorem State.setBolt_rstLow (s : State) (b : Nat) (x : BoltState) : (s.setBolt b x).rstLow = s.rstLow := rfl
@[simp] theorem State.setBolt_phase (s : State) (b : Nat) (x : BoltState) : (s.setBolt b x).phase = s.phase := rfl
@[simp] theorem State.setBolt_addrSel (s : State) (b : Nat) (x : BoltState) : (s.setBolt b x).addrSel = s.addrSel := rfl
@[simp] theorem State.setBolt_pairId (s : State) (b : Nat) (x : BoltState) : (s.setBolt b x).pairId = s.pairId := rfl
@[simp] theorem State.setBolt_objs (s : State) (b : Nat) (x : BoltState) : (s.setBolt b x).objs = s.objs := rfl
@[simp] theorem State.setBolt_time (s : State) (b : Nat) (x : BoltState) : (s.setBolt b x).time = s.time := rfl
@[simp] theorem State.setBolt_tsIn (s : State) (b : Nat) (x : BoltState) : (s.setBolt b x).tsIn = s.tsIn := rfl
@[simp] theorem State.setBolt_otp (s : State) (b : Nat) (x : BoltState) : (s.setBolt b x).otp = s.otp := rfl
@[simp] theorem State.setBolt_boot (s : State) (b : Nat) (x : BoltState) : (s.setBolt b x).boot = s.boot := rfl
@[simp] theorem State.setBolt_hearth (s : State) (b : Nat) (x : BoltState) : (s.setBolt b x).hearth = s.hearth := rfl
@[simp] theorem State.setBolt_sessions (s : State) (b : Nat) (x : BoltState) : (s.setBolt b x).sessions = s.sessions := rfl
@[simp] theorem State.setBolt_arrivals (s : State) (b : Nat) (x : BoltState) : (s.setBolt b x).arrivals = s.arrivals := rfl
@[simp] theorem State.setBolt_proposals (s : State) (b : Nat) (x : BoltState) : (s.setBolt b x).proposals = s.proposals := rfl
@[simp] theorem State.setBolt_events (s : State) (b : Nat) (x : BoltState) : (s.setBolt b x).events = s.events := rfl
@[simp] theorem State.setBolt_drains (s : State) (b : Nat) (x : BoltState) : (s.setBolt b x).drains = s.drains := rfl
@[simp] theorem State.setBolt_bolts (s : State) (b : Nat) (x : BoltState) : (s.setBolt b x).bolts = s.bolts.put b x := rfl
@[simp] theorem State.setBolt_ports (s : State) (b : Nat) (x : BoltState) : (s.setBolt b x).ports = s.ports := rfl
@[simp] theorem State.setBolt_tribs (s : State) (b : Nat) (x : BoltState) : (s.setBolt b x).tribs = s.tribs := rfl
@[simp] theorem State.setBolt_groups (s : State) (b : Nat) (x : BoltState) : (s.setBolt b x).groups = s.groups := rfl
@[simp] theorem State.setBolt_twLanes (s : State) (b : Nat) (x : BoltState) : (s.setBolt b x).twLanes = s.twLanes := rfl
@[simp] theorem State.setBolt_lanes (s : State) (b : Nat) (x : BoltState) : (s.setBolt b x).lanes = s.lanes := rfl
@[simp] theorem State.setBolt_alarm (s : State) (b : Nat) (x : BoltState) : (s.setBolt b x).alarm = s.alarm := rfl
@[simp] theorem State.setBolt_flue (s : State) (b : Nat) (x : BoltState) : (s.setBolt b x).flue = s.flue := rfl
@[simp] theorem State.setBolt_backup (s : State) (b : Nat) (x : BoltState) : (s.setBolt b x).backup = s.backup := rfl
@[simp] theorem State.setBolt_retort (s : State) (b : Nat) (x : BoltState) : (s.setBolt b x).retort = s.retort := rfl
@[simp] theorem State.setBolt_sm (s : State) (b : Nat) (x : BoltState) : (s.setBolt b x).sm = s.sm := rfl
@[simp] theorem State.setBolt_pair (s : State) (b : Nat) (x : BoltState) : (s.setBolt b x).pair = s.pair := rfl
@[simp] theorem State.setBolt_mesh (s : State) (b : Nat) (x : BoltState) : (s.setBolt b x).mesh = s.mesh := rfl
@[simp] theorem State.setBolt_trust (s : State) (b : Nat) (x : BoltState) : (s.setBolt b x).trust = s.trust := rfl
@[simp] theorem State.setBolt_i3c (s : State) (b : Nat) (x : BoltState) : (s.setBolt b x).i3c = s.i3c := rfl
@[simp] theorem State.setBolt_t1s (s : State) (b : Nat) (x : BoltState) : (s.setBolt b x).t1s = s.t1s := rfl
@[simp] theorem State.setBolt_bucket (s : State) (b : Nat) (x : BoltState) : (s.setBolt b x).bucket = s.bucket := rfl
@[simp] theorem State.setBolt_tracer (s : State) (b : Nat) (x : BoltState) : (s.setBolt b x).tracer = s.tracer := rfl
@[simp] theorem State.setBolt_hearthIn (s : State) (b : Nat) (x : BoltState) : (s.setBolt b x).hearthIn = s.hearthIn := rfl
@[simp] theorem State.setBolt_tjWarned (s : State) (b : Nat) (x : BoltState) : (s.setBolt b x).tjWarned = s.tjWarned := rfl
@[simp] theorem State.setBolt_free (s : State) (b : Nat) (x : BoltState) : (s.setBolt b x).free = s.free := rfl
@[simp] theorem State.setBolt_serial (s : State) (b : Nat) (x : BoltState) : (s.setBolt b x).serial = s.serial := rfl
@[simp] theorem State.setBolt_wire (s : State) (b : Nat) (x : BoltState) : (s.setBolt b x).wire = s.wire := rfl
@[simp] theorem State.setBolt_pending (s : State) (b : Nat) (x : BoltState) : (s.setBolt b x).pending = s.pending := rfl

/-! setTrib writes tribs and nothing else. -/

@[simp] theorem State.setTrib_part (s : State) (p : Nat) (x : TribState) : (s.setTrib p x).part = s.part := rfl
@[simp] theorem State.setTrib_siliconStep (s : State) (p : Nat) (x : TribState) : (s.setTrib p x).siliconStep = s.siliconStep := rfl
@[simp] theorem State.setTrib_mainPower (s : State) (p : Nat) (x : TribState) : (s.setTrib p x).mainPower = s.mainPower := rfl
@[simp] theorem State.setTrib_powerGood (s : State) (p : Nat) (x : TribState) : (s.setTrib p x).powerGood = s.powerGood := rfl
@[simp] theorem State.setTrib_rstLow (s : State) (p : Nat) (x : TribState) : (s.setTrib p x).rstLow = s.rstLow := rfl
@[simp] theorem State.setTrib_phase (s : State) (p : Nat) (x : TribState) : (s.setTrib p x).phase = s.phase := rfl
@[simp] theorem State.setTrib_addrSel (s : State) (p : Nat) (x : TribState) : (s.setTrib p x).addrSel = s.addrSel := rfl
@[simp] theorem State.setTrib_pairId (s : State) (p : Nat) (x : TribState) : (s.setTrib p x).pairId = s.pairId := rfl
@[simp] theorem State.setTrib_objs (s : State) (p : Nat) (x : TribState) : (s.setTrib p x).objs = s.objs := rfl
@[simp] theorem State.setTrib_time (s : State) (p : Nat) (x : TribState) : (s.setTrib p x).time = s.time := rfl
@[simp] theorem State.setTrib_tsIn (s : State) (p : Nat) (x : TribState) : (s.setTrib p x).tsIn = s.tsIn := rfl
@[simp] theorem State.setTrib_otp (s : State) (p : Nat) (x : TribState) : (s.setTrib p x).otp = s.otp := rfl
@[simp] theorem State.setTrib_boot (s : State) (p : Nat) (x : TribState) : (s.setTrib p x).boot = s.boot := rfl
@[simp] theorem State.setTrib_hearth (s : State) (p : Nat) (x : TribState) : (s.setTrib p x).hearth = s.hearth := rfl
@[simp] theorem State.setTrib_sessions (s : State) (p : Nat) (x : TribState) : (s.setTrib p x).sessions = s.sessions := rfl
@[simp] theorem State.setTrib_arrivals (s : State) (p : Nat) (x : TribState) : (s.setTrib p x).arrivals = s.arrivals := rfl
@[simp] theorem State.setTrib_proposals (s : State) (p : Nat) (x : TribState) : (s.setTrib p x).proposals = s.proposals := rfl
@[simp] theorem State.setTrib_events (s : State) (p : Nat) (x : TribState) : (s.setTrib p x).events = s.events := rfl
@[simp] theorem State.setTrib_drains (s : State) (p : Nat) (x : TribState) : (s.setTrib p x).drains = s.drains := rfl
@[simp] theorem State.setTrib_bolts (s : State) (p : Nat) (x : TribState) : (s.setTrib p x).bolts = s.bolts := rfl
@[simp] theorem State.setTrib_ports (s : State) (p : Nat) (x : TribState) : (s.setTrib p x).ports = s.ports := rfl
@[simp] theorem State.setTrib_tribs (s : State) (p : Nat) (x : TribState) : (s.setTrib p x).tribs = s.tribs.put p x := rfl
@[simp] theorem State.setTrib_groups (s : State) (p : Nat) (x : TribState) : (s.setTrib p x).groups = s.groups := rfl
@[simp] theorem State.setTrib_twLanes (s : State) (p : Nat) (x : TribState) : (s.setTrib p x).twLanes = s.twLanes := rfl
@[simp] theorem State.setTrib_lanes (s : State) (p : Nat) (x : TribState) : (s.setTrib p x).lanes = s.lanes := rfl
@[simp] theorem State.setTrib_alarm (s : State) (p : Nat) (x : TribState) : (s.setTrib p x).alarm = s.alarm := rfl
@[simp] theorem State.setTrib_flue (s : State) (p : Nat) (x : TribState) : (s.setTrib p x).flue = s.flue := rfl
@[simp] theorem State.setTrib_backup (s : State) (p : Nat) (x : TribState) : (s.setTrib p x).backup = s.backup := rfl
@[simp] theorem State.setTrib_retort (s : State) (p : Nat) (x : TribState) : (s.setTrib p x).retort = s.retort := rfl
@[simp] theorem State.setTrib_sm (s : State) (p : Nat) (x : TribState) : (s.setTrib p x).sm = s.sm := rfl
@[simp] theorem State.setTrib_pair (s : State) (p : Nat) (x : TribState) : (s.setTrib p x).pair = s.pair := rfl
@[simp] theorem State.setTrib_mesh (s : State) (p : Nat) (x : TribState) : (s.setTrib p x).mesh = s.mesh := rfl
@[simp] theorem State.setTrib_trust (s : State) (p : Nat) (x : TribState) : (s.setTrib p x).trust = s.trust := rfl
@[simp] theorem State.setTrib_i3c (s : State) (p : Nat) (x : TribState) : (s.setTrib p x).i3c = s.i3c := rfl
@[simp] theorem State.setTrib_t1s (s : State) (p : Nat) (x : TribState) : (s.setTrib p x).t1s = s.t1s := rfl
@[simp] theorem State.setTrib_bucket (s : State) (p : Nat) (x : TribState) : (s.setTrib p x).bucket = s.bucket := rfl
@[simp] theorem State.setTrib_tracer (s : State) (p : Nat) (x : TribState) : (s.setTrib p x).tracer = s.tracer := rfl
@[simp] theorem State.setTrib_hearthIn (s : State) (p : Nat) (x : TribState) : (s.setTrib p x).hearthIn = s.hearthIn := rfl
@[simp] theorem State.setTrib_tjWarned (s : State) (p : Nat) (x : TribState) : (s.setTrib p x).tjWarned = s.tjWarned := rfl
@[simp] theorem State.setTrib_free (s : State) (p : Nat) (x : TribState) : (s.setTrib p x).free = s.free := rfl
@[simp] theorem State.setTrib_serial (s : State) (p : Nat) (x : TribState) : (s.setTrib p x).serial = s.serial := rfl
@[simp] theorem State.setTrib_wire (s : State) (p : Nat) (x : TribState) : (s.setTrib p x).wire = s.wire := rfl
@[simp] theorem State.setTrib_pending (s : State) (p : Nat) (x : TribState) : (s.setTrib p x).pending = s.pending := rfl

/-! setGrp writes groups and nothing else. -/

@[simp] theorem State.setGrp_part (s : State) (g : Nat) (x : GroupState) : (s.setGrp g x).part = s.part := rfl
@[simp] theorem State.setGrp_siliconStep (s : State) (g : Nat) (x : GroupState) : (s.setGrp g x).siliconStep = s.siliconStep := rfl
@[simp] theorem State.setGrp_mainPower (s : State) (g : Nat) (x : GroupState) : (s.setGrp g x).mainPower = s.mainPower := rfl
@[simp] theorem State.setGrp_powerGood (s : State) (g : Nat) (x : GroupState) : (s.setGrp g x).powerGood = s.powerGood := rfl
@[simp] theorem State.setGrp_rstLow (s : State) (g : Nat) (x : GroupState) : (s.setGrp g x).rstLow = s.rstLow := rfl
@[simp] theorem State.setGrp_phase (s : State) (g : Nat) (x : GroupState) : (s.setGrp g x).phase = s.phase := rfl
@[simp] theorem State.setGrp_addrSel (s : State) (g : Nat) (x : GroupState) : (s.setGrp g x).addrSel = s.addrSel := rfl
@[simp] theorem State.setGrp_pairId (s : State) (g : Nat) (x : GroupState) : (s.setGrp g x).pairId = s.pairId := rfl
@[simp] theorem State.setGrp_objs (s : State) (g : Nat) (x : GroupState) : (s.setGrp g x).objs = s.objs := rfl
@[simp] theorem State.setGrp_time (s : State) (g : Nat) (x : GroupState) : (s.setGrp g x).time = s.time := rfl
@[simp] theorem State.setGrp_tsIn (s : State) (g : Nat) (x : GroupState) : (s.setGrp g x).tsIn = s.tsIn := rfl
@[simp] theorem State.setGrp_otp (s : State) (g : Nat) (x : GroupState) : (s.setGrp g x).otp = s.otp := rfl
@[simp] theorem State.setGrp_boot (s : State) (g : Nat) (x : GroupState) : (s.setGrp g x).boot = s.boot := rfl
@[simp] theorem State.setGrp_hearth (s : State) (g : Nat) (x : GroupState) : (s.setGrp g x).hearth = s.hearth := rfl
@[simp] theorem State.setGrp_sessions (s : State) (g : Nat) (x : GroupState) : (s.setGrp g x).sessions = s.sessions := rfl
@[simp] theorem State.setGrp_arrivals (s : State) (g : Nat) (x : GroupState) : (s.setGrp g x).arrivals = s.arrivals := rfl
@[simp] theorem State.setGrp_proposals (s : State) (g : Nat) (x : GroupState) : (s.setGrp g x).proposals = s.proposals := rfl
@[simp] theorem State.setGrp_events (s : State) (g : Nat) (x : GroupState) : (s.setGrp g x).events = s.events := rfl
@[simp] theorem State.setGrp_drains (s : State) (g : Nat) (x : GroupState) : (s.setGrp g x).drains = s.drains := rfl
@[simp] theorem State.setGrp_bolts (s : State) (g : Nat) (x : GroupState) : (s.setGrp g x).bolts = s.bolts := rfl
@[simp] theorem State.setGrp_ports (s : State) (g : Nat) (x : GroupState) : (s.setGrp g x).ports = s.ports := rfl
@[simp] theorem State.setGrp_tribs (s : State) (g : Nat) (x : GroupState) : (s.setGrp g x).tribs = s.tribs := rfl
@[simp] theorem State.setGrp_groups (s : State) (g : Nat) (x : GroupState) : (s.setGrp g x).groups = s.groups.put g x := rfl
@[simp] theorem State.setGrp_twLanes (s : State) (g : Nat) (x : GroupState) : (s.setGrp g x).twLanes = s.twLanes := rfl
@[simp] theorem State.setGrp_lanes (s : State) (g : Nat) (x : GroupState) : (s.setGrp g x).lanes = s.lanes := rfl
@[simp] theorem State.setGrp_alarm (s : State) (g : Nat) (x : GroupState) : (s.setGrp g x).alarm = s.alarm := rfl
@[simp] theorem State.setGrp_flue (s : State) (g : Nat) (x : GroupState) : (s.setGrp g x).flue = s.flue := rfl
@[simp] theorem State.setGrp_backup (s : State) (g : Nat) (x : GroupState) : (s.setGrp g x).backup = s.backup := rfl
@[simp] theorem State.setGrp_retort (s : State) (g : Nat) (x : GroupState) : (s.setGrp g x).retort = s.retort := rfl
@[simp] theorem State.setGrp_sm (s : State) (g : Nat) (x : GroupState) : (s.setGrp g x).sm = s.sm := rfl
@[simp] theorem State.setGrp_pair (s : State) (g : Nat) (x : GroupState) : (s.setGrp g x).pair = s.pair := rfl
@[simp] theorem State.setGrp_mesh (s : State) (g : Nat) (x : GroupState) : (s.setGrp g x).mesh = s.mesh := rfl
@[simp] theorem State.setGrp_trust (s : State) (g : Nat) (x : GroupState) : (s.setGrp g x).trust = s.trust := rfl
@[simp] theorem State.setGrp_i3c (s : State) (g : Nat) (x : GroupState) : (s.setGrp g x).i3c = s.i3c := rfl
@[simp] theorem State.setGrp_t1s (s : State) (g : Nat) (x : GroupState) : (s.setGrp g x).t1s = s.t1s := rfl
@[simp] theorem State.setGrp_bucket (s : State) (g : Nat) (x : GroupState) : (s.setGrp g x).bucket = s.bucket := rfl
@[simp] theorem State.setGrp_tracer (s : State) (g : Nat) (x : GroupState) : (s.setGrp g x).tracer = s.tracer := rfl
@[simp] theorem State.setGrp_hearthIn (s : State) (g : Nat) (x : GroupState) : (s.setGrp g x).hearthIn = s.hearthIn := rfl
@[simp] theorem State.setGrp_tjWarned (s : State) (g : Nat) (x : GroupState) : (s.setGrp g x).tjWarned = s.tjWarned := rfl
@[simp] theorem State.setGrp_free (s : State) (g : Nat) (x : GroupState) : (s.setGrp g x).free = s.free := rfl
@[simp] theorem State.setGrp_serial (s : State) (g : Nat) (x : GroupState) : (s.setGrp g x).serial = s.serial := rfl
@[simp] theorem State.setGrp_wire (s : State) (g : Nat) (x : GroupState) : (s.setGrp g x).wire = s.wire := rfl
@[simp] theorem State.setGrp_pending (s : State) (g : Nat) (x : GroupState) : (s.setGrp g x).pending = s.pending := rfl

/-! setTwLane writes twLanes and nothing else. -/

@[simp] theorem State.setTwLane_part (s : State) (n : Nat) (x : TwLane) : (s.setTwLane n x).part = s.part := rfl
@[simp] theorem State.setTwLane_siliconStep (s : State) (n : Nat) (x : TwLane) : (s.setTwLane n x).siliconStep = s.siliconStep := rfl
@[simp] theorem State.setTwLane_mainPower (s : State) (n : Nat) (x : TwLane) : (s.setTwLane n x).mainPower = s.mainPower := rfl
@[simp] theorem State.setTwLane_powerGood (s : State) (n : Nat) (x : TwLane) : (s.setTwLane n x).powerGood = s.powerGood := rfl
@[simp] theorem State.setTwLane_rstLow (s : State) (n : Nat) (x : TwLane) : (s.setTwLane n x).rstLow = s.rstLow := rfl
@[simp] theorem State.setTwLane_phase (s : State) (n : Nat) (x : TwLane) : (s.setTwLane n x).phase = s.phase := rfl
@[simp] theorem State.setTwLane_addrSel (s : State) (n : Nat) (x : TwLane) : (s.setTwLane n x).addrSel = s.addrSel := rfl
@[simp] theorem State.setTwLane_pairId (s : State) (n : Nat) (x : TwLane) : (s.setTwLane n x).pairId = s.pairId := rfl
@[simp] theorem State.setTwLane_objs (s : State) (n : Nat) (x : TwLane) : (s.setTwLane n x).objs = s.objs := rfl
@[simp] theorem State.setTwLane_time (s : State) (n : Nat) (x : TwLane) : (s.setTwLane n x).time = s.time := rfl
@[simp] theorem State.setTwLane_tsIn (s : State) (n : Nat) (x : TwLane) : (s.setTwLane n x).tsIn = s.tsIn := rfl
@[simp] theorem State.setTwLane_otp (s : State) (n : Nat) (x : TwLane) : (s.setTwLane n x).otp = s.otp := rfl
@[simp] theorem State.setTwLane_boot (s : State) (n : Nat) (x : TwLane) : (s.setTwLane n x).boot = s.boot := rfl
@[simp] theorem State.setTwLane_hearth (s : State) (n : Nat) (x : TwLane) : (s.setTwLane n x).hearth = s.hearth := rfl
@[simp] theorem State.setTwLane_sessions (s : State) (n : Nat) (x : TwLane) : (s.setTwLane n x).sessions = s.sessions := rfl
@[simp] theorem State.setTwLane_arrivals (s : State) (n : Nat) (x : TwLane) : (s.setTwLane n x).arrivals = s.arrivals := rfl
@[simp] theorem State.setTwLane_proposals (s : State) (n : Nat) (x : TwLane) : (s.setTwLane n x).proposals = s.proposals := rfl
@[simp] theorem State.setTwLane_events (s : State) (n : Nat) (x : TwLane) : (s.setTwLane n x).events = s.events := rfl
@[simp] theorem State.setTwLane_drains (s : State) (n : Nat) (x : TwLane) : (s.setTwLane n x).drains = s.drains := rfl
@[simp] theorem State.setTwLane_bolts (s : State) (n : Nat) (x : TwLane) : (s.setTwLane n x).bolts = s.bolts := rfl
@[simp] theorem State.setTwLane_ports (s : State) (n : Nat) (x : TwLane) : (s.setTwLane n x).ports = s.ports := rfl
@[simp] theorem State.setTwLane_tribs (s : State) (n : Nat) (x : TwLane) : (s.setTwLane n x).tribs = s.tribs := rfl
@[simp] theorem State.setTwLane_groups (s : State) (n : Nat) (x : TwLane) : (s.setTwLane n x).groups = s.groups := rfl
@[simp] theorem State.setTwLane_twLanes (s : State) (n : Nat) (x : TwLane) : (s.setTwLane n x).twLanes = s.twLanes.put n x := rfl
@[simp] theorem State.setTwLane_lanes (s : State) (n : Nat) (x : TwLane) : (s.setTwLane n x).lanes = s.lanes := rfl
@[simp] theorem State.setTwLane_alarm (s : State) (n : Nat) (x : TwLane) : (s.setTwLane n x).alarm = s.alarm := rfl
@[simp] theorem State.setTwLane_flue (s : State) (n : Nat) (x : TwLane) : (s.setTwLane n x).flue = s.flue := rfl
@[simp] theorem State.setTwLane_backup (s : State) (n : Nat) (x : TwLane) : (s.setTwLane n x).backup = s.backup := rfl
@[simp] theorem State.setTwLane_retort (s : State) (n : Nat) (x : TwLane) : (s.setTwLane n x).retort = s.retort := rfl
@[simp] theorem State.setTwLane_sm (s : State) (n : Nat) (x : TwLane) : (s.setTwLane n x).sm = s.sm := rfl
@[simp] theorem State.setTwLane_pair (s : State) (n : Nat) (x : TwLane) : (s.setTwLane n x).pair = s.pair := rfl
@[simp] theorem State.setTwLane_mesh (s : State) (n : Nat) (x : TwLane) : (s.setTwLane n x).mesh = s.mesh := rfl
@[simp] theorem State.setTwLane_trust (s : State) (n : Nat) (x : TwLane) : (s.setTwLane n x).trust = s.trust := rfl
@[simp] theorem State.setTwLane_i3c (s : State) (n : Nat) (x : TwLane) : (s.setTwLane n x).i3c = s.i3c := rfl
@[simp] theorem State.setTwLane_t1s (s : State) (n : Nat) (x : TwLane) : (s.setTwLane n x).t1s = s.t1s := rfl
@[simp] theorem State.setTwLane_bucket (s : State) (n : Nat) (x : TwLane) : (s.setTwLane n x).bucket = s.bucket := rfl
@[simp] theorem State.setTwLane_tracer (s : State) (n : Nat) (x : TwLane) : (s.setTwLane n x).tracer = s.tracer := rfl
@[simp] theorem State.setTwLane_hearthIn (s : State) (n : Nat) (x : TwLane) : (s.setTwLane n x).hearthIn = s.hearthIn := rfl
@[simp] theorem State.setTwLane_tjWarned (s : State) (n : Nat) (x : TwLane) : (s.setTwLane n x).tjWarned = s.tjWarned := rfl
@[simp] theorem State.setTwLane_free (s : State) (n : Nat) (x : TwLane) : (s.setTwLane n x).free = s.free := rfl
@[simp] theorem State.setTwLane_serial (s : State) (n : Nat) (x : TwLane) : (s.setTwLane n x).serial = s.serial := rfl
@[simp] theorem State.setTwLane_wire (s : State) (n : Nat) (x : TwLane) : (s.setTwLane n x).wire = s.wire := rfl
@[simp] theorem State.setTwLane_pending (s : State) (n : Nat) (x : TwLane) : (s.setTwLane n x).pending = s.pending := rfl

/-! setLane writes lanes and nothing else. -/

@[simp] theorem State.setLane_part (s : State) (n : Nat) (x : LaneState) : (s.setLane n x).part = s.part := rfl
@[simp] theorem State.setLane_siliconStep (s : State) (n : Nat) (x : LaneState) : (s.setLane n x).siliconStep = s.siliconStep := rfl
@[simp] theorem State.setLane_mainPower (s : State) (n : Nat) (x : LaneState) : (s.setLane n x).mainPower = s.mainPower := rfl
@[simp] theorem State.setLane_powerGood (s : State) (n : Nat) (x : LaneState) : (s.setLane n x).powerGood = s.powerGood := rfl
@[simp] theorem State.setLane_rstLow (s : State) (n : Nat) (x : LaneState) : (s.setLane n x).rstLow = s.rstLow := rfl
@[simp] theorem State.setLane_phase (s : State) (n : Nat) (x : LaneState) : (s.setLane n x).phase = s.phase := rfl
@[simp] theorem State.setLane_addrSel (s : State) (n : Nat) (x : LaneState) : (s.setLane n x).addrSel = s.addrSel := rfl
@[simp] theorem State.setLane_pairId (s : State) (n : Nat) (x : LaneState) : (s.setLane n x).pairId = s.pairId := rfl
@[simp] theorem State.setLane_objs (s : State) (n : Nat) (x : LaneState) : (s.setLane n x).objs = s.objs := rfl
@[simp] theorem State.setLane_time (s : State) (n : Nat) (x : LaneState) : (s.setLane n x).time = s.time := rfl
@[simp] theorem State.setLane_tsIn (s : State) (n : Nat) (x : LaneState) : (s.setLane n x).tsIn = s.tsIn := rfl
@[simp] theorem State.setLane_otp (s : State) (n : Nat) (x : LaneState) : (s.setLane n x).otp = s.otp := rfl
@[simp] theorem State.setLane_boot (s : State) (n : Nat) (x : LaneState) : (s.setLane n x).boot = s.boot := rfl
@[simp] theorem State.setLane_hearth (s : State) (n : Nat) (x : LaneState) : (s.setLane n x).hearth = s.hearth := rfl
@[simp] theorem State.setLane_sessions (s : State) (n : Nat) (x : LaneState) : (s.setLane n x).sessions = s.sessions := rfl
@[simp] theorem State.setLane_arrivals (s : State) (n : Nat) (x : LaneState) : (s.setLane n x).arrivals = s.arrivals := rfl
@[simp] theorem State.setLane_proposals (s : State) (n : Nat) (x : LaneState) : (s.setLane n x).proposals = s.proposals := rfl
@[simp] theorem State.setLane_events (s : State) (n : Nat) (x : LaneState) : (s.setLane n x).events = s.events := rfl
@[simp] theorem State.setLane_drains (s : State) (n : Nat) (x : LaneState) : (s.setLane n x).drains = s.drains := rfl
@[simp] theorem State.setLane_bolts (s : State) (n : Nat) (x : LaneState) : (s.setLane n x).bolts = s.bolts := rfl
@[simp] theorem State.setLane_ports (s : State) (n : Nat) (x : LaneState) : (s.setLane n x).ports = s.ports := rfl
@[simp] theorem State.setLane_tribs (s : State) (n : Nat) (x : LaneState) : (s.setLane n x).tribs = s.tribs := rfl
@[simp] theorem State.setLane_groups (s : State) (n : Nat) (x : LaneState) : (s.setLane n x).groups = s.groups := rfl
@[simp] theorem State.setLane_twLanes (s : State) (n : Nat) (x : LaneState) : (s.setLane n x).twLanes = s.twLanes := rfl
@[simp] theorem State.setLane_lanes (s : State) (n : Nat) (x : LaneState) : (s.setLane n x).lanes = s.lanes.put n x := rfl
@[simp] theorem State.setLane_alarm (s : State) (n : Nat) (x : LaneState) : (s.setLane n x).alarm = s.alarm := rfl
@[simp] theorem State.setLane_flue (s : State) (n : Nat) (x : LaneState) : (s.setLane n x).flue = s.flue := rfl
@[simp] theorem State.setLane_backup (s : State) (n : Nat) (x : LaneState) : (s.setLane n x).backup = s.backup := rfl
@[simp] theorem State.setLane_retort (s : State) (n : Nat) (x : LaneState) : (s.setLane n x).retort = s.retort := rfl
@[simp] theorem State.setLane_sm (s : State) (n : Nat) (x : LaneState) : (s.setLane n x).sm = s.sm := rfl
@[simp] theorem State.setLane_pair (s : State) (n : Nat) (x : LaneState) : (s.setLane n x).pair = s.pair := rfl
@[simp] theorem State.setLane_mesh (s : State) (n : Nat) (x : LaneState) : (s.setLane n x).mesh = s.mesh := rfl
@[simp] theorem State.setLane_trust (s : State) (n : Nat) (x : LaneState) : (s.setLane n x).trust = s.trust := rfl
@[simp] theorem State.setLane_i3c (s : State) (n : Nat) (x : LaneState) : (s.setLane n x).i3c = s.i3c := rfl
@[simp] theorem State.setLane_t1s (s : State) (n : Nat) (x : LaneState) : (s.setLane n x).t1s = s.t1s := rfl
@[simp] theorem State.setLane_bucket (s : State) (n : Nat) (x : LaneState) : (s.setLane n x).bucket = s.bucket := rfl
@[simp] theorem State.setLane_tracer (s : State) (n : Nat) (x : LaneState) : (s.setLane n x).tracer = s.tracer := rfl
@[simp] theorem State.setLane_hearthIn (s : State) (n : Nat) (x : LaneState) : (s.setLane n x).hearthIn = s.hearthIn := rfl
@[simp] theorem State.setLane_tjWarned (s : State) (n : Nat) (x : LaneState) : (s.setLane n x).tjWarned = s.tjWarned := rfl
@[simp] theorem State.setLane_free (s : State) (n : Nat) (x : LaneState) : (s.setLane n x).free = s.free := rfl
@[simp] theorem State.setLane_serial (s : State) (n : Nat) (x : LaneState) : (s.setLane n x).serial = s.serial := rfl
@[simp] theorem State.setLane_wire (s : State) (n : Nat) (x : LaneState) : (s.setLane n x).wire = s.wire := rfl
@[simp] theorem State.setLane_pending (s : State) (n : Nat) (x : LaneState) : (s.setLane n x).pending = s.pending := rfl

/-! setSession writes sessions and nothing else. -/

@[simp] theorem State.setSession_part (s : State) (n : Nat) (x : Session) : (s.setSession n x).part = s.part := rfl
@[simp] theorem State.setSession_siliconStep (s : State) (n : Nat) (x : Session) : (s.setSession n x).siliconStep = s.siliconStep := rfl
@[simp] theorem State.setSession_mainPower (s : State) (n : Nat) (x : Session) : (s.setSession n x).mainPower = s.mainPower := rfl
@[simp] theorem State.setSession_powerGood (s : State) (n : Nat) (x : Session) : (s.setSession n x).powerGood = s.powerGood := rfl
@[simp] theorem State.setSession_rstLow (s : State) (n : Nat) (x : Session) : (s.setSession n x).rstLow = s.rstLow := rfl
@[simp] theorem State.setSession_phase (s : State) (n : Nat) (x : Session) : (s.setSession n x).phase = s.phase := rfl
@[simp] theorem State.setSession_addrSel (s : State) (n : Nat) (x : Session) : (s.setSession n x).addrSel = s.addrSel := rfl
@[simp] theorem State.setSession_pairId (s : State) (n : Nat) (x : Session) : (s.setSession n x).pairId = s.pairId := rfl
@[simp] theorem State.setSession_objs (s : State) (n : Nat) (x : Session) : (s.setSession n x).objs = s.objs := rfl
@[simp] theorem State.setSession_time (s : State) (n : Nat) (x : Session) : (s.setSession n x).time = s.time := rfl
@[simp] theorem State.setSession_tsIn (s : State) (n : Nat) (x : Session) : (s.setSession n x).tsIn = s.tsIn := rfl
@[simp] theorem State.setSession_otp (s : State) (n : Nat) (x : Session) : (s.setSession n x).otp = s.otp := rfl
@[simp] theorem State.setSession_boot (s : State) (n : Nat) (x : Session) : (s.setSession n x).boot = s.boot := rfl
@[simp] theorem State.setSession_hearth (s : State) (n : Nat) (x : Session) : (s.setSession n x).hearth = s.hearth := rfl
@[simp] theorem State.setSession_sessions (s : State) (n : Nat) (x : Session) : (s.setSession n x).sessions = s.sessions.put n x := rfl
@[simp] theorem State.setSession_arrivals (s : State) (n : Nat) (x : Session) : (s.setSession n x).arrivals = s.arrivals := rfl
@[simp] theorem State.setSession_proposals (s : State) (n : Nat) (x : Session) : (s.setSession n x).proposals = s.proposals := rfl
@[simp] theorem State.setSession_events (s : State) (n : Nat) (x : Session) : (s.setSession n x).events = s.events := rfl
@[simp] theorem State.setSession_drains (s : State) (n : Nat) (x : Session) : (s.setSession n x).drains = s.drains := rfl
@[simp] theorem State.setSession_bolts (s : State) (n : Nat) (x : Session) : (s.setSession n x).bolts = s.bolts := rfl
@[simp] theorem State.setSession_ports (s : State) (n : Nat) (x : Session) : (s.setSession n x).ports = s.ports := rfl
@[simp] theorem State.setSession_tribs (s : State) (n : Nat) (x : Session) : (s.setSession n x).tribs = s.tribs := rfl
@[simp] theorem State.setSession_groups (s : State) (n : Nat) (x : Session) : (s.setSession n x).groups = s.groups := rfl
@[simp] theorem State.setSession_twLanes (s : State) (n : Nat) (x : Session) : (s.setSession n x).twLanes = s.twLanes := rfl
@[simp] theorem State.setSession_lanes (s : State) (n : Nat) (x : Session) : (s.setSession n x).lanes = s.lanes := rfl
@[simp] theorem State.setSession_alarm (s : State) (n : Nat) (x : Session) : (s.setSession n x).alarm = s.alarm := rfl
@[simp] theorem State.setSession_flue (s : State) (n : Nat) (x : Session) : (s.setSession n x).flue = s.flue := rfl
@[simp] theorem State.setSession_backup (s : State) (n : Nat) (x : Session) : (s.setSession n x).backup = s.backup := rfl
@[simp] theorem State.setSession_retort (s : State) (n : Nat) (x : Session) : (s.setSession n x).retort = s.retort := rfl
@[simp] theorem State.setSession_sm (s : State) (n : Nat) (x : Session) : (s.setSession n x).sm = s.sm := rfl
@[simp] theorem State.setSession_pair (s : State) (n : Nat) (x : Session) : (s.setSession n x).pair = s.pair := rfl
@[simp] theorem State.setSession_mesh (s : State) (n : Nat) (x : Session) : (s.setSession n x).mesh = s.mesh := rfl
@[simp] theorem State.setSession_trust (s : State) (n : Nat) (x : Session) : (s.setSession n x).trust = s.trust := rfl
@[simp] theorem State.setSession_i3c (s : State) (n : Nat) (x : Session) : (s.setSession n x).i3c = s.i3c := rfl
@[simp] theorem State.setSession_t1s (s : State) (n : Nat) (x : Session) : (s.setSession n x).t1s = s.t1s := rfl
@[simp] theorem State.setSession_bucket (s : State) (n : Nat) (x : Session) : (s.setSession n x).bucket = s.bucket := rfl
@[simp] theorem State.setSession_tracer (s : State) (n : Nat) (x : Session) : (s.setSession n x).tracer = s.tracer := rfl
@[simp] theorem State.setSession_hearthIn (s : State) (n : Nat) (x : Session) : (s.setSession n x).hearthIn = s.hearthIn := rfl
@[simp] theorem State.setSession_tjWarned (s : State) (n : Nat) (x : Session) : (s.setSession n x).tjWarned = s.tjWarned := rfl
@[simp] theorem State.setSession_free (s : State) (n : Nat) (x : Session) : (s.setSession n x).free = s.free := rfl
@[simp] theorem State.setSession_serial (s : State) (n : Nat) (x : Session) : (s.setSession n x).serial = s.serial := rfl
@[simp] theorem State.setSession_wire (s : State) (n : Nat) (x : Session) : (s.setSession n x).wire = s.wire := rfl
@[simp] theorem State.setSession_pending (s : State) (n : Nat) (x : Session) : (s.setSession n x).pending = s.pending := rfl

/-! A draw counts the free values that were taken and nothing else. -/

@[simp] theorem State.draw_part (s : State) : s.draw.2.part = s.part := rfl
@[simp] theorem State.draw_siliconStep (s : State) : s.draw.2.siliconStep = s.siliconStep := rfl
@[simp] theorem State.draw_mainPower (s : State) : s.draw.2.mainPower = s.mainPower := rfl
@[simp] theorem State.draw_powerGood (s : State) : s.draw.2.powerGood = s.powerGood := rfl
@[simp] theorem State.draw_rstLow (s : State) : s.draw.2.rstLow = s.rstLow := rfl
@[simp] theorem State.draw_phase (s : State) : s.draw.2.phase = s.phase := rfl
@[simp] theorem State.draw_addrSel (s : State) : s.draw.2.addrSel = s.addrSel := rfl
@[simp] theorem State.draw_pairId (s : State) : s.draw.2.pairId = s.pairId := rfl
@[simp] theorem State.draw_objs (s : State) : s.draw.2.objs = s.objs := rfl
@[simp] theorem State.draw_time (s : State) : s.draw.2.time = s.time := rfl
@[simp] theorem State.draw_tsIn (s : State) : s.draw.2.tsIn = s.tsIn := rfl
@[simp] theorem State.draw_otp (s : State) : s.draw.2.otp = s.otp := rfl
@[simp] theorem State.draw_boot (s : State) : s.draw.2.boot = s.boot := rfl
@[simp] theorem State.draw_hearth (s : State) : s.draw.2.hearth = s.hearth := rfl
@[simp] theorem State.draw_sessions (s : State) : s.draw.2.sessions = s.sessions := rfl
@[simp] theorem State.draw_arrivals (s : State) : s.draw.2.arrivals = s.arrivals := rfl
@[simp] theorem State.draw_proposals (s : State) : s.draw.2.proposals = s.proposals := rfl
@[simp] theorem State.draw_events (s : State) : s.draw.2.events = s.events := rfl
@[simp] theorem State.draw_drains (s : State) : s.draw.2.drains = s.drains := rfl
@[simp] theorem State.draw_bolts (s : State) : s.draw.2.bolts = s.bolts := rfl
@[simp] theorem State.draw_ports (s : State) : s.draw.2.ports = s.ports := rfl
@[simp] theorem State.draw_tribs (s : State) : s.draw.2.tribs = s.tribs := rfl
@[simp] theorem State.draw_groups (s : State) : s.draw.2.groups = s.groups := rfl
@[simp] theorem State.draw_twLanes (s : State) : s.draw.2.twLanes = s.twLanes := rfl
@[simp] theorem State.draw_lanes (s : State) : s.draw.2.lanes = s.lanes := rfl
@[simp] theorem State.draw_alarm (s : State) : s.draw.2.alarm = s.alarm := rfl
@[simp] theorem State.draw_flue (s : State) : s.draw.2.flue = s.flue := rfl
@[simp] theorem State.draw_backup (s : State) : s.draw.2.backup = s.backup := rfl
@[simp] theorem State.draw_retort (s : State) : s.draw.2.retort = s.retort := rfl
@[simp] theorem State.draw_sm (s : State) : s.draw.2.sm = s.sm := rfl
@[simp] theorem State.draw_pair (s : State) : s.draw.2.pair = s.pair := rfl
@[simp] theorem State.draw_mesh (s : State) : s.draw.2.mesh = s.mesh := rfl
@[simp] theorem State.draw_trust (s : State) : s.draw.2.trust = s.trust := rfl
@[simp] theorem State.draw_i3c (s : State) : s.draw.2.i3c = s.i3c := rfl
@[simp] theorem State.draw_t1s (s : State) : s.draw.2.t1s = s.t1s := rfl
@[simp] theorem State.draw_bucket (s : State) : s.draw.2.bucket = s.bucket := rfl
@[simp] theorem State.draw_tracer (s : State) : s.draw.2.tracer = s.tracer := rfl
@[simp] theorem State.draw_hearthIn (s : State) : s.draw.2.hearthIn = s.hearthIn := rfl
@[simp] theorem State.draw_tjWarned (s : State) : s.draw.2.tjWarned = s.tjWarned := rfl
@[simp] theorem State.draw_free (s : State) : s.draw.2.free = s.free + 1 := rfl
@[simp] theorem State.draw_serial (s : State) : s.draw.2.serial = s.serial := rfl
@[simp] theorem State.draw_wire (s : State) : s.draw.2.wire = s.wire := rfl
@[simp] theorem State.draw_pending (s : State) : s.draw.2.pending = s.pending := rfl

/-! Reads after writes -/

theorem State.num_putN (s : State) (k : Key) (n : Nat) (x : Key) : (s.putN k n).num x = if k = x then n else s.num x := by
  unfold State.num State.putN
  rw [State.rd_put]
  by_cases h : k = x <;> simp only [h, if_true, if_false]

theorem State.oct_putO (s : State) (k : Key) (bs : Octets) (x : Key) :
    (s.putO k bs).oct x = if k = x then bs else s.oct x := by
  unfold State.oct State.putO
  rw [State.rd_put]
  by_cases h : k = x <;> simp only [h, if_true, if_false]

@[simp] theorem State.num_putN_same (s : State) (k : Key) (n : Nat) : (s.putN k n).num k = n := by
  rw [State.num_putN, if_pos rfl]

@[simp] theorem State.oct_putO_same (s : State) (k : Key) (bs : Octets) : (s.putO k bs).oct k = bs := by
  rw [State.oct_putO, if_pos rfl]

theorem State.num_putN_other (s : State) {k x : Key} (n : Nat) (h : k ≠ x) : (s.putN k n).num x = s.num x := by
  rw [State.num_putN, if_neg h]

theorem State.oct_putO_other (s : State) {k x : Key} (bs : Octets) (h : k ≠ x) : (s.putO k bs).oct x = s.oct x := by
  rw [State.oct_putO, if_neg h]

theorem State.rd_putN (s : State) (k : Key) (n : Nat) (x : Key) : (s.putN k n).rd x = if k = x then .num n else s.rd x :=
  State.rd_put s k (.num n) x

theorem State.rd_putO (s : State) (k : Key) (bs : Octets) (x : Key) : (s.putO k bs).rd x = if k = x then .oct bs else s.rd x :=
  State.rd_put s k (.oct bs) x

/-! A unit's own record after it was set -/

theorem State.port_setPort (s : State) (a : Nat) (x : PortState) (c : Nat) : (s.setPort a x).port c = if a = c then x else s.port c :=
  FMap.getD_put s.ports a x c {}

theorem State.bolt_setBolt (s : State) (a : Nat) (x : BoltState) (c : Nat) : (s.setBolt a x).bolt c = if a = c then x else s.bolt c :=
  FMap.getD_put s.bolts a x c {}

theorem State.trib_setTrib (s : State) (a : Nat) (x : TribState) (c : Nat) : (s.setTrib a x).trib c = if a = c then x else s.trib c :=
  FMap.getD_put s.tribs a x c {}

theorem State.grp_setGrp (s : State) (a : Nat) (x : GroupState) (c : Nat) : (s.setGrp a x).grp c = if a = c then x else s.grp c :=
  FMap.getD_put s.groups a x c {}

theorem State.twLane_setTwLane (s : State) (a : Nat) (x : TwLane) (c : Nat) : (s.setTwLane a x).twLane c = if a = c then x else s.twLane c :=
  FMap.getD_put s.twLanes a x c {}

theorem State.lane_setLane (s : State) (a : Nat) (x : LaneState) (c : Nat) : (s.setLane a x).lane c = if a = c then x else s.lane c :=
  FMap.getD_put s.lanes a x c {}

theorem State.session_setSession (s : State) (a : Nat) (x : Session) (c : Nat) : (s.setSession a x).session c = if a = c then x else s.session c :=
  FMap.getD_put s.sessions a x c {}

end Sys2Proof.Machine
end

