-- ==== Sys2Proof/Laws/Responses.lean ====
section
/-! SUPPORT. Laws/Responses.lean: what the time after a response can move (R582, R586), so that a host command's own effect is read
off its next state at once. -/

namespace Sys2Proof.Machine

/-- What storage holds that frames, the count of a request, a close that waited for its response, or the EtherType that waited
for it can move. -/
def responseKey (k : Key) : Bool :=
  trafficKey k || k == etypeNext || match k with
    | .ses _ _ => true
    | .cur _ _ _ => true
    | .dev a => decide (0x1110 ≤ a / 256 ∧ a / 256 ≤ 0x1118) || [0x110102, 0x170004, 0x170005, 0x170006].contains a
    | _ => false

/-- The part of the state beside storage that stays: all of `State.still` but Retort, the debug certificate and the boot store. -/
def State.calm (s : State) : State :=
  let u := s.still
  { u with retort := {}, trust := { u.trust with cert := none },
           boot := { u.boot with copy0 := State.reset.boot.copy0, copy1 := State.reset.boot.copy1, newest := 0 } }

/-- `t` is `s` after a response has been sent. -/
structure Rests (s t : State) : Prop where
  keys    : ∀ k, responseKey k = false → t.rd k = s.rd k
  calm    : t.calm = s.calm
  bolt    : ∀ b, (t.bolt b).moves = (s.bolt b).moves ∧ (t.bolt b).flapTold = (s.bolt b).flapTold
              ∧ (t.bolt b).flushes = (s.bolt b).flushes ∧ (t.bolt b).ageAt = (s.bolt b).ageAt
  trib    : ∀ p, { t.trib p with closed := [], building := [], marks := [] } = { s.trib p with closed := [], building := [], marks := [] }
  range   : ∀ r, (t.sm.getD r {}).draw = (s.sm.getD r {}).draw
  records : List.IsPrefix s.events.queue t.events.queue

theorem rests_same {s t : State} (hk : ∀ k, responseKey k = false → t.rd k = s.rd k) (hc : t.calm = s.calm) (hb : t.bolts = s.bolts)
    (ht : t.tribs = s.tribs) (hm : t.sm = s.sm) (he : t.events = s.events) : Rests s t where
  keys := hk
  calm := hc
  bolt b := by unfold State.bolt; rw [hb]; exact ⟨rfl, rfl, rfl, rfl⟩
  trib p := by unfold State.trib; rw [ht]
  range r := by rw [hm]
  records := by rw [he]

theorem Rests.refl (s : State) : Rests s s := rests_same (fun _ _ => rfl) rfl rfl rfl rfl rfl

theorem Rests.trans {r s t : State} (h : Rests r s) (k : Rests s t) : Rests r t where
  keys x hx := (k.keys x hx).trans (h.keys x hx)
  calm := k.calm.trans h.calm
  bolt b := ⟨(k.bolt b).1.trans (h.bolt b).1, (k.bolt b).2.1.trans (h.bolt b).2.1, (k.bolt b).2.2.1.trans (h.bolt b).2.2.1,
    (k.bolt b).2.2.2.trans (h.bolt b).2.2.2⟩
  trib p := (k.trib p).trans (h.trib p)
  range x := (k.range x).trans (h.range x)
  records := h.records.trans k.records

theorem responseKey_traffic {k : Key} (h : responseKey k = false) : trafficKey k = false := by
  unfold responseKey at h
  simp only [Bool.or_eq_false_iff] at h
  exact h.1.1

theorem Follows.rests {s t : State} (h : Follows s t) : Rests s t where
  keys k hk := h.keys k (responseKey_traffic hk)
  calm := by unfold State.calm; rw [h.still]
  bolt := h.bolt
  trib := h.trib
  range := h.range
  records := h.records

theorem State.raise_rests (s : State) (c o d : Nat) : Rests s (s.raise c o d) := (State.raise_follows (Follows.refl s) c o d).rests

theorem State.put_rests {r s : State} (h : Rests r s) {k : Key} (v : Val) (hk : responseKey k = true) : Rests r (s.put k v) :=
  h.trans (rests_same (fun x hx => by rw [State.rd_put, if_neg (fun e => by rw [← e, hk] at hx; exact absurd hx (by decide))]) rfl rfl rfl rfl rfl)

theorem State.clear_rests {r s : State} (h : Rests r s) {k : Key} (hk : responseKey k = true) : Rests r (s.clear k) :=
  h.trans (rests_same (fun x hx => by rw [State.rd_clear, if_neg (fun e => by rw [← e, hk] at hx; exact absurd hx (by decide))]) rfl rfl rfl rfl rfl)

theorem State.count_rests {r s : State} (h : Rests r s) {k : Key} (hk : responseKey k = true) : Rests r (s.count k) :=
  State.put_rests h _ hk

theorem State.record_rests {r s : State} (h : Rests r s) : Rests r s.record := by
  unfold State.record
  refine h.trans ?_
  dsimp only
  split <;> exact rests_same (fun _ _ => rfl) rfl rfl rfl rfl rfl

theorem State.clearWhere_rests {r s : State} (h : Rests r s) {p : Key → Bool} (hp : ∀ k, p k = true → responseKey k = true) :
    Rests r (s.clearWhere p) :=
  h.trans (rests_same (fun x hx => by
    rw [State.rd_clearWhere, if_neg (fun e => by rw [hp x e] at hx; exact absurd hx (by decide))]) rfl rfl rfl rfl rfl)

theorem rests_ite {r a b : State} {c : Prop} {_ : Decidable c} (ha : Rests r a) (hb : Rests r b) : Rests r (if c then a else b) := by
  split <;> assumption

theorem State.raise_rests' {r s : State} (h : Rests r s) (c o d : Nat) : Rests r (s.raise c o d) := h.trans (State.raise_rests s c o d)

theorem State.certEnd_rests {r s : State} (h : Rests r s) (reason : Nat) : Rests r (s.certEnd reason) := by
  unfold State.certEnd
  split
  · exact h
  · refine State.raise_rests' ?_ _ _ _
    exact h.trans (rests_same (fun _ _ => rfl) rfl rfl rfl rfl rfl)

theorem retort_response : responseKey Reg.rtJobs = true ∧ responseKey Reg.rtAborts = true ∧ responseKey Reg.rtFaults = true := by decide

theorem State.jobDone_rests {r s : State} (h : Rests r s) (j : Job) (st : Nat) (a b : Octets) : Rests r (s.jobDone j st a b) := by
  unfold State.jobDone
  extract_lets u v
  have hv : Rests r v := by
    have h0 : Rests r (s.count Reg.rtJobs) := State.count_rests h retort_response.1
    exact rests_ite (State.count_rests h0 retort_response.2.1) (rests_ite (State.count_rests h0 retort_response.2.2) h0)
  split
  · next n _ =>
    have hw : Rests r ((v.putN (Reg.jobState n) 4).putN (Reg.jobStatus n) st) := State.put_rests (State.put_rests hv _ rfl) _ rfl
    exact State.raise_rests' (rests_ite (State.put_rests (State.put_rests hw _ rfl) _ rfl)
      (State.clear_rests (State.clear_rests hw rfl) rfl)) _ _ _
  · exact State.raise_rests' hv _ _ _
  · exact hv

theorem State.jobAbort_rests {r s : State} (h : Rests r s) (n : Nat) : Rests r (s.jobAbort n) := by
  unfold State.jobAbort
  split
  · refine State.jobDone_rests ?_ _ _ _ _
    exact h.trans (rests_same (fun _ _ => rfl) rfl rfl rfl rfl rfl)
  · split
    · refine rests_ite ?_ h
      unfold State.jobStop
      split
      · exact h
      · dsimp only
        split
        · refine State.put_rests ?_ _ rfl
          exact h.trans (rests_same (fun _ _ => rfl) rfl rfl rfl rfl rfl)
        · exact h.trans (rests_same (fun _ _ => rfl) rfl rfl rfl rfl rfl)
    · exact h

theorem session_response {n a : Nat} (hn : n < 9) (h : a / 256 = 0x1110 + n) : responseKey (.dev a) = true := by
  simp only [responseKey, Bool.or_eq_true, decide_eq_true_eq]
  exact .inr (.inl (by omega))

theorem State.freeSession_rests {r s : State} (h : Rests r s) {n : Nat} (hn : n < 9) : Rests r (s.freeSession n) := by
  unfold State.freeSession
  extract_lets u v w
  have hu : Rests r u := (State.jobAbort_rests h n).trans (rests_same (fun _ _ => rfl) rfl rfl rfl rfl rfl)
  have hv : Rests r v := by
    unfold v
    split
    · exact rests_ite (State.certEnd_rests hu _) hu
    · exact hu
  have hw : Rests r w := by
    refine State.clearWhere_rests hv (fun k hk => ?_)
    split at hk
    · rfl
    · rfl
    · exact session_response hn (by simpa using hk)
    · exact absurd hk (by decide)
  exact hw.trans (rests_same (fun _ _ => rfl) rfl rfl rfl rfl rfl)

theorem State.closeSession_rests {r s : State} (h : Rests r s) {n : Nat} (hn : n < 9) (reason : Nat) (own : Bool) :
    Rests r (s.closeSession n reason own) := by
  unfold State.closeSession
  extract_lets st u
  have hu : Rests r u := by
    unfold u
    exact rests_ite (h.trans (State.sendSecured_follows (Follows.refl s) n 6 []).rests) h
  exact rests_ite h (rests_ite (State.freeSession_rests h hn) (State.raise_rests' (State.freeSession_rests hu hn) _ _ _))

theorem State.closeMarked_rests {r s : State} (h : Rests r s) : Rests r s.closeMarked := by
  have key : ∀ (l : List Nat) (_ : ∀ n ∈ l, n < 9) {s : State}, Rests r s → Rests r (forEach l (fun s n =>
      match (s.session n).closing with
      | some reason => s.closeSession n reason true
      | none => s) s) := by
    intro l
    induction l with
    | nil => intro _ s h; exact h
    | cons x l ih =>
      intro hl s h
      refine ih (fun n hn => hl n (List.mem_cons_of_mem _ hn)) ?_
      dsimp only
      split
      · exact State.closeSession_rests h (hl x List.mem_cons_self) _ _
      · exact h
  exact key _ (fun n hn => List.mem_range.mp hn) h

theorem State.saveN_rests {r s : State} (h : Rests r s) {k : Key} (n : Nat) (hk : responseKey k = true) : Rests r (s.saveN k n) := by
  unfold State.saveN State.save
  dsimp only
  split
  · exact State.record_rests (State.put_rests h _ hk)
  · exact State.put_rests h _ hk

/-- All that the time after a response can do. -/
theorem State.afterResponse_rests (s : State) : Rests s s.afterResponse := by
  unfold State.afterResponse
  dsimp only
  exact State.closeMarked_rests (rests_ite (Rests.refl s) (State.saveN_rests (State.clear_rests (Rests.refl s) (by decide)) _ (by decide)))

theorem answered_rests {n : Nat} (hn : n < 9) (r : Eff) : Rests r.1 (answered n r) := by
  unfold answered
  dsimp only
  split
  · exact rests_same (fun _ _ => rfl) rfl rfl rfl rfl rfl
  · refine State.count_rests ?_ (session_response (a := (0x1110 + n) * 256 + 7) hn (by omega))
    exact rests_same (fun _ _ => rfl) rfl rfl rfl rfl rfl

/-- A host command that completes with `r` answers a next state that is r's but for what a response can move. -/
theorem Answers.rests {c : Instr} {s : State} {n : Nat} {r : Eff} (h : Answers c s n r) (hn : n < 9) :
    ∃ t, exec c s = .next t ∧ Rests r.1 t := by
  obtain ⟨t, e, f⟩ := h
  exact ⟨t, e, ((answered_rests hn r).trans (State.afterResponse_rests _)).trans f.rests⟩

/-! What stays readable: the keys that neither frames nor responses move -/

theorem Follows.num {s t : State} (h : Follows s t) {k : Key} (hk : trafficKey k = false) : t.num k = s.num k :=
  by unfold State.num; rw [h.keys k hk]

theorem Follows.oct {s t : State} (h : Follows s t) {k : Key} (hk : trafficKey k = false) : t.oct k = s.oct k :=
  by unfold State.oct; rw [h.keys k hk]

theorem Rests.num {s t : State} (h : Rests s t) {k : Key} (hk : responseKey k = false) : t.num k = s.num k :=
  by unfold State.num; rw [h.keys k hk]

theorem Rests.oct {s t : State} (h : Rests s t) {k : Key} (hk : responseKey k = false) : t.oct k = s.oct k :=
  by unfold State.oct; rw [h.keys k hk]

theorem dev_still {a : Nat} (h1 : a < 0x200000) (h2 : a < 0x181000 ∨ 0x181800 ≤ a)
    (h3 : a ∉ [0x110108, 0x140005, 0x151105, 0x152205, 0x162101, 0x162103, 0x162104, 0x162105, 0x180005]) : trafficKey (.dev a) = false := by
  simp only [trafficKey, Bool.or_eq_false_iff, Bool.and_eq_false_iff, decide_eq_false_iff_not, List.contains_eq_mem]
  refine ⟨⟨⟨.inl (by omega), .inl (by omega)⟩, by omega⟩, h3⟩

theorem port_still {p k sub : Nat} (hk : k < 4) (hs : sub < 256) (h : portTraffic k sub = false) :
    trafficKey (.dev ((0x3000 + 4 * p + k) * 256 + sub)) = false := by
  have e1 : ((0x3000 + 4 * p + k) * 256 + sub) / 256 % 4 = k := by omega
  have e2 : ((0x3000 + 4 * p + k) * 256 + sub) % 256 = sub := by omega
  simp only [trafficKey, e1, e2, h, Bool.and_false, Bool.false_or, Bool.or_eq_false_iff, Bool.and_eq_false_iff, decide_eq_false_iff_not,
    List.contains_eq_mem]
  exact ⟨⟨.inl (by omega), by omega⟩, by simp only [List.mem_cons, List.not_mem_nil, or_false]; omega⟩

theorem bolt_still {b off sub : Nat} (hb : b < 16) (ho : off < 256) (hs : sub < 256) (h : boltTraffic off sub = false) :
    trafficKey (.dev ((0x2000 + 0x100 * b + off) * 256 + sub)) = false := by
  have e1 : ((0x2000 + 0x100 * b + off) * 256 + sub) / 256 % 256 = off := by omega
  have e2 : ((0x2000 + 0x100 * b + off) * 256 + sub) % 256 = sub := by omega
  simp only [trafficKey, e1, e2, h, Bool.and_false, Bool.or_false, Bool.or_eq_false_iff, Bool.and_eq_false_iff, decide_eq_false_iff_not,
    List.contains_eq_mem]
  exact ⟨⟨.inl (by omega), by omega⟩, by simp only [List.mem_cons, List.not_mem_nil, or_false]; omega⟩

theorem dev_rests {a : Nat} (h : trafficKey (.dev a) = false) (h1 : a < 0x110102 ∨ 0x170007 ≤ a ∨ (0x111900 ≤ a ∧ a < 0x170004) ∨ (0x110103 ≤ a ∧ a < 0x111000)) :
    responseKey (.dev a) = false := by
  simp only [responseKey, h, Bool.false_or, Bool.or_eq_false_iff, decide_eq_false_iff_not, List.contains_eq_mem]
  refine ⟨by simp [etypeNext], by omega, by simp only [List.mem_cons, List.not_mem_nil, or_false]; omega⟩

/-- An item sent to the partner changes no object. -/
theorem State.mirror_rd (s : State) (it : MirrorItem) (k : Key) : (s.mirror it).rd k = s.rd k := by
  unfold State.mirror State.update
  split
  · split <;> rfl
  · rfl

theorem State.num_mirror (s : State) (it : MirrorItem) (k : Key) : (s.mirror it).num k = s.num k := by
  unfold State.num; rw [State.mirror_rd]

theorem State.tribs_mirror (s : State) (it : MirrorItem) : (s.mirror it).tribs = s.tribs := by
  unfold State.mirror State.update
  split
  · split <;> rfl
  · rfl

/-- Recording the retained values changes no object. -/
theorem State.num_saveN (s : State) (k : Key) (n : Nat) (x : Key) : (s.saveN k n).num x = if k = x then n else s.num x := by
  have h : ∀ u : State, u.record.num x = u.num x := fun u => by
    have r : u.record.rd x = u.rd x := by
      unfold State.record
      dsimp only
      split <;> rfl
    unfold State.num; rw [r]
  have e : (s.put k (.num n)).num x = if k = x then n else s.num x := State.num_putN s k n x
  unfold State.saveN State.save
  dsimp only
  split
  · rw [h, e]
  · exact e

end Sys2Proof.Machine
end

