-- ==== Sys2Proof/WellFormed.lean ====
section
/-! DEFINITION. WellFormed.lean: which operands of a command name something that can exist on the largest part: sessions
0 to 8 (R114), ports 0 to 1,023, bolts 0 to 7, lanes (R457), 24-bit addresses and words (R100, R554), table windows
(R115). The meanings run on every operand; these checks only say which terms stand for a real command. -/

namespace Sys2Proof

def sessOk (n : Nat) : Bool := decide (n ≤ 8)
def portOk (p : Nat) : Bool := decide (p < 1024)
def boltOk (b : Nat) : Bool := decide (b < 8)
def laneOk (n : Nat) : Bool := decide (n < 130)
def lineOk (n : Nat) : Bool := decide (n < 64)
def groupOk (g : Nat) : Bool := decide (g < 8)
def kindOk (k : Nat) : Bool := decide (k < 5)
def addrOk (a : Nat) : Bool := decide (a < 16777216)
def winOk (w : Nat) : Bool := decide (0x4000 ≤ w) && decide (w ≤ 0x4800) && w % 256 == 0
def wordsOk (ws : List Nat) : Bool := decide (ws.length ≤ 1103) && ws.all (fun w => decide (w < 16777216))
def frameOk (bs : Octets) : Bool := decide (bs.length ≤ 65535)
def viaOk : Via → Bool
  | .t1s mac => decide (mac < 281474976710656)
  | .inband p mac _ _ => portOk p && decide (mac < 281474976710656)
  | .mesh p mac src => portOk p && decide (mac < 281474976710656) && decide (src < 65536)
def fnOk : Fn → Bool
  | .port p => portOk p
  | .sched p => portOk p
  | .bank b k => boltOk b && decide (k < 2)
  | .lane n => laneOk n
  | .range r => decide (r < 8)
  | .group b g => boltOk b && groupOk g
  | .gate p => portOk p
  | .stream n => decide (n < 4096)

/-- Whether a command's operands can stand for something real. -/
def Instr.wellFormed : Instr → Bool
  | .powerGoodFall => true
  | .rstNAssert => true
  | .internalResetEnd _ => true
  | .hearthBankedInStep => true
  | .mainPowerLost => true
  | .mainPowerReturned _ _ _ => true
  | .vbatCollapse => true
  | .bkComparatorTrip _ => true
  | .bkClear sess _ => sessOk sess
  | .flueDetectorFire kind _ => kindOk kind
  | .flueLoneRecognised kind => kindOk kind
  | .almAck sess _ => sessOk sess
  | .almHoldClear sess _ => sessOk sess
  | .tjSample _ => true
  | .watchdogExpiry => true
  | .hearthMemoryError => true
  | .hearthCmd sess _ => sessOk sess
  | .switchOverComplete => true
  | .kindlingRestartComplete => true
  | .objectWrite sess addr words _ => sessOk sess && addrOk addr && wordsOk words
  | .select sess win _ => sessOk sess && winOk win
  | .opRead sess win => sessOk sess && winOk win
  | .opCommit sess win _ => sessOk sess && winOk win
  | .opCommitIfUnchanged sess win _ => sessOk sess && winOk win
  | .opDelete sess win => sessOk sess && winOk win
  | .opNext sess win => sessOk sess && winOk win
  | .opClear sess win => sessOk sess && winOk win
  | .fnStop sess addr => sessOk sess && addrOk addr
  | .fnStart sess addr => sessOk sess && addrOk addr
  | .fnDrainComplete f => fnOk f
  | .fnDrainLimit f => fnOk f
  | .fnStartComplete f => fnOk f
  | .evtPop sess _ => sessOk sess
  | .dcNonceRead sess => sessOk sess
  | .pActionSubmit sess => sessOk sess
  | .pActionApprove sess => sessOk sess
  | .pActionCancel sess => sessOk sess
  | .dcWindowExpiry _ => true
  | .clearFrameReceived p rx => portOk p && frameOk rx.bytes
  | .lineFrameReceived p rx => portOk p && frameOk rx.bytes
  | .keystreamMissFilled b _ => boltOk b
  | .pauseRepeat p _ => portOk p
  | .peerPauseExpiry p _ => portOk p
  | .beatParityError _ => true
  | .sectorTransformDone b _ => boltOk b
  | .frameDue p => portOk p
  | .frameSelected p => portOk p
  | .classCUnderrun p => portOk p
  | .frameTxEnd p _ => portOk p
  | .gateEdge p => portOk p
  | .gateTakeover p => portOk p
  | .stationLearn b => boltOk b
  | .ageSweepTick b => boltOk b
  | .stnFlush sess b _ => sessOk sess && boltOk b
  | .stnFlushComplete b => boltOk b
  | .policyActive sess b _ => sessOk sess && boltOk b
  | .cmLevel sess b _ => sessOk sess && boltOk b
  | .pnWarn sess b _ _ => sessOk sess && boltOk b
  | .twPanelLimit sess b _ => sessOk sess && boltOk b
  | .txSaAn sess p _ _ => sessOk sess && portOk p
  | .txAn sess p _ => sessOk sess && portOk p
  | .saRetired _ => true
  | .legacyGo sess _ => sessOk sess
  | .wrap sess _ => sessOk sess
  | .twArmFlip sess p => sessOk sess && portOk p
  | .twArmCancel sess p => sessOk sess && portOk p
  | .twMultiframeBoundary b g => boltOk b && groupOk g
  | .twTxPhaseRelease p => portOk p
  | .twPanelSent p => portOk p
  | .twOverheadReceived ll _ => lineOk ll
  | .twPanelReceived p _ => portOk p
  | .twillDefectTimer ll _ => lineOk ll
  | .tgAcqHoldExpiry b g => boltOk b && groupOk g
  | .tgForceAcq sess _ => sessOk sess
  | .deviceSecondBoundary _ => true
  | .timeSet sess words => sessOk sess && wordsOk words
  | .timeAdj sess _ => sessOk sess
  | .timeFreq sess _ => sessOk sess
  | .ppsRise => true
  | .ppsFall => true
  | .tsInEdge _ _ _ => true
  | .tsiPop sess _ _ => sessOk sess
  | .tcErrMax sess p _ => sessOk sess && portOk p
  | .tjPeak sess _ => sessOk sess
  | .laneSignalDetected n => laneOk n
  | .laneSignalLost n => laneOk n
  | .laneLocked n _ _ _ => laneOk n
  | .laneAcqTimeout n => laneOk n
  | .laneLockLost n => laneOk n
  | .laneSleep sess n => sessOk sess && laneOk n
  | .laneWake sess n => sessOk sess && laneOk n
  | .laneWakeTxActive n => laneOk n
  | .laneWakeTimeout n => laneOk n
  | .lnFfe sess n _ => sessOk sess && laneOk n
  | .lnCtle sess n _ => sessOk sess && laneOk n
  | .refFaultDeclared b _ => boltOk b
  | .refFaultCleared b => boltOk b
  | .portKind sess p _ => sessOk sess && portOk p
  | .ctStart sess p _ => sessOk sess && portOk p
  | .xoffXonThreshold sess p _ _ => sessOk sess && portOk p
  | .qIdleSlope sess _ => sessOk sess
  | .mgmtIn sess p _ => sessOk sess && portOk p
  | .t1sEnable sess _ => sessOk sess
  | .silsyEtype sess _ => sessOk sess
  | .i3cPrivateWrite w => frameOk w.bytes
  | .i3cPrivateRead _ => true
  | .ibiAccepted => true
  | .entdaa _ => true
  | .setdasa _ _ => true
  | .rstdaa => true
  | .enec _ => true
  | .disec _ => true
  | .setmwl _ => true
  | .setmrl _ => true
  | .getmwl => true
  | .getmrl => true
  | .getpid => true
  | .getbcr => true
  | .getdcr => true
  | .getstatus => true
  | .getmxds => true
  | .getcaps => true
  | .enthdr0 => true
  | .unsupportedCcc _ _ => true
  | .t1sFrameReceived fr _ => frameOk fr
  | .t1sBackoffExpiry _ => true
  | .inbandSilsyReceived p fr _ => portOk p && frameOk fr
  | .hello via _ => viaOk via
  | .helloReplySent s => sessOk s
  | .auth s via _ => sessOk s && viaOk via
  | .authOkSent s => sessOk s
  | .authTimeout s => sessOk s
  | .dataFrameReceived s via fr => sessOk s && viaOk via && frameOk fr
  | .closeReceived s via fr => sessOk s && viaOk via && frameOk fr
  | .plainReceived s via _ msg => sessOk s && viaOk via && frameOk msg
  | .sessionIdleExpiry s => sessOk s
  | .sessClose sess s _ => sessOk sess && sessOk s
  | .meshFrameReceived p _ fr => portOk p && frameOk fr
  | .meshHostFrame via fr => viaOk via && frameOk fr
  | .meshHelloSend => true
  | .meshNeighbourDead _ => true
  | .meshKeyLoad sess _ => sessOk sess
  | .meshAdvance sess _ => sessOk sess
  | .meshId sess _ => sessOk sess
  | .jobGoSubmit sess => sessOk sess
  | .jobGoAbort sess => sessOk sess
  | .jobStart => true
  | .jobComplete _ => true
  | .jobAbortErased => true
  | .lcRequestTestLocked sess => sessOk sess
  | .lcRequestTestOpen sess => sessOk sess
  | .lcRequestFactory sess => sessOk sess
  | .lcRequestIssued sess => sessOk sess
  | .lcRequestService sess => sessOk sess
  | .lcRequestReturn sess => sessOk sess
  | .lcRequestEnd sess => sessOk sess
  | .lcResumeBurn sess _ => sessOk sess
  | .idcInstall sess _ => sessOk sess
  | .stmtGo sess _ => sessOk sess
  | .dbgNonceRead sess => sessOk sess
  | .dbgCmdAccept sess => sessOk sess
  | .dbgCmdEnd sess => sessOk sess
  | .dbgCertExpiry => true
  | .dbgDataRead sess => sessOk sess
  | .dbgHearthHalt sess => sessOk sess
  | .dbgHearthResume sess => sessOk sess
  | .credEnrolDirect sess _ _ => sessOk sess
  | .fwChunk sess _ => sessOk sess
  | .fwVerify sess _ => sessOk sess
  | .fwLoadBanked sess => sessOk sess
  | .fwSwitch sess => sessOk sess
  | .fwLoadOther sess => sessOk sess
  | .fwRevert sess => sessOk sess
  | .fwCommit sess => sessOk sess
  | .fwAbandon sess => sessOk sess
  | .fwErase sess => sessOk sess
  | .smChEnable sess _ _ => sessOk sess
  | .smChannelTrained _ _ => true
  | .smAccDataWrite sess _ _ => sessOk sess
  | .smAccDataRead sess _ => sessOk sess
  | .pcSel sess b _ _ => sessOk sess && boltOk b
  | .pcClear sess b _ => sessOk sess && boltOk b
  | .pcValRead sess b _ => sessOk sess && boltOk b
  | .pairJoinSet sess => sessOk sess
  | .pairJoinClear sess => sessOk sess
  | .pairCmdTake sess => sessOk sess
  | .pairCmdGive sess => sessOk sess
  | .mirrorLinkAttempt _ => true
  | .mirrorLinkUp _ => true
  | .heartbeatSend => true
  | .heartbeatReceived _ => true
  | .heartbeatLoss => true
  | .witnessClaimDone _ => true
  | .mirrorUpdateReceived _ => true
  | .resyncComplete => true
  | .counterReport => true
  | .pairHoldoffExpiry => true
  | .pairWatchTimeout b => boltOk b
  | .pcsAlignmentChange p _ _ => portOk p
  | .linkFaultOrderedSets p _ => portOk p
  | .patternCheckerSync n _ _ _ => laneOk n
  | .flueDetectorRelease kind _ => kindOk kind
  | .bkComparatorRelease _ => true
  | .slewComplete => true
  | .rtcSecondTick => true
  | .generatorReseedRetry b _ _ => boltOk b
  | .t1sCollision => true
  | .plainReplyDelayExpiry => true
  | .takeoverComplete => true

end Sys2Proof
end

