-- ==== Sys2Proof/Tests/Slice0.lean ====
section
/-! SUPPORT. Tests/Slice0.lean: small tests of the model, and for each statement with hypotheses a state that meets them. -/

namespace Sys2Proof.Machine

set_option Elab.async false

/-- The device of State.reset once Hearth answers. -/
abbrev ready : State := { State.reset with phase := .ready, powerGood := true }

/-- That device with session 8 open under a credential that holds every role. -/
abbrev netUp : State :=
  ((ready.putN (Reg.sessState 8) 2).putN (Reg.sessCred 8) 0).put (Reg.credEnrol 0) (.oct (List.replicate 2000 0xFF#8))

/-- A device in SERVICE whose session 8 has staged a proposal of RETURN. -/
abbrev submitting : State :=
  let s : State := { netUp with otp := { Otp.delivered with codeword := BitVec.ofNat 32 (lcCodeword 5) }, trust := { dcNonces := [0] } }
  (s.putN (Reg.pTarget 8) 0x130001).put (Reg.pValue 8) (.oct [0, 0, 6])

/-- That device with such a proposal outstanding, of credential 1. -/
abbrev approving : State := { submitting with proposals := [(0, ⟨0x130001, [0, 0, 6], 1, [], 0, 10, false⟩)] }

/-- A clear port, RUNNING with its link up. -/
abbrev clearUp : State := (((ready.putN (Reg.pPortKind 0) 1).setFn (.port 0) 2).putN (Reg.pLinkUp 0) 1)

/-- A line port that owns its lanes, RUNNING with its link up. -/
abbrev lineUp : State := ((((ready.putN (Reg.pPortKind 0) 3).putN (Reg.pParent 0) 0xFFFF).setFn (.port 0) 2).putN (Reg.pLinkUp 0) 1)

/-- A frame with nothing known of it yet, of port 0. -/
abbrev plainFrame : Frame :=
  { id := 0, b := 0, pipe := .d, inPort := 0, outPort := 0, queue := 0, cls := 0, bytes := List.replicate 64 0x02#8, bad := false,
    poison := false, rxTs := 0, due := none, late := false, sa := none, pn := 0, inLen := 64, line := 68, prio := 0, iface := none,
    stage := .waitSector, stream := some 0, sector := some 0, sci := [], vid := 0, tc := none, bypass := false, started := false, ct := 63, replayed := false,
    opened := none, missed := false, pin := false, blocks := 0, behind := false, grown := 0, early := false, trace := none }

/-- A device with the sector engine and one frame in front of it. -/
abbrev sectorHead : State := let s : State := (({ ready with part := .nz6412 } : State).putN (.row 0x4700 0 2) 1).setFn (.stream 0) 2; s.setPipe 0 .d { s.pipe 0 .d with after := [plainFrame] }

/-- A tributary RUNNING in a RUNNING group, delineated. -/
abbrev tribUp : State :=
  let s := (ready.putN (Reg.pPortKind 0) 4).putN (Reg.pParent 0) 0
  ((s.setFn (.port 0) 2).setFn (s.tribFn 0) 2).putN (Reg.pTribDelineated 0) 1

/-- That tributary with the 20 slots of line lane 0. -/
abbrev tribSlotted : State := ((List.range 20).foldl (fun s k => s.putN (Reg.calTrib (8 + k)) 0) tribUp).setTrib 0 { rxAt := some 0 }

/-- A panel of that tributary: four codewords with no symbol set, the first with `levels` instead. -/
abbrev rxOfZeros (levels : List Nat) : PanelRx := ⟨[⟨0, 1, 1, ⟨0, levels⟩, 0⟩, ⟨0, 1, 21, ⟨0, []⟩, 0⟩, ⟨0, 1, 41, ⟨0, []⟩, 0⟩, ⟨0, 1, 61, ⟨0, []⟩, 0⟩], false⟩

/-- The levels of a word with the roots 2^0 to 2^28 of the code's polynomial and not 2^29. -/
abbrev lostLevels : List Nat := ((List.range 29).foldl (fun a j => symTimes a [symPow 2 j, 1]) [1]).reverse.flatMap symbolLevels

/-- A link that sends a frame of a class. -/
abbrev sending (cls : Nat) : State := lineUp.setPort 0 { sending := some ⟨0, { plainFrame with cls := cls }, 4, 4⟩ }

/-- A line port whose association number 1 is bound to an installed transmit row. -/
abbrev boundUp : State :=
  (((((lineUp.putN (portKey 0 3 0x12) 5).putN (.row 0x4000 5 2) 1).putN (Reg.saPort 5) 0).putN (Reg.saSuite 5) 0).put (Reg.saSci 5) (.oct [1])).put (Reg.pTxSci 0) (.oct [1])

/-- A tributary whose other transmit phase has an installed row. -/
abbrev armable : State := (tribUp.putN (portKey 0 3 0x21) 5).putN (.row 0x4000 5 2) 1

/-- Session 8 with a key to wrap staged for slot 0. -/
abbrev wrapping : State :=
  let s : State := { netUp with otp := { Otp.delivered with marker0 := 0xA5#8 } }
  (((s.moveCursor 8 0x4800 0).putN (stage 8 0x4800 0x13) 1).put (stage 8 0x4800 0x11) (.oct (List.replicate 16 1#8))).putN (stage 8 0x4800 0x12) 0xFF

/-- A device in SERVICE with the legacy load enabled and row 0 awaiting its key. -/
abbrev legacyReady : State :=
  let s : State := { netUp with otp := { Otp.delivered with codeword := BitVec.ofNat 32 (lcCodeword 5) } }
  ((((s.putN Reg.legacyEnable 1).putN Reg.legacySa 0).putN (.row 0x4000 0 2) 7).putN (Reg.saSuite 0) 0).put (Reg.legacyKey 8) (.oct (List.replicate 16 1#8))

/-- Lane 0 in a state of R470. -/
abbrev lane0 (st : Nat) : State := ready.putN (Reg.lnState 0) st

/-- A RUNNING Twill group of line lane 0. -/
abbrev groupUp : State := (ready.putN (Reg.tgLanes 0) 1).setFn (.group 0 0) 2

/-- That group at the end of its hold in ACQUIRE. -/
abbrev acquiring : State := { ((groupUp.putN (Reg.tgRegime 0) 1).putN (Reg.tgForceAcq 0) 0).putN (.row 0x4400 0 0x14) 1 with time := { elapsed := 1000000000 } }

/-- A tributary that may send under an installed Twill row. -/
abbrev tribSendsUp : State := ((tribUp.putN (portKey 0 3 0x20) 5).putN (.row 0x4000 5 2) 1).putN (Reg.saSuite 5) 8

/-- A target that holds a dynamic address. -/
abbrev i3cUp : State := ready.putN Reg.i3cDynAddr 8

/-- A device with its field network enabled. -/
abbrev overT1s (s : State) : State := s.putN Reg.t1sEnable 1

/-- A device with its identity and a viewer enrolled in slot 0. -/
abbrev identified : State := { ready.put (Reg.credEnrol 0) (.oct (List.replicate 2000 0xFF#8)) with otp := { Otp.delivered with marker0 := 0xA5#8 }, hearth := { idKeys := true } }

/-- Session 1 of the field network with the host 5. -/
abbrev peered (st : Nat) (x : Session) : State :=
  (((ready.putN (Reg.sessState 1) st).put (Reg.sessPeer 1) (.oct (natToBytes 6 5))).putN (Reg.sessPort 1) 0xFFFF).setSession 1 x

/-- A handshake of session 1 under way. -/
abbrev shaking (sent : Option Nat) (sig : Option (Octets × Octets)) : State :=
  peered 1 { via := some (.t1s 5), hs := some ⟨0, [], [], [], sent, sig⟩ }

/-- Session 1 open under a key of zeros, and the first frame of a kind in it. -/
abbrev openUp : State := peered 2 { via := some (.t1s 5), keyIn := List.replicate 32 0 }
abbrev sealedFrame (kind : Nat) : Octets :=
  let h := silsyHeader kind 1 0 1
  let ct := gcmCrypt (List.replicate 32 0) 1 [7]
  h ++ ct ++ gcmTag (List.replicate 32 0) 1 h ct

/-- A wrapped key of the mesh, and the key that it is wrapped under in a device whose Ember is zeros. -/
abbrev meshBlob : Octets := natToBytes 72 0x4D534B4F01FF00000002000000000000DA5630FFB8FE0DD2989B02DBDFD38C6A5BA955017FE38841A39A3D646D4F0E791E51EC3FCD4E1CA7A2891526CC52D24B2E18622F0C8EC1A7
abbrev meshKek : Octets := natToBytes 32 0x5E5D7744B9A74663A42E20D315333596E750504BB0053FAA0499E74BEC22D339

/-- A device that can derive keys, with that wrapped key in staging slot 0. -/
abbrev meshKeyed : State :=
  let s : State := { netUp with otp := { Otp.delivered with marker0 := 0xA5#8 } }
  s.put (Reg.blob 0) (.oct meshBlob)

theorem mesh_pass_1 : unwrapPass (roundKeys (nats meshKek)) 15732816223143857618 36 [3321512679399408039, 11711915562334605899, 2184787053022944423, 11788802476135616121, 6604903793444489281, 10996386058531474538] =
    (251243573657620455, [1697894342708429717, 6685637899821505749, 10980568030400700222, 5956625985248970282, 9678018798983253318, 5144011891570704765]) := by decide +kernel

theorem mesh_pass_2 : unwrapPass (roundKeys (nats meshKek)) 251243573657620455 30 [1697894342708429717, 6685637899821505749, 10980568030400700222, 5956625985248970282, 9678018798983253318, 5144011891570704765] =
    (5191257893206611400, [6249439922623677567, 12326932094069246973, 14199059766816141474, 8520627631645063792, 10786907533209314102, 11915555083624670944]) := by decide +kernel

theorem mesh_pass_3 : unwrapPass (roundKeys (nats meshKek)) 5191257893206611400 24 [6249439922623677567, 12326932094069246973, 14199059766816141474, 8520627631645063792, 10786907533209314102, 11915555083624670944] =
    (3183964441330674172, [11275791353674485374, 16147976267212611970, 8533717622702177920, 9910611741559452988, 13451997941422061200, 18206062978835824815]) := by decide +kernel

theorem mesh_pass_4 : unwrapPass (roundKeys (nats meshKek)) 3183964441330674172 18 [11275791353674485374, 16147976267212611970, 8533717622702177920, 9910611741559452988, 13451997941422061200, 18206062978835824815] =
    (12958485612628009648, [13824293415094061019, 17981068623152757570, 12466558221037047224, 4601338377935882153, 15676144648774048307, 6056208089860331532]) := by decide +kernel

theorem mesh_pass_5 : unwrapPass (roundKeys (nats meshKek)) 12958485612628009648 12 [13824293415094061019, 17981068623152757570, 12466558221037047224, 4601338377935882153, 15676144648774048307, 6056208089860331532] =
    (12827080135126572523, [398755788900393604, 3332784506573477574, 18060030253875720346, 6877329662391965412, 3204872655813736610, 8157550277946077632]) := by decide +kernel

theorem mesh_pass_6 : unwrapPass (roundKeys (nats meshKek)) 12827080135126572523 6 [398755788900393604, 3332784506573477574, 18060030253875720346, 6877329662391965412, 3204872655813736610, 8157550277946077632] =
    (11986710452722729008, [72340172838076673, 72340172838076673, 72340172838076673, 72340172838076673, 562949953421312, 5571879966695424000]) := by decide +kernel

theorem mesh_blob_blocks : bytesToNat ((meshBlob.drop 16).take 8) = 15732816223143857618 ∧ (semiblocks 6 ((meshBlob.drop 16).drop 8)).reverse = [3321512679399408039, 11711915562334605899, 2184787053022944423, 11788802476135616121, 6604903793444489281, 10996386058531474538] := by decide +kernel

theorem mesh_kek : meshKeyed.kek 0xFF 0 = meshKek := by decide +kernel

theorem mesh_unwrap_passes (ct : Octets) (h1 : ct.length / 8 - 1 = 6) (h2 : bytesToNat (ct.take 8) = 15732816223143857618)
    (h3 : (semiblocks 6 (ct.drop 8)).reverse = [3321512679399408039, 11711915562334605899, 2184787053022944423, 11788802476135616121, 6604903793444489281, 10996386058531474538]) :
    kwpUnwrap meshKek ct = (if 11986710452722729008 = 0xA65959A6 * 2 ^ 32 + 8 * 6
      then some (([72340172838076673, 72340172838076673, 72340172838076673, 72340172838076673, 562949953421312, 5571879966695424000] : List Nat).reverse.flatMap (natToBytes 8))
      else none) := by
  have p1 := mesh_pass_1
  have p2 := mesh_pass_2
  have p3 := mesh_pass_3
  have p4 := mesh_pass_4
  have p5 := mesh_pass_5
  have p6 := mesh_pass_6
  unfold kwpUnwrap
  generalize roundKeys (nats meshKek) = rks at p1 p2 p3 p4 p5 p6 ⊢
  simp only [h1, h2, h3, unwrapPasses, p1, p2, p3, p4, p5, p6, List.length_cons, List.length_nil, Nat.reduceAdd, Nat.reduceMul, Nat.reduceSub]

theorem mesh_key_unwraps : kwpUnwrap meshKek (meshBlob.drop 16) = some (meshBlob.take 16 ++ List.replicate 32 1#8) :=
  (mesh_unwrap_passes _ (by decide +kernel) mesh_blob_blocks.1 mesh_blob_blocks.2).trans (by decide +kernel)

theorem mesh_key_opens {t : State} (k : t.kek 0xFF 0 = meshKek) (r : t.kduReady = true) :
    t.unwrapBlob meshBlob 0xFF 0 = .ok (2, 0, 0, List.replicate 32 1#8) := by
  have h1 : blobWellFormed meshBlob = true := by decide +kernel
  have h2 : (meshBlob.getD 5 0).toNat = 0xFF := by decide +kernel
  have h3 : bytesToNat ((meshBlob.drop 6).take 3) = 0 := by decide +kernel
  unfold State.unwrapBlob
  rw [if_neg (by simp [h1]), if_neg (by simp only [h2, ne_eq, not_true, not_false_eq_true]), if_neg (by simp only [h3, ne_eq, not_true, not_false_eq_true]), if_neg (by simp [r]), k, mesh_key_unwraps]
  decide +kernel

/-- A device in the life-cycle state of a code. -/
abbrev lcState (st : Nat) : State := { ready with otp := { Otp.delivered with codeword := BitVec.ofNat 32 (lcCodeword st) } }

/-- A device whose staged certificate names it. -/
abbrev installing : State :=
  let s : State := { netUp with otp := { Otp.delivered with marker0 := 0xA5#8 }, hearth := { idKeys := true } }
  s.put Reg.idcInfo (.oct (ascii "NZ-IDC01" ++ s.deviceId ++ natToBytes 8 s.otp.dieId.toNat ++ List.replicate 19 0))

/-- A device in FACTORY with a debug nonce given and a certificate for it staged on session 0. -/
abbrev certified : State :=
  let s : State := { lcState 3 with trust := { dbgNonce := some (List.replicate 16 0, 0) } }
  s.put (Reg.dbgBody 0) (.oct (ascii "NZ-DBG01" ++ s.deviceId ++ List.replicate 28 0 ++ [0, 0, 1] ++ List.replicate 14 0))

/-- A device between two steps of an update, its new image verified. -/
abbrev fwAt (st : Nat) : State := (ready.putN Reg.fwStep st).setImageSlot ready.newSlot { state := 2 }

/-- A side-memory range RUNNING, of 1 MiB. -/
abbrev rangeUp : State := ((((ready.putN (Reg.smAccRange 0) 0).putN (Reg.rngUse 0) 1).setFn (.range 0) 2).putN (Reg.rngSize 0) 1).putN (Reg.smAccOff 0) 0

/-- A joined device of a pair in a role, its mirror link up. -/
abbrev pairUp (role : Nat) : State := ((ready.putN Reg.pairJoin 1).putN Reg.pairRole role).putN Reg.pairLink 2

/-! An ill-formed term for each check of WellFormed.lean, which the check refuses; at the bound before it, it holds. -/

theorem test_ill_session : (Instr.evtPop 9 0).wellFormed = false ∧ (Instr.evtPop 8 0).wellFormed = true := by decide
theorem test_ill_port : (Instr.gateEdge 1024).wellFormed = false ∧ (Instr.gateEdge 1023).wellFormed = true := by decide
theorem test_ill_bolt : (Instr.ageSweepTick 8).wellFormed = false ∧ (Instr.ageSweepTick 7).wellFormed = true := by decide
theorem test_ill_lane : (Instr.laneSignalLost 130).wellFormed = false ∧ (Instr.laneSignalLost 129).wellFormed = true := by decide
theorem test_ill_line : (Instr.twillDefectTimer 64 0).wellFormed = false ∧ (Instr.twillDefectTimer 63 0).wellFormed = true := by decide
theorem test_ill_group : (Instr.tgAcqHoldExpiry 0 8).wellFormed = false ∧ (Instr.tgAcqHoldExpiry 7 7).wellFormed = true := by decide
theorem test_ill_kind : (Instr.flueLoneRecognised 5).wellFormed = false ∧ (Instr.flueLoneRecognised 4).wellFormed = true := by decide
theorem test_ill_address :
    (Instr.fnStop 8 0x1000000).wellFormed = false ∧ (Instr.fnStop 8 0xFFFFFF).wellFormed = true := by decide
theorem test_ill_window : (Instr.opRead 8 0x4001).wellFormed = false ∧ (Instr.opRead 8 0x4900).wellFormed = false
    ∧ (Instr.opRead 8 0x3F00).wellFormed = false ∧ (Instr.opRead 8 0x4800).wellFormed = true := by decide
theorem test_ill_words : (Instr.timeSet 8 [0x1000000]).wellFormed = false
    ∧ (Instr.timeSet 8 [0xFFFFFF]).wellFormed = true := by decide
theorem test_ill_words_many : wordsOk (List.replicate 1104 0) = false ∧ wordsOk (List.replicate 1103 0) = true := by decide +kernel
theorem test_ill_frame : frameOk (List.replicate 65536 0) = false ∧ frameOk (List.replicate 65535 0) = true := by
  unfold frameOk; rw [List.length_replicate, List.length_replicate]; decide
theorem test_ill_via : viaOk (.t1s 0x1000000000000) = false ∧ viaOk (.t1s 0xFFFFFFFFFFFF) = true
    ∧ viaOk (.inband 1024 0 none false) = false ∧ viaOk (.mesh 0 0 0x10000) = false ∧ viaOk (.mesh 1023 0 0xFFFF) = true := by decide
theorem test_ill_function : fnOk (.bank 0 2) = false ∧ fnOk (.range 8) = false ∧ fnOk (.stream 4096) = false
    ∧ fnOk (.group 8 0) = false ∧ fnOk (.bank 7 1) = true ∧ fnOk (.range 7) = true ∧ fnOk (.stream 4095) = true := by decide

/-! No word spells a command: the table gives its rows no bits. -/

theorem test_no_word (nbits w : Nat) : decodeTableWord nbits w = none := by rfl
theorem test_fetch_word (s : State) (nbits w : Nat) : s.withFetchWord nbits w = s := by rfl

/-! The worked example of 00_scope.md: a host meets an NZ3206, whose bolt B4 is absent. -/

/-- A started NZ3206. -/
abbrev millNode : State := { State.reset with phase := .ready, powerGood := true, part := .nz3206 }

theorem test_presence_map : millNode.part.presence = 0x0F3DC0 := by decide
theorem test_absent_port : firstAbort (millNode.admission 0 0x396001 true 1) = some 0x100001
    ∧ firstAbort (millNode.admission 0 0x240001 false 0) = some 0x100001
    ∧ firstAbort (millNode.admission 0 0x100004 false 0) = none := by decide +kernel

/-! The values of R592's table. -/

theorem test_codewords : [0x0, 0x1F, 0x3FF, 0x7FFF, 0xFFFFF, 0x1FFFFFF, 0xFFFFFFFF, 0x3].map lcOfCodeword
    = [0, 1, 3, 4, 5, 6, 7, 15] := by decide

/-! Identity-key regeneration at a start (R644): an ML-DSA FAULT after the ED job's one. -/

theorem test_identity_faults : identityFaulted ⟨0, 0, [], true, true, 2, 1⟩ = [0x0A, 0x04] := by decide
theorem test_identity_fault_counted :
    (({ State.reset with otp := { State.reset.otp with marker0 := 0xA5#8 } } : State).identityJobs ⟨0, 0, [], true, true, 1, 0⟩).num Reg.rtJobs = 3 := by
  decide +kernel

/-! The hypotheses of the statements can be met -/

theorem witness_ActiveBankCannotStop_1 : ∃ (s : State) (n a b k : Nat), (isFnCtrl a = true) ∧ (Serves s n a 1) ∧ (s.fnAt n a = .ok (.bank b k)) ∧ (s.num (Reg.bPolicyActive b) = k) :=
  ⟨ready, 0, 0x201001, 0, 0, by decide +kernel⟩

theorem witness_TjWarnRange_1 : ∃ (s : State) (n v pad : Nat), (v < 2 ^ 24) ∧ (i24 v < -400 ∨ 1600 < i24 v) ∧ (s.answers n = true) ∧ (firstAbort (s.admission n 0x100403 true v ++ [none]) = none) :=
  ⟨ready, 0, 1601, 0, by decide +kernel⟩

theorem witness_OperationsNeedARow_1 : ∃ (s : State) (n w : Nat), (Serves s n (winAddr w 5) 1) ∧ (s.cursor n w = 0xFFFFFF) :=
  ⟨ready, 0, 0x4200, by decide +kernel⟩

theorem witness_OperationsNeedARow_2 : ∃ (s : State) (n w : Nat) (bad : Option Nat), (Serves s n (winAddr w 5) 2) ∧ (s.cursor n w = 0xFFFFFF) :=
  ⟨ready.putN (.cur 0 0x4200 1) 1, 0, 0x4200, none, by decide +kernel⟩

theorem witness_OperationsNeedARow_3 : ∃ (s : State) (n w : Nat) (bad : Option Nat), (Serves s n (winAddr w 5) 3) ∧ (s.cursor n w = 0xFFFFFF) :=
  ⟨ready, 0, 0x4200, none, by decide +kernel⟩

theorem witness_OperationsNeedARow_4 : ∃ (s : State) (n w : Nat), (Serves s n (winAddr w 5) 4) ∧ (s.cursor n w = 0xFFFFFF) :=
  ⟨ready, 0, 0x4200, by decide +kernel⟩

theorem witness_WindowCommandsComplete_1 : ∃ (s : State) (n w r : Nat), (Serves s n (winAddr w 1) r) ∧ (s.rowExists w r = true) ∧ (s.tribRow w r = false) :=
  ⟨ready, 0, 0x4500, 1, by decide +kernel⟩

theorem witness_WindowCommandsComplete_2 : ∃ (s : State) (n w : Nat), (Serves s n (winAddr w 5) 1) ∧ (s.cursor n w ≠ 0xFFFFFF) ∧ (s.tribRow w (s.cursor n w) = false) :=
  ⟨ready.moveCursor 0 0x4500 1, 0, 0x4500, by decide +kernel⟩

theorem witness_WindowCommandsComplete_3 : ∃ (s : State) (n w : Nat), (Serves s n (winAddr w 5) 5) :=
  ⟨ready, 0, 0x4200, by decide +kernel⟩

theorem witness_WindowCommandsComplete_4 : ∃ (s : State) (n w : Nat), (Serves s n (winAddr w 5) 6) :=
  ⟨ready, 0, 0x4200, by decide +kernel⟩

theorem witness_WindowCommandsComplete_5 : ∃ (s : State) (n w : Nat) (bad : Option Nat), (Serves s n (winAddr w 5) 2) ∧ (s.cursor n w ≠ 0xFFFFFF) ∧ (s.num (.cur n w 0) ≠ 1) ∧ (s.tribRow w (s.cursor n w) = false) ∧ ((s.commitRow n w (s.cursor n w) bad).2 = .ok) :=
  ⟨ready.moveCursor 0 0x4500 1, 0, 0x4500, none, by decide +kernel⟩

theorem witness_WindowCommandsComplete_6 : ∃ (s : State) (n w : Nat) (bad : Option Nat), (Serves s n (winAddr w 5) 3) ∧ (s.cursor n w ≠ 0xFFFFFF) ∧ (s.num (.cur n w 0) ≠ 1) ∧ (s.tribRow w (s.cursor n w) = false) ∧ (s.num (.row w (s.cursor n w) 3) = s.num (.ses n (w * 256 + 4))) ∧ ((s.commitRow n w (s.cursor n w) bad).2 = .ok) :=
  ⟨ready.moveCursor 0 0x4500 1, 0, 0x4500, none, by decide +kernel⟩

theorem witness_WindowCommandsComplete_7 : ∃ (s : State) (n w : Nat), (Serves s n (winAddr w 5) 4) ∧ (s.cursor n w ≠ 0xFFFFFF) ∧ (s.num (.cur n w 0) ≠ 1) ∧ (s.tribRow w (s.cursor n w) = false) ∧ ((s.deleteRow w (s.cursor n w)).2 = .ok) :=
  ⟨ready.moveCursor 0 0x4500 1, 0, 0x4500, by decide +kernel⟩

theorem witness_FunctionCommandsComplete_1 : ∃ (s : State) (n a : Nat) (f : Fn), (isFnCtrl a = true) ∧ (Serves s n a 1) ∧ (s.fnAt n a = .ok f) ∧ (s.bankActive f = false) :=
  ⟨ready, 0, 0x300001, .port 0, by decide +kernel⟩

theorem witness_FunctionCommandsComplete_2 : ∃ (s : State) (n a : Nat) (f : Fn), (isFnCtrl a = true) ∧ (Serves s n a 2) ∧ (s.fnAt n a = .ok f) ∧ (s.uncommissioned f = false) :=
  ⟨ready, 0, 0x300001, .port 0, by decide +kernel⟩

theorem witness_FunctionCommandsComplete_3 : ∃ (s : State) (f : Fn), (s.fnState f = 3 ∨ s.fnState f = 4) ∧ (s.drained f = true) :=
  ⟨ready.setFn (.port 0) 3, .port 0, by decide +kernel⟩

theorem witness_FunctionCommandsComplete_4 : ∃ (s : State) (f : Fn) (d : Fn × Nat), (s.fnState f = 3 ∨ s.fnState f = 4) ∧ (s.drains.find? (fun d => decide (d.1 = f)) = some d) ∧ (d.2 + 100000000 ≤ s.time.elapsed) ∧ (s.drained f = false) :=
  ⟨{ ((ready.setFn (.port 0) 3).setPort 0 { control := [[]] }) with drains := [(.port 0, 0)], time := { elapsed := 100000000 } }, .port 0, (.port 0, 0), by decide +kernel⟩

theorem witness_FunctionCommandsComplete_5 : ∃ (s : State) (f : Fn), (s.fnState f = 1) ∧ (s.num (startCode f) = 0) :=
  ⟨ready.setFn (.port 0) 1, .port 0, by decide +kernel⟩

theorem witness_FunctionCommandsComplete_6 : ∃ (s : State) (f : Fn), (s.fnState f = 1) ∧ (s.num (startCode f) ≠ 0) :=
  ⟨(ready.setFn (.port 0) 1).putN (startCode (.port 0)) 0x130060, .port 0, by decide +kernel⟩

theorem witness_FunctionCommandsComplete_7 : ∃ (s : State) (f : Fn), (s.fnState f = 5) ∧ (s.num (startCode f) = 0) :=
  ⟨ready.setFn (.port 0) 5, .port 0, by decide +kernel⟩

theorem witness_AlarmsAndTimeAnswer_8 : ∃ (s : State) (n : Nat) (r : Record) (rest : List Record), (n < 9) ∧ (Serves s n 0x140004 r.seq) ∧ (s.events.queue = r :: rest) ∧ (s.events.dropped = 0) :=
  ⟨{ ready with events := { queue := [⟨5, 0, 0, 0, 0⟩] } }, 0, ⟨5, 0, 0, 0, 0⟩, [], by decide +kernel⟩

theorem witness_EventQueueCompletes_3 : ∃ (s : State) (n : Nat) (r : Record) (rest : List Record), (Serves s n 0x140004 r.seq) ∧ (s.events.queue = r :: rest) ∧ (s.events.dropped = 0) :=
  let ⟨s, n, r, rest, h⟩ := witness_AlarmsAndTimeAnswer_8; ⟨s, n, r, rest, h.2⟩

theorem witness_EventQueueCompletes_4 : ∃ (s : State) (n : Nat) (r : Record) (rest : List Record), (Serves s n 0x140004 r.seq) ∧ (s.events.queue = r :: rest) ∧ (s.events.dropped ≠ 0) :=
  ⟨{ ready with events := { queue := [⟨5, 0, 0, 0, 0⟩], dropped := 3 } }, 0, ⟨5, 0, 0, 0, 0⟩, [], by decide +kernel⟩

theorem witness_EventQueueCompletes_5 : ∃ (s : State) (n v : Nat), (Serves s n 0x140004 v) ∧ ((∀ r ∈ s.events.queue.head?, r.seq ≠ v)) :=
  ⟨{ ready with events := { queue := [⟨5, 0, 0, 0, 0⟩] } }, 0, 6, by decide +kernel⟩

theorem witness_AlarmsAndTimeAnswer_9 : ∃ (s : State) (n : Nat), (n < 9) ∧ (ServesRead s n 0x131001) :=
  ⟨ready, 0, by decide +kernel⟩

theorem witness_DualControlCompletes_1 : ∃ (s : State) (n : Nat), (ServesRead s n 0x131001) :=
  let ⟨s, n, h⟩ := witness_AlarmsAndTimeAnswer_9; ⟨s, n, h.2⟩

theorem witness_DualControlCompletes_2 : ∃ (s : State) (n i : Nat), (Serves s n 0x131108 1) ∧ (s.hold = false) ∧ (dcTarget (s.num (Reg.pTarget n)) (s.oct (Reg.pValue n)) = true) ∧ (s.missing n (s.num (Reg.pTarget n)) = none) ∧ (¬(isCmLevel (s.num (Reg.pTarget n)) = true ∧ s.lc ≠ 2)) ∧ (s.trust.dcNonces.contains (s.num (Reg.pNonce n)) = true) ∧ (s.credHas (s.num (Reg.pCred n)) 1 = true) ∧ (firstAbort (s.dcAbort (s.num (Reg.pTarget n)) (s.oct (Reg.pValue n))) = none) ∧ (s.proposals.any (fun e => e.2.target == s.num (Reg.pTarget n)) = false) ∧ (s.proposals.length < 8) ∧ ((List.range 8).find? (fun i => (s.proposals.get? i).isNone) = some i) ∧ (s.retort.disagree = false) :=
  ⟨submitting, 8, 0, by decide +kernel⟩

theorem witness_DualControlCompletes_3 : ∃ (s : State) (n : Nat) (p : Proposal), (Serves s n 0x131108 2) ∧ (s.hold = false) ∧ (s.proposals.get? (s.num (Reg.pSlot n)) = some p) ∧ (p.opened ≤ s.time.dev) ∧ (s.time.dev < p.closes) ∧ (s.credHas (s.num (Reg.pCred n)) 1 = true) ∧ (s.num (Reg.pCred n) ≠ p.proposer) ∧ (p.changed = false) ∧ (firstAbort (abortIf (isCmLevel p.target && s.lc != 2) 0x110003 :: s.dcAbort p.target p.value) = none) ∧ (s.proposals.any (fun e => e.1 != s.num (Reg.pSlot n)) = false) ∧ (s.retort.disagree = false) :=
  ⟨approving, 8, ⟨0x130001, [0, 0, 6], 1, [], 0, 10, false⟩, by decide +kernel⟩

theorem witness_DualControlCompletes_4 : ∃ (s : State) (n : Nat) (p : Proposal), (Serves s n 0x131108 3) ∧ (s.hold = false) ∧ (s.proposals.get? (s.num (Reg.pSlot n)) = some p) ∧ (s.credHas (s.num (Reg.pCred n)) 1 = true) ∧ (s.proposals.any (fun e => e.1 != s.num (Reg.pSlot n)) = false) ∧ (s.retort.disagree = false) :=
  ⟨approving, 8, ⟨0x130001, [0, 0, 6], 1, [], 0, 10, false⟩, by decide +kernel⟩

theorem witness_DualControlCompletes_5 : ∃ (s : State) (i : Nat) (p : Proposal), (s.proposals.get? i = some p) ∧ (p.closes ≤ s.time.dev) :=
  ⟨{ ready with proposals := [(7, ⟨0, [], 0, [], 0, 0, false⟩)] }, 7, ⟨0, [], 0, [], 0, 0, false⟩, by decide +kernel⟩

theorem witness_PowerLossCompletes_1 : ∃ (s : State), (s.mainPower = true) ∧ (s.powerGood = true) :=
  ⟨{ State.reset with powerGood := true }, by decide +kernel⟩

theorem witness_PowerLossCompletes_2 : ∃ (s : State), (s.mainPower = true) :=
  ⟨State.reset, by decide +kernel⟩

theorem witness_PowerLossCompletes_3 : ∃ (s : State), (s.mainPower = true) :=
  ⟨State.reset, by decide +kernel⟩

theorem witness_PowerLossCompletes_4 : ∃ (s : State), (s.mainPower = false) :=
  ⟨{ State.reset with mainPower := false }, by decide +kernel⟩

theorem witness_PowerReturnCompletes_1 : ∃ (s : State), (s.mainPower = false) :=
  ⟨{ State.reset with mainPower := false }, by decide +kernel⟩

theorem witness_PowerReturnCompletes_2 : ∃ (s : State) (st : StartInput) (l : Bool), (s.phase = .reset) ∧ (s.mainPower = true) ∧ (st.stuck = []) ∧ (s.lc ≠ 15) ∧ (s.backup.lost = l) :=
  ⟨State.reset, ⟨0, 0, [], true, true, 0, 0⟩, false, by decide +kernel⟩

theorem witness_PowerReturnCompletes_3 : ∃ (s : State), (s.hearth.gap = true) :=
  ⟨{ ready with hearth := { gap := true } }, by decide +kernel⟩

theorem witness_PowerReturnCompletes_4 : ∃ (s : State), (s.hearth.restarting = true) :=
  ⟨{ ready with hearth := { restarting := true } }, by decide +kernel⟩

theorem witness_PowerReturnCompletes_5 : ∃ (s : State), (s.num Reg.hearthBanked = 1) ∧ (s.hearth.halted = false) ∧ (s.hearth.gap = false) :=
  ⟨ready.putN Reg.hearthBanked 1, by decide +kernel⟩

theorem witness_CoreFailureCompletes_1 : ∃ (s : State), (s.phase = .ready) ∧ (s.hearth.restarting = false) ∧ (s.num Reg.hearthBanked = 2) :=
  ⟨ready.putN Reg.hearthBanked 2, by decide +kernel⟩

theorem witness_CoreFailureCompletes_2 : ∃ (s : State), (s.phase = .ready) ∧ (s.hearth.restarting = false) ∧ (s.num Reg.hearthBanked ≠ 2) :=
  ⟨ready, by decide +kernel⟩

theorem witness_CoreFailureCompletes_3 : ∃ (s : State), (s.phase = .ready) ∧ (s.hearth.restarting = false) ∧ (s.num Reg.hearthBanked = 2) :=
  ⟨ready.putN Reg.hearthBanked 2, by decide +kernel⟩

theorem witness_CoreFailureCompletes_4 : ∃ (s : State), (s.phase = .ready) ∧ (s.hearth.restarting = false) ∧ (s.num Reg.hearthBanked ≠ 2) :=
  ⟨ready, by decide +kernel⟩

theorem witness_CoreFailureCompletes_5 : ∃ (s : State) (n : Nat), (Serves s n 0x150002 1) ∧ (s.num Reg.hearthBanked = 2) :=
  ⟨ready.putN Reg.hearthBanked 2, 0, by decide +kernel⟩

theorem witness_BackupDomainCompletes_1 : ∃ (s : State), (¬(s.backup.lost = true ∧ s.mainPower = false)) ∧ (500000000 ≤ s.backup.phase) :=
  ⟨{ State.reset with backup := { phase := 1000000000 } }, by decide +kernel⟩

theorem witness_BackupDomainCompletes_2 : ∃ (s : State) (j : Nat), (j < 3) ∧ ((s.backup.comp j).out = false) ∧ (s.mainPower = false) ∧ (s.backup.lost = false) :=
  ⟨{ State.reset with mainPower := false }, 2, by decide +kernel⟩

theorem witness_BackupDomainCompletes_3 : ∃ (s : State) (j : Nat), (j < 3) :=
  ⟨State.reset, 2, by decide +kernel⟩

theorem witness_BackupDomainCompletes_4 : ∃ (s : State) (n : Nat), (Serves s n 0x144008 1) ∧ (n ≠ 0) :=
  ⟨ready.putN (Reg.sessState 8) 2, 8, by decide +kernel⟩

theorem witness_AlarmInputsComplete_1 : ∃ (s : State) (k : Nat) (d : Bool), (k < 5) ∧ (s.mainPower = true) ∧ ((if d then (s.flueKind k).outB else (s.flueKind k).outA) = false) ∧ ((s.flueKind k).waiting.find? (fun w => w.2 != d && decide (s.alarm.clock < w.1 + 1000)) = none) :=
  ⟨ready, 4, true, by decide +kernel⟩

theorem witness_AlarmInputsComplete_2 : ∃ (s : State) (k : Nat) (d : Bool) (w : Nat × Bool), (k < 5) ∧ (s.mainPower = true) ∧ ((if d then (s.flueKind k).outB else (s.flueKind k).outA) = false) ∧ ((s.flueKind k).waiting.find? (fun w => w.2 != d && decide (s.alarm.clock < w.1 + 1000)) = some w) :=
  ⟨{ ready.setFlue 4 { outA := true, waiting := [(0, false)] } with alarm := { clock := 999 } }, 4, true, (0, false), by decide +kernel⟩

theorem witness_AlarmInputsComplete_3 : ∃ (s : State) (k : Nat) (d : Bool), (k < 5) ∧ (s.mainPower = true) :=
  ⟨ready, 4, true, by decide +kernel⟩

theorem witness_AlarmInputsComplete_4 : ∃ (s : State) (k : Nat) (w : Nat × Bool), ((s.flueKind k).waiting.find? (fun w => decide (w.1 + 1000 ≤ s.alarm.clock)) = some w) :=
  ⟨{ ready.setFlue 4 { outA := true, waiting := [(0, false)] } with alarm := { clock := 1000 } }, 4, (0, false), by decide +kernel⟩

theorem witness_AlarmsAndTimeAnswer_4 : ∃ (s : State) (n m : Nat), (n < 9) ∧ (Serves s n 0x141002 m) ∧ (m < 512) :=
  ⟨ready, 0, 511, by decide +kernel⟩

theorem witness_AlarmInputsComplete_5 : ∃ (s : State) (n m : Nat), (Serves s n 0x141002 m) ∧ (m < 512) :=
  let ⟨s, n, m, h⟩ := witness_AlarmsAndTimeAnswer_4; ⟨s, n, m, h.2⟩

theorem witness_AlarmsAndTimeAnswer_5 : ∃ (s : State) (n : Nat), (n < 9) ∧ (Serves s n 0x141004 1) ∧ (n ≠ 0) ∧ (s.sessHas n 1 = true) :=
  ⟨netUp, 8, by decide +kernel⟩

theorem witness_AlarmInputsComplete_6 : ∃ (s : State) (n : Nat), (Serves s n 0x141004 1) ∧ (n ≠ 0) ∧ (s.sessHas n 1 = true) :=
  let ⟨s, n, h⟩ := witness_AlarmsAndTimeAnswer_5; ⟨s, n, h.2⟩

theorem witness_AlarmInputsComplete_7 : ∃ (s : State) (n : Nat), (Serves s n 0x141004 1) ∧ (n = 0 ∨ s.sessHas n 1 = false) :=
  ⟨ready, 0, by decide +kernel⟩

theorem witness_AlarmsAndTimeAnswer_7 : ∃ (s : State) (n v : Nat), (n < 9) ∧ (Serves s n 0x100402 v) :=
  ⟨ready, 0, 77, by decide +kernel⟩

theorem witness_TemperatureCompletes_2 : ∃ (s : State) (n v : Nat), (Serves s n 0x100402 v) :=
  let ⟨s, n, v, h⟩ := witness_AlarmsAndTimeAnswer_7; ⟨s, n, v, h.2⟩

theorem witness_SchedulerCompletes_1 : ∃ (s : State) (p : Nat) (c : Octets) (rest : List Octets), (s.ownsLanes p = true) ∧ ((s.port p).control = c :: rest) ∧ ((s.port p).sending = none) ∧ (s.num (Reg.pLinkUp p) = 1) ∧ (s.num (Reg.pFaultRx p) = 0) :=
  ⟨lineUp.setPort 0 { control := [[1]] }, 0, [1], [], by decide +kernel⟩

theorem witness_SchedulerCompletes_2 : ∃ (s : State) (p : Nat), (s.ownsLanes p = true) ∧ ((s.port p).control = []) ∧ (s.linkFree p = true) :=
  ⟨lineUp, 0, by decide +kernel⟩

theorem witness_SchedulerCompletes_3 : ∃ (s : State) (p : Nat), (s.ownsLanes p = true) :=
  ⟨lineUp, 0, by decide +kernel⟩

theorem witness_SchedulerCompletes_4 : ∃ (s : State) (p : Nat) (x : Sending), ((s.port p).sending = some x) ∧ (x.frame.cls = 0) ∧ (x.ct < 63) ∧ (x.ct * 256 < x.frame.line) ∧ (x.frame.sector = none) ∧ (s.num (Reg.pCtStart x.port) < 63) :=
  ⟨lineUp.setPort 0 { sending := some ⟨0, { plainFrame with cls := 0, line := 1500, sector := none }, 4, 4⟩ }, 0, ⟨0, { plainFrame with cls := 0, line := 1500, sector := none }, 4, 4⟩, by decide +kernel⟩

theorem witness_SchedulerCompletes_5 : ∃ (s : State) (p : Nat) (x : Sending), ((s.port p).sending = some x) ∧ (x.frame.cls = 2) ∧ (x.frame.late = false) :=
  ⟨sending 2, 0, ⟨0, { plainFrame with cls := 2 }, 4, 4⟩, by decide +kernel⟩

theorem witness_SchedulerCompletes_6 : ∃ (s : State) (p ts : Nat) (x : Sending), ((s.port p).sending = some x) :=
  ⟨sending 2, 0, 0, ⟨0, { plainFrame with cls := 2 }, 4, 4⟩, by decide +kernel⟩

theorem witness_SchedulerCompletes_8 : ∃ (s : State) (p : Nat), ((s.port p).admin = true) ∧ (time96Ns (s.num (Reg.pTakeoverTime p)) ≤ s.nowNs) :=
  ⟨ready.setPort 0 { admin := true }, 0, by decide +kernel⟩

theorem witness_PauseAndStationsComplete_1 : ∃ (s : State) (p prio t : Nat), ((s.port p).pausedAt.get? prio = some t) ∧ (s.pauses p prio = true) ∧ (t * s.portRate p + s.num (Reg.pPauseQuanta p) * 256000 ≤ s.time.elapsed * s.portRate p) :=
  ⟨((ready.putN (Reg.pOverload 0) 1).putN (Reg.pPauseQuanta 0) 0).setPort 0 { pausedAt := [(0, 0)] }, 0, 0, 0, by decide +kernel⟩

theorem witness_PauseAndStationsComplete_2 : ∃ (s : State) (p prio t : Nat), ((s.port p).peerPause.get? prio = some t) ∧ (t ≤ s.time.elapsed) :=
  ⟨ready.setPort 0 { peerPause := [(8, 0)] }, 0, 8, 0, by decide +kernel⟩

theorem witness_PauseAndStationsComplete_3 : ∃ (s : State) (b : Nat) (r : LearnReq) (rest : List LearnReq), ((s.bolt b).learn = r :: rest) :=
  ⟨ready.setBolt 0 { learn := [⟨1, 2, 0, []⟩] }, 0, ⟨1, 2, 0, []⟩, [], by decide +kernel⟩

theorem witness_PauseAndStationsComplete_4 : ∃ (s : State) (b : Nat), (b < s.nBolts) ∧ ((s.bolt b).ageAt + 1000000000 ≤ s.time.elapsed) :=
  ⟨{ ready with time := { elapsed := 1000000000 } }, 0, by decide +kernel⟩

theorem witness_PauseAndStationsComplete_5 : ∃ (s : State) (n b v : Nat), (Serves s n (boltAddr b 9 5) v) ∧ (v ≤ 127 ∨ v = 0xFFFF) :=
  ⟨ready, 0, 0, 0xFFFF, by decide +kernel⟩

theorem witness_PauseAndStationsComplete_6 : ∃ (s : State) (b n : Nat) (rest : List Nat), ((s.bolt b).flushes = n :: rest) :=
  ⟨ready.setBolt 0 { flushes := [3] }, 0, 3, [], by decide +kernel⟩

theorem witness_ErrorsOfABoltComplete_1 : ∃ (s : State) (e : ParityError) (c : Crossing), (e.b < s.nBolts) ∧ (refFits e.point e.at_ = true) ∧ (((s.pipe e.b e.pipe).point e.point).crossing e.at_ = some c) ∧ (((s.pipe e.b e.pipe).point e.point).failed ≠ some c) :=
  ⟨ready, ⟨0, .e, 7, .row 0 5 0 none⟩, .row 0 5 0, by decide +kernel⟩

theorem witness_ErrorsOfABoltComplete_2 : ∃ (s : State) (e : ParityError) (c : Crossing), (e.b < s.nBolts) ∧ (refFits e.point e.at_ = true) ∧ (((s.pipe e.b e.pipe).point e.point).crossing e.at_ = some c) ∧ (((s.pipe e.b e.pipe).point e.point).failed = some c) :=
  ⟨ready.setPipe 0 .e { points := (FMap.put [] 7 { failed := some (.row 0 5 0) }) }, ⟨0, .e, 7, .row 0 5 0 none⟩, .row 0 5 0, by decide +kernel⟩

theorem witness_ErrorsOfABoltComplete_3 : ∃ (s : State) (b : Nat) (pipe : Pipe), (b < s.nBolts) :=
  ⟨ready, 0, .e, by decide +kernel⟩

theorem witness_FramesAndStationsAnswer_25 : ∃ (s : State) (b : Nat) (pipe : Pipe), (s.phase = .ready) ∧ (s.events.queue.length < 1024) ∧ (b < s.nBolts) ∧ ((s.pipe b pipe).genFailed = false) :=
  ⟨ready, 0, .e, by decide +kernel⟩

theorem witness_ErrorsOfABoltComplete_4 : ∃ (s : State) (b : Nat) (pipe : Pipe), (b < s.nBolts) ∧ ((s.pipe b pipe).genFailed = false) :=
  let ⟨s, b, pipe, h⟩ := witness_FramesAndStationsAnswer_25; ⟨s, b, pipe, h.2.2⟩

theorem witness_ErrorsOfABoltComplete_5 : ∃ (s : State) (b : Nat) (pipe : Pipe), (b < s.nBolts) ∧ ((s.pipe b pipe).genFailed = true) :=
  ⟨ready.setPipe 0 .e { genFailed := true }, 0, .e, by decide +kernel⟩

theorem witness_SecurityAssociationsAndTwillAnswer_5 : ∃ (s : State) (n p a v : Nat), (n < 9) ∧ (a < 4) ∧ (Serves s n (portAddr p 3 (0x11 + a)) v) ∧ (v ≠ s.num (portKey p 3 (0x11 + a))) ∧ (¬(a = s.num (Reg.pTxAnInForce p) ∧ s.num (portKey p 3 (0x11 + a)) ≠ 0xFFFFFF ∧ s.rowState 0x4000 (s.num (portKey p 3 (0x11 + a))) = 3)) ∧ (v = 0xFFFFFF ∨ (boltOfSa v = boltOfPort p ∧ s.bindable p v = true)) :=
  ⟨lineUp, 0, 0, 1, 5, by decide +kernel⟩

theorem witness_SecurityAssociationCommandsComplete_1 : ∃ (s : State) (n p a v : Nat), (a < 4) ∧ (Serves s n (portAddr p 3 (0x11 + a)) v) ∧ (v ≠ s.num (portKey p 3 (0x11 + a))) ∧ (¬(a = s.num (Reg.pTxAnInForce p) ∧ s.num (portKey p 3 (0x11 + a)) ≠ 0xFFFFFF ∧ s.rowState 0x4000 (s.num (portKey p 3 (0x11 + a))) = 3)) ∧ (v = 0xFFFFFF ∨ (boltOfSa v = boltOfPort p ∧ s.bindable p v = true)) :=
  let ⟨s, n, p, a, v, h⟩ := witness_SecurityAssociationsAndTwillAnswer_5; ⟨s, n, p, a, v, h.2⟩

theorem witness_SecurityAssociationCommandsComplete_2 : ∃ (s : State) (n p a : Nat), (a < 4) ∧ (Serves s n (portAddr p 3 (0x11 + a)) (s.num (portKey p 3 (0x11 + a)))) :=
  ⟨lineUp, 0, 0, 1, by decide +kernel⟩

theorem witness_SecurityAssociationCommandsComplete_3 : ∃ (s : State) (n p a v : Nat), (a < 4) ∧ (Serves s n (portAddr p 3 (0x11 + a)) v) ∧ (v ≠ s.num (portKey p 3 (0x11 + a))) ∧ (s.rowState 0x4000 (s.num (portKey p 3 (0x11 + a))) ≠ 3) ∧ (v ≠ 0xFFFFFF) ∧ (boltOfSa v ≠ boltOfPort p ∨ s.bindable p v = false) :=
  ⟨lineUp, 0, 0, 1, 0x10000, by decide +kernel⟩

theorem witness_SecurityAssociationCommandsComplete_4 : ∃ (s : State) (n p v : Nat), (Serves s n (portAddr p 3 0x15) v) ∧ (v ≤ 3) ∧ (v ≠ s.num (Reg.pTxAnInForce p)) ∧ (s.num (portKey p 3 (0x11 + v)) = 0xFFFFFF ∨ (s.rowState 0x4000 (s.num (portKey p 3 (0x11 + v))) = 1 ∧ s.bindingCounts p (s.num (portKey p 3 (0x11 + v))) = true)) :=
  ⟨boundUp, 0, 0, 1, by decide +kernel⟩

theorem witness_SecurityAssociationCommandsComplete_5 : ∃ (s : State) (n p : Nat), (Serves s n (portAddr p 3 0x15) (s.num (Reg.pTxAnInForce p))) ∧ (s.num (Reg.pTxAnInForce p) ≤ 3) :=
  ⟨lineUp, 0, 0, by decide +kernel⟩

theorem witness_SecurityAssociationCommandsComplete_6 : ∃ (s : State) (n p v : Nat), (Serves s n (portAddr p 3 0x15) v) ∧ (v ≤ 3) ∧ (v ≠ s.num (Reg.pTxAnInForce p)) ∧ (s.num (portKey p 3 (0x11 + v)) ≠ 0xFFFFFF) ∧ (¬(s.rowState 0x4000 (s.num (portKey p 3 (0x11 + v))) = 1 ∧ s.bindingCounts p (s.num (portKey p 3 (0x11 + v))) = true)) :=
  ⟨lineUp.putN (portKey 0 3 0x12) 5, 0, 0, 1, by decide +kernel⟩

theorem witness_SecurityAssociationCommandsComplete_7 : ∃ (s : State) (sa : Nat), (s.rowState 0x4000 sa = 4) ∧ (s.saBusy sa = false) :=
  ⟨ready.putN (.row 0x4000 7 2) 4, 7, by decide +kernel⟩

theorem witness_SecurityAssociationsAndTwillAnswer_10 : ∃ (s : State) (n p : Nat), (n < 9) ∧ (Serves s n (portAddr p 3 0x24) 1) ∧ (s.num (Reg.pTwTxState p) ≠ 1) ∧ (s.rowState 0x4000 (s.txPhaseRow p (1 - s.num (Reg.pTwTxPhase p))) = 1) :=
  ⟨armable, 0, 0, by decide +kernel⟩

theorem witness_SecurityAssociationCommandsComplete_8 : ∃ (s : State) (n p : Nat), (Serves s n (portAddr p 3 0x24) 1) ∧ (s.num (Reg.pTwTxState p) ≠ 1) ∧ (s.rowState 0x4000 (s.txPhaseRow p (1 - s.num (Reg.pTwTxPhase p))) = 1) :=
  let ⟨s, n, p, h⟩ := witness_SecurityAssociationsAndTwillAnswer_10; ⟨s, n, p, h.2⟩

theorem witness_SecurityAssociationCommandsComplete_9 : ∃ (s : State) (n p : Nat), (Serves s n (portAddr p 3 0x24) 1) ∧ (s.num (Reg.pTwTxState p) ≠ 1) ∧ (s.rowState 0x4000 (s.txPhaseRow p (1 - s.num (Reg.pTwTxPhase p))) ≠ 1) :=
  ⟨tribUp, 0, 0, by decide +kernel⟩

theorem witness_SecurityAssociationCommandsComplete_10 : ∃ (s : State) (n p : Nat), (Serves s n (portAddr p 3 0x24) 2) ∧ (s.num (Reg.pTwTxState p) = 1) :=
  ⟨tribUp.putN (Reg.pTwTxState 0) 1, 0, 0, by decide +kernel⟩

theorem witness_SecurityAssociationsAndTwillAnswer_9 : ∃ (s : State) (n row : Nat), (n < 9) ∧ (Serves s n 0x480015 1) ∧ (n ≠ 0) ∧ (s.sessHas n 2 = true) ∧ (s.kduReady = true) ∧ (s.noRow n 0x4800 = none) ∧ (s.cursor n 0x4800 = row) ∧ (keyTypeLength (s.num (stage n 0x4800 0x13)) ≠ 0) ∧ ((s.oct (stage n 0x4800 0x11)).length = keyTypeLength (s.num (stage n 0x4800 0x13))) ∧ (s.num (stage n 0x4800 0x12) = 0xFF ∨ s.num (stage n 0x4800 0x12) < s.nBolts) :=
  ⟨wrapping, 8, 0, by decide +kernel⟩

theorem witness_SecurityAssociationCommandsComplete_11 : ∃ (s : State) (n row : Nat), (Serves s n 0x480015 1) ∧ (n ≠ 0) ∧ (s.sessHas n 2 = true) ∧ (s.kduReady = true) ∧ (s.noRow n 0x4800 = none) ∧ (s.cursor n 0x4800 = row) ∧ (keyTypeLength (s.num (stage n 0x4800 0x13)) ≠ 0) ∧ ((s.oct (stage n 0x4800 0x11)).length = keyTypeLength (s.num (stage n 0x4800 0x13))) ∧ (s.num (stage n 0x4800 0x12) = 0xFF ∨ s.num (stage n 0x4800 0x12) < s.nBolts) :=
  let ⟨s, n, row, h⟩ := witness_SecurityAssociationsAndTwillAnswer_9; ⟨s, n, row, h.2⟩

theorem witness_SecurityAssociationsAndTwillAnswer_8 : ∃ (s : State) (n : Nat), (n < 9) ∧ (Serves s n 0x133004 1) ∧ (s.num Reg.legacyEnable ≠ 0) ∧ (s.lc = 5) ∧ (s.num Reg.legacySa < s.nSas) ∧ (s.rowState 0x4000 (s.num Reg.legacySa) = 7) ∧ (((s.oct (Reg.legacyKey n)).length = 16 ∧ (s.num (Reg.saSuite (s.num Reg.legacySa)) = 0 ∨ s.num (Reg.saSuite (s.num Reg.legacySa)) = 2)) ∨ ((s.oct (Reg.legacyKey n)).length = 32 ∧ (s.num (Reg.saSuite (s.num Reg.legacySa)) = 1 ∨ s.num (Reg.saSuite (s.num Reg.legacySa)) = 3))) :=
  ⟨legacyReady, 8, by decide +kernel⟩

theorem witness_SecurityAssociationCommandsComplete_12 : ∃ (s : State) (n : Nat), (Serves s n 0x133004 1) ∧ (s.num Reg.legacyEnable ≠ 0) ∧ (s.lc = 5) ∧ (s.num Reg.legacySa < s.nSas) ∧ (s.rowState 0x4000 (s.num Reg.legacySa) = 7) ∧ (((s.oct (Reg.legacyKey n)).length = 16 ∧ (s.num (Reg.saSuite (s.num Reg.legacySa)) = 0 ∨ s.num (Reg.saSuite (s.num Reg.legacySa)) = 2)) ∨ ((s.oct (Reg.legacyKey n)).length = 32 ∧ (s.num (Reg.saSuite (s.num Reg.legacySa)) = 1 ∨ s.num (Reg.saSuite (s.num Reg.legacySa)) = 3))) :=
  let ⟨s, n, h⟩ := witness_SecurityAssociationsAndTwillAnswer_8; ⟨s, n, h.2⟩

theorem witness_FrameArrivalCompletes_1 : ∃ (s : State) (p : Nat) (rx : RxFrame), (s.phase ≠ .reset) ∧ (p < s.nPorts) ∧ (s.kind p = 1) ∧ (s.fnState (.port p) ≠ 0) ∧ (s.num (Reg.pLinkUp p) = 1) ∧ ((s.port p).arriving.first = false) ∧ (60 ≤ rx.bytes.length) ∧ (rx.fcsOk = true) ∧ (rx.bytes.length + 4 ≤ (s.arrives p .e rx).2.num (Reg.pMaxFrame p)) ∧ (fieldAt rx.bytes 12 2 ≠ 0x8808) ∧ (((s.arrives p .e rx).2.silsyFrame rx.bytes || (s.arrives p .e rx).2.silsyBroadcast rx.bytes) = false) ∧ (groupMac (frameDst rx.bytes) = false) ∧ ((((s.arrives p .e rx).2.parsed p .e rx (s.port p).arriving.poison).2).fnState (.port ((s.arrives p .e rx).2.assigned p rx.bytes)) = 2) :=
  ⟨clearUp, 0, ⟨List.replicate 64 0x02#8, true, 0, false, 63, false, false⟩, by decide +kernel⟩

theorem witness_FramesAndStationsAnswer_1 : ∃ (s : State) (p : Nat) (rx : RxFrame), (s.hearthIn = []) ∧ (s.phase ≠ .reset) ∧ (p < s.nPorts) ∧ (s.kind p = 1) ∧ (s.fnState (.port p) ≠ 0) ∧ (s.num (Reg.pLinkUp p) = 1) ∧ (rx.bytes.length < 60) :=
  ⟨clearUp, 0, ⟨List.replicate 59 0x02#8, true, 0, false, 63, false, false⟩, by decide +kernel⟩

theorem witness_FrameArrivalCompletes_2 : ∃ (s : State) (p : Nat) (rx : RxFrame), (s.phase ≠ .reset) ∧ (p < s.nPorts) ∧ (s.kind p = 1) ∧ (s.fnState (.port p) ≠ 0) ∧ (s.num (Reg.pLinkUp p) = 1) ∧ (rx.bytes.length < 60) :=
  let ⟨s, p, rx, h⟩ := witness_FramesAndStationsAnswer_1; ⟨s, p, rx, h.2⟩

theorem witness_FramesAndStationsAnswer_2 : ∃ (s : State) (p : Nat) (rx : RxFrame), (s.hearthIn = []) ∧ (s.phase ≠ .reset) ∧ (p < s.nPorts) ∧ (s.kind p = 1) ∧ (s.fnState (.port p) ≠ 0) ∧ (s.num (Reg.pLinkUp p) = 1) ∧ ((s.port p).arriving.first = false) ∧ (60 ≤ rx.bytes.length) ∧ (rx.fcsOk = false) ∧ (rx.started = false) ∧ (rx.final = false) :=
  ⟨clearUp, 0, ⟨List.replicate 64 0x02#8, false, 0, false, 63, false, false⟩, by decide +kernel⟩

theorem witness_FrameArrivalCompletes_3 : ∃ (s : State) (p : Nat) (rx : RxFrame), (s.phase ≠ .reset) ∧ (p < s.nPorts) ∧ (s.kind p = 1) ∧ (s.fnState (.port p) ≠ 0) ∧ (s.num (Reg.pLinkUp p) = 1) ∧ ((s.port p).arriving.first = false) ∧ (60 ≤ rx.bytes.length) ∧ (rx.fcsOk = false) ∧ (rx.started = false) ∧ (rx.final = false) :=
  let ⟨s, p, rx, h⟩ := witness_FramesAndStationsAnswer_2; ⟨s, p, rx, h.2⟩

theorem witness_FrameArrivalCompletes_4 : ∃ (s : State) (p : Nat) (rx : RxFrame), (s.phase ≠ .reset) ∧ (p < s.nPorts) ∧ (s.kind p = 1) ∧ (s.fnState (.port p) = 0) :=
  ⟨ready.putN (Reg.pPortKind 0) 1, 0, ⟨List.replicate 59 0x02#8, true, 0, false, 63, false, false⟩, by decide +kernel⟩

theorem witness_FrameArrivalCompletes_5 : ∃ (s : State) (p : Nat) (rx : RxFrame), (s.phase ≠ .reset) ∧ (p < s.nPorts) ∧ (s.kind p = 3) ∧ (s.ownsLanes p = true) ∧ (s.fnState (.port p) ≠ 0) ∧ (s.num (Reg.pLinkUp p) = 1) ∧ ((s.port p).arriving.first = false) ∧ (60 ≤ rx.bytes.length) ∧ (rx.bytes.length ≤ 16028) ∧ (rx.fcsOk = true) ∧ (fieldAt rx.bytes 12 2 = 0x88E5) :=
  ⟨lineUp, 0, ⟨List.replicate 12 0x02#8 ++ [0x88#8, 0xE5#8] ++ List.replicate 60 0#8, true, 0, false, 63, false, false⟩, by decide +kernel⟩

theorem witness_FramesAndStationsAnswer_3 : ∃ (s : State) (p : Nat) (rx : RxFrame), (s.hearthIn = []) ∧ (s.phase ≠ .reset) ∧ (p < s.nPorts) ∧ (s.kind p = 3) ∧ (s.ownsLanes p = true) ∧ (s.fnState (.port p) ≠ 0) ∧ (s.num (Reg.pLinkUp p) = 1) ∧ (rx.bytes.length < 60) :=
  ⟨lineUp, 0, ⟨List.replicate 59 0x02#8, true, 0, false, 63, false, false⟩, by decide +kernel⟩

theorem witness_FrameArrivalCompletes_6 : ∃ (s : State) (p : Nat) (rx : RxFrame), (s.phase ≠ .reset) ∧ (p < s.nPorts) ∧ (s.kind p = 3) ∧ (s.ownsLanes p = true) ∧ (s.fnState (.port p) ≠ 0) ∧ (s.num (Reg.pLinkUp p) = 1) ∧ (rx.bytes.length < 60) :=
  let ⟨s, p, rx, h⟩ := witness_FramesAndStationsAnswer_3; ⟨s, p, rx, h.2⟩

theorem witness_FrameArrivalCompletes_7 : ∃ (s : State) (b : Nat) (pipe : Pipe), (s.phase ≠ .reset) ∧ (b < s.nBolts) :=
  ⟨ready, 0, .e, by decide +kernel⟩

theorem witness_FrameArrivalCompletes_8 : ∃ (s : State) (b : Nat) (f : Frame) (n : Nat) (rest : List Frame), (s.phase ≠ .reset) ∧ (b < s.nBolts) ∧ (s.hasSector = true) ∧ ((s.pipe b .d).after = f :: rest) ∧ (f.stage = .waitSector) ∧ (f.stream = some n) ∧ ((s.setPipe b .d { s.pipe b .d with after := rest }).engineClosed n b = none) :=
  ⟨sectorHead, 0, plainFrame, 0, [], by decide +kernel⟩

theorem witness_FrameArrivalCompletes_9 : ∃ (s : State) (b : Nat), (s.phase ≠ .reset) ∧ (b < s.nBolts) ∧ (s.hasSector = true) :=
  ⟨sectorHead, 0, by decide +kernel⟩

theorem witness_FrameArrivalCompletes_10 : ∃ (s : State) (p : Nat) (rx : PanelRx) (us : List RxUnit) (u : State), (s.phase ≠ .reset) ∧ (s.tribRunning p = true) ∧ (s.num (Reg.pTribDelineated p) ≠ 0) ∧ ((s.tribLanes p).any (fun l => s.hardDefect (lineOf (boltOfPort p) l)) = false) ∧ (s.delineate p (s.rxUnits p rx) ((s.trib p).pointers.length + 1) = (some us, u)) ∧ (us.any (fun x => x.unit.isNone) = true) :=
  ⟨tribSlotted, 0, rxOfZeros lostLevels, ((tribSlotted.delineate 0 (tribSlotted.rxUnits 0 (rxOfZeros lostLevels)) 1).1.getD []), (tribSlotted.delineate 0 (tribSlotted.rxUnits 0 (rxOfZeros lostLevels)) 1).2, by decide +kernel⟩

theorem witness_FrameArrivalCompletes_11 : ∃ (s : State) (p : Nat) (rx : PanelRx) (us : List RxUnit) (u : State), (s.phase ≠ .reset) ∧ (s.tribRunning p = true) ∧ (s.num (Reg.pTribDelineated p) ≠ 0) ∧ ((s.tribLanes p).any (fun l => s.hardDefect (lineOf (boltOfPort p) l)) = false) ∧ (s.delineate p (s.rxUnits p rx) ((s.trib p).pointers.length + 1) = (some us, u)) ∧ (us.any (fun x => x.unit.isNone) = false) ∧ (rx.short = false) ∧ ((u.trib p).rxPoison = false) :=
  ⟨tribSlotted, 0, rxOfZeros [], ((tribSlotted.delineate 0 (tribSlotted.rxUnits 0 (rxOfZeros [])) 1).1.getD []), (tribSlotted.delineate 0 (tribSlotted.rxUnits 0 (rxOfZeros [])) 1).2, by decide +kernel⟩

theorem witness_TwillTransmitCompletes_1 : ∃ (s : State) (p : Nat) (u : State), (s.tribSends p = true) ∧ (u = s.closeAhead p 2) ∧ ((u.trib p).line ≠ []) :=
  ⟨tribSendsUp.setTrib 0 { line := [1] }, 0, (tribSendsUp.setTrib 0 { line := [1] }).closeAhead 0 2, by decide +kernel⟩

theorem witness_TwillTransmitCompletes_2 : ∃ (s : State) (p row phase : Nat) (u : State), (s.tribSends p = true) ∧ (u = s.closeAhead p 2) ∧ ((u.trib p).line = []) ∧ (phase = u.panelPhase p false) ∧ (row = u.txPhaseRow p phase) ∧ (u.panelReady p = true) ∧ (u.panelKey row = false) :=
  ⟨tribUp, 0, 0xFFFFFF, 0, tribUp.closeAhead 0 2, by decide +kernel⟩

theorem witness_TwillTransmitCompletes_3 : ∃ (s : State) (p row phase : Nat) (u : State), (s.tribSends p = true) ∧ (u = s.closeAhead p 2) ∧ ((u.trib p).line = []) ∧ (phase = u.panelPhase p false) ∧ (row = u.txPhaseRow p phase) ∧ (u.panelReady p = true) ∧ (u.panelKey row = true) ∧ (u.panelBarred p (u.phaseCount p phase) = true) :=
  ⟨tribSendsUp.putN (Reg.bTwPanelLimit 0) 0, 0, 5, 0, (tribSendsUp.putN (Reg.bTwPanelLimit 0) 0).closeAhead 0 2, by decide +kernel⟩

theorem witness_TwillTransmitCompletes_4 : ∃ (s : State) (p row phase : Nat) (u v : State) (claim : Claim), (s.tribSends p = true) ∧ (u = s.closeAhead p 2) ∧ ((u.trib p).line = []) ∧ (phase = u.panelPhase p false) ∧ (row = u.txPhaseRow p phase) ∧ (u.panelReady p = true) ∧ (u.panelKey row = true) ∧ (u.panelBarred p (u.phaseCount p phase) = false) ∧ (u.claimSlot (boltOfPort p) .e (keyOwner row) (u.pcNext p + 1) (if decide (u.phaseCount p phase + 1 < u.num (Reg.bTwPanelLimit (boltOfPort p)) ∧ u.pcNext p + 1 < 2 ^ 76 - 1) then 32 else 0) [u.pcNext p] = (claim, v)) ∧ (claim ≠ .wait) :=
  ⟨tribSendsUp, 0, 5, 0, tribSendsUp.closeAhead 0 2, ((tribSendsUp.closeAhead 0 2).claimSlot 0 .e (keyOwner 5) ((tribSendsUp.closeAhead 0 2).pcNext 0 + 1) 32 [(tribSendsUp.closeAhead 0 2).pcNext 0]).2, .miss, by decide +kernel⟩

theorem witness_TwillTransmitCompletes_5 : ∃ (s : State) (b g : Nat), (g < 8) ∧ (s.running (.group b g) = true) :=
  ⟨tribUp, 0, tribUp.num (Reg.pTribGroup 0), by decide +kernel⟩

theorem witness_TwillTransmitCompletes_6 : ∃ (s : State) (p ph : Nat) (u : State), ((s.trib p).releasing = some ph) ∧ (u = (match (s.trib p).begun with | some (_, old) => if old = ph then s.panelFinish p else s | none => s)) :=
  ⟨ready.setTrib 0 { releasing := some 1 }, 0, 1, ready.setTrib 0 { releasing := some 1 }, by decide +kernel⟩

theorem witness_TwillReceiveCompletes_1 : ∃ (s : State) (ll row : Nat) (oh : OverheadRx), (s.runningGroup ll = some row) :=
  ⟨groupUp, 0, 0, ⟨[⟨0, []⟩], 0, 0⟩, by decide +kernel⟩

theorem witness_TwillReceiveCompletes_3 : ∃ (s : State) (ll row : Nat), (s.runningGroup ll = some row) ∧ ((s.twLane ll).faSince + 3000000 ≤ s.time.elapsed) :=
  ⟨{ groupUp with time := { elapsed := 3000000 } }, 0, 0, by decide +kernel⟩

theorem witness_TwillReceiveCompletes_4 : ∃ (s : State) (ll row : Nat), (s.runningGroup ll = some row) ∧ (bit (s.twLane ll).detected 1 = false) ∧ (((s.twLane ll).inMulti = false ∧ (s.twLane ll).mfSince + 3000000 ≤ s.time.elapsed) ∨ ((s.twLane ll).spreadBad = true ∧ (s.twLane ll).spreadSince + 3000000 ≤ s.time.elapsed)) :=
  ⟨{ groupUp with time := { elapsed := 3000000 } }, 0, 0, by decide +kernel⟩

theorem witness_TwillReceiveCompletes_5 : ∃ (s : State) (ll row : Nat), (s.runningGroup ll = some row) ∧ ((s.twLane ll).inMulti = true) ∧ ((s.twLane ll).spreadBad = false) ∧ ((s.twLane ll).mfSince + 3000000 ≤ s.time.elapsed) ∧ ((s.twLane ll).spreadSince + 3000000 ≤ s.time.elapsed) :=
  ⟨{ groupUp.setTwLane 0 { inMulti := true } with time := { elapsed := 3000000 } }, 0, 0, by decide +kernel⟩

theorem witness_TwillReceiveCompletes_6 : ∃ (s : State) (b g : Nat), (g < 8) ∧ (s.running (.group b g) = true) ∧ (s.num (Reg.tgRegime (b * 1024 + g)) = 1) ∧ (s.tgNow (b * 1024 + g) 0x15 = 0) ∧ ((s.groupLanes (b * 1024 + g)).all (fun l => !s.hardDefect (lineOf b l)) = true) ∧ ((s.grp (b * 1024 + g)).acqSince + s.tgNow (b * 1024 + g) 0x14 * 1000000 ≤ s.time.elapsed) :=
  ⟨acquiring, 0, 0, by decide +kernel⟩

theorem witness_TwillReceiveCompletes_7 : ∃ (s : State) (n v : Nat) (t : State), (t = s.putN (stage n 0x4400 0x15) v) ∧ (Serves s n 0x440015 v) ∧ (Serves t n 0x440005 2) ∧ (t.cursor n 0x4400 ≠ 0xFFFFFF) ∧ (t.num (.cur n 0x4400 0) ≠ 1) ∧ (t.tribRow 0x4400 (t.cursor n 0x4400) = false) ∧ ((t.commitRow n 0x4400 (t.cursor n 0x4400) none).2 = .ok) :=
  ⟨ready.moveCursor 0 0x4400 0, 0, 0, (ready.moveCursor 0 0x4400 0).putN (stage 0 0x4400 0x15) 0, by decide +kernel⟩

theorem witness_LaneEventsComplete_1 : ∃ (s : State) (n : Nat), (s.lanePresent n = true) ∧ (s.num (Reg.lnState n) = 1) :=
  ⟨lane0 1, 0, by decide +kernel⟩

theorem witness_LaneEventsComplete_2 : ∃ (s : State) (n : Nat), (s.lanePresent n = true) ∧ (s.num (Reg.lnState n) = 2 ∨ s.num (Reg.lnState n) = 3 ∨ s.num (Reg.lnState n) = 5) :=
  ⟨lane0 5, 0, by decide +kernel⟩

theorem witness_LaneEventsComplete_3 : ∃ (s : State) (n : Nat), (s.lanePresent n = true) ∧ (s.num (Reg.lnState n) = 1 ∨ s.num (Reg.lnState n) = 2 ∨ s.num (Reg.lnState n) = 3 ∨ s.num (Reg.lnState n) = 5) :=
  ⟨lane0 3, 0, by decide +kernel⟩

theorem witness_LanesAndPortsAnswer_3 : ∃ (s : State) (n : Nat) (slow : Bool) (ppm snr : Nat), (n < 128) ∧ (ppm ≤ 25000) ∧ (s.num (Reg.lnState n) = 2) ∧ (s.acqFrom n + settleTime ≤ s.time.elapsed) ∧ (s.time.elapsed ≤ s.acqFrom n + acqBound) :=
  ⟨{ lane0 2 with part := .nz3206, time := { elapsed := 10000000 } }, 0, true, 25000, 0, by decide +kernel⟩

theorem witness_LaneEventsComplete_4 : ∃ (s : State) (n : Nat) (slow : Bool) (ppm snr : Nat), (ppm ≤ 25000) ∧ (s.num (Reg.lnState n) = 2) ∧ (s.acqFrom n + settleTime ≤ s.time.elapsed) ∧ (s.time.elapsed ≤ s.acqFrom n + acqBound) :=
  let ⟨s, n, slow, ppm, snr, h⟩ := witness_LanesAndPortsAnswer_3; ⟨s, n, slow, ppm, snr, h.2⟩

theorem witness_LaneEventsComplete_5 : ∃ (s : State) (n w : Nat) (slow : Bool) (ppm snr : Nat), (ppm ≤ 25000) ∧ (s.num (Reg.lnState n) = 5) ∧ ((s.lane n).txActive = true) ∧ ((s.lane n).kept = true) ∧ ((s.lane n).wake = some w) ∧ (s.time.elapsed ≤ w + 2500000) :=
  ⟨(lane0 5).setLane 0 { txActive := true, kept := true, wake := some 0 }, 0, 0, true, 0, 0, by decide +kernel⟩

theorem witness_LaneEventsComplete_6 : ∃ (s : State) (n : Nat), (s.num (Reg.lnState n) = 2) ∧ (s.acqFrom n + acqBound ≤ s.time.elapsed) :=
  ⟨{ lane0 2 with time := { elapsed := 50000000 } }, 0, by decide +kernel⟩

theorem witness_LaneEventsComplete_7 : ∃ (s : State) (n : Nat), (s.num (Reg.lnState n) = 3) :=
  ⟨lane0 3, 0, by decide +kernel⟩

theorem witness_LaneEventsComplete_8 : ∃ (s : State) (n w : Nat), ((s.lane n).wake = some w) ∧ ((s.lane n).txActive = false) ∧ (w + 1000000 ≤ s.time.elapsed) :=
  ⟨{ (lane0 5).setLane 0 { wake := some 0 } with time := { elapsed := 1000000 } }, 0, 0, by decide +kernel⟩

theorem witness_LaneEventsComplete_9 : ∃ (s : State) (n w : Nat), ((s.lane n).wake = some w) ∧ ((s.lane n).txActive = true) ∧ ((s.lane n).kept = true) ∧ (s.num (Reg.lnState n) = 5) ∧ (w + 2500000 ≤ s.time.elapsed) ∧ (n < 130) :=
  ⟨{ (lane0 5).setLane 0 { txActive := true, kept := true, wake := some 0 } with time := { elapsed := 2500000 } }, 0, 0, by decide +kernel⟩

theorem witness_LaneEventsComplete_10 : ∃ (s : State) (n w : Nat), ((s.lane n).wake = some w) ∧ ((s.lane n).txActive = true) ∧ ((s.lane n).kept = false) ∧ (s.num (Reg.lnState n) = 5) :=
  ⟨(lane0 5).setLane 0 { txActive := true, wake := some 0 }, 0, 0, by decide +kernel⟩

theorem witness_LaneEventsComplete_11 : ∃ (s : State) (b : Nat) (absent : Bool), (b < s.nBolts) ∧ (s.num (Reg.bRefState b) = 0) :=
  ⟨ready, 0, true, by decide +kernel⟩

theorem witness_LaneEventsComplete_12 : ∃ (s : State) (b : Nat) (absent : Bool), (b < s.nBolts) ∧ (s.num (Reg.bRefState b) ≠ 0) :=
  ⟨ready.putN (Reg.bRefState 0) 1, 0, false, by decide +kernel⟩

theorem witness_LaneEventsComplete_13 : ∃ (s : State) (b : Nat), (b < s.nBolts) ∧ (s.num (Reg.bRefState b) ≠ 0) :=
  ⟨ready.putN (Reg.bRefState 0) 1, 0, by decide +kernel⟩

theorem witness_LaneEventsComplete_14 : ∃ (s : State) (n before : Nat) (levels : List Nat), (s.num (Reg.lnPattern n) ≠ 0) ∧ (s.num (Reg.lnState n) = 3) :=
  ⟨(lane0 3).putN (Reg.lnPattern 0) 1, 0, 0, [], by decide +kernel⟩

theorem witness_LaneEventsComplete_15 : ∃ (s : State) (n before : Nat) (levels : List Nat), (s.num (Reg.lnPattern n) ≠ 0) ∧ (s.num (Reg.lnState n) = 3) ∧ (s.num (Reg.lnLoopback n) = 0) :=
  ⟨(lane0 3).putN (Reg.lnPattern 0) 1, 0, 0, [], by decide +kernel⟩

theorem witness_LaneCommandsComplete_1 : ∃ (s : State) (n k : Nat), (k < 128) ∧ (Serves s n (blockAddr 0x1900 256 k 0x15) 1) ∧ (s.num (Reg.lnState k) = 3) :=
  ⟨lane0 3, 0, 0, by decide +kernel⟩

theorem witness_LaneCommandsComplete_2 : ∃ (s : State) (n k : Nat), (k < 128) ∧ (Serves s n (blockAddr 0x1900 256 k 0x15) 1) ∧ (s.num (Reg.lnState k) = 0 ∨ s.num (Reg.lnState k) = 4) :=
  ⟨lane0 4, 0, 0, by decide +kernel⟩

theorem witness_LaneCommandsComplete_3 : ∃ (s : State) (n k : Nat), (k < 128) ∧ (Serves s n (blockAddr 0x1900 256 k 0x15) 0) ∧ (s.num (Reg.lnState k) = 4) :=
  ⟨lane0 4, 0, 0, by decide +kernel⟩

theorem witness_LanesAndPortsAnswer_10 : ∃ (s : State) (n k v : Nat), (n < 9) ∧ (k < 128) ∧ (Serves s n (blockAddr 0x1900 256 k 0x13) v) ∧ (v / 65536 % 64 ≤ 16) ∧ (v / 256 % 64 ≤ 24) :=
  ⟨lane0 3, 0, 0, 0, by decide +kernel⟩

theorem witness_LaneCommandsComplete_4 : ∃ (s : State) (n k v : Nat), (Serves s n (blockAddr 0x1900 256 k 0x13) v) ∧ (v / 65536 % 64 ≤ 16) ∧ (v / 256 % 64 ≤ 24) :=
  let ⟨s, n, k, v, h⟩ := witness_LanesAndPortsAnswer_10; ⟨s, n, k, v, h.2.2⟩

theorem witness_LaneCommandsComplete_5 : ∃ (s : State) (n k v : Nat), (Serves s n (blockAddr 0x1900 256 k 0x13) v) ∧ (16 < v / 65536 % 64 ∨ 24 < v / 256 % 64) :=
  ⟨lane0 3, 0, 0, 0x190000, by decide +kernel⟩

theorem witness_LanesAndPortsAnswer_11 : ∃ (s : State) (n k v : Nat), (n < 9) ∧ (k < 128) ∧ (Serves s n (blockAddr 0x1900 256 k 0x14) v) ∧ (v ≤ 16) :=
  ⟨{ lane0 3 with part := .nz6412 }, 0, 0, 16, by decide +kernel⟩

theorem witness_LaneCommandsComplete_6 : ∃ (s : State) (n k v : Nat), (Serves s n (blockAddr 0x1900 256 k 0x14) v) ∧ (v ≤ 16) :=
  let ⟨s, n, k, v, h⟩ := witness_LanesAndPortsAnswer_11; ⟨s, n, k, v, h.2.2⟩

theorem witness_PortAndBoltObjectsComplete_1 : ∃ (s : State) (n p v : Nat), (Serves s n (portAddr p 0 0x10) v) ∧ (v ≤ 4) ∧ (s.kind p ≠ v) :=
  ⟨ready, 0, 0, 1, by decide +kernel⟩

theorem witness_PortAndBoltObjectsComplete_2 : ∃ (s : State) (n p : Nat), (Serves s n (portAddr p 0 0x10) (s.kind p)) ∧ (s.kind p ≤ 4) :=
  ⟨ready, 0, 0, by decide +kernel⟩

theorem witness_LanesAndPortsAnswer_15 : ∃ (s : State) (n p v : Nat), (n < 9) ∧ (Serves s n (portAddr p 0 0x21) v) ∧ (1 ≤ v) ∧ (v ≤ 63) :=
  ⟨clearUp, 0, 0, 63, by decide +kernel⟩

theorem witness_PortAndBoltObjectsComplete_3 : ∃ (s : State) (n p v : Nat), (Serves s n (portAddr p 0 0x21) v) ∧ (1 ≤ v) ∧ (v ≤ 63) :=
  let ⟨s, n, p, v, h⟩ := witness_LanesAndPortsAnswer_15; ⟨s, n, p, v, h.2⟩

theorem witness_PortAndBoltObjectsComplete_4 : ∃ (s : State) (n p v : Nat), (Serves s n (portAddr p 0 0x21) v) ∧ (v = 0 ∨ 63 < v) :=
  ⟨clearUp, 0, 0, 64, by decide +kernel⟩

theorem witness_LanesAndPortsAnswer_16 : ∃ (s : State) (n p v : Nat), (n < 9) ∧ (Serves s n (portAddr p 0 0x1B) v) ∧ (v < s.num (Reg.pXoffThresh p)) :=
  ⟨clearUp, 0, 0, 0, by decide +kernel⟩

theorem witness_PortAndBoltObjectsComplete_5 : ∃ (s : State) (n p v : Nat), (Serves s n (portAddr p 0 0x1B) v) ∧ (v < s.num (Reg.pXoffThresh p)) :=
  let ⟨s, n, p, v, h⟩ := witness_LanesAndPortsAnswer_16; ⟨s, n, p, v, h.2⟩

theorem witness_PortAndBoltObjectsComplete_6 : ∃ (s : State) (n p v : Nat), (Serves s n (portAddr p 0 0x1B) v) ∧ (s.num (Reg.pXoffThresh p) ≤ v) :=
  ⟨clearUp, 0, 0, clearUp.num (Reg.pXoffThresh 0), by decide +kernel⟩

theorem witness_PortAndBoltObjectsComplete_7 : ∃ (s : State) (n p v : Nat), (Serves s n (portAddr p 0 0x1A) v) ∧ (v = 0 ∨ s.num (Reg.pIngressLimit p) < v ∨ v ≤ s.num (Reg.pXonThresh p)) :=
  ⟨clearUp, 0, 0, 0, by decide +kernel⟩

theorem witness_LanesAndPortsAnswer_17 : ∃ (s : State) (n p v : Nat), (n < 9) ∧ (Serves s n (portAddr p 0 0x1A) v) ∧ (1 ≤ v) ∧ (v ≤ s.num (Reg.pIngressLimit p)) ∧ (s.num (Reg.pXonThresh p) < v) :=
  ⟨clearUp, 0, 0, clearUp.num (Reg.pIngressLimit 0), by decide +kernel⟩

theorem witness_PortAndBoltObjectsComplete_8 : ∃ (s : State) (n p v : Nat), (Serves s n (portAddr p 0 0x1A) v) ∧ (1 ≤ v) ∧ (v ≤ s.num (Reg.pIngressLimit p)) ∧ (s.num (Reg.pXonThresh p) < v) :=
  let ⟨s, n, p, v, h⟩ := witness_LanesAndPortsAnswer_17; ⟨s, n, p, v, h.2⟩

theorem witness_PortAndBoltObjectsComplete_9 : ∃ (s : State) (n b v : Nat), (Serves s n (boltAddr b 5 1) v) ∧ (1 ≤ v) ∧ (v ≤ 3) :=
  ⟨ready, 0, 0, 3, by decide +kernel⟩

theorem witness_PortAndBoltObjectsComplete_10 : ∃ (s : State) (n b : Nat), (Serves s n (boltAddr b 5 1) 0) :=
  ⟨ready, 0, 0, by decide +kernel⟩

theorem witness_SecurityAssociationsAndTwillAnswer_3 : ∃ (s : State) (n b v : Nat), (n < 9) ∧ (b < 16) ∧ (Serves s n (boltAddr b 5 2) v) ∧ (1 ≤ v) ∧ (v ≤ 2 ^ 64 - 2) :=
  ⟨ready, 0, 0, 2 ^ 64 - 2, by decide +kernel⟩

theorem witness_PortAndBoltObjectsComplete_11 : ∃ (s : State) (n b v : Nat), (Serves s n (boltAddr b 5 2) v) ∧ (1 ≤ v) ∧ (v ≤ 2 ^ 64 - 2) :=
  let ⟨s, n, b, v, h⟩ := witness_SecurityAssociationsAndTwillAnswer_3; ⟨s, n, b, v, h.2.2⟩

theorem witness_PortAndBoltObjectsComplete_12 : ∃ (s : State) (n b v : Nat), (Serves s n (boltAddr b 5 3) v) ∧ (1 ≤ v) ∧ (v ≤ 2 ^ 32 - 2) :=
  ⟨ready, 0, 0, 2 ^ 32 - 2, by decide +kernel⟩

theorem witness_PortAndBoltObjectsComplete_13 : ∃ (s : State) (n b v : Nat), (Serves s n (boltAddr b 5 4) v) ∧ (2 ^ 16 ≤ v) ∧ (v ≤ 2 ^ 60) ∧ (s.num (Reg.bTwPanelWarn b) < v) :=
  ⟨ready, 0, 0, 2 ^ 60, by decide +kernel⟩

theorem witness_SecurityAssociationsAndTwillAnswer_1 : ∃ (s : State) (n b v : Nat), (n < 9) ∧ (b < 16) ∧ (Serves s n (boltAddr b 9 1) v) ∧ (v < 2) ∧ (s.running (.bank b v) = true) ∧ (s.num (Reg.bPolicyActive b) ≠ v) :=
  ⟨ready.setFn (.bank 0 1) 2, 0, 0, 1, by decide +kernel⟩

theorem witness_PortAndBoltObjectsComplete_14 : ∃ (s : State) (n b v : Nat), (Serves s n (boltAddr b 9 1) v) ∧ (v < 2) ∧ (s.running (.bank b v) = true) ∧ (s.num (Reg.bPolicyActive b) ≠ v) :=
  let ⟨s, n, b, v, h⟩ := witness_SecurityAssociationsAndTwillAnswer_1; ⟨s, n, b, v, h.2.2⟩

theorem witness_PortAndBoltObjectsComplete_15 : ∃ (s : State) (n b : Nat), (Serves s n (boltAddr b 9 1) (s.num (Reg.bPolicyActive b))) :=
  ⟨ready, 0, 0, by decide +kernel⟩

theorem witness_PortAndBoltObjectsComplete_16 : ∃ (s : State) (n b v : Nat), (Serves s n (boltAddr b 9 1) v) ∧ (v < 2) ∧ (s.running (.bank b v) = false) ∧ (s.num (Reg.bPolicyActive b) ≠ v) :=
  ⟨ready, 0, 0, 1, by decide +kernel⟩

theorem witness_PortAndBoltObjectsComplete_17 : ∃ (s : State) (n v : Nat) (t : State), (t = s.putN (stage n 0x4500 0x12) v) ∧ (Serves s n 0x450012 v) ∧ (Serves t n 0x450005 2) ∧ (t.cursor n 0x4500 ≠ 0xFFFFFF) ∧ (t.num (.cur n 0x4500 0) ≠ 1) ∧ (t.tribRow 0x4500 (t.cursor n 0x4500) = false) ∧ ((t.commitRow n 0x4500 (t.cursor n 0x4500) none).2 = .ok) :=
  ⟨ready.moveCursor 0 0x4500 1, 0, 0, (ready.moveCursor 0 0x4500 1).putN (stage 0 0x4500 0x12) 0, by decide +kernel⟩

theorem witness_PortAndBoltObjectsComplete_18 : ∃ (s : State) (p : Nat) (pcs fec : Bool), (p < s.nPorts) :=
  ⟨ready, 0, true, true, by decide +kernel⟩

theorem witness_PortAndBoltObjectsComplete_19 : ∃ (s : State) (p kind : Nat), (s.ownsLanes p = true) ∧ (s.num (Reg.pLinkUp p) = 1) ∧ (kind < 3) :=
  ⟨lineUp, 0, 2, by decide +kernel⟩

theorem witness_DeviceTimeCommandsComplete_1 : ∃ (s : State) (n v : Nat) (words : List Nat), (s.answers n = true) ∧ (Ty.decode .time96 0x120002 words 0 = (.num v, none)) ∧ (firstAbort (s.admission n 0x120002 true v ++ [none]) = none) :=
  ⟨ready, 0, 0, [0, 0, 0, 0], by decide +kernel⟩

theorem witness_AlarmsAndTimeAnswer_16 : ∃ (s : State) (n v : Nat), (n < 9) ∧ (Serves s n 0x120003 v) :=
  ⟨ready, 0, 100, by decide +kernel⟩

theorem witness_DeviceTimeCommandsComplete_2 : ∃ (s : State) (n v : Nat), (Serves s n 0x120003 v) :=
  let ⟨s, n, v, h⟩ := witness_AlarmsAndTimeAnswer_16; ⟨s, n, v, h.2⟩

theorem witness_AlarmsAndTimeAnswer_17 : ∃ (s : State) (n v : Nat), (n < 9) ∧ (Serves s n 0x120004 v) :=
  ⟨ready, 0, 100, by decide +kernel⟩

theorem witness_DeviceTimeCommandsComplete_3 : ∃ (s : State) (n v : Nat), (Serves s n 0x120004 v) :=
  let ⟨s, n, v, h⟩ := witness_AlarmsAndTimeAnswer_17; ⟨s, n, v, h.2⟩

theorem witness_DeviceTimeCommandsComplete_4 : ∃ (s : State), (0 ≤ s.time.slew) ∧ (s.time.slew ≤ 6553600) :=
  ⟨{ ready with time := { slew := 6553600 } }, by decide +kernel⟩

theorem witness_DeviceTimeCommandsComplete_5 : ∃ (s : State), (s.num Reg.ppsEnable = 1) ∧ (s.ppsDue = true) ∧ (s.time.ppsHigh = false) :=
  ⟨{ ready.putN Reg.ppsEnable 1 with time := { dev := 1000000000 * nsUnits, ran := 1 } }, by decide +kernel⟩

theorem witness_DeviceTimeCommandsComplete_6 : ∃ (s : State), (s.time.ppsEnd ≤ s.time.elapsed) :=
  ⟨ready, by decide +kernel⟩

theorem witness_DeviceTimeCommandsComplete_7 : ∃ (s : State) (k lasts : Nat) (rising half : Bool) (x : TsInput), (k < 4) ∧ ((if rising then s.num (Reg.tsiEdge k) % 2 else s.num (Reg.tsiEdge k) / 2) ≠ 0) ∧ (s.tsIn.getD k {} = x) ∧ (4 ≤ lasts) ∧ (x.glitch ≠ some (!rising)) ∧ ((∀ t, x.last = some t → t + 100 ≤ s.time.elapsed)) ∧ (x.queue.length < 16) :=
  ⟨ready.putN (Reg.tsiEdge 3) 3, 3, 4, true, false, {}, by decide +kernel⟩

theorem witness_DeviceTimeCommandsComplete_8 : ∃ (s : State) (k lasts : Nat) (rising half : Bool) (x : TsInput), (k < 4) ∧ ((if rising then s.num (Reg.tsiEdge k) % 2 else s.num (Reg.tsiEdge k) / 2) ≠ 0) ∧ (s.tsIn.getD k {} = x) ∧ (4 ≤ lasts) ∧ (x.glitch ≠ some (!rising)) ∧ (16 ≤ x.queue.length ∨ (∃ t, x.last = some t ∧ s.time.elapsed < t + 100)) :=
  ⟨{ ready.putN (Reg.tsiEdge 3) 3 with tsIn := [(3, { last := some 0 })], time := { elapsed := 99 } }, 3, 4, true, false, { last := some 0 }, by decide +kernel, by decide +kernel, by decide +kernel, by decide +kernel, by decide +kernel, Or.inr ⟨0, rfl, by decide +kernel⟩⟩

theorem witness_DeviceTimeCommandsComplete_9 : ∃ (s : State) (k lasts : Nat) (rising half : Bool), (k < 4) ∧ (lasts < 4) :=
  ⟨ready, 3, 3, true, false, by decide +kernel⟩

theorem witness_AlarmsAndTimeAnswer_22 : ∃ (s : State) (n k v : Nat) (y : Bool × Nat × Bool) (rest : List (Nat × Bool × Nat × Bool)), (n < 9) ∧ (Serves s n (blockAddr 0x1210 4 k 6) v) ∧ ((s.tsIn.getD k {}).queue = (v, y) :: rest) :=
  ⟨{ ready with tsIn := [(0, { queue := [(7, true, 0, false)] })] }, 0, 0, 7, (true, 0, false), [], by decide +kernel⟩

theorem witness_DeviceTimeCommandsComplete_10 : ∃ (s : State) (n k v : Nat) (y : Bool × Nat × Bool) (rest : List (Nat × Bool × Nat × Bool)), (Serves s n (blockAddr 0x1210 4 k 6) v) ∧ ((s.tsIn.getD k {}).queue = (v, y) :: rest) :=
  let ⟨s, n, k, v, y, rest, h⟩ := witness_AlarmsAndTimeAnswer_22; ⟨s, n, k, v, y, rest, h.2⟩

theorem witness_DeviceTimeCommandsComplete_11 : ∃ (s : State) (n k v : Nat), (Serves s n (blockAddr 0x1210 4 k 6) v) ∧ ((∀ r ∈ (s.tsIn.getD k {}).queue.head?, r.1 ≠ v)) :=
  ⟨{ ready with tsIn := [(0, { queue := [(7, true, 0, false)] })] }, 0, 0, 8, by decide +kernel⟩

theorem witness_AlarmsAndTimeAnswer_23 : ∃ (s : State) (n p : Nat), (n < 9) ∧ (Serves s n (portAddr p 1 0x40) 0) :=
  ⟨clearUp, 0, 0, by decide +kernel⟩

theorem witness_DeviceTimeCommandsComplete_12 : ∃ (s : State) (n p : Nat), (Serves s n (portAddr p 1 0x40) 0) :=
  let ⟨s, n, p, h⟩ := witness_AlarmsAndTimeAnswer_23; ⟨s, n, p, h.2⟩

theorem witness_SecondBoundaryCompletes_1 : ∃ (s : State) (m : SecondInput), (s.phase ≠ .reset) ∧ (s.boundaryDue = true) :=
  ⟨{ ready with time := { dev := 1000000000 * nsUnits } }, ⟨[], [], 0, [], [], []⟩, by decide +kernel⟩

theorem witness_I3cAndFieldNetworkAnswer_1 : ∃ (s : State) (bytes : Octets), (msgWhole ((s.session 0).partialMsg ++ bytes) = false) ∧ (s.i3cAddressed = true) ∧ (bytes ≠ []) ∧ ((s.session 0).waiting = []) :=
  ⟨i3cUp, [1], by decide +kernel⟩

theorem witness_I3cTransfersComplete_1 : ∃ (s : State) (bytes : Octets), (s.i3cAddressed = true) ∧ (bytes ≠ []) ∧ ((s.session 0).waiting = []) :=
  let ⟨s, bytes, h⟩ := witness_I3cAndFieldNetworkAnswer_1; ⟨s, bytes, h.2⟩

theorem witness_I3cTransfersComplete_2 : ∃ (s : State) (bytes : Octets), (s.i3cAddressed = true) ∧ (bytes ≠ []) ∧ ((s.session 0).waiting ≠ []) :=
  ⟨i3cUp.setSession 0 { waiting := [(none, [])] }, [1], by decide +kernel⟩

theorem witness_I3cTransfersComplete_3 : ∃ (s : State) (len : Nat), (s.i3cAddressed = true) ∧ ((s.session 0).waiting = []) ∧ ((s.session 0).unread ≠ []) :=
  ⟨i3cUp.setSession 0 { unread := [1, 2] }, 1, by decide +kernel⟩

theorem witness_I3cTransfersComplete_4 : ∃ (s : State) (c : Nat) (bytes : Octets), (s.i3cAddressed = true) ∧ (s.i3c.hdr = true) ∧ (c ≠ 0x01) :=
  ⟨{ i3cUp with i3c := { hdr := true } }, 2, [1], by decide +kernel⟩

theorem witness_I3cTransfersComplete_5 : ∃ (s : State) (c len : Nat), (s.i3cAddressed = true) ∧ (s.i3c.hdr = true) ∧ (c ≠ 0x81) :=
  ⟨{ i3cUp with i3c := { hdr := true } }, 1, 1, by decide +kernel⟩

theorem witness_I3cTransfersComplete_6 : ∃ (s : State) (b : List Nat), (s.i3cAddressed = true) ∧ (s.i3c.intEnabled = true) ∧ (s.i3c.respIbi = some b) :=
  ⟨{ i3cUp with i3c := { intEnabled := true, respIbi := some [1] } }, [1], by decide +kernel⟩

theorem witness_I3cTransfersComplete_7 : ∃ (s : State) (b : List Nat), (s.i3cAddressed = true) ∧ (s.i3c.intEnabled = true) ∧ (s.i3c.respIbi = none) ∧ (s.i3c.ibi = some b) :=
  ⟨{ i3cUp with i3c := { intEnabled := true, ibi := some [1] } }, [1], by decide +kernel⟩

theorem witness_I3cTransfersComplete_8 : ∃ (s : State) (bytes : Octets), (s.i3cAddressed = true) ∧ (s.i3c.hdr = true) ∧ (bytes ≠ []) ∧ ((s.session 0).waiting = []) :=
  ⟨{ i3cUp with i3c := { hdr := true } }, [1], by decide +kernel⟩

theorem witness_I3cTransfersComplete_9 : ∃ (s : State) (len : Nat), (s.i3cAddressed = true) ∧ (s.i3c.hdr = true) ∧ ((s.session 0).waiting = []) ∧ ((s.session 0).unread ≠ []) :=
  ⟨{ i3cUp.setSession 0 { unread := [1, 2] } with i3c := { hdr := true } }, 1, by decide +kernel⟩

theorem witness_I3cAddressingCompletes_1 : ∃ (s : State) (dyn : Nat), (s.i3cAwake = true) ∧ (s.num Reg.i3cDynAddr = 0) ∧ (1 ≤ dyn) ∧ (dyn ≤ 127) :=
  ⟨ready, 127, by decide +kernel⟩

theorem witness_I3cAddressingCompletes_2 : ∃ (s : State) (dyn : Nat), (s.i3cAwake = true) ∧ (s.num Reg.i3cDynAddr = 0) ∧ (1 ≤ dyn) ∧ (dyn ≤ 127) :=
  ⟨ready, 1, by decide +kernel⟩

theorem witness_I3cAddressingCompletes_3 : ∃ (s : State), (s.i3cAwake = true) :=
  ⟨i3cUp, by decide +kernel⟩

theorem witness_I3cAddressingCompletes_4 : ∃ (s : State) (bits : Nat), (s.i3cAwake = true) :=
  ⟨ready, 9, by decide +kernel⟩

theorem witness_I3cAddressingCompletes_5 : ∃ (s : State) (bits : Nat), (s.i3cAwake = true) :=
  ⟨ready, 9, by decide +kernel⟩

theorem witness_I3cAddressingCompletes_6 : ∃ (s : State) (v : Nat), (s.i3cAwake = true) :=
  ⟨ready, 64, by decide +kernel⟩

theorem witness_I3cAddressingCompletes_7 : ∃ (s : State) (v : Nat), (s.i3cAwake = true) :=
  ⟨ready, 64, by decide +kernel⟩

theorem witness_I3cAddressingCompletes_8 : ∃ (s : State), (s.i3cAwake = true) :=
  ⟨ready, by decide +kernel⟩

theorem witness_I3cAddressingCompletes_9 : ∃ (s : State) (code : Nat), (s.i3cAwake = true) ∧ (s.num Reg.i3cDynAddr ≠ 0) :=
  ⟨i3cUp, 0x2A, by decide +kernel⟩

theorem witness_I3cAddressingCompletes_10 : ∃ (s : State) (code : Nat), (s.i3cAwake = true) :=
  ⟨ready, 0x2A, by decide +kernel⟩

theorem witness_I3cReadsComplete_1 : ∃ (s : State), (s.i3cAddressed = true) :=
  ⟨i3cUp, by decide +kernel⟩

theorem witness_I3cReadsComplete_2 : ∃ (s : State), (s.i3cAddressed = true) :=
  ⟨i3cUp, by decide +kernel⟩

theorem witness_I3cReadsComplete_3 : ∃ (s : State), (s.i3cAddressed = true) :=
  ⟨i3cUp, by decide +kernel⟩

theorem witness_I3cReadsComplete_4 : ∃ (s : State), (s.i3cAddressed = true) :=
  ⟨i3cUp, by decide +kernel⟩

theorem witness_I3cReadsComplete_5 : ∃ (s : State), (s.i3cAddressed = true) :=
  ⟨i3cUp, by decide +kernel⟩

theorem witness_I3cReadsComplete_6 : ∃ (s : State), (s.i3cAddressed = true) :=
  ⟨i3cUp, by decide +kernel⟩

theorem witness_I3cReadsComplete_7 : ∃ (s : State), (s.i3cAddressed = true) :=
  ⟨i3cUp, by decide +kernel⟩

theorem witness_I3cReadsComplete_8 : ∃ (s : State), (s.i3cAddressed = true) :=
  ⟨i3cUp, by decide +kernel⟩

theorem witness_ManagementObjectsComplete_1 : ∃ (s : State) (n : Nat), (Serves s n 0x110103 0) :=
  ⟨ready, 0, by decide +kernel⟩

theorem witness_LanesAndPortsAnswer_20 : ∃ (s : State) (n : Nat), (n < 9) ∧ (Serves s n 0x110103 1) :=
  ⟨ready, 0, by decide +kernel⟩

theorem witness_ManagementObjectsComplete_2 : ∃ (s : State) (n : Nat), (Serves s n 0x110103 1) :=
  let ⟨s, n, h⟩ := witness_LanesAndPortsAnswer_20; ⟨s, n, h.2⟩

theorem witness_ManagementObjectsComplete_3 : ∃ (s : State) (n p : Nat), (Serves s n (portAddr p 0 0x2B) 0) :=
  ⟨clearUp, 0, 0, by decide +kernel⟩

theorem witness_LanesAndPortsAnswer_19 : ∃ (s : State) (n p : Nat), (n < 9) ∧ (Serves s n (portAddr p 0 0x2B) 1) :=
  ⟨clearUp, 0, 0, by decide +kernel⟩

theorem witness_ManagementObjectsComplete_4 : ∃ (s : State) (n p : Nat), (Serves s n (portAddr p 0 0x2B) 1) :=
  let ⟨s, n, p, h⟩ := witness_LanesAndPortsAnswer_19; ⟨s, n, p, h.2⟩

theorem witness_ManagementObjectsComplete_5 : ∃ (s : State) (n v : Nat), (Serves s n 0x110102 v) ∧ (0x0600 ≤ v) ∧ (v ∉ ([0x8808, 0x888E, 0x88E5, 0x88F7] : List Nat)) :=
  ⟨ready, 0, 0x0600, by decide +kernel⟩

theorem witness_ManagementObjectsComplete_6 : ∃ (s : State) (n k : Nat), (Serves s n (blockAddr 0x1110 9 k 6) 1) ∧ (k ≠ 0) :=
  ⟨netUp, 0, 8, by decide +kernel⟩

theorem witness_ManagementObjectsComplete_7 : ∃ (s : State) (n addr v : Nat) (words : List Nat) (pad : Nat) (e : Entry), (s.answers n = true) ∧ (addr < 0x600000) ∧ (addr ≠ 0x133004) ∧ (Dict.entry addr = some e) ∧ (e.ty.decode addr words pad = (.num v, none)) ∧ (firstAbort (s.admission n addr true v ++ [none]) = none) :=
  ⟨ready, 0, 0x110103, 1, [1], 0, ⟨.bool, .rw, .num 1⟩, by decide +kernel⟩

theorem witness_FieldNetworkCompletes_1 : ∃ (s : State) (fr : Octets), (s.phase = .ready) ∧ (s.num Reg.t1sEnable ≠ 0) ∧ (fieldAt fr 12 2 = s.num Reg.silsyEtype) ∧ (frameDst fr = s.otp.mgmtMac.toNat) :=
  ⟨ready.putN Reg.t1sEnable 1, List.replicate 12 0 ++ natToBytes 2 (ready.num Reg.silsyEtype), by decide +kernel⟩

theorem witness_FieldNetworkCompletes_2 : ∃ (s : State) (fr : Octets), (s.phase = .ready) ∧ (s.num Reg.t1sEnable ≠ 0) ∧ (fieldAt fr 12 2 = s.num Reg.silsyEtype) ∧ (frameDst fr ≠ s.otp.mgmtMac.toNat) ∧ (frameDst fr = 0xFFFFFFFFFFFF) ∧ (fieldAt (fr.drop 14) 0 1 = 1) :=
  ⟨ready.putN Reg.t1sEnable 1, List.replicate 6 0xFF#8 ++ List.replicate 6 0 ++ natToBytes 2 (ready.num Reg.silsyEtype) ++ [1], by decide +kernel⟩

theorem witness_FieldNetworkCompletes_3 : ∃ (s : State) (fr : Octets), (s.phase = .ready) ∧ (s.num Reg.t1sEnable ≠ 0) ∧ (fieldAt fr 12 2 = s.num Reg.silsyEtype) ∧ (frameDst fr ≠ s.otp.mgmtMac.toNat) ∧ (frameDst fr = 0xFFFFFFFFFFFF) ∧ (fieldAt (fr.drop 14) 0 1 = 2) :=
  ⟨ready.putN Reg.t1sEnable 1, List.replicate 6 0xFF#8 ++ List.replicate 6 0 ++ natToBytes 2 (ready.num Reg.silsyEtype) ++ [2], by decide +kernel⟩

theorem witness_I3cAndFieldNetworkAnswer_24 : ∃ (s : State), (s.t1s.queue ≠ []) ∧ (s.t1s.attempts + 1 < 16) ∧ (s.phase = .ready) ∧ (s.t1s.backoff = none) :=
  ⟨{ ready with t1s := { queue := [[1]] } }, by decide +kernel⟩

theorem witness_FieldNetworkCompletes_5 : ∃ (s : State), (s.phase = .ready) ∧ (s.t1s.backoff = none) :=
  let ⟨s, h⟩ := witness_I3cAndFieldNetworkAnswer_24; ⟨s, h.2.2⟩

theorem witness_FieldNetworkCompletes_6 : ∃ (s : State) (r : Nat) (fr : Octets) (rest : List Octets), (s.phase = .ready) ∧ (s.t1s.backoff = some r) ∧ (s.t1s.queue = fr :: rest) :=
  ⟨{ ready with t1s := { backoff := some 1, queue := [[1]] } }, 1, [1], [], by decide +kernel⟩

theorem witness_FieldNetworkCompletes_7 : ∃ (s : State) (r : Nat), (s.phase = .ready) ∧ (s.t1s.backoff = some r) :=
  ⟨{ ready with t1s := { backoff := some 1 } }, 1, by decide +kernel⟩

theorem witness_FieldNetworkCompletes_8 : ∃ (s : State) (fr : Octets) (rest : List Octets), (s.t1s.plain = fr :: rest) :=
  ⟨{ ready with t1s := { plain := [[1]] } }, [1], [], by decide +kernel⟩

theorem witness_FieldNetworkCompletes_10 : ∃ (s : State) (p : Nat) (fr : Octets) (tagged : Bool), (s.silsyBroadcast fr = true) ∧ (silsyVersion fr = 2) ∧ (s.kind p = 3 ∨ s.kind p = 4) :=
  ⟨lineUp, 0, List.replicate 6 0xFF#8 ++ List.replicate 6 0 ++ natToBytes 2 (ready.num Reg.silsyEtype) ++ [2], false, by decide +kernel⟩

theorem witness_FieldNetworkCompletes_11 : ∃ (s : State) (m : Nat) (fr : Octets), (s.phase = .ready) ∧ (fieldAt fr 0 1 = 2) ∧ (s.num Reg.t1sEnable ≠ 0) :=
  ⟨ready.putN Reg.t1sEnable 1, 0, [2], by decide +kernel⟩

theorem witness_FieldNetworkCompletes_12 : ∃ (s : State) (p m : Nat) (q : Option Nat) (x : Bool) (fr : Octets), (s.phase = .ready) ∧ (fieldAt fr 0 1 = 2) ∧ (p < s.nPorts) ∧ (s.kind p = 1 ∨ s.kind p = 2) :=
  ⟨clearUp, 0, 0, none, false, [2], by decide +kernel⟩

theorem witness_HandshakeCompletes_1 : ∃ (s : State) (via : Via) (body : Octets) (m : Nat) (u : State), (s.afterVia via = some u) ∧ (u.hearthBusy = false) ∧ (u.hasIdentity = true) ∧ (u.lc ≠ 15) ∧ (u.cred (body.getD 0 0).toNat ≠ none) ∧ (u.credHas (body.getD 0 0).toNat 0 = true) ∧ (u.freeSessionOf via = some m) ∧ (body.length = 1233) :=
  ⟨overT1s identified, .t1s 5, 0 :: List.replicate 1232 0, 1, overT1s identified, by decide +kernel, by decide +kernel, by decide +kernel, by decide +kernel, by decide +kernel, by decide +kernel, by decide +kernel, by simp only [List.length_cons, List.length_replicate]⟩

theorem witness_SessionsTrustAndRetortAnswer_1 : ∃ (s : State) (via : Via) (body : Octets) (m : Nat) (u : State), (m < 9) ∧ (s.afterVia via = some u) ∧ (u.hearthBusy = false) ∧ (u.hasIdentity = true) ∧ (u.lc ≠ 15) ∧ (u.cred (body.getD 0 0).toNat ≠ none) ∧ (u.credHas (body.getD 0 0).toNat 0 = true) ∧ (u.freeSessionOf via = some m) ∧ (body.length = 1233) :=
  ⟨overT1s identified, .t1s 5, 0 :: List.replicate 1232 0, 1, overT1s identified, by decide, by decide +kernel, by decide +kernel, by decide +kernel, by decide +kernel, by decide +kernel, by decide +kernel, by decide +kernel, by simp only [List.length_cons, List.length_replicate]⟩

theorem witness_HandshakeCompletes_2 : ∃ (s : State) (via : Via) (body : Octets) (u : State), (s.afterVia via = some u) ∧ (u.hearthBusy = true ∨ u.hasIdentity = false ∨ u.lc = 15 ∨ u.cred (body.getD 0 0).toNat = none ∨ u.credHas (body.getD 0 0).toNat 0 = false ∨ u.freeSessionOf via = none) :=
  ⟨ready.putN Reg.t1sEnable 1, .t1s 5, [0], ready.putN Reg.t1sEnable 1, by decide +kernel⟩

theorem witness_HandshakeCompletes_3 : ∃ (s : State) (m : Nat) (via : Via) (h : Handshake), (s.phase = .ready) ∧ (s.hearthBusy = false) ∧ (s.netSession m 1 = true) ∧ (s.jobsOf (.hello m) = false) ∧ ((s.session m).via = some via) ∧ ((s.session m).hs = some h) ∧ (h.sentAt = none) :=
  ⟨shaking none none, 1, .t1s 5, ⟨0, [], [], [], none, none⟩, by decide +kernel⟩

theorem witness_HandshakeCompletes_4 : ∃ (s : State) (m x : Nat) (body : Octets) (h : Handshake), (s.phase = .ready) ∧ (s.num Reg.t1sEnable ≠ 0) ∧ (s.netSession m 1 = true) ∧ (s.fromPeer m (.t1s x) = true) ∧ ((s.session m).hs = some h) ∧ ((s.session m).nextFrag = 0) ∧ (h.authSig = none) ∧ (s.authDue h = true) ∧ (body.length = 3373) :=
  ⟨overT1s (shaking (some 0) none), 1, 5, List.replicate 3373 0, ⟨0, [], [], [], some 0, none⟩, by decide +kernel, by decide +kernel, by decide +kernel, by decide +kernel, by decide +kernel, by decide +kernel, by decide +kernel, by decide +kernel, by simp only [List.length_replicate]⟩

theorem witness_HandshakeCompletes_5 : ∃ (s : State) (m : Nat) (via : Via) (body : Octets) (h : Handshake) (u : State), (s.afterVia via = some u) ∧ (body.length ≤ 1440) ∧ ((u.session m).hs = some h) ∧ (u.netSession m 1 = true) ∧ (u.fromPeer m via = true) ∧ ((u.session m).nextFrag = 0) :=
  ⟨overT1s (shaking (some 0) none), 1, .t1s 5, [], ⟨0, [], [], [], some 0, none⟩, overT1s (shaking (some 0) none), by decide +kernel⟩

theorem witness_HandshakeCompletes_6 : ∃ (s : State) (m : Nat) (h : Handshake) (ed ml : Octets), (s.phase = .ready) ∧ (s.hearthBusy = false) ∧ (s.netSession m 1 = true) ∧ (s.jobsOf (.auth m) = false) ∧ ((s.session m).hs = some h) ∧ (h.authSig = some (ed, ml)) ∧ (s.lc ≠ 15) :=
  ⟨shaking (some 0) (some ([], [])), 1, ⟨0, [], [], [], some 0, some ([], [])⟩, [], [], by decide +kernel⟩

theorem witness_HandshakeCompletes_7 : ∃ (s : State) (m : Nat) (h : Handshake), (s.phase = .ready) ∧ (s.netSession m 1 = true) ∧ ((s.session m).hs = some h) ∧ (h.sentAt ≠ none) ∧ (h.authSig = none) ∧ (s.authDue h = false) :=
  ⟨{ shaking (some 0) none with time := { elapsed := 10000000001 } }, 1, ⟨0, [], [], [], some 0, none⟩, by decide +kernel⟩

theorem witness_SessionTrafficCompletes_1 : ∃ (s : State) (m : Nat) (via : Via) (fr body : Octets) (u t : State), (s.afterVia via = some u) ∧ (silsyIs fr 5 m = true) ∧ (u.acceptFrame m via fr = (some body, t)) :=
  ⟨overT1s openUp, 1, .t1s 5, sealedFrame 5, ((overT1s openUp).acceptFrame 1 (.t1s 5) (sealedFrame 5)).1.getD [], overT1s openUp, ((overT1s openUp).acceptFrame 1 (.t1s 5) (sealedFrame 5)).2, by decide +kernel⟩

theorem witness_SessionTrafficCompletes_2 : ∃ (s : State) (m : Nat) (via : Via) (fr : Octets) (u t : State), (s.afterVia via = some u) ∧ (silsyIs fr 5 m = true) ∧ (u.acceptFrame m via fr = (none, t)) :=
  ⟨overT1s ready, 1, .t1s 5, [1, 5, 1], overT1s ready, ((overT1s ready).acceptFrame 1 (.t1s 5) [1, 5, 1]).2, by decide +kernel⟩

theorem witness_SessionTrafficCompletes_3 : ∃ (s : State) (m : Nat) (via : Via) (fr body : Octets) (u t : State), (s.afterVia via = some u) ∧ (silsyIs fr 6 m = true) ∧ (u.acceptFrame m via fr = (some body, t)) :=
  ⟨overT1s openUp, 1, .t1s 5, sealedFrame 6, ((overT1s openUp).acceptFrame 1 (.t1s 5) (sealedFrame 6)).1.getD [], overT1s openUp, ((overT1s openUp).acceptFrame 1 (.t1s 5) (sealedFrame 6)).2, by decide +kernel⟩

theorem witness_SessionTrafficCompletes_4 : ∃ (s : State) (m : Nat) (via : Via) (fr : Octets) (u t : State), (s.afterVia via = some u) ∧ (silsyIs fr 6 m = true) ∧ (u.acceptFrame m via fr = (none, t)) :=
  ⟨overT1s ready, 1, .t1s 5, [1, 6, 1], overT1s ready, ((overT1s ready).acceptFrame 1 (.t1s 5) [1, 6, 1]).2, by decide +kernel⟩

theorem witness_SessionTrafficCompletes_5 : ∃ (s : State) (m : Nat), (s.phase = .ready) ∧ (s.netSession m 2 = true) ∧ ((s.session m).lastValid + s.num Reg.sessIdle * 1000000000 ≤ s.time.elapsed) :=
  ⟨{ netUp with time := { elapsed := 100000000000000 } }, 8, by decide +kernel⟩

theorem witness_SessionTrafficCompletes_6 : ∃ (s : State) (m : Nat) (via : Via) (msg : Octets) (u v : State), (s.afterVia via = some u) ∧ (msg.length ≤ 1440) ∧ (u.joinClear via 128 msg = (some msg, v)) :=
  ⟨overT1s ready, 0, .t1s 5, [], overT1s ready, ((overT1s ready).joinClear (.t1s 5) 128 []).2, by decide +kernel⟩

theorem witness_SessionTrafficCompletes_7 : ∃ (s : State) (m : Nat) (via : Via) (msg : Octets) (u v : State), (s.afterVia via = some u) ∧ (msg.length ≤ 1440) ∧ (u.joinClear via 128 msg = (some msg, v)) :=
  ⟨overT1s ready, 0, .t1s 5, [], overT1s ready, ((overT1s ready).joinClear (.t1s 5) 128 []).2, by decide +kernel⟩

theorem witness_SessionsTrustAndRetortAnswer_17 : ∃ (s : State) (n v : Nat), (n < 9) ∧ (Serves s n 0x152001 v) ∧ (v ≤ 1023) ∧ ((List.range s.nBolts).any (fun b => (List.range 8).any (fun g => !s.stopped (.group b g))) = false) ∧ ((List.range s.nPorts).any (fun p => s.kind p == 4 && !s.stopped (.port p)) = false) :=
  ⟨ready, 0, 1023, by decide +kernel⟩

theorem witness_MeshCommandsComplete_1 : ∃ (s : State) (n v : Nat), (Serves s n 0x152001 v) ∧ (v ≤ 1023) ∧ ((List.range s.nBolts).any (fun b => (List.range 8).any (fun g => !s.stopped (.group b g))) = false) ∧ ((List.range s.nPorts).any (fun p => s.kind p == 4 && !s.stopped (.port p)) = false) :=
  let ⟨s, n, v, h⟩ := witness_SessionsTrustAndRetortAnswer_17; ⟨s, n, v, h.2⟩

theorem witness_MeshCommandsComplete_2 : ∃ (s : State) (n v : Nat) (k : Nat × Nat × Nat × Octets), (Serves s n 0x152003 v) ∧ (v ≤ 63) ∧ (s.unwrapBlob (s.oct (Reg.blob v)) 0xFF (s.num Reg.blobGenDev) = .ok k) ∧ (k.1 = 2) ∧ (s.mesh.cur = none) :=
  ⟨meshKeyed, 8, 0, (2, 0, 0, List.replicate 32 1#8), by decide +kernel, by decide, mesh_key_opens mesh_kek (by decide +kernel), rfl, rfl⟩

theorem witness_SessionsTrustAndRetortAnswer_15 : ∃ (s : State) (n v : Nat) (k : Nat × Nat × Nat × Octets), (n < 9) ∧ (Serves s n 0x152003 v) ∧ (v ≤ 63) ∧ (s.unwrapBlob (s.oct (Reg.blob v)) 0xFF (s.num Reg.blobGenDev) = .ok k) ∧ (k.1 = 2) ∧ (s.mesh.cur = none) :=
  ⟨meshKeyed, 8, 0, (2, 0, 0, List.replicate 32 1#8), by decide, by decide +kernel, by decide, mesh_key_opens mesh_kek (by decide +kernel), rfl, rfl⟩

theorem witness_MeshCommandsComplete_3 : ∃ (s : State) (n v : Nat) (k : Nat × Nat × Nat × Octets), (Serves s n 0x152003 v) ∧ (v ≤ 63) ∧ (s.unwrapBlob (s.oct (Reg.blob v)) 0xFF (s.num Reg.blobGenDev) = .ok k) ∧ (k.1 = 2) ∧ (s.mesh.cur ≠ none) :=
  ⟨{ meshKeyed with mesh := { cur := some [1] } }, 8, 0, (2, 0, 0, List.replicate 32 1#8), by decide +kernel, by decide, mesh_key_opens (by decide +kernel) (by decide +kernel), rfl, by decide⟩

theorem witness_SessionsTrustAndRetortAnswer_16 : ∃ (s : State) (n : Nat) (key : Octets), (n < 9) ∧ (Serves s n 0x152005 1) ∧ (s.mesh.next = some key) ∧ (s.num Reg.meshEpoch ≠ 0xFFFFFF) :=
  ⟨{ ready with mesh := { next := some [1] } }, 0, [1], by decide +kernel⟩

theorem witness_MeshCommandsComplete_4 : ∃ (s : State) (n : Nat) (key : Octets), (Serves s n 0x152005 1) ∧ (s.mesh.next = some key) ∧ (s.num Reg.meshEpoch ≠ 0xFFFFFF) :=
  let ⟨s, n, key, h⟩ := witness_SessionsTrustAndRetortAnswer_16; ⟨s, n, key, h.2⟩

theorem witness_MeshCommandsComplete_5 : ∃ (s : State) (key : Octets), (s.mesh.cur = some key) ∧ (s.phase = .ready) ∧ (s.hearth.gap = false) ∧ (s.hearth.restarting = false) :=
  ⟨{ ready with mesh := { cur := some [1] } }, [1], by decide +kernel⟩

theorem witness_MeshCommandsComplete_6 : ∃ (s : State) (m : Nat), (s.phase = .ready) ∧ (s.neighbour m = true) ∧ (s.mesh.dead.contains m = false) ∧ (s.mesh.heard.getD m 0 + s.num Reg.meshDead * 1000000000 ≤ s.time.elapsed) :=
  ⟨{ ready.put Reg.meshNeighbours (.oct (List.replicate 128 0xFF#8)) with time := { elapsed := 100000000000000 } }, 1023, by decide +kernel⟩

theorem witness_SessionsTrustAndRetortAnswer_23 : ∃ (s : State) (n : Nat), (n < 9) ∧ (Serves s n 0x130001 1) ∧ (s.lc = 0) :=
  ⟨lcState 0, 0, by decide +kernel⟩

theorem witness_LifeCycleCompletes_1 : ∃ (s : State) (n : Nat), (Serves s n 0x130001 1) ∧ (s.lc = 0) :=
  let ⟨s, n, h⟩ := witness_SessionsTrustAndRetortAnswer_23; ⟨s, n, h.2⟩

theorem witness_LifeCycleCompletes_2 : ∃ (s : State) (n : Nat), (Serves s n 0x130001 2) ∧ (s.lc = 1) ∧ (bit (s.rightsOf n) 6 = true) ∧ (s.tokensUsed ≠ 16) :=
  ⟨{ lcState 1 with trust := { cert := some ⟨0, 0, 1, 0x40, 0, 0, []⟩ } }, 0, by decide +kernel⟩

theorem witness_LifeCycleCompletes_3 : ∃ (s : State) (n : Nat), (Serves s n 0x130001 1) ∧ (s.lc = 2) ∧ ((List.range s.nBolts).any (fun b => s.num (Reg.bCmLevel b) == 0) = false) :=
  ⟨{ lcState 1 with trust := { testOpen := true } }, 0, by decide +kernel⟩

theorem witness_LifeCycleCompletes_4 : ∃ (s : State) (n : Nat), (Serves s n 0x130001 3) ∧ (s.lc = 2) ∧ ((List.range s.nBolts).any (fun b => s.num (Reg.bCmLevel b) == 0) = false) :=
  ⟨{ lcState 1 with trust := { testOpen := true } }, 0, by decide +kernel⟩

theorem witness_SessionsTrustAndRetortAnswer_26 : ∃ (s : State) (n : Nat), (n < 9) ∧ (Serves s n 0x130001 4) ∧ (s.lc = 3) :=
  ⟨lcState 3, 0, by decide +kernel⟩

theorem witness_LifeCycleCompletes_5 : ∃ (s : State) (n : Nat), (Serves s n 0x130001 4) ∧ (s.lc = 3) :=
  let ⟨s, n, h⟩ := witness_SessionsTrustAndRetortAnswer_26; ⟨s, n, h.2⟩

theorem witness_SessionsTrustAndRetortAnswer_27 : ∃ (s : State) (n : Nat), (n < 9) ∧ (Serves s n 0x130001 5) ∧ (s.lc = 4) ∧ (s.commissioned = true) :=
  ⟨(({ netUp with otp := { Otp.delivered with marker0 := 0xA5#8 } }.put (Reg.credEnrol 1) (.oct (List.replicate 2000 0xFF#8))).putN Reg.idcState 1), 0, by decide +kernel⟩

theorem witness_LifeCycleCompletes_6 : ∃ (s : State) (n : Nat), (Serves s n 0x130001 5) ∧ (s.lc = 4) ∧ (s.commissioned = true) :=
  let ⟨s, n, h⟩ := witness_SessionsTrustAndRetortAnswer_27; ⟨s, n, h.2⟩

theorem witness_LifeCycleCompletes_7 : ∃ (s : State) (n : Nat), (Serves s n 0x130001 6) ∧ (s.lc = 4) :=
  ⟨ready, 0, by decide +kernel⟩

theorem witness_LifeCycleCompletes_8 : ∃ (s : State) (n : Nat), (Serves s n 0x130001 6) ∧ (s.lc = 5) :=
  ⟨lcState 5, 0, by decide +kernel⟩

theorem witness_LifeCycleCompletes_9 : ∃ (s : State) (n : Nat), (Serves s n 0x130001 7) ∧ (s.lc = 1 ∨ s.lc = 3 ∨ s.lc = 4 ∨ s.lc = 6) :=
  ⟨ready, 0, by decide +kernel⟩

theorem witness_LifeCycleCompletes_10 : ∃ (s : State) (n v : Nat), (Serves s n 0x130001 v) ∧ (s.lc = 15) ∧ (v = s.lcResume) ∧ (v ≠ 0xFF) :=
  ⟨{ ready with otp := { Otp.delivered with codeword := 0x010FFFFF#32 } }, 0, 6, by decide +kernel⟩

theorem witness_TrustCommandsComplete_1 : ∃ (s : State) (n : Nat), (Serves s n 0x132006 1) ∧ (s.num Reg.idcState ≠ 1) ∧ (s.lc = 4) ∧ (s.hasIdentity = true) ∧ ((s.oct Reg.idcInfo).take 8 = ascii "NZ-IDC01") ∧ (((s.oct Reg.idcInfo).drop 8).take 32 = s.deviceId) ∧ (((s.oct Reg.idcInfo).drop 40).take 8 = natToBytes 8 s.otp.dieId.toNat) ∧ (s.retort.disagree = false) :=
  ⟨installing, 8, by decide +kernel⟩

theorem witness_TrustCommandsComplete_2 : ∃ (s : State) (n : Nat), (Serves s n 0x132102 1) ∧ (s.hasIdentity = true) ∧ (s.retort.disagree = false) :=
  ⟨{ identified with otp := { Otp.delivered with marker0 := 0xA5#8 } }, 0, by decide +kernel⟩

theorem witness_TrustCommandsComplete_3 : ∃ (s : State) (c : Nat) (r : Byte) (rest : Octets), (s.answers 0 = true) ∧ (c < 16) ∧ (s.directEnrol 0 = true) ∧ (firstAbort ((s.admission 0 ((0x1380 + c) * 256 + 1) true 0).filter (fun x => x != some 0x140001) ++ [abortIf (!octetsLengthOk ((0x1380 + c) * 256 + 1) 2000 (r :: rest).length) 0x130003]) = none) ∧ (s.enrolAbort c (r :: rest) = none) :=
  ⟨{ ready with trust := {} }, 0, 0x1F#8, List.replicate 15 0 ++ (0x58#8 :: List.replicate 31 0x66#8) ++ List.replicate 1952 1, by decide +kernel⟩

theorem witness_TrustCommandsComplete_4 : ∃ (s : State) (c : Nat), (s.answers 0 = true) ∧ (c < 16) ∧ (s.directEnrol 0 = true) ∧ (firstAbort ((s.admission 0 ((0x1380 + c) * 256 + 1) true 0).filter (fun x => x != some 0x140001) ++ [abortIf (!octetsLengthOk ((0x1380 + c) * 256 + 1) 2000 0) 0x130003]) = none) ∧ (s.enrolAbort c [] = none) :=
  ⟨identified, 0, by decide +kernel⟩

theorem witness_SessionsTrustAndRetortAnswer_33 : ∃ (s : State) (n : Nat), (n < 9) ∧ (ServesRead s n 0x134001) :=
  ⟨ready, 0, by decide +kernel⟩

theorem witness_DebugCommandsComplete_1 : ∃ (s : State) (n : Nat), (ServesRead s n 0x134001) :=
  let ⟨s, n, h⟩ := witness_SessionsTrustAndRetortAnswer_33; ⟨s, n, h.2⟩

theorem witness_DebugCommandsComplete_2 : ∃ (s : State) (n t : Nat) (x : Octets), (Serves s n 0x134006 1) ∧ (s.trust.cert = none) ∧ (s.signerOk (certField (s.oct (Reg.dbgBody n)) 83 1) (certField (s.oct (Reg.dbgBody n)) 84 1) = true) ∧ (((s.oct (Reg.dbgBody n)).drop 8).take 32 = s.deviceId) ∧ (s.trust.dbgNonce = some (x, t)) ∧ (x = ((s.oct (Reg.dbgBody n)).drop 40).take 16) ∧ (s.time.elapsed < t + 600000000000) ∧ (certField (s.oct (Reg.dbgBody n)) 80 3 < 128) ∧ ((s.lc ≠ 4 ∧ s.lc ≠ 5) ∨ s.num Reg.timeValid = 1) ∧ (time96Ns (certField (s.oct (Reg.dbgBody n)) 56 12) ≤ s.nowNs ∧ s.nowNs < time96Ns (certField (s.oct (Reg.dbgBody n)) 68 12)) ∧ (s.retort.disagree = false) :=
  ⟨certified, 0, 0, List.replicate 16 0, by decide +kernel⟩

theorem witness_DebugCommandsComplete_3 : ∃ (s : State) (n : Nat), (Serves s n 0x134006 2) :=
  ⟨{ ready with trust := { cert := some ⟨0, 0, 0, 0x40, 0, 0, []⟩ } }, 0, by decide +kernel⟩

theorem witness_DebugCommandsComplete_4 : ∃ (s : State) (c : Cert), (s.trust.cert = some c) ∧ (s.inWindow c = false) :=
  ⟨{ ready with trust := { cert := some ⟨0, 0, 0, 0x40, 0, 0, []⟩ } }, ⟨0, 0, 0, 0x40, 0, 0, []⟩, by decide +kernel⟩

theorem witness_DebugCommandsComplete_5 : ∃ (s : State) (n : Nat), (ServesRead s n 0x134103) ∧ (firstAbort (s.memAbort n (s.num Reg.dbgMem)) = none) ∧ (s.num Reg.dbgMem ≠ 3 ∧ s.num Reg.dbgMem ≠ 4) :=
  ⟨lcState 0, 0, by decide +kernel⟩

theorem witness_DebugCommandsComplete_6 : ∃ (s : State) (n : Nat), (ServesRead s n 0x134103) ∧ (firstAbort (s.memAbort n (s.num Reg.dbgMem)) = none) ∧ (s.num Reg.dbgMem = 3 ∨ s.num Reg.dbgMem = 4) :=
  ⟨(lcState 0).putN Reg.dbgMem 4, 0, by decide +kernel⟩

theorem witness_SessionsTrustAndRetortAnswer_39 : ∃ (s : State) (n : Nat), (n < 9) ∧ (Serves s n 0x134105 1) ∧ (firstAbort (s.memAbort n 5) = none) :=
  ⟨lcState 0, 0, by decide +kernel⟩

theorem witness_DebugCommandsComplete_7 : ∃ (s : State) (n : Nat), (Serves s n 0x134105 1) ∧ (firstAbort (s.memAbort n 5) = none) :=
  let ⟨s, n, h⟩ := witness_SessionsTrustAndRetortAnswer_39; ⟨s, n, h.2⟩

theorem witness_SessionsTrustAndRetortAnswer_40 : ∃ (s : State) (n : Nat), (n < 9) ∧ (Serves s n 0x134105 2) ∧ (firstAbort (s.memAbort n 5) = none) ∧ (s.hearth.halted = true) :=
  ⟨{ lcState 0 with hearth := { halted := true } }, 0, by decide +kernel⟩

theorem witness_DebugCommandsComplete_8 : ∃ (s : State) (n : Nat), (Serves s n 0x134105 2) ∧ (firstAbort (s.memAbort n 5) = none) ∧ (s.hearth.halted = true) :=
  let ⟨s, n, h⟩ := witness_SessionsTrustAndRetortAnswer_40; ⟨s, n, h.2⟩

theorem witness_FirmwareMemoryAndPairAnswer_1 : ∃ (s : State) (n : Nat) (bytes : Octets), (n < 9) ∧ (s.answers n = true) ∧ (firstAbort (s.admission n 0x136005 true 0 ++ [abortIf (!octetsLengthOk 0x136005 3072 bytes.length) 0x130003]) = none) ∧ (s.fwRole n = none) ∧ (s.num Reg.fwChunkOff + bytes.length ≤ slotBytes) ∧ (s.rangeOf 5 = none) :=
  ⟨ready, 0, [1, 2, 3], by decide +kernel⟩

theorem witness_FirmwareCommandsComplete_1 : ∃ (s : State) (n : Nat) (bytes : Octets), (s.answers n = true) ∧ (firstAbort (s.admission n 0x136005 true 0 ++ [abortIf (!octetsLengthOk 0x136005 3072 bytes.length) 0x130003]) = none) ∧ (s.fwRole n = none) ∧ (s.num Reg.fwChunkOff + bytes.length ≤ slotBytes) ∧ (s.rangeOf 5 = none) :=
  let ⟨s, n, bytes, h⟩ := witness_FirmwareMemoryAndPairAnswer_1; ⟨s, n, bytes, h.2⟩

theorem witness_FirmwareCommandsComplete_2 : ∃ (s : State) (n r : Nat) (bytes : Octets), (s.answers n = true) ∧ (firstAbort (s.admission n 0x136005 true 0 ++ [abortIf (!octetsLengthOk 0x136005 3072 bytes.length) 0x130003]) = none) ∧ (s.fwRole n = none) ∧ (s.num Reg.fwChunkOff + bytes.length ≤ slotBytes) ∧ (s.rangeOf 5 = some (r, true)) ∧ (s.partFails r (s.num Reg.fwChunkOff) bytes.length = none) :=
  ⟨rangeUp.putN (Reg.rngUse 0) 5, 0, 0, [1, 2, 3], by decide +kernel⟩

theorem witness_FirmwareCommandsComplete_3 : ∃ (s : State) (n : Nat) (bad : Option Nat), (Serves s n 0x136006 1) ∧ (s.fwRole n = none) ∧ (¬(2 ≤ s.num Reg.fwStep ∧ s.num Reg.fwStep ≤ 5)) ∧ (s.retort.disagree = false) :=
  ⟨ready, 0, none, by decide +kernel⟩

theorem witness_FirmwareMemoryAndPairAnswer_3 : ∃ (s : State) (n : Nat), (n < 9) ∧ (Serves s n 0x136006 2) ∧ (s.fwRole n = none) ∧ (s.num Reg.fwStep = 1) ∧ ((s.imageSlot s.newSlot).state = 2) :=
  ⟨fwAt 1, 0, by decide +kernel⟩

theorem witness_FirmwareCommandsComplete_4 : ∃ (s : State) (n : Nat), (Serves s n 0x136006 2) ∧ (s.fwRole n = none) ∧ (s.num Reg.fwStep = 1) ∧ ((s.imageSlot s.newSlot).state = 2) :=
  let ⟨s, n, h⟩ := witness_FirmwareMemoryAndPairAnswer_3; ⟨s, n, h.2⟩

theorem witness_FirmwareCommandsComplete_5 : ∃ (s : State) (n : Nat), (Serves s n 0x136006 3) ∧ (s.fwRole n = none) ∧ (s.num Reg.fwStep = 2) :=
  ⟨fwAt 2, 0, by decide +kernel⟩

theorem witness_FirmwareMemoryAndPairAnswer_5 : ∃ (s : State) (n : Nat), (n < 9) ∧ (Serves s n 0x136006 4) ∧ (s.fwRole n = none) ∧ (s.num Reg.fwStep = 3) ∧ ((s.imageSlot s.newSlot).state = 2) :=
  ⟨fwAt 3, 0, by decide +kernel⟩

theorem witness_FirmwareCommandsComplete_6 : ∃ (s : State) (n : Nat), (Serves s n 0x136006 4) ∧ (s.fwRole n = none) ∧ (s.num Reg.fwStep = 3) ∧ ((s.imageSlot s.newSlot).state = 2) :=
  let ⟨s, n, h⟩ := witness_FirmwareMemoryAndPairAnswer_5; ⟨s, n, h.2⟩

theorem witness_FirmwareCommandsComplete_7 : ∃ (s : State) (n : Nat), (Serves s n 0x136006 5) ∧ (s.fwRole n = none) ∧ (s.num Reg.fwStep = 4) :=
  ⟨fwAt 4, 0, by decide +kernel⟩

theorem witness_FirmwareMemoryAndPairAnswer_7 : ∃ (s : State) (n : Nat), (n < 9) ∧ (Serves s n 0x136006 6) ∧ (s.fwRole n = none) ∧ (s.num Reg.fwStep = 5) ∧ ((s.imageSlot s.newSlot).state = 2) :=
  ⟨fwAt 5, 0, by decide +kernel⟩

theorem witness_FirmwareCommandsComplete_8 : ∃ (s : State) (n : Nat), (Serves s n 0x136006 6) ∧ (s.fwRole n = none) ∧ (s.num Reg.fwStep = 5) ∧ ((s.imageSlot s.newSlot).state = 2) :=
  let ⟨s, n, h⟩ := witness_FirmwareMemoryAndPairAnswer_7; ⟨s, n, h.2⟩

theorem witness_FirmwareCommandsComplete_9 : ∃ (s : State) (n : Nat), (Serves s n 0x136006 7) ∧ (s.fwRole n = none) ∧ (2 ≤ s.num Reg.fwStep) ∧ (s.num Reg.fwStep ≤ 5) :=
  ⟨fwAt 5, 0, by decide +kernel⟩

theorem witness_FirmwareMemoryAndPairAnswer_9 : ∃ (s : State) (n : Nat), (n < 9) ∧ (Serves s n 0x136006 8) ∧ (s.fwRole n = none) ∧ (¬(2 ≤ s.num Reg.fwStep ∧ s.num Reg.fwStep ≤ 5)) :=
  ⟨ready, 0, by decide +kernel⟩

theorem witness_FirmwareCommandsComplete_10 : ∃ (s : State) (n : Nat), (Serves s n 0x136006 8) ∧ (s.fwRole n = none) ∧ (¬(2 ≤ s.num Reg.fwStep ∧ s.num Reg.fwStep ≤ 5)) :=
  let ⟨s, n, h⟩ := witness_FirmwareMemoryAndPairAnswer_9; ⟨s, n, h.2⟩

theorem witness_RetortCommandsComplete_1 : ∃ (s : State) (n : Nat), (Serves s n 0x170105 1) ∧ (¬(1 ≤ s.num (Reg.jobState n) ∧ s.num (Reg.jobState n) ≤ 3)) ∧ (1 ≤ s.num (Reg.jobOp n) ∧ s.num (Reg.jobOp n) ≤ 10) ∧ (jobLengths (s.num (Reg.jobOp n)) (s.oct (Reg.jobInA n)).length (s.oct (Reg.jobInB n)).length (s.oct (Reg.jobInC n)).length = true) :=
  ⟨(ready.putN (Reg.jobOp 0) 7), 0, by decide +kernel⟩

theorem witness_RetortCommandsComplete_2 : ∃ (s : State) (n : Nat), (Serves s n 0x170105 2) :=
  ⟨ready, 0, by decide +kernel⟩

theorem witness_RetortCommandsComplete_3 : ∃ (s : State) (n : Nat) (j : Job) (rest : List Job), (s.retort.queue = j :: rest) ∧ (s.retort.running = none) ∧ (s.retort.clearing = none) ∧ (j.owner = .host n) :=
  ⟨{ ready with retort := { queue := [⟨.host 0, 7, [], [], []⟩] } }, 0, ⟨.host 0, 7, [], [], []⟩, [], by decide +kernel⟩

theorem witness_RetortCommandsComplete_4 : ∃ (s : State) (j : Job) (rest : List Job), (s.retort.queue = j :: rest) ∧ (s.retort.running = none) ∧ (s.retort.clearing = none) ∧ ((∀ n, j.owner ≠ .host n)) :=
  ⟨{ ready with retort := { queue := [⟨.auth 1, 2, [], [], []⟩] } }, ⟨.auth 1, 2, [], [], []⟩, [], rfl, rfl, rfl, fun _ h => by cases h⟩

theorem witness_RetortCommandsComplete_5 : ∃ (s : State) (j : Job), (s.retort.running = some j) ∧ (s.retort.since + jobTime j ≤ s.time.elapsed + 1000) :=
  ⟨{ ready with retort := { running := some ⟨.host 0, 7, [], [], []⟩ }, time := { elapsed := 100000000000 } }, ⟨.host 0, 7, [], [], []⟩, by decide +kernel⟩

theorem witness_RetortCommandsComplete_6 : ∃ (s : State) (n : Nat) (j : Job), (s.retort.running = some j) ∧ (j.owner = .host n) ∧ (s.retort.since + jobTime j ≤ s.time.elapsed + 1000) :=
  ⟨{ ready with retort := { running := some ⟨.host 0, 7, [], [], []⟩ }, time := { elapsed := 100000000000 } }, 0, ⟨.host 0, 7, [], [], []⟩, by decide +kernel⟩

theorem witness_RetortCommandsComplete_7 : ∃ (s : State) (n : Nat) (j : Job), (s.retort.running = some j) ∧ (j.owner = .hello n ∨ j.owner = .auth n) ∧ (s.retort.since + jobTime j ≤ s.time.elapsed + 1000) :=
  ⟨{ ready with retort := { running := some ⟨.auth 1, 2, [], [], []⟩ }, time := { elapsed := 100000000000 } }, 1, ⟨.auth 1, 2, [], [], []⟩, by decide +kernel⟩

theorem witness_RetortCommandsComplete_8 : ∃ (s : State) (j : Job), (s.retort.clearing = some j) ∧ (s.retort.since + 16000 ≤ s.time.elapsed) :=
  ⟨{ ready with retort := { clearing := some ⟨.host 0, 7, [], [], []⟩ }, time := { elapsed := 100000000000 } }, ⟨.host 0, 7, [], [], []⟩, by decide +kernel⟩

theorem witness_FirmwareMemoryAndPairAnswer_10 : ∃ (s : State) (n c : Nat), (n < 9) ∧ (c < 2) ∧ (Serves s n (blockAddr 0x1600 2 c 1) 1) ∧ (s.num (Reg.smChEnable c) ≠ 1) :=
  ⟨ready, 0, 0, by decide +kernel⟩

theorem witness_SideMemoryCommandsComplete_1 : ∃ (s : State) (n c : Nat), (Serves s n (blockAddr 0x1600 2 c 1) 1) ∧ (s.num (Reg.smChEnable c) ≠ 1) :=
  let ⟨s, n, c, h⟩ := witness_FirmwareMemoryAndPairAnswer_10; ⟨s, n, c, h.2.2⟩

theorem witness_SideMemoryCommandsComplete_2 : ∃ (s : State) (n c : Nat), (Serves s n (blockAddr 0x1600 2 c 1) 0) ∧ ((List.range 8).any (fun r => s.num (Reg.rngChannel r) == c && s.fnState (.range r) != 0) = false) :=
  ⟨ready, 0, 0, by decide +kernel⟩

theorem witness_FirmwareMemoryAndPairAnswer_11 : ∃ (s : State) (c : Nat), (c < 2) ∧ (c < s.part.sideChannels) ∧ (s.num (Reg.smChState c) = 1) :=
  ⟨ready.putN (Reg.smChState 0) 1, 0, by decide +kernel⟩

theorem witness_SideMemoryCommandsComplete_3 : ∃ (s : State) (c : Nat), (c < s.part.sideChannels) ∧ (s.num (Reg.smChState c) = 1) :=
  let ⟨s, c, h⟩ := witness_FirmwareMemoryAndPairAnswer_11; ⟨s, c, h.2⟩

theorem witness_SideMemoryCommandsComplete_4 : ∃ (s : State) (c : Nat), (c < s.part.sideChannels) ∧ (s.num (Reg.smChState c) = 1) :=
  ⟨ready.putN (Reg.smChState 0) 1, 0, by decide +kernel⟩

theorem witness_SideMemoryCommandsComplete_5 : ∃ (s : State) (n r off : Nat) (bytes : Octets) (bad : Option Nat), (s.answers n = true) ∧ (firstAbort (s.admission n 0x162003 true 0 ++ [abortIf (bytes.length != 192) 0x130003]) = none) ∧ (s.num (Reg.smAccRange n) = r) ∧ (s.num (Reg.smAccOff n) = off) ∧ (s.num (Reg.rngUse r) < 2 ∨ 5 < s.num (Reg.rngUse r)) ∧ (s.running (.range r) = true) ∧ (off % 64 = 0) ∧ (off + 192 ≤ s.num (Reg.rngSize r) * 1048576) :=
  ⟨rangeUp, 0, 0, 0, List.replicate 192 0, none, by decide +kernel⟩

theorem witness_SideMemoryCommandsComplete_6 : ∃ (s : State) (n r off : Nat) (bad : Option Nat), (ServesRead s n 0x162003) ∧ (s.num (Reg.smAccRange n) = r) ∧ (s.num (Reg.smAccOff n) = off) ∧ (s.num (Reg.rngUse r) ≠ 5) ∧ (s.running (.range r) = true) ∧ (off % 64 = 0) ∧ (off + 192 ≤ s.num (Reg.rngSize r) * 1048576) ∧ (s.lineFails r (off / 64) 3 bad = none) :=
  ⟨rangeUp, 0, 0, 0, none, by decide +kernel⟩

theorem witness_SideMemoryCommandsComplete_7 : ∃ (s : State) (n r off k : Nat) (bad : Option Nat), (ServesRead s n 0x162003) ∧ (s.num (Reg.smAccRange n) = r) ∧ (s.num (Reg.smAccOff n) = off) ∧ (s.num (Reg.rngUse r) ≠ 5) ∧ (s.running (.range r) = true) ∧ (off % 64 = 0) ∧ (off + 192 ≤ s.num (Reg.rngSize r) * 1048576) ∧ (s.lineFails r (off / 64) 3 bad = some k) :=
  ⟨rangeUp, 0, 0, 0, 2, some 2, by decide +kernel⟩

theorem witness_FirmwareMemoryAndPairAnswer_14 : ∃ (s : State) (n b i v : Nat), (n < 9) ∧ (i < 16) ∧ (Serves s n (blockAddr 0x1810 8 b (1 + i)) v) ∧ (countedEvents.contains v = true) ∧ (v ≠ 0x0A0 ∧ v ≠ 0x0A1) :=
  ⟨ready, 0, 0, 15, 0x080, by decide +kernel⟩

theorem witness_PerformanceCountersComplete_1 : ∃ (s : State) (n b i v : Nat), (i < 16) ∧ (Serves s n (blockAddr 0x1810 8 b (1 + i)) v) ∧ (countedEvents.contains v = true) ∧ (v ≠ 0x0A0 ∧ v ≠ 0x0A1) :=
  let ⟨s, n, b, i, v, h⟩ := witness_FirmwareMemoryAndPairAnswer_14; ⟨s, n, b, i, v, h.2⟩

theorem witness_PerformanceCountersComplete_2 : ∃ (s : State) (n b mask : Nat), (Serves s n (blockAddr 0x1810 8 b 0x21) mask) :=
  ⟨ready, 0, 0, 0xFFFF, by decide +kernel⟩

theorem witness_PerformanceCountersComplete_3 : ∃ (s : State) (n b i : Nat), (i < 16) ∧ (ServesRead s n (blockAddr 0x1810 8 b (0x11 + i))) :=
  ⟨ready, 0, 0, 15, by decide +kernel⟩

theorem witness_MirrorLinkCompletes_1 : ∃ (s : State), (s.phase = .ready) ∧ (s.num Reg.pairJoin ≠ 0) ∧ (s.num Reg.pairLink = 0) ∧ (s.pair.attemptAt ≤ s.time.elapsed) ∧ (s.laneReport 128 = 0) ∧ (s.laneReport 129 = 0) :=
  ⟨((((ready.putN Reg.pairJoin 1).putN Reg.pairLink 0).putN (Reg.lnState 128) 3).putN (Reg.lnState 129) 3), by decide +kernel⟩

theorem witness_MirrorLinkCompletes_2 : ∃ (s : State), (s.phase = .ready) ∧ (s.num Reg.pairJoin ≠ 0) ∧ (s.num Reg.pairLink = 0) ∧ (s.pair.attemptAt ≤ s.time.elapsed) :=
  ⟨(ready.putN Reg.pairJoin 1).putN Reg.pairLink 0, by decide +kernel⟩

theorem witness_MirrorLinkCompletes_3 : ∃ (s : State) (x : PeerHello), (s.num Reg.pairLink = 1) :=
  ⟨ready.putN Reg.pairLink 1, ⟨[], [], [], [], [], [], [], [], [], [], [], 0, 0, 0, false, [], false, []⟩, by decide +kernel⟩

theorem witness_MirrorLinkCompletes_4 : ∃ (s : State) (u : MirrorUpdate), (s.linked = true) ∧ (u.receiverGen ≠ s.num Reg.pairRoleGen) :=
  ⟨pairUp 1, ⟨0, 255, .saDelete 0⟩, by decide +kernel⟩

theorem witness_MirrorLinkCompletes_5 : ∃ (s : State) (gen : Nat) (rs : List Report), (s.linked = true) :=
  ⟨pairUp 1, 0, [], by decide +kernel⟩

theorem witness_MirrorLinkCompletes_6 : ∃ (s : State) (gen row : Nat), (s.linked = true) ∧ (s.role = 1) :=
  ⟨pairUp 1, 0, 7, by decide +kernel⟩

theorem witness_MirrorLinkCompletes_7 : ∃ (s : State), (s.linked = true) ∧ (s.num Reg.pairSync = 1) :=
  ⟨(pairUp 2).putN Reg.pairSync 1, by decide +kernel⟩

theorem witness_MirrorLinkCompletes_8 : ∃ (s : State), (s.pair.reportAt + 100000 ≤ s.time.elapsed) :=
  ⟨{ pairUp 2 with time := { elapsed := 100000 } }, by decide +kernel⟩

theorem witness_PairRolesComplete_1 : ∃ (s : State) (n : Nat), (Serves s n 0x151001 1) ∧ (s.num Reg.pairJoin ≠ 1) :=
  ⟨ready.putN Reg.pairJoin 0, 0, by decide +kernel⟩

theorem witness_FirmwareMemoryAndPairAnswer_18 : ∃ (s : State) (n : Nat), (n < 9) ∧ (Serves s n 0x151001 0) :=
  ⟨ready.putN Reg.pairJoin 1, 0, by decide +kernel⟩

theorem witness_PairRolesComplete_2 : ∃ (s : State) (n : Nat), (Serves s n 0x151001 0) :=
  let ⟨s, n, h⟩ := witness_FirmwareMemoryAndPairAnswer_18; ⟨s, n, h.2⟩

theorem witness_PairRolesComplete_3 : ∃ (s : State) (n : Nat), (Serves s n 0x151006 1) ∧ (s.role = 1) ∧ (s.linked = true) ∧ (s.pair.peerHealthy = true) ∧ (s.pair.peerRole = 2) :=
  ⟨{ pairUp 1 with pair := { peerRole := 2, peerHealthy := true } }, 0, by decide +kernel⟩

theorem witness_PairRolesComplete_4 : ∃ (s : State) (n : Nat), (Serves s n 0x151006 1) ∧ (s.role = 1) ∧ (s.linked = false) ∧ (s.num Reg.pairWitnessWired = 0) :=
  ⟨(ready.putN Reg.pairRole 1).putN Reg.pairWitnessWired 0, 0, by decide +kernel⟩

theorem witness_FirmwareMemoryAndPairAnswer_20 : ∃ (s : State) (n : Nat), (n < 9) ∧ (Serves s n 0x151006 1) ∧ (s.role = 1) ∧ (s.linked = true) ∧ (s.pair.peerHealthy = true) ∧ (s.pair.peerRole ≠ 2) :=
  ⟨{ pairUp 1 with pair := { peerRole := 1, peerHealthy := true } }, 0, by decide +kernel⟩

theorem witness_PairRolesComplete_5 : ∃ (s : State) (n : Nat), (Serves s n 0x151006 1) ∧ (s.role = 1) ∧ (s.linked = true) ∧ (s.pair.peerHealthy = true) ∧ (s.pair.peerRole ≠ 2) :=
  let ⟨s, n, h⟩ := witness_FirmwareMemoryAndPairAnswer_20; ⟨s, n, h.2⟩

theorem witness_PairRolesComplete_6 : ∃ (s : State) (n : Nat), (Serves s n 0x151006 1) ∧ (s.role = 1) ∧ (s.linked = false) ∧ (s.num Reg.pairWitnessWired = 1) ∧ (s.pair.witnessHigh = true) :=
  ⟨{ (ready.putN Reg.pairRole 1).putN Reg.pairWitnessWired 1 with pair := { witnessHigh := true } }, 0, by decide +kernel⟩

theorem witness_PairRolesComplete_7 : ∃ (s : State) (n : Nat), (Serves s n 0x151006 2) ∧ (s.role = 2) ∧ (s.linked = true) ∧ (s.pair.peerHealthy = true) :=
  ⟨{ pairUp 2 with pair := { peerRole := 1, peerHealthy := true } }, 0, by decide +kernel⟩

theorem witness_PairRolesComplete_8 : ∃ (s : State), (s.linked = true) ∧ (s.pair.beatAt + 1000 ≤ s.time.elapsed) :=
  ⟨{ pairUp 1 with time := { elapsed := 1000 } }, by decide +kernel⟩

theorem witness_PairRolesComplete_9 : ∃ (s : State) (hb : Heartbeat) (u : State), (s.linked = true) ∧ (hb.valid = true) ∧ (hb.relinquish = false) ∧ (hb.handover = false) ∧ (hb.request = false) ∧ ((s.role == 2 && s.num Reg.pairSync == 2 && s.pair.peerSync == 2 && hb.sync == 1) = false) ∧ (u = ({ s with pair := { s.pair with heardAt := s.time.elapsed, peerRole := hb.role, peerGen := hb.roleGen, peerHealthy := hb.healthy, peerSync := hb.sync } } : State).hear hb.reports) :=
  ⟨pairUp 1, ⟨true, 2, 0, true, 2, false, false, false, []⟩, (({ pairUp 1 with pair := { (pairUp 1).pair with heardAt := 0, peerRole := 2, peerGen := 0, peerHealthy := true, peerSync := 2 } } : State).hear []), by decide +kernel⟩

theorem witness_PairRolesComplete_10 : ∃ (s : State) (hb : Heartbeat) (u : State), (s.linked = true) ∧ (hb.valid = true) ∧ (hb.relinquish = false) ∧ (hb.handover = false) ∧ (hb.request = true) ∧ ((s.role == 2 && s.num Reg.pairSync == 2 && s.pair.peerSync == 2 && hb.sync == 1) = false) ∧ (u = ({ s with pair := { s.pair with heardAt := s.time.elapsed, peerRole := hb.role, peerGen := hb.roleGen, peerHealthy := hb.healthy, peerSync := hb.sync } } : State).hear hb.reports) ∧ (s.role = 2) :=
  ⟨pairUp 2, ⟨true, 1, 0, true, 2, false, false, true, []⟩, (({ pairUp 2 with pair := { (pairUp 2).pair with heardAt := 0, peerRole := 1, peerGen := 0, peerHealthy := true, peerSync := 2 } } : State).hear []), by decide +kernel⟩

theorem witness_PairRolesComplete_11 : ∃ (s : State) (hb : Heartbeat) (u : State), (s.linked = true) ∧ (hb.valid = true) ∧ (hb.relinquish = true) ∧ (s.role = 1) ∧ (s.healthy = true) ∧ (s.pair.becoming = none) ∧ ((s.role == 2 && s.num Reg.pairSync == 2 && s.pair.peerSync == 2 && hb.sync == 1) = false) ∧ (u = ({ s with pair := { s.pair with heardAt := s.time.elapsed, peerRole := hb.role, peerGen := hb.roleGen, peerHealthy := hb.healthy, peerSync := hb.sync } } : State).hear hb.reports) :=
  ⟨pairUp 1, ⟨true, 2, 0, true, 2, true, false, false, []⟩, (({ pairUp 1 with pair := { (pairUp 1).pair with heardAt := 0, peerRole := 2, peerGen := 0, peerHealthy := true, peerSync := 2 } } : State).hear []), by decide +kernel⟩

theorem witness_PairRolesComplete_12 : ∃ (s : State), (s.linked = true) ∧ (s.role = 1) ∧ (s.num Reg.pairWitnessWired = 1) ∧ (s.healthy = true) ∧ (s.pair.becoming = none) ∧ (s.pair.heardAt + 10000 ≤ s.time.elapsed) :=
  ⟨{ (pairUp 1).putN Reg.pairWitnessWired 1 with time := { elapsed := 10000 } }, by decide +kernel⟩

theorem witness_PairRolesComplete_13 : ∃ (s : State), (s.linked = true) ∧ (s.role ≠ 1) ∧ ((s.linkDown s.pair.relinquished).pair.becoming = none) ∧ (s.pair.heardAt + 10000 ≤ s.time.elapsed) :=
  ⟨{ pairUp 2 with time := { elapsed := 10000 } }, by decide +kernel⟩

theorem witness_PairRolesComplete_14 : ∃ (s : State) (t : Nat), (s.pair.claiming = some t) ∧ (t + 10000 + 20000 * s.pairId ≤ s.time.elapsed) :=
  ⟨{ pairUp 1 with pair := { claiming := some 0 }, time := { elapsed := 30000 } }, 0, by decide +kernel⟩

theorem witness_PairRolesComplete_15 : ∃ (s : State) (t : Nat), (s.pair.claiming = some t) ∧ (t + 10000 + 20000 * s.pairId ≤ s.time.elapsed) ∧ (s.pair.claimCause = 2) :=
  ⟨{ pairUp 1 with pair := { claiming := some 0, claimCause := 2 }, time := { elapsed := 30000 } }, 0, by decide +kernel⟩

theorem witness_PairRolesComplete_16 : ∃ (s : State) (cause t : Nat), (s.pair.becoming = some (cause, t)) :=
  ⟨{ pairUp 1 with pair := { becoming := some (2, 0) } }, 2, 0, by decide +kernel⟩

theorem witness_PairRolesComplete_17 : ∃ (s : State) (t : Nat), (s.pair.holdoff = some t) ∧ (s.revertReady = true) ∧ (t + s.num Reg.pairHoldoff * 1000000000 ≤ s.time.elapsed) :=
  ⟨{ (pairUp 1).putN Reg.pairSync 2 with pair := { holdoff := some 0, peerRole := 2, peerHealthy := true, heardAt := 100000000000000 }, time := { elapsed := 100000000000000 } }, 0, by decide +kernel⟩

theorem witness_PairRolesComplete_18 : ∃ (s : State) (b : Nat), (b < s.nBolts) ∧ (s.boltLinesBad b = true) ∧ (s.pair.linesBad.getD b s.time.elapsed + 10000000 ≤ s.time.elapsed) ∧ (s.pair.watchBad.contains b = false) :=
  ⟨{ groupUp with time := { elapsed := 10000000 }, pair := { linesBad := [(0, 0)] } }, 0, by decide +kernel⟩

theorem witness_AlarmsAndTimeAnswer_1 : ∃ (s : State) (k : Nat) (d : Bool) (w : Nat × Bool), (k < 5) ∧ (s.mainPower = true) ∧ ((if d then (s.flueKind k).outB else (s.flueKind k).outA) = false) ∧ ((s.flueKind k).waiting.find? (fun w => w.2 != d && decide (s.alarm.clock < w.1 + 1000)) = some w) :=
  witness_AlarmInputsComplete_2

theorem witness_AlarmsAndTimeAnswer_2 : ∃ (s : State) (k : Nat) (d : Bool), (k < 5) ∧ (s.mainPower = true) :=
  witness_AlarmInputsComplete_3

theorem witness_AlarmsAndTimeAnswer_3 : ∃ (s : State) (k : Nat) (w : Nat × Bool), ((s.flueKind k).waiting.find? (fun w => decide (w.1 + 1000 ≤ s.alarm.clock)) = some w) :=
  witness_AlarmInputsComplete_4

theorem witness_AlarmsAndTimeAnswer_10 : ∃ (s : State) (n i : Nat), (Serves s n 0x131108 1) ∧ (s.hold = false) ∧ (dcTarget (s.num (Reg.pTarget n)) (s.oct (Reg.pValue n)) = true) ∧ (s.missing n (s.num (Reg.pTarget n)) = none) ∧ (¬(isCmLevel (s.num (Reg.pTarget n)) = true ∧ s.lc ≠ 2)) ∧ (s.trust.dcNonces.contains (s.num (Reg.pNonce n)) = true) ∧ (s.credHas (s.num (Reg.pCred n)) 1 = true) ∧ (firstAbort (s.dcAbort (s.num (Reg.pTarget n)) (s.oct (Reg.pValue n))) = none) ∧ (s.proposals.any (fun e => e.2.target == s.num (Reg.pTarget n)) = false) ∧ (s.proposals.length < 8) ∧ ((List.range 8).find? (fun i => (s.proposals.get? i).isNone) = some i) ∧ (s.retort.disagree = false) :=
  witness_DualControlCompletes_2

theorem witness_AlarmsAndTimeAnswer_11 : ∃ (s : State) (n : Nat) (p : Proposal), (Serves s n 0x131108 2) ∧ (s.hold = false) ∧ (s.proposals.get? (s.num (Reg.pSlot n)) = some p) ∧ (p.opened ≤ s.time.dev) ∧ (s.time.dev < p.closes) ∧ (s.credHas (s.num (Reg.pCred n)) 1 = true) ∧ (s.num (Reg.pCred n) ≠ p.proposer) ∧ (p.changed = false) ∧ (firstAbort (abortIf (isCmLevel p.target && s.lc != 2) 0x110003 :: s.dcAbort p.target p.value) = none) ∧ (s.proposals.any (fun e => e.1 != s.num (Reg.pSlot n)) = false) ∧ (s.retort.disagree = false) :=
  witness_DualControlCompletes_3

theorem witness_AlarmsAndTimeAnswer_12 : ∃ (s : State) (n : Nat) (p : Proposal), (Serves s n 0x131108 3) ∧ (s.hold = false) ∧ (s.proposals.get? (s.num (Reg.pSlot n)) = some p) ∧ (s.credHas (s.num (Reg.pCred n)) 1 = true) ∧ (s.proposals.any (fun e => e.1 != s.num (Reg.pSlot n)) = false) ∧ (s.retort.disagree = false) :=
  witness_DualControlCompletes_4

theorem witness_AlarmsAndTimeAnswer_13 : ∃ (s : State) (i : Nat) (p : Proposal), (s.proposals.get? i = some p) ∧ (p.closes ≤ s.time.dev) :=
  witness_DualControlCompletes_5

theorem witness_AlarmsAndTimeAnswer_14 : ∃ (s : State) (m : SecondInput), (s.phase ≠ .reset) ∧ (s.boundaryDue = true) :=
  witness_SecondBoundaryCompletes_1

theorem witness_AlarmsAndTimeAnswer_15 : ∃ (s : State) (n v : Nat) (words : List Nat), (s.answers n = true) ∧ (Ty.decode .time96 0x120002 words 0 = (.num v, none)) ∧ (firstAbort (s.admission n 0x120002 true v ++ [none]) = none) :=
  witness_DeviceTimeCommandsComplete_1

theorem witness_AlarmsAndTimeAnswer_18 : ∃ (s : State), (0 ≤ s.time.slew) ∧ (s.time.slew ≤ 6553600) :=
  witness_DeviceTimeCommandsComplete_4

theorem witness_AlarmsAndTimeAnswer_19 : ∃ (s : State), (s.num Reg.ppsEnable = 1) ∧ (s.ppsDue = true) ∧ (s.time.ppsHigh = false) :=
  witness_DeviceTimeCommandsComplete_5

theorem witness_AlarmsAndTimeAnswer_20 : ∃ (s : State), (s.time.ppsEnd ≤ s.time.elapsed) :=
  witness_DeviceTimeCommandsComplete_6

theorem witness_AlarmsAndTimeAnswer_21 : ∃ (s : State) (k lasts : Nat) (rising half : Bool) (x : TsInput), (k < 4) ∧ ((if rising then s.num (Reg.tsiEdge k) % 2 else s.num (Reg.tsiEdge k) / 2) ≠ 0) ∧ (s.tsIn.getD k {} = x) ∧ (4 ≤ lasts) ∧ (x.glitch ≠ some (!rising)) ∧ ((∀ t, x.last = some t → t + 100 ≤ s.time.elapsed)) ∧ (x.queue.length < 16) :=
  witness_DeviceTimeCommandsComplete_7

theorem witness_AlarmsAndTimeAnswer_24 : ∃ (s : State) (j : Nat), (j < 3) :=
  witness_BackupDomainCompletes_3

theorem witness_AlarmsAndTimeAnswer_25 : ∃ (s : State), (¬(s.backup.lost = true ∧ s.mainPower = false)) ∧ (500000000 ≤ s.backup.phase) :=
  witness_BackupDomainCompletes_1

theorem witness_FramesAndStationsAnswer_4 : ∃ (s : State) (p : Nat) (rx : RxFrame), (s.phase ≠ .reset) ∧ (p < s.nPorts) ∧ (s.kind p = 1) ∧ (s.fnState (.port p) ≠ 0) ∧ (s.num (Reg.pLinkUp p) = 1) ∧ ((s.port p).arriving.first = false) ∧ (60 ≤ rx.bytes.length) ∧ (rx.fcsOk = true) ∧ (rx.bytes.length + 4 ≤ (s.arrives p .e rx).2.num (Reg.pMaxFrame p)) ∧ (fieldAt rx.bytes 12 2 ≠ 0x8808) ∧ (((s.arrives p .e rx).2.silsyFrame rx.bytes || (s.arrives p .e rx).2.silsyBroadcast rx.bytes) = false) ∧ (groupMac (frameDst rx.bytes) = false) ∧ ((((s.arrives p .e rx).2.parsed p .e rx (s.port p).arriving.poison).2).fnState (.port ((s.arrives p .e rx).2.assigned p rx.bytes)) = 2) :=
  witness_FrameArrivalCompletes_1

theorem witness_FramesAndStationsAnswer_5 : ∃ (s : State) (p : Nat) (rx : RxFrame), (s.phase ≠ .reset) ∧ (p < s.nPorts) ∧ (s.kind p = 3) ∧ (s.ownsLanes p = true) ∧ (s.fnState (.port p) ≠ 0) ∧ (s.num (Reg.pLinkUp p) = 1) ∧ ((s.port p).arriving.first = false) ∧ (60 ≤ rx.bytes.length) ∧ (rx.bytes.length ≤ 16028) ∧ (rx.fcsOk = true) ∧ (fieldAt rx.bytes 12 2 = 0x88E5) :=
  witness_FrameArrivalCompletes_5

theorem witness_FramesAndStationsAnswer_6 : ∃ (s : State) (b : Nat) (pipe : Pipe), (s.phase ≠ .reset) ∧ (b < s.nBolts) :=
  witness_FrameArrivalCompletes_7

theorem witness_FramesAndStationsAnswer_7 : ∃ (s : State) (b : Nat) (f : Frame) (n : Nat) (rest : List Frame), (s.phase ≠ .reset) ∧ (b < s.nBolts) ∧ (s.hasSector = true) ∧ ((s.pipe b .d).after = f :: rest) ∧ (f.stage = .waitSector) ∧ (f.stream = some n) ∧ ((s.setPipe b .d { s.pipe b .d with after := rest }).engineClosed n b = none) :=
  witness_FrameArrivalCompletes_8

theorem witness_FramesAndStationsAnswer_8 : ∃ (s : State) (b : Nat), (s.phase ≠ .reset) ∧ (b < s.nBolts) ∧ (s.hasSector = true) :=
  witness_FrameArrivalCompletes_9

theorem witness_FramesAndStationsAnswer_9 : ∃ (s : State) (p : Nat) (rx : PanelRx) (us : List RxUnit) (u : State), (s.phase ≠ .reset) ∧ (s.tribRunning p = true) ∧ (s.num (Reg.pTribDelineated p) ≠ 0) ∧ ((s.tribLanes p).any (fun l => s.hardDefect (lineOf (boltOfPort p) l)) = false) ∧ (s.delineate p (s.rxUnits p rx) ((s.trib p).pointers.length + 1) = (some us, u)) ∧ (us.any (fun x => x.unit.isNone) = true) :=
  witness_FrameArrivalCompletes_10

theorem witness_FramesAndStationsAnswer_10 : ∃ (s : State) (p : Nat) (rx : PanelRx) (us : List RxUnit) (u : State), (s.phase ≠ .reset) ∧ (s.tribRunning p = true) ∧ (s.num (Reg.pTribDelineated p) ≠ 0) ∧ ((s.tribLanes p).any (fun l => s.hardDefect (lineOf (boltOfPort p) l)) = false) ∧ (s.delineate p (s.rxUnits p rx) ((s.trib p).pointers.length + 1) = (some us, u)) ∧ (us.any (fun x => x.unit.isNone) = false) ∧ (rx.short = false) ∧ ((u.trib p).rxPoison = false) :=
  witness_FrameArrivalCompletes_11

theorem witness_FramesAndStationsAnswer_11 : ∃ (s : State) (p prio t : Nat), ((s.port p).pausedAt.get? prio = some t) ∧ (s.pauses p prio = true) ∧ (t * s.portRate p + s.num (Reg.pPauseQuanta p) * 256000 ≤ s.time.elapsed * s.portRate p) :=
  witness_PauseAndStationsComplete_1

theorem witness_FramesAndStationsAnswer_12 : ∃ (s : State) (p prio t : Nat), ((s.port p).peerPause.get? prio = some t) ∧ (t ≤ s.time.elapsed) :=
  witness_PauseAndStationsComplete_2

theorem witness_FramesAndStationsAnswer_13 : ∃ (s : State) (e : ParityError) (c : Crossing), (e.b < s.nBolts) ∧ (refFits e.point e.at_ = true) ∧ (((s.pipe e.b e.pipe).point e.point).crossing e.at_ = some c) ∧ (((s.pipe e.b e.pipe).point e.point).failed ≠ some c) :=
  witness_ErrorsOfABoltComplete_1

theorem witness_FramesAndStationsAnswer_14 : ∃ (s : State) (p : Nat), (s.ownsLanes p = true) :=
  witness_SchedulerCompletes_3

theorem witness_FramesAndStationsAnswer_15 : ∃ (s : State) (p : Nat) (c : Octets) (rest : List Octets), (s.ownsLanes p = true) ∧ ((s.port p).control = c :: rest) ∧ ((s.port p).sending = none) ∧ (s.num (Reg.pLinkUp p) = 1) ∧ (s.num (Reg.pFaultRx p) = 0) :=
  witness_SchedulerCompletes_1

theorem witness_FramesAndStationsAnswer_16 : ∃ (s : State) (p : Nat) (x : Sending), ((s.port p).sending = some x) ∧ (x.frame.cls = 0) ∧ (x.ct < 63) ∧ (x.ct * 256 < x.frame.line) ∧ (x.frame.sector = none) ∧ (s.num (Reg.pCtStart x.port) < 63) :=
  witness_SchedulerCompletes_4

theorem witness_FramesAndStationsAnswer_17 : ∃ (s : State) (p ts : Nat) (x : Sending), ((s.port p).sending = some x) :=
  witness_SchedulerCompletes_6

theorem witness_FramesAndStationsAnswer_19 : ∃ (s : State) (p : Nat), ((s.port p).admin = true) ∧ (time96Ns (s.num (Reg.pTakeoverTime p)) ≤ s.nowNs) :=
  witness_SchedulerCompletes_8

theorem witness_FramesAndStationsAnswer_20 : ∃ (s : State) (b : Nat) (r : LearnReq) (rest : List LearnReq), ((s.bolt b).learn = r :: rest) :=
  witness_PauseAndStationsComplete_3

theorem witness_FramesAndStationsAnswer_21 : ∃ (s : State) (b : Nat), (b < s.nBolts) ∧ ((s.bolt b).ageAt + 1000000000 ≤ s.time.elapsed) :=
  witness_PauseAndStationsComplete_4

theorem witness_FramesAndStationsAnswer_22 : ∃ (s : State) (n b v : Nat), (Serves s n (boltAddr b 9 5) v) ∧ (v ≤ 127 ∨ v = 0xFFFF) :=
  witness_PauseAndStationsComplete_5

theorem witness_FramesAndStationsAnswer_23 : ∃ (s : State) (b n : Nat) (rest : List Nat), ((s.bolt b).flushes = n :: rest) :=
  witness_PauseAndStationsComplete_6

theorem witness_FramesAndStationsAnswer_24 : ∃ (s : State) (b : Nat) (pipe : Pipe), (b < s.nBolts) :=
  witness_ErrorsOfABoltComplete_3

theorem witness_SecurityAssociationsAndTwillAnswer_2 : ∃ (s : State) (n b v : Nat), (Serves s n (boltAddr b 5 1) v) ∧ (1 ≤ v) ∧ (v ≤ 3) :=
  witness_PortAndBoltObjectsComplete_9

theorem witness_SecurityAssociationsAndTwillAnswer_4 : ∃ (s : State) (n b v : Nat), (Serves s n (boltAddr b 5 4) v) ∧ (2 ^ 16 ≤ v) ∧ (v ≤ 2 ^ 60) ∧ (s.num (Reg.bTwPanelWarn b) < v) :=
  witness_PortAndBoltObjectsComplete_13

theorem witness_SecurityAssociationsAndTwillAnswer_6 : ∃ (s : State) (n p v : Nat), (Serves s n (portAddr p 3 0x15) v) ∧ (v ≤ 3) ∧ (v ≠ s.num (Reg.pTxAnInForce p)) ∧ (s.num (portKey p 3 (0x11 + v)) = 0xFFFFFF ∨ (s.rowState 0x4000 (s.num (portKey p 3 (0x11 + v))) = 1 ∧ s.bindingCounts p (s.num (portKey p 3 (0x11 + v))) = true)) :=
  witness_SecurityAssociationCommandsComplete_4

theorem witness_SecurityAssociationsAndTwillAnswer_7 : ∃ (s : State) (sa : Nat), (s.rowState 0x4000 sa = 4) ∧ (s.saBusy sa = false) :=
  witness_SecurityAssociationCommandsComplete_7

theorem witness_SecurityAssociationsAndTwillAnswer_11 : ∃ (s : State) (n p : Nat), (Serves s n (portAddr p 3 0x24) 2) ∧ (s.num (Reg.pTwTxState p) = 1) :=
  witness_SecurityAssociationCommandsComplete_10

theorem witness_SecurityAssociationsAndTwillAnswer_12 : ∃ (s : State) (b g : Nat), (g < 8) ∧ (s.running (.group b g) = true) :=
  witness_TwillTransmitCompletes_5

theorem witness_SecurityAssociationsAndTwillAnswer_13 : ∃ (s : State) (p ph : Nat) (u : State), ((s.trib p).releasing = some ph) ∧ (u = (match (s.trib p).begun with | some (_, old) => if old = ph then s.panelFinish p else s | none => s)) :=
  witness_TwillTransmitCompletes_6

theorem witness_SecurityAssociationsAndTwillAnswer_14 : ∃ (s : State) (p : Nat) (u : State), (s.tribSends p = true) ∧ (u = s.closeAhead p 2) ∧ ((u.trib p).line ≠ []) :=
  witness_TwillTransmitCompletes_1

theorem witness_SecurityAssociationsAndTwillAnswer_15 : ∃ (s : State) (p row phase : Nat) (u v : State) (claim : Claim), (s.tribSends p = true) ∧ (u = s.closeAhead p 2) ∧ ((u.trib p).line = []) ∧ (phase = u.panelPhase p false) ∧ (row = u.txPhaseRow p phase) ∧ (u.panelReady p = true) ∧ (u.panelKey row = true) ∧ (u.panelBarred p (u.phaseCount p phase) = false) ∧ (u.claimSlot (boltOfPort p) .e (keyOwner row) (u.pcNext p + 1) (if decide (u.phaseCount p phase + 1 < u.num (Reg.bTwPanelLimit (boltOfPort p)) ∧ u.pcNext p + 1 < 2 ^ 76 - 1) then 32 else 0) [u.pcNext p] = (claim, v)) ∧ (claim ≠ .wait) :=
  witness_TwillTransmitCompletes_4

theorem witness_SecurityAssociationsAndTwillAnswer_16 : ∃ (s : State) (ll row : Nat) (oh : OverheadRx), (s.runningGroup ll = some row) :=
  witness_TwillReceiveCompletes_1

theorem witness_SecurityAssociationsAndTwillAnswer_17 : ∃ (s : State) (ll row : Nat), (s.runningGroup ll = some row) ∧ (bit (s.twLane ll).detected 1 = false) ∧ (((s.twLane ll).inMulti = false ∧ (s.twLane ll).mfSince + 3000000 ≤ s.time.elapsed) ∨ ((s.twLane ll).spreadBad = true ∧ (s.twLane ll).spreadSince + 3000000 ≤ s.time.elapsed)) :=
  witness_TwillReceiveCompletes_4

theorem witness_SecurityAssociationsAndTwillAnswer_18 : ∃ (s : State) (b g : Nat), (g < 8) ∧ (s.running (.group b g) = true) ∧ (s.num (Reg.tgRegime (b * 1024 + g)) = 1) ∧ (s.tgNow (b * 1024 + g) 0x15 = 0) ∧ ((s.groupLanes (b * 1024 + g)).all (fun l => !s.hardDefect (lineOf b l)) = true) ∧ ((s.grp (b * 1024 + g)).acqSince + s.tgNow (b * 1024 + g) 0x14 * 1000000 ≤ s.time.elapsed) :=
  witness_TwillReceiveCompletes_6

theorem witness_SecurityAssociationsAndTwillAnswer_19 : ∃ (s : State) (n v : Nat) (t : State), (t = s.putN (stage n 0x4400 0x15) v) ∧ (Serves s n 0x440015 v) ∧ (Serves t n 0x440005 2) ∧ (t.cursor n 0x4400 ≠ 0xFFFFFF) ∧ (t.num (.cur n 0x4400 0) ≠ 1) ∧ (t.tribRow 0x4400 (t.cursor n 0x4400) = false) ∧ ((t.commitRow n 0x4400 (t.cursor n 0x4400) none).2 = .ok) :=
  witness_TwillReceiveCompletes_7

theorem witness_LanesAndPortsAnswer_1 : ∃ (s : State) (n : Nat), (s.lanePresent n = true) ∧ (s.num (Reg.lnState n) = 2 ∨ s.num (Reg.lnState n) = 3 ∨ s.num (Reg.lnState n) = 5) :=
  witness_LaneEventsComplete_2

theorem witness_LanesAndPortsAnswer_2 : ∃ (s : State) (n : Nat), (s.lanePresent n = true) ∧ (s.num (Reg.lnState n) = 1 ∨ s.num (Reg.lnState n) = 2 ∨ s.num (Reg.lnState n) = 3 ∨ s.num (Reg.lnState n) = 5) :=
  witness_LaneEventsComplete_3

theorem witness_LanesAndPortsAnswer_4 : ∃ (s : State) (n : Nat), (s.num (Reg.lnState n) = 2) ∧ (s.acqFrom n + acqBound ≤ s.time.elapsed) :=
  witness_LaneEventsComplete_6

theorem witness_LanesAndPortsAnswer_5 : ∃ (s : State) (n : Nat), (s.num (Reg.lnState n) = 3) :=
  witness_LaneEventsComplete_7

theorem witness_LanesAndPortsAnswer_6 : ∃ (s : State) (n k : Nat), (k < 128) ∧ (Serves s n (blockAddr 0x1900 256 k 0x15) 1) ∧ (s.num (Reg.lnState k) = 3) :=
  witness_LaneCommandsComplete_1

theorem witness_LanesAndPortsAnswer_7 : ∃ (s : State) (n k : Nat), (k < 128) ∧ (Serves s n (blockAddr 0x1900 256 k 0x15) 0) ∧ (s.num (Reg.lnState k) = 4) :=
  witness_LaneCommandsComplete_3

theorem witness_LanesAndPortsAnswer_8 : ∃ (s : State) (n w : Nat), ((s.lane n).wake = some w) ∧ ((s.lane n).txActive = false) ∧ (w + 1000000 ≤ s.time.elapsed) :=
  witness_LaneEventsComplete_8

theorem witness_LanesAndPortsAnswer_9 : ∃ (s : State) (n w : Nat), ((s.lane n).wake = some w) ∧ ((s.lane n).txActive = true) ∧ ((s.lane n).kept = true) ∧ (s.num (Reg.lnState n) = 5) ∧ (w + 2500000 ≤ s.time.elapsed) ∧ (n < 130) :=
  witness_LaneEventsComplete_9

theorem witness_LanesAndPortsAnswer_12 : ∃ (s : State) (b : Nat) (absent : Bool), (b < s.nBolts) ∧ (s.num (Reg.bRefState b) = 0) :=
  witness_LaneEventsComplete_11

theorem witness_LanesAndPortsAnswer_13 : ∃ (s : State) (b : Nat), (b < s.nBolts) ∧ (s.num (Reg.bRefState b) ≠ 0) :=
  witness_LaneEventsComplete_13

theorem witness_LanesAndPortsAnswer_14 : ∃ (s : State) (n p v : Nat), (Serves s n (portAddr p 0 0x10) v) ∧ (v ≤ 4) ∧ (s.kind p ≠ v) :=
  witness_PortAndBoltObjectsComplete_1

theorem witness_LanesAndPortsAnswer_18 : ∃ (s : State) (n v : Nat) (t : State), (t = s.putN (stage n 0x4500 0x12) v) ∧ (Serves s n 0x450012 v) ∧ (Serves t n 0x450005 2) ∧ (t.cursor n 0x4500 ≠ 0xFFFFFF) ∧ (t.num (.cur n 0x4500 0) ≠ 1) ∧ (t.tribRow 0x4500 (t.cursor n 0x4500) = false) ∧ ((t.commitRow n 0x4500 (t.cursor n 0x4500) none).2 = .ok) :=
  witness_PortAndBoltObjectsComplete_17

theorem witness_LanesAndPortsAnswer_21 : ∃ (s : State) (n v : Nat), (Serves s n 0x110102 v) ∧ (0x0600 ≤ v) ∧ (v ∉ ([0x8808, 0x888E, 0x88E5, 0x88F7] : List Nat)) :=
  witness_ManagementObjectsComplete_5

theorem witness_LanesAndPortsAnswer_22 : ∃ (s : State) (p : Nat) (pcs fec : Bool), (p < s.nPorts) :=
  witness_PortAndBoltObjectsComplete_18

theorem witness_LanesAndPortsAnswer_23 : ∃ (s : State) (p kind : Nat), (s.ownsLanes p = true) ∧ (s.num (Reg.pLinkUp p) = 1) ∧ (kind < 3) :=
  witness_PortAndBoltObjectsComplete_19

theorem witness_LanesAndPortsAnswer_24 : ∃ (s : State) (n before : Nat) (levels : List Nat), (s.num (Reg.lnPattern n) ≠ 0) ∧ (s.num (Reg.lnState n) = 3) :=
  witness_LaneEventsComplete_14

theorem witness_LanesAndPortsAnswer_25 : ∃ (s : State) (n before : Nat) (levels : List Nat), (s.num (Reg.lnPattern n) ≠ 0) ∧ (s.num (Reg.lnState n) = 3) ∧ (s.num (Reg.lnLoopback n) = 0) :=
  witness_LaneEventsComplete_15

theorem witness_I3cAndFieldNetworkAnswer_2 : ∃ (s : State) (bytes : Octets), (s.i3cAddressed = true) ∧ (bytes ≠ []) ∧ ((s.session 0).waiting = []) :=
  witness_I3cTransfersComplete_1

theorem witness_I3cAndFieldNetworkAnswer_3 : ∃ (s : State) (len : Nat), (s.i3cAddressed = true) ∧ ((s.session 0).waiting = []) ∧ ((s.session 0).unread ≠ []) :=
  witness_I3cTransfersComplete_3

theorem witness_I3cAndFieldNetworkAnswer_4 : ∃ (s : State) (b : List Nat), (s.i3cAddressed = true) ∧ (s.i3c.intEnabled = true) ∧ (s.i3c.respIbi = some b) :=
  witness_I3cTransfersComplete_6

theorem witness_I3cAndFieldNetworkAnswer_5 : ∃ (s : State) (dyn : Nat), (s.i3cAwake = true) ∧ (s.num Reg.i3cDynAddr = 0) ∧ (1 ≤ dyn) ∧ (dyn ≤ 127) :=
  witness_I3cAddressingCompletes_1

theorem witness_I3cAndFieldNetworkAnswer_6 : ∃ (s : State) (dyn : Nat), (s.i3cAwake = true) ∧ (s.num Reg.i3cDynAddr = 0) ∧ (1 ≤ dyn) ∧ (dyn ≤ 127) :=
  witness_I3cAddressingCompletes_2

theorem witness_I3cAndFieldNetworkAnswer_7 : ∃ (s : State), (s.i3cAwake = true) :=
  witness_I3cAddressingCompletes_3

theorem witness_I3cAndFieldNetworkAnswer_8 : ∃ (s : State) (bits : Nat), (s.i3cAwake = true) :=
  witness_I3cAddressingCompletes_4

theorem witness_I3cAndFieldNetworkAnswer_9 : ∃ (s : State) (bits : Nat), (s.i3cAwake = true) :=
  witness_I3cAddressingCompletes_5

theorem witness_I3cAndFieldNetworkAnswer_10 : ∃ (s : State) (v : Nat), (s.i3cAwake = true) :=
  witness_I3cAddressingCompletes_6

theorem witness_I3cAndFieldNetworkAnswer_11 : ∃ (s : State) (v : Nat), (s.i3cAwake = true) :=
  witness_I3cAddressingCompletes_7

theorem witness_I3cAndFieldNetworkAnswer_12 : ∃ (s : State), (s.i3cAddressed = true) :=
  witness_I3cReadsComplete_1

theorem witness_I3cAndFieldNetworkAnswer_13 : ∃ (s : State), (s.i3cAddressed = true) :=
  witness_I3cReadsComplete_2

theorem witness_I3cAndFieldNetworkAnswer_14 : ∃ (s : State), (s.i3cAddressed = true) :=
  witness_I3cReadsComplete_3

theorem witness_I3cAndFieldNetworkAnswer_15 : ∃ (s : State), (s.i3cAddressed = true) :=
  witness_I3cReadsComplete_4

theorem witness_I3cAndFieldNetworkAnswer_16 : ∃ (s : State), (s.i3cAddressed = true) :=
  witness_I3cReadsComplete_5

theorem witness_I3cAndFieldNetworkAnswer_17 : ∃ (s : State), (s.i3cAddressed = true) :=
  witness_I3cReadsComplete_6

theorem witness_I3cAndFieldNetworkAnswer_18 : ∃ (s : State), (s.i3cAddressed = true) :=
  witness_I3cReadsComplete_7

theorem witness_I3cAndFieldNetworkAnswer_19 : ∃ (s : State), (s.i3cAddressed = true) :=
  witness_I3cReadsComplete_8

theorem witness_I3cAndFieldNetworkAnswer_20 : ∃ (s : State), (s.i3cAwake = true) :=
  witness_I3cAddressingCompletes_8

theorem witness_I3cAndFieldNetworkAnswer_21 : ∃ (s : State) (code : Nat), (s.i3cAwake = true) ∧ (s.num Reg.i3cDynAddr ≠ 0) :=
  witness_I3cAddressingCompletes_9

theorem witness_I3cAndFieldNetworkAnswer_22 : ∃ (s : State) (fr : Octets), (s.phase = .ready) ∧ (s.num Reg.t1sEnable ≠ 0) ∧ (fieldAt fr 12 2 = s.num Reg.silsyEtype) ∧ (frameDst fr = s.otp.mgmtMac.toNat) :=
  witness_FieldNetworkCompletes_1

theorem witness_I3cAndFieldNetworkAnswer_23 : ∃ (s : State) (r : Nat) (fr : Octets) (rest : List Octets), (s.phase = .ready) ∧ (s.t1s.backoff = some r) ∧ (s.t1s.queue = fr :: rest) :=
  witness_FieldNetworkCompletes_6

theorem witness_I3cAndFieldNetworkAnswer_25 : ∃ (s : State), (s.phase = .ready) ∧ (s.t1s.backoff = none) :=
  witness_FieldNetworkCompletes_5

theorem witness_I3cAndFieldNetworkAnswer_26 : ∃ (s : State) (fr : Octets) (rest : List Octets), (s.t1s.plain = fr :: rest) :=
  witness_FieldNetworkCompletes_8

theorem witness_SessionsTrustAndRetortAnswer_2 : ∃ (s : State) (m : Nat) (via : Via) (h : Handshake), (s.phase = .ready) ∧ (s.hearthBusy = false) ∧ (s.netSession m 1 = true) ∧ (s.jobsOf (.hello m) = false) ∧ ((s.session m).via = some via) ∧ ((s.session m).hs = some h) ∧ (h.sentAt = none) :=
  witness_HandshakeCompletes_3

theorem witness_SessionsTrustAndRetortAnswer_3 : ∃ (s : State) (m x : Nat) (body : Octets) (h : Handshake), (s.phase = .ready) ∧ (s.num Reg.t1sEnable ≠ 0) ∧ (s.netSession m 1 = true) ∧ (s.fromPeer m (.t1s x) = true) ∧ ((s.session m).hs = some h) ∧ ((s.session m).nextFrag = 0) ∧ (h.authSig = none) ∧ (s.authDue h = true) ∧ (body.length = 3373) :=
  witness_HandshakeCompletes_4

theorem witness_SessionsTrustAndRetortAnswer_4 : ∃ (s : State) (m : Nat) (h : Handshake) (ed ml : Octets), (s.phase = .ready) ∧ (s.hearthBusy = false) ∧ (s.netSession m 1 = true) ∧ (s.jobsOf (.auth m) = false) ∧ ((s.session m).hs = some h) ∧ (h.authSig = some (ed, ml)) ∧ (s.lc ≠ 15) :=
  witness_HandshakeCompletes_6

theorem witness_SessionsTrustAndRetortAnswer_5 : ∃ (s : State) (m : Nat) (h : Handshake), (s.phase = .ready) ∧ (s.netSession m 1 = true) ∧ ((s.session m).hs = some h) ∧ (h.sentAt ≠ none) ∧ (h.authSig = none) ∧ (s.authDue h = false) :=
  witness_HandshakeCompletes_7

theorem witness_SessionsTrustAndRetortAnswer_6 : ∃ (s : State) (m : Nat) (via : Via) (fr body : Octets) (u t : State), (s.afterVia via = some u) ∧ (silsyIs fr 5 m = true) ∧ (u.acceptFrame m via fr = (some body, t)) :=
  witness_SessionTrafficCompletes_1

theorem witness_SessionsTrustAndRetortAnswer_7 : ∃ (s : State) (m : Nat) (via : Via) (fr body : Octets) (u t : State), (s.afterVia via = some u) ∧ (silsyIs fr 6 m = true) ∧ (u.acceptFrame m via fr = (some body, t)) :=
  witness_SessionTrafficCompletes_3

theorem witness_SessionsTrustAndRetortAnswer_8 : ∃ (s : State) (m : Nat) (via : Via) (msg : Octets) (u v : State), (s.afterVia via = some u) ∧ (msg.length ≤ 1440) ∧ (u.joinClear via 128 msg = (some msg, v)) :=
  witness_SessionTrafficCompletes_6

theorem witness_SessionsTrustAndRetortAnswer_9 : ∃ (s : State) (m : Nat), (s.phase = .ready) ∧ (s.netSession m 2 = true) ∧ ((s.session m).lastValid + s.num Reg.sessIdle * 1000000000 ≤ s.time.elapsed) :=
  witness_SessionTrafficCompletes_5

theorem witness_SessionsTrustAndRetortAnswer_10 : ∃ (s : State) (n k : Nat), (Serves s n (blockAddr 0x1110 9 k 6) 1) ∧ (k ≠ 0) :=
  witness_ManagementObjectsComplete_6

theorem witness_SessionsTrustAndRetortAnswer_11 : ∃ (s : State) (p : Nat) (fr : Octets) (tagged : Bool), (s.silsyBroadcast fr = true) ∧ (silsyVersion fr = 2) ∧ (s.kind p = 3 ∨ s.kind p = 4) :=
  witness_FieldNetworkCompletes_10

theorem witness_SessionsTrustAndRetortAnswer_12 : ∃ (s : State) (m : Nat) (fr : Octets), (s.phase = .ready) ∧ (fieldAt fr 0 1 = 2) ∧ (s.num Reg.t1sEnable ≠ 0) :=
  witness_FieldNetworkCompletes_11

theorem witness_SessionsTrustAndRetortAnswer_13 : ∃ (s : State) (key : Octets), (s.mesh.cur = some key) ∧ (s.phase = .ready) ∧ (s.hearth.gap = false) ∧ (s.hearth.restarting = false) :=
  witness_MeshCommandsComplete_5

theorem witness_SessionsTrustAndRetortAnswer_14 : ∃ (s : State) (m : Nat), (s.phase = .ready) ∧ (s.neighbour m = true) ∧ (s.mesh.dead.contains m = false) ∧ (s.mesh.heard.getD m 0 + s.num Reg.meshDead * 1000000000 ≤ s.time.elapsed) :=
  witness_MeshCommandsComplete_6

theorem witness_SessionsTrustAndRetortAnswer_18 : ∃ (s : State) (n : Nat), (Serves s n 0x170105 1) ∧ (¬(1 ≤ s.num (Reg.jobState n) ∧ s.num (Reg.jobState n) ≤ 3)) ∧ (1 ≤ s.num (Reg.jobOp n) ∧ s.num (Reg.jobOp n) ≤ 10) ∧ (jobLengths (s.num (Reg.jobOp n)) (s.oct (Reg.jobInA n)).length (s.oct (Reg.jobInB n)).length (s.oct (Reg.jobInC n)).length = true) :=
  witness_RetortCommandsComplete_1

theorem witness_SessionsTrustAndRetortAnswer_19 : ∃ (s : State) (n : Nat), (Serves s n 0x170105 2) :=
  witness_RetortCommandsComplete_2

theorem witness_SessionsTrustAndRetortAnswer_20 : ∃ (s : State) (n : Nat) (j : Job) (rest : List Job), (s.retort.queue = j :: rest) ∧ (s.retort.running = none) ∧ (s.retort.clearing = none) ∧ (j.owner = .host n) :=
  witness_RetortCommandsComplete_3

theorem witness_SessionsTrustAndRetortAnswer_21 : ∃ (s : State) (n : Nat) (j : Job), (s.retort.running = some j) ∧ (j.owner = .host n) ∧ (s.retort.since + jobTime j ≤ s.time.elapsed + 1000) :=
  witness_RetortCommandsComplete_6

theorem witness_SessionsTrustAndRetortAnswer_22 : ∃ (s : State) (j : Job), (s.retort.clearing = some j) ∧ (s.retort.since + 16000 ≤ s.time.elapsed) :=
  witness_RetortCommandsComplete_8

theorem witness_SessionsTrustAndRetortAnswer_24 : ∃ (s : State) (n : Nat), (Serves s n 0x130001 2) ∧ (s.lc = 1) ∧ (bit (s.rightsOf n) 6 = true) ∧ (s.tokensUsed ≠ 16) :=
  witness_LifeCycleCompletes_2

theorem witness_SessionsTrustAndRetortAnswer_25 : ∃ (s : State) (n : Nat), (Serves s n 0x130001 3) ∧ (s.lc = 2) ∧ ((List.range s.nBolts).any (fun b => s.num (Reg.bCmLevel b) == 0) = false) :=
  witness_LifeCycleCompletes_4

theorem witness_SessionsTrustAndRetortAnswer_28 : ∃ (s : State) (n : Nat), (Serves s n 0x130001 6) ∧ (s.lc = 4) :=
  witness_LifeCycleCompletes_7

theorem witness_SessionsTrustAndRetortAnswer_29 : ∃ (s : State) (n : Nat), (Serves s n 0x130001 7) ∧ (s.lc = 1 ∨ s.lc = 3 ∨ s.lc = 4 ∨ s.lc = 6) :=
  witness_LifeCycleCompletes_9

theorem witness_SessionsTrustAndRetortAnswer_30 : ∃ (s : State) (n v : Nat), (Serves s n 0x130001 v) ∧ (s.lc = 15) ∧ (v = s.lcResume) ∧ (v ≠ 0xFF) :=
  witness_LifeCycleCompletes_10

theorem witness_SessionsTrustAndRetortAnswer_31 : ∃ (s : State) (n : Nat), (Serves s n 0x132006 1) ∧ (s.num Reg.idcState ≠ 1) ∧ (s.lc = 4) ∧ (s.hasIdentity = true) ∧ ((s.oct Reg.idcInfo).take 8 = ascii "NZ-IDC01") ∧ (((s.oct Reg.idcInfo).drop 8).take 32 = s.deviceId) ∧ (((s.oct Reg.idcInfo).drop 40).take 8 = natToBytes 8 s.otp.dieId.toNat) ∧ (s.retort.disagree = false) :=
  witness_TrustCommandsComplete_1

theorem witness_SessionsTrustAndRetortAnswer_32 : ∃ (s : State) (n : Nat), (Serves s n 0x132102 1) ∧ (s.hasIdentity = true) ∧ (s.retort.disagree = false) :=
  witness_TrustCommandsComplete_2

theorem witness_SessionsTrustAndRetortAnswer_34 : ∃ (s : State) (n t : Nat) (x : Octets), (Serves s n 0x134006 1) ∧ (s.trust.cert = none) ∧ (s.signerOk (certField (s.oct (Reg.dbgBody n)) 83 1) (certField (s.oct (Reg.dbgBody n)) 84 1) = true) ∧ (((s.oct (Reg.dbgBody n)).drop 8).take 32 = s.deviceId) ∧ (s.trust.dbgNonce = some (x, t)) ∧ (x = ((s.oct (Reg.dbgBody n)).drop 40).take 16) ∧ (s.time.elapsed < t + 600000000000) ∧ (certField (s.oct (Reg.dbgBody n)) 80 3 < 128) ∧ ((s.lc ≠ 4 ∧ s.lc ≠ 5) ∨ s.num Reg.timeValid = 1) ∧ (time96Ns (certField (s.oct (Reg.dbgBody n)) 56 12) ≤ s.nowNs ∧ s.nowNs < time96Ns (certField (s.oct (Reg.dbgBody n)) 68 12)) ∧ (s.retort.disagree = false) :=
  witness_DebugCommandsComplete_2

theorem witness_SessionsTrustAndRetortAnswer_35 : ∃ (s : State) (n : Nat), (Serves s n 0x134006 2) :=
  witness_DebugCommandsComplete_3

theorem witness_SessionsTrustAndRetortAnswer_36 : ∃ (s : State) (c : Cert), (s.trust.cert = some c) ∧ (s.inWindow c = false) :=
  witness_DebugCommandsComplete_4

theorem witness_SessionsTrustAndRetortAnswer_37 : ∃ (s : State) (n : Nat), (ServesRead s n 0x134103) ∧ (firstAbort (s.memAbort n (s.num Reg.dbgMem)) = none) ∧ (s.num Reg.dbgMem ≠ 3 ∧ s.num Reg.dbgMem ≠ 4) :=
  witness_DebugCommandsComplete_5

theorem witness_SessionsTrustAndRetortAnswer_38 : ∃ (s : State) (n : Nat), (ServesRead s n 0x134103) ∧ (firstAbort (s.memAbort n (s.num Reg.dbgMem)) = none) ∧ (s.num Reg.dbgMem = 3 ∨ s.num Reg.dbgMem = 4) :=
  witness_DebugCommandsComplete_6

theorem witness_SessionsTrustAndRetortAnswer_41 : ∃ (s : State) (c : Nat) (r : Byte) (rest : Octets), (s.answers 0 = true) ∧ (c < 16) ∧ (s.directEnrol 0 = true) ∧ (firstAbort ((s.admission 0 ((0x1380 + c) * 256 + 1) true 0).filter (fun x => x != some 0x140001) ++ [abortIf (!octetsLengthOk ((0x1380 + c) * 256 + 1) 2000 (r :: rest).length) 0x130003]) = none) ∧ (s.enrolAbort c (r :: rest) = none) :=
  witness_TrustCommandsComplete_3

theorem witness_FirmwareMemoryAndPairAnswer_2 : ∃ (s : State) (n : Nat) (bad : Option Nat), (Serves s n 0x136006 1) ∧ (s.fwRole n = none) ∧ (¬(2 ≤ s.num Reg.fwStep ∧ s.num Reg.fwStep ≤ 5)) ∧ (s.retort.disagree = false) :=
  witness_FirmwareCommandsComplete_3

theorem witness_FirmwareMemoryAndPairAnswer_4 : ∃ (s : State) (n : Nat), (Serves s n 0x136006 3) ∧ (s.fwRole n = none) ∧ (s.num Reg.fwStep = 2) :=
  witness_FirmwareCommandsComplete_5

theorem witness_FirmwareMemoryAndPairAnswer_6 : ∃ (s : State) (n : Nat), (Serves s n 0x136006 5) ∧ (s.fwRole n = none) ∧ (s.num Reg.fwStep = 4) :=
  witness_FirmwareCommandsComplete_7

theorem witness_FirmwareMemoryAndPairAnswer_8 : ∃ (s : State) (n : Nat), (Serves s n 0x136006 7) ∧ (s.fwRole n = none) ∧ (2 ≤ s.num Reg.fwStep) ∧ (s.num Reg.fwStep ≤ 5) :=
  witness_FirmwareCommandsComplete_9

theorem witness_FirmwareMemoryAndPairAnswer_12 : ∃ (s : State) (n r off : Nat) (bytes : Octets) (bad : Option Nat), (s.answers n = true) ∧ (firstAbort (s.admission n 0x162003 true 0 ++ [abortIf (bytes.length != 192) 0x130003]) = none) ∧ (s.num (Reg.smAccRange n) = r) ∧ (s.num (Reg.smAccOff n) = off) ∧ (s.num (Reg.rngUse r) < 2 ∨ 5 < s.num (Reg.rngUse r)) ∧ (s.running (.range r) = true) ∧ (off % 64 = 0) ∧ (off + 192 ≤ s.num (Reg.rngSize r) * 1048576) :=
  witness_SideMemoryCommandsComplete_5

theorem witness_FirmwareMemoryAndPairAnswer_13 : ∃ (s : State) (n r off : Nat) (bad : Option Nat), (ServesRead s n 0x162003) ∧ (s.num (Reg.smAccRange n) = r) ∧ (s.num (Reg.smAccOff n) = off) ∧ (s.num (Reg.rngUse r) ≠ 5) ∧ (s.running (.range r) = true) ∧ (off % 64 = 0) ∧ (off + 192 ≤ s.num (Reg.rngSize r) * 1048576) ∧ (s.lineFails r (off / 64) 3 bad = none) :=
  witness_SideMemoryCommandsComplete_6

theorem witness_FirmwareMemoryAndPairAnswer_15 : ∃ (s : State) (n b mask : Nat), (Serves s n (blockAddr 0x1810 8 b 0x21) mask) :=
  witness_PerformanceCountersComplete_2

theorem witness_FirmwareMemoryAndPairAnswer_16 : ∃ (s : State) (n b i : Nat), (i < 16) ∧ (ServesRead s n (blockAddr 0x1810 8 b (0x11 + i))) :=
  witness_PerformanceCountersComplete_3

theorem witness_FirmwareMemoryAndPairAnswer_17 : ∃ (s : State) (n : Nat), (Serves s n 0x151001 1) ∧ (s.num Reg.pairJoin ≠ 1) :=
  witness_PairRolesComplete_1

theorem witness_FirmwareMemoryAndPairAnswer_19 : ∃ (s : State) (n : Nat), (Serves s n 0x151001 0) :=
  witness_PairRolesComplete_2

theorem witness_FirmwareMemoryAndPairAnswer_21 : ∃ (s : State) (n : Nat), (Serves s n 0x151006 2) ∧ (s.role = 2) ∧ (s.linked = true) ∧ (s.pair.peerHealthy = true) :=
  witness_PairRolesComplete_7

theorem witness_FirmwareMemoryAndPairAnswer_22 : ∃ (s : State), (s.phase = .ready) ∧ (s.num Reg.pairJoin ≠ 0) ∧ (s.num Reg.pairLink = 0) ∧ (s.pair.attemptAt ≤ s.time.elapsed) ∧ (s.laneReport 128 = 0) ∧ (s.laneReport 129 = 0) :=
  witness_MirrorLinkCompletes_1

theorem witness_FirmwareMemoryAndPairAnswer_23 : ∃ (s : State) (x : PeerHello), (s.num Reg.pairLink = 1) :=
  witness_MirrorLinkCompletes_3

theorem witness_FirmwareMemoryAndPairAnswer_24 : ∃ (s : State), (s.linked = true) ∧ (s.pair.beatAt + 1000 ≤ s.time.elapsed) :=
  witness_PairRolesComplete_8

theorem witness_FirmwareMemoryAndPairAnswer_25 : ∃ (s : State), (s.linked = true) ∧ (s.pair.beatAt + 1000 ≤ s.time.elapsed) :=
  witness_PairRolesComplete_8

theorem witness_FirmwareMemoryAndPairAnswer_26 : ∃ (s : State) (hb : Heartbeat) (u : State), (s.linked = true) ∧ (hb.valid = true) ∧ (hb.relinquish = true) ∧ (s.role = 1) ∧ (s.healthy = true) ∧ (s.pair.becoming = none) ∧ ((s.role == 2 && s.num Reg.pairSync == 2 && s.pair.peerSync == 2 && hb.sync == 1) = false) ∧ (u = ({ s with pair := { s.pair with heardAt := s.time.elapsed, peerRole := hb.role, peerGen := hb.roleGen, peerHealthy := hb.healthy, peerSync := hb.sync } } : State).hear hb.reports) :=
  witness_PairRolesComplete_11

theorem witness_FirmwareMemoryAndPairAnswer_27 : ∃ (s : State), (s.linked = true) ∧ (s.role = 1) ∧ (s.num Reg.pairWitnessWired = 1) ∧ (s.healthy = true) ∧ (s.pair.becoming = none) ∧ (s.pair.heardAt + 10000 ≤ s.time.elapsed) :=
  witness_PairRolesComplete_12

theorem witness_FirmwareMemoryAndPairAnswer_28 : ∃ (s : State) (t : Nat), (s.pair.claiming = some t) ∧ (t + 10000 + 20000 * s.pairId ≤ s.time.elapsed) :=
  witness_PairRolesComplete_14

theorem witness_FirmwareMemoryAndPairAnswer_29 : ∃ (s : State) (gen : Nat) (rs : List Report), (s.linked = true) :=
  witness_MirrorLinkCompletes_5

theorem witness_FirmwareMemoryAndPairAnswer_30 : ∃ (s : State) (gen row : Nat), (s.linked = true) ∧ (s.role = 1) :=
  witness_MirrorLinkCompletes_6

theorem witness_FirmwareMemoryAndPairAnswer_31 : ∃ (s : State), (s.linked = true) ∧ (s.num Reg.pairSync = 1) :=
  witness_MirrorLinkCompletes_7

theorem witness_FirmwareMemoryAndPairAnswer_32 : ∃ (s : State), (s.pair.reportAt + 100000 ≤ s.time.elapsed) :=
  witness_MirrorLinkCompletes_8

theorem witness_FirmwareMemoryAndPairAnswer_33 : ∃ (s : State), (s.pair.reportAt + 100000 ≤ s.time.elapsed) :=
  witness_MirrorLinkCompletes_8

theorem witness_FirmwareMemoryAndPairAnswer_34 : ∃ (s : State) (t : Nat), (s.pair.holdoff = some t) ∧ (s.revertReady = true) ∧ (t + s.num Reg.pairHoldoff * 1000000000 ≤ s.time.elapsed) :=
  witness_PairRolesComplete_17

theorem witness_FirmwareMemoryAndPairAnswer_35 : ∃ (s : State) (t : Nat), (s.pair.holdoff = some t) ∧ (s.revertReady = true) ∧ (t + s.num Reg.pairHoldoff * 1000000000 ≤ s.time.elapsed) :=
  witness_PairRolesComplete_17

theorem witness_FirmwareMemoryAndPairAnswer_36 : ∃ (s : State) (b : Nat), (b < s.nBolts) ∧ (s.boltLinesBad b = true) ∧ (s.pair.linesBad.getD b s.time.elapsed + 10000000 ≤ s.time.elapsed) ∧ (s.pair.watchBad.contains b = false) :=
  witness_PairRolesComplete_18

theorem witness_FirmwareMemoryAndPairAnswer_37 : ∃ (s : State) (cause t : Nat), (s.pair.becoming = some (cause, t)) :=
  witness_PairRolesComplete_16

end Sys2Proof.Machine
end

section
/-! PROOFS. How the commands of frames, ports, lanes and bolts run: one equation per command and case, which each obligation
about that command cites. An event comes to `done` of the state it leaves, a host command to the effect that Hearth serves. -/

namespace Sys2Proof.Machine

/-! Reading a completed command -/

/-- A command that ends in `done u` answers u with its traffic moved on. -/
theorem next_of_done {c : Instr} {s u : State} (h : exec c s = done u) : exec c s = .next u.settle := h

theorem Follows.lane {s t : State} (h : Follows s t) (n : Nat) : t.lane n = s.lane n := by
  have e := congrArg State.lanes h.still
  exact congrArg (fun m => FMap.getD m n {}) (show t.lanes = s.lanes from e)

theorem Follows.mem_wire {s t : State} (h : Follows s t) {w : Wire} (hw : w ∈ s.wire) : w ∈ t.wire := h.wire.subset hw

theorem Completes.num {c : Instr} {s u : State} (h : Completes c s u) {k : Key} (hk : trafficKey k = false) :
    ∃ t, exec c s = .next t ∧ t.num k = u.num k := by
  obtain ⟨t, e, f⟩ := h
  exact ⟨t, e, f.num hk⟩

theorem Completes.lane {c : Instr} {s u : State} (h : Completes c s u) (n : Nat) :
    ∃ t, exec c s = .next t ∧ t.lane n = u.lane n := by
  obtain ⟨t, e, f⟩ := h
  exact ⟨t, e, f.lane n⟩

theorem Completes.wire {c : Instr} {s u : State} (h : Completes c s u) {w : Wire} (hw : w ∈ u.wire) :
    ∃ t, exec c s = .next t ∧ w ∈ t.wire := by
  obtain ⟨t, e, f⟩ := h
  exact ⟨t, e, f.mem_wire hw⟩

theorem Answers.num {c : Instr} {s : State} {n : Nat} {r : Eff} (h : Answers c s n r) (hn : n < 9) {k : Key}
    (hk : responseKey k = false) : ∃ t, exec c s = .next t ∧ t.num k = r.1.num k := by
  obtain ⟨t, e, f⟩ := h.rests hn
  exact ⟨t, e, f.num hk⟩

/-! Effects under a check of the value -/

theorem State.ranged_ok (s : State) (k : Key) {ok : Bool} (v : Nat) (h : ok = true) : s.ranged k ok v = okay (s.putN k v) := by
  subst h; rfl

theorem State.ranged_bad (s : State) (k : Key) {ok : Bool} (v : Nat) (h : ok = false) :
    s.ranged k ok v = (s, .abort 0x130001) := by
  subst h; rfl

/-! The egress scheduler (R85 to R90, R362, R500, R511, R515) -/

/-- A PAUSE or PFC frame that waits goes first, whatever the scheduler would select. -/
theorem exec_frameSelected_control {s : State} {p : Nat} {c : Octets} {rest : List Octets} (ho : s.ownsLanes p = true)
    (hc : (s.port p).control = c :: rest) (hs : (s.port p).sending = none) (hu : s.num (Reg.pLinkUp p) = 1)
    (hf : s.num (Reg.pFaultRx p) = 0) : exec (.frameSelected p) s
      = done (((s.setPort p { s.port p with control := rest }).count (Reg.pPauseTx p)).emit (.control p c)) := by
  have hfree : s.controlFree p = true := by simp only [State.controlFree, hs, hu, hf]; rfl
  show execFrameSelected p s = _
  unfold execFrameSelected
  rw [if_neg (by simp only [ho, Bool.true_eq_false, not_false_eq_true]), hc]
  exact if_pos hfree

theorem exec_frameSelected_scheduler {s : State} {p : Nat} (ho : s.ownsLanes p = true) (hc : (s.port p).control = [])
    (hl : s.linkFree p = true) : exec (.frameSelected p) s = done (s.select p) := by
  show execFrameSelected p s = _
  unfold execFrameSelected
  rw [if_neg (by simp only [ho, Bool.true_eq_false, not_false_eq_true]), hc]
  exact if_pos hl

theorem exec_frameDue {s : State} {p : Nat} (ho : s.ownsLanes p = true) : exec (.frameDue p) s
      = done (let t := s.purge p
         match t.pickDue p with
         | some (q, k) => (if t.linkFree p && (t.port p).control.isEmpty then t.startFrame p q k false else t).markLate p
         | none => t.markLate p) := by
  show execFrameDue p s = _
  unfold execFrameDue
  rw [if_neg (by simp only [ho, Bool.true_eq_false, not_false_eq_true])]
  dsimp only
  cases (s.purge p).pickDue p <;> rfl

/-- An underrun of a class C frame spoils it and raises CT_START by one, unless that is 63 already (R85, R86, R88). -/
theorem exec_classCUnderrun_classC {s : State} {p : Nat} {x : Sending} (hs : (s.port p).sending = some x)
    (hx : x.frame.cls = 0 ∧ x.ct < 63 ∧ x.ct * 256 < x.frame.line ∧ x.frame.sector = none) : exec (.classCUnderrun p) s
      = done (let t := ((s.spoil p).count (Reg.bCUnderruns (boltOfPort x.port))).count (Reg.pCUnderruns x.port)
         if t.num (Reg.pCtStart x.port) < 63 then
           (t.putN (Reg.pCtStart x.port) (t.num (Reg.pCtStart x.port) + 1)).raise 0x010003 ((0x3000 + 4 * x.port) * 256) (x.port * 16384 + (t.num (Reg.pCtStart x.port) + 1))
         else t) := by
  show execClassCUnderrun p s = _
  unfold execClassCUnderrun
  rw [hs]
  exact if_pos hx

theorem exec_classCUnderrun_classD {s : State} {p : Nat} {x : Sending} (hs : (s.port p).sending = some x)
    (hc : x.frame.cls = 2) (hl : x.frame.late = false) : exec (.classCUnderrun p) s
      = done ((((s.spoil p).count (Reg.bDUnderruns (boltOfPort x.port))).count (Reg.pDUnderruns x.port)).raiseKeyed 0x010004 (x.port * 4 + 2) ((0x3000 + 4 * x.port + 2) * 256) (x.port * 16384 + 8192)) := by
  show execClassCUnderrun p s = _
  unfold execClassCUnderrun
  rw [hs]
  dsimp only
  rw [if_neg (by simp only [hc]; omega), if_pos ⟨hc, hl⟩]

/-- The state that the end of the frame x on link p leaves: credit, deficits and counts charged, the frame on the wire (R504, R507). -/
def State.txEnded (s : State) (p ts : Nat) (x : Sending) : State :=
  let f := x.frame
  let t := s.settleCredit x.port
  let t := t.setPort p { t.port p with sending := none }
  let t := ((t.countTx f).count (Reg.qTxFrames (queueRow x.port f.queue))).countBy (Reg.qTxOctets (queueRow x.port f.queue)) f.line
  let len := (f.line : Int) + x.extra
  let t := t.chargeCredit x.port f.queue len
  let t := if f.cls = 0 ∧ t.strictQ x.port f.queue = false then
      let t := if ((t.port x.port).queue f.queue).isEmpty then t else t.setDeficit x.port f.queue (t.deficit x.port f.queue - len)
      t.chargeLink p x.port len
    else t
  let t := t.queueEmptied x.port f.queue
  let stamp := (ts : Int) + i24 (t.num (Reg.pTsTxAdj p)) * 65536 / 1000
  let t := ((t.tcMeasure f stamp).emit (.frame p f.bytes (!(f.bad || f.poison)))).sendPcs p (f.bytes ++ fcsBytes f.bytes (f.bad || f.poison))
  (t.traceEnd (f.leaves stamp) false).pauseAfter f

theorem exec_frameTxEnd {s : State} {p ts : Nat} {x : Sending} (hs : (s.port p).sending = some x) :
    exec (.frameTxEnd p ts) s = done (s.txEnded p ts x) := by
  show execFrameTxEnd p ts s = _
  unfold execFrameTxEnd
  rw [hs]
  rfl

theorem exec_gateTakeover {s : State} {p : Nat} (ha : (s.port p).admin = true)
    (ht : time96Ns (s.num (Reg.pTakeoverTime p)) ≤ s.nowNs) : exec (.gateTakeover p) s = done (s.takeover p) := by
  show execGateTakeover p s = _
  unfold execGateTakeover
  exact if_pos (by simp only [ha, ht, decide_true, Bool.and_self])

/-- Settles O25: each command of the scheduler by the equation of its case. -/
theorem schedulerCompletes : Obligations.SchedulerCompletes := by
  unfold Obligations.SchedulerCompletes
  refine ⟨?control, ?selected, ?due, ?classC, ?classD, ?ended, ?gate, ?takeover⟩
  case control => exact fun s p c rest ho hc hs hu hf => completes_of_done (exec_frameSelected_control ho hc hs hu hf)
  case selected => exact fun s p ho hc hl => completes_of_done (exec_frameSelected_scheduler ho hc hl)
  case due => exact fun s p ho => completes_of_done (exec_frameDue ho)
  case classC => exact fun s p x hs h0 h1 h2 h3 _ => completes_of_done (exec_classCUnderrun_classC hs ⟨h0, h1, h2, h3⟩)
  case classD => exact fun s p x hs hc hl => completes_of_done (exec_classCUnderrun_classD hs hc hl)
  case ended => exact fun s p ts x hs => completes_of_done (exec_frameTxEnd hs)
  case gate => exact fun s p => completes_of_done rfl
  case takeover => exact fun s p ha ht => completes_of_done (exec_gateTakeover ha ht)

end Sys2Proof.Machine
end

section
/-! PROOFS. Parity errors of a bolt and the reseeding of a generator (R41 to R54, R179). -/

namespace Sys2Proof.Machine

/-- A first failure of a crossing asks for a replay. -/
theorem PointState.fail_fst_of_ne {x : PointState} {c : Crossing} (h : x.failed ≠ some c) : (x.fail c).1 = false := by
  unfold PointState.fail; rw [if_neg h]

/-- A crossing that fails again after its replay is given up. -/
theorem PointState.fail_of_eq {x : PointState} {c : Crossing} (h : x.failed = some c) :
    x.fail c = (true, { x with failed := none }) := if_pos h

theorem exec_beatParityError_replay {s : State} {e : ParityError} {c : Crossing} (hb : e.b < s.nBolts)
    (hr : refFits e.point e.at_ = true) (hc : ((s.pipe e.b e.pipe).point e.point).crossing e.at_ = some c)
    (hf : ((s.pipe e.b e.pipe).point e.point).failed ≠ some c) : exec (.beatParityError e) s
      = done (let ps := s.pipe e.b e.pipe
         let x := ps.point e.point
         let t := s.setPipe e.b e.pipe { ps with points := ps.points.put e.point (x.fail c).2 }
         ((t.count (Reg.bReplays e.b)).pc e.b (0x030 + pipeNo e.pipe) 1).replays e x c) := by
  have hfail := PointState.fail_fst_of_ne hf
  show execBeatParityError e s = _
  unfold execBeatParityError
  dsimp only
  rw [hc]
  dsimp only
  rw [if_neg (by simp only [hr, Bool.true_eq_false, or_false]; omega), if_pos hfail]

theorem exec_beatParityError_persistent {s : State} {e : ParityError} {c : Crossing} (hb : e.b < s.nBolts)
    (hr : refFits e.point e.at_ = true) (hc : ((s.pipe e.b e.pipe).point e.point).crossing e.at_ = some c)
    (hf : ((s.pipe e.b e.pipe).point e.point).failed = some c) : exec (.beatParityError e) s
      = done (let ps := s.pipe e.b e.pipe
         let x := ps.point e.point
         let t := (s.setPipe e.b e.pipe { ps with points := ps.points.put e.point { x with failed := none } }).count (Reg.bPersistent e.b)
         (t.persists e x c).2.raise 0x010001 ((0x2000 + 0x100 * e.b) * 256)
           (e.b * 2097152 + pipeNo e.pipe * 1048576 + e.point % 16 * 65536
             + (match (t.persists e x c).1 with | some p => 1024 + p % 1024 | none => 0))) := by
  show execBeatParityError e s = _
  unfold execBeatParityError
  dsimp only
  rw [hc]
  dsimp only
  rw [if_neg (by simp only [hr, Bool.true_eq_false, or_false]; omega), PointState.fail_of_eq hf]
  rfl

theorem exec_generatorReseedRetry_ok {s : State} {b : Nat} (pipe : Pipe) (hb : b < s.nBolts) :
    exec (.generatorReseedRetry b pipe true) s
      = done (s.setPipe b pipe { s.pipe b pipe with genFailed := false, reseeds := (s.pipe b pipe).reseeds + 1, sinceReseed := 0 }) := by
  show execGeneratorReseedRetry b pipe true s = _
  unfold execGeneratorReseedRetry
  rw [if_neg (Nat.not_le.mpr hb)]
  rfl

theorem exec_generatorReseedRetry_firstFailure {s : State} {b : Nat} {pipe : Pipe} (hb : b < s.nBolts)
    (hg : (s.pipe b pipe).genFailed = false) : exec (.generatorReseedRetry b pipe false) s
      = done ((s.setPipe b pipe { s.pipe b pipe with genFailed := true }).raise 0x020008 ((0x2000 + 0x100 * b) * 256) (b * 2097152 + pipeNo pipe * 1048576 + 1)) := by
  show execGeneratorReseedRetry b pipe false s = _
  unfold execGeneratorReseedRetry
  rw [if_neg (Nat.not_le.mpr hb)]
  dsimp only
  rw [if_neg Bool.false_ne_true, if_neg (by simp only [hg, Bool.false_eq_true, not_false_eq_true])]

theorem exec_generatorReseedRetry_furtherFailure {s : State} {b : Nat} {pipe : Pipe} (hb : b < s.nBolts)
    (hg : (s.pipe b pipe).genFailed = true) :
    exec (.generatorReseedRetry b pipe false) s = done (s.count (reseedFails b pipe)) := by
  show execGeneratorReseedRetry b pipe false s = _
  unfold execGeneratorReseedRetry
  rw [if_neg (Nat.not_le.mpr hb)]
  dsimp only
  rw [if_neg Bool.false_ne_true, if_pos hg]

/-- Settles O27: a failure is a replay or persistent by what failed last at its point. -/
theorem errorsOfABoltComplete : Obligations.ErrorsOfABoltComplete := by
  unfold Obligations.ErrorsOfABoltComplete
  refine ⟨?replay, ?persistent, ?reseeded, ?first, ?further⟩
  case replay => exact fun s e c hb hr hc hf => completes_of_done (exec_beatParityError_replay hb hr hc hf)
  case persistent => exact fun s e c hb hr hc hf => completes_of_done (exec_beatParityError_persistent hb hr hc hf)
  case reseeded => exact fun s b pipe hb => completes_of_done (exec_generatorReseedRetry_ok pipe hb)
  case first => exact fun s b pipe hb hg => completes_of_done (exec_generatorReseedRetry_firstFailure hb hg)
  case further => exact fun s b pipe hb hg => completes_of_done (exec_generatorReseedRetry_furtherFailure hb hg)

end Sys2Proof.Machine
end

section
/-! PROOFS. Received frames and panels, each arrival on the path it takes (R69, R340, R350, R356, R409, R411, R445). -/

namespace Sys2Proof.Machine

theorem State.received_of_up {s : State} (h : s.phase ≠ .reset) (f : State → State) : s.received f = (f s).drainHearth := if_neg h

/-! The clear interface -/

section Clear
variable {s : State} {p : Nat} {rx : RxFrame}

theorem State.clearIn_stopped (hp : p < s.nPorts) (hk : s.kind p = 1) (hf : s.fnState (.port p) = 0) :
    s.clearIn p rx = s.count (Reg.pStoppedDiscards p) := by
  unfold State.clearIn
  dsimp only
  rw [if_neg (by omega), if_pos hf]

theorem State.clearIn_runt (hp : p < s.nPorts) (hk : s.kind p = 1) (hf : s.fnState (.port p) ≠ 0)
    (hu : s.num (Reg.pLinkUp p) = 1) (hr : rx.bytes.length < 60) : s.clearIn p rx = (s.arrives p .e rx).2.count (Reg.pRunts p) := by
  unfold State.clearIn
  dsimp only
  rw [if_neg (by omega), if_neg hf, if_neg (by omega), if_pos (by omega)]

/-- Whether the frame is control, Silsy or data, a bad FCS of which nothing has gone on is only counted (R357). -/
theorem State.clearIn_badFcs (hp : p < s.nPorts) (hk : s.kind p = 1) (hf : s.fnState (.port p) ≠ 0)
    (hu : s.num (Reg.pLinkUp p) = 1) (hm : (s.port p).arriving.first = false) (hr : 60 ≤ rx.bytes.length)
    (hc : rx.fcsOk = false) (hs : rx.started = false) (hn : rx.final = false) :
    s.clearIn p rx = (s.arrives p .e rx).2.count (Reg.pFcsErrors p) := by
  unfold State.clearIn
  dsimp only
  have hmet : (s.arrives p .e rx).1.first = false := hm
  rw [if_neg (by omega), if_neg hf, if_neg (by omega), if_neg (by omega), hmet, if_neg Bool.false_ne_true]
  simp only [hc, hs, hn, if_true]
  split
  · rfl
  · split
    · rfl
    · exact if_pos (by rw [Bool.and_false]; rfl)

/-- A frame that meets none of checks 1 to 5 goes on to classification. -/
theorem State.clearIn_classified (hp : p < s.nPorts) (hk : s.kind p = 1) (hf : s.fnState (.port p) ≠ 0)
    (hu : s.num (Reg.pLinkUp p) = 1) (hm : (s.port p).arriving.first = false) (hr : 60 ≤ rx.bytes.length)
    (hc : rx.fcsOk = true) (hl : rx.bytes.length + 4 ≤ (s.arrives p .e rx).2.num (Reg.pMaxFrame p))
    (he : fieldAt rx.bytes 12 2 ≠ 0x8808)
    (hs : ((s.arrives p .e rx).2.silsyFrame rx.bytes || (s.arrives p .e rx).2.silsyBroadcast rx.bytes) = false)
    (hg : groupMac (frameDst rx.bytes) = false)
    (hq : (((s.arrives p .e rx).2.parsed p .e rx (s.port p).arriving.poison).2).fnState (.port ((s.arrives p .e rx).2.assigned p rx.bytes)) = 2) :
    s.clearIn p rx = (let q := (s.arrives p .e rx).2.assigned p rx.bytes
       let (seen, t) := (s.arrives p .e rx).2.parsed p .e rx (s.port p).arriving.poison
       t.classifyE q p rx (t.saOfHead p (earlyHead rx.bytes (s.port p).lastHead seen)) (s.port p).arriving none) := by
  unfold State.clearIn
  dsimp only
  have hmet : (s.arrives p .e rx).1 = (s.port p).arriving := rfl
  have hstop : (s.arrives p .e rx).2.groupStops (boltOfPort p) rx.bytes = false := by
    unfold State.groupStops; rw [hg]; rfl
  have hmax : ¬ (s.arrives p .e rx).2.num (Reg.pMaxFrame p) < rx.bytes.length + 4 := by omega
  rw [if_neg (by omega), if_neg hf, if_neg (by omega), if_neg (by omega), hmet, hm, if_neg Bool.false_ne_true, if_neg he, hs,
    if_neg Bool.false_ne_true]
  simp only [hc, hmax, hg, hstop, hq, Bool.true_eq_false, Bool.false_eq_true, if_false, ne_eq, not_true_eq_false, Option.isSome_none, Bool.false_and]

end Clear

/-! The line interface -/

section Line
variable {s : State} {p : Nat} {rx : RxFrame}

theorem State.lineIn_runt (hp : p < s.nPorts) (hk : s.kind p = 3) (ho : s.ownsLanes p = true) (hf : s.fnState (.port p) ≠ 0)
    (hu : s.num (Reg.pLinkUp p) = 1) (hr : rx.bytes.length < 60) : s.lineIn p rx = (s.arrives p .d rx).2.count (Reg.pRunts p) := by
  unfold State.lineIn
  dsimp only
  rw [if_neg (by simp only [ho, Bool.true_eq_false, or_false]; omega), if_neg hf, if_neg (by omega), if_pos (by omega)]

/-- A protected frame of a good length and FCS goes to the exact match. -/
theorem State.lineIn_tagged (hp : p < s.nPorts) (hk : s.kind p = 3) (ho : s.ownsLanes p = true) (hf : s.fnState (.port p) ≠ 0)
    (hu : s.num (Reg.pLinkUp p) = 1) (hm : (s.port p).arriving.first = false) (hr : 60 ≤ rx.bytes.length)
    (hl : rx.bytes.length ≤ 16028) (hc : rx.fcsOk = true) (he : fieldAt rx.bytes 12 2 = 0x88E5) :
    s.lineIn p rx = (s.arrives p .d rx).2.lineParsed p rx (s.port p).arriving (s.port p).lastHead false := by
  unfold State.lineIn
  dsimp only
  have hmet : (s.arrives p .d rx).1 = (s.port p).arriving := rfl
  have hlen : ¬ 16032 < rx.bytes.length + 4 := by omega
  rw [if_neg (by simp only [ho, Bool.true_eq_false, or_false]; omega), if_neg hf, if_neg (by omega), if_neg (by omega), hmet, hm,
    if_neg Bool.false_ne_true]
  simp only [hc, he, hlen, Bool.true_eq_false, or_self, decide_false, if_false, Bool.false_and, Bool.false_eq_true, beq_self_eq_true,
    Bool.not_true]

end Line

/-! The pipes -/

theorem exec_clearFrameReceived {s : State} (h : s.phase ≠ .reset) (p : Nat) (rx : RxFrame) :
    exec (.clearFrameReceived p rx) s = done (s.clearIn p rx).drainHearth :=
  congrArg done (State.received_of_up h _)

theorem exec_lineFrameReceived {s : State} (h : s.phase ≠ .reset) (p : Nat) (rx : RxFrame) :
    exec (.lineFrameReceived p rx) s = done (s.lineIn p rx).drainHearth :=
  congrArg done (State.received_of_up h _)

theorem exec_twPanelReceived {s : State} (h : s.phase ≠ .reset) (p : Nat) (rx : PanelRx) :
    exec (.twPanelReceived p rx) s = done (s.panelReceived p rx).drainHearth :=
  congrArg done (State.received_of_up h _)

theorem exec_keystreamMissFilled {s : State} (h : s.phase ≠ .reset) {b : Nat} (pipe : Pipe) (hb : b < s.nBolts) :
    exec (.keystreamMissFilled b pipe) s
      = done ((s.setPipe b pipe { s.pipe b pipe with fifo := fillFirst (s.pipe b pipe).fifo }).drain b pipe).drainHearth := by
  show done (s.received _) = _
  rw [State.received_of_up h, if_neg (Nat.not_le.mpr hb)]
  rfl

theorem exec_sectorTransformDone_e {s : State} (h : s.phase ≠ .reset) {b : Nat} (hb : b < s.nBolts) (hs : s.hasSector = true) :
    exec (.sectorTransformDone b .e) s = done (s.sectorDoneE b).drainHearth := by
  show done (s.received _) = _
  rw [State.received_of_up h, if_neg (by simp only [hs, Bool.true_eq_false, or_false]; omega)]

theorem State.sectorDoneD_open {s : State} {b n : Nat} {f : Frame} {rest : List Frame} (ha : (s.pipe b .d).after = f :: rest)
    (hw : f.stage = .waitSector) (hn : f.stream = some n)
    (hc : (s.setPipe b .d { s.pipe b .d with after := rest }).engineClosed n b = none) :
    s.sectorDoneD b = (let (bs, t) := (s.setPipe b .d { s.pipe b .d with after := rest }).sectorTransform n false f.bytes
       let f := { f with bytes := bs, stream := none }
       ((t.crosses f 3 []).gateD f).releaseAfter b (rest.length + 1)) := by
  unfold State.sectorDoneD
  rw [ha]
  dsimp only
  rw [hw, hn]
  dsimp only
  rw [hc]

theorem exec_sectorTransformDone_d {s : State} (h : s.phase ≠ .reset) {b : Nat} (hb : b < s.nBolts) (hs : s.hasSector = true) :
    exec (.sectorTransformDone b .d) s = done (s.sectorDoneD b).drainHearth := by
  show done (s.received _) = _
  rw [State.received_of_up h, if_neg (by simp only [hs, Bool.true_eq_false, or_false]; omega)]

/-! Panels -/

section Panel
variable {s u : State} {p : Nat} {rx : PanelRx} {us : List RxUnit}

theorem State.panelReceived_fecLost (hr : s.tribRunning p = true) (hd : s.num (Reg.pTribDelineated p) ≠ 0)
    (hl : (s.tribLanes p).any (fun l => s.hardDefect (lineOf (boltOfPort p) l)) = false)
    (hu : s.delineate p (s.rxUnits p rx) ((s.trib p).pointers.length + 1) = (some us, u))
    (hn : us.any (fun x => x.unit.isNone) = true) : s.panelReceived p rx = (u.count (Reg.pPanelsFecLost p)).panelSkipped p := by
  unfold State.panelReceived
  rw [if_neg (by simp only [hr, hd, hl, Bool.true_eq_false, Bool.false_eq_true, or_self, not_false_eq_true]), hu]
  exact if_pos hn

theorem State.panelReceived_opened (hr : s.tribRunning p = true) (hd : s.num (Reg.pTribDelineated p) ≠ 0)
    (hl : (s.tribLanes p).any (fun l => s.hardDefect (lineOf (boltOfPort p) l)) = false)
    (hu : s.delineate p (s.rxUnits p rx) ((s.trib p).pointers.length + 1) = (some us, u))
    (hn : us.any (fun x => x.unit.isNone) = false) (hs : rx.short = false) (hp : (u.trib p).rxPoison = false) :
    s.panelReceived p rx = (let units := us.filterMap (fun x => x.unit)
       (u.panelEnters p units).panelOpen p (units.take 64) (us.map (fun x => x.ts)) (units.getD 64 0)) := by
  unfold State.panelReceived
  rw [if_neg (by simp only [hr, hd, hl, Bool.true_eq_false, Bool.false_eq_true, or_self, not_false_eq_true]), hu]
  dsimp only
  rw [hn, hs, hp, if_neg Bool.false_ne_true, if_neg Bool.false_ne_true, if_neg Bool.false_ne_true]

end Panel

/-- Settles O29: each arrival by the equation of its case, and what it handed to Hearth taken in (R355). -/
theorem frameArrivalCompletes : Obligations.FrameArrivalCompletes := by
  unfold Obligations.FrameArrivalCompletes
  refine ⟨?classified, ?runt, ?badFcs, ?stopped, ?tagged, ?lineRunt, ?filled, ?sectorD, ?sectorE, ?fecLost, ?opened⟩
  case classified =>
    intro s p rx h hp hk hf hu hm hr hc hl he hs hg hq
    refine completes_of_done ?_
    rw [exec_clearFrameReceived h, State.clearIn_classified hp hk hf hu hm hr hc hl he hs hg hq]
  case runt =>
    intro s p rx h hp hk hf hu hr
    exact completes_of_done (by rw [exec_clearFrameReceived h, State.clearIn_runt hp hk hf hu hr])
  case badFcs =>
    intro s p rx h hp hk hf hu hm hr hc hs hn
    exact completes_of_done (by rw [exec_clearFrameReceived h, State.clearIn_badFcs hp hk hf hu hm hr hc hs hn])
  case stopped =>
    intro s p rx h hp hk hf
    exact completes_of_done (by rw [exec_clearFrameReceived h, State.clearIn_stopped hp hk hf])
  case tagged =>
    intro s p rx h hp hk ho hf hu hm hr hl hc he
    exact completes_of_done (by rw [exec_lineFrameReceived h, State.lineIn_tagged hp hk ho hf hu hm hr hl hc he])
  case lineRunt =>
    intro s p rx h hp hk ho hf hu hr
    exact completes_of_done (by rw [exec_lineFrameReceived h, State.lineIn_runt hp hk ho hf hu hr])
  case filled => exact fun s b pipe h hb => completes_of_done (exec_keystreamMissFilled h pipe hb)
  case sectorD =>
    intro s b f n rest h hb hs ha hw hn hc
    exact completes_of_done (by rw [exec_sectorTransformDone_d h hb hs, State.sectorDoneD_open ha hw hn hc])
  case sectorE => exact fun s b h hb hs => completes_of_done (exec_sectorTransformDone_e h hb hs)
  case fecLost =>
    intro s p rx us u h hr hd hl hu hn
    exact completes_of_done (by rw [exec_twPanelReceived h, State.panelReceived_fecLost hr hd hl hu hn])
  case opened =>
    intro s p rx us u h hr hd hl hu hn hs hp
    exact completes_of_done (by rw [exec_twPanelReceived h, State.panelReceived_opened hr hd hl hu hn hs hp])

end Sys2Proof.Machine
end

section
/-! PROOFS. Port and bolt objects: each write comes to its effect, or is refused by the check of its value (R82, R187, R203, R222,
R305, R331, R367, R508). -/

namespace Sys2Proof.Machine

theorem dev_ne {a b : Nat} (h : a ≠ b) : Key.dev a ≠ Key.dev b := fun e => h (Key.dev.inj e)

theorem State.writeNum_serves {s : State} {n addr v : Nat} (h : Serves s n addr v) (r : Eff) : s.writeNum n addr v r = r :=
  State.request_served (form := writeForm addr v) h.2 r

/-- An operation on a row that is selected, not of a tributary, and not changed under it, comes to its effect (R117, R118). -/
theorem State.onRow_selected {s : State} {n win : Nat} (hc : s.cursor n win ≠ 0xFFFFFF) (hl : s.num (.cur n win 0) ≠ 1)
    (ht : s.tribRow win (s.cursor n win) = false) (eff : Nat → Eff) : s.onRow n win false eff = eff (s.cursor n win) := by
  have hrow : s.noRow n win = none := if_neg hc
  unfold State.onRow
  rw [hrow]
  refine underAborts_none ?_ _
  rw [beq_eq_false_iff_ne.mpr hl, ht]
  rfl

section Objects
variable {s : State} {n p b v : Nat}

/-- The state that a change of PORT_KIND leaves (R331). -/
def State.kindChanged (s : State) (p v : Nat) : State :=
  let u := (forEach (kindKeys p) (fun s k => s.clear k) s).putN (Reg.pPortKind p) v
  let t := (u.setTrib p {}).setPort p { u.port p with peerPause := [] }
  let t := forEach (List.range 8) (fun s i => s.clear (latchMark p i)) t
  let t := forEach bindingSubs (fun u f => if u.num (portKey p 3 f) = s.num (portKey p 3 f) then u else u.mirror (.binding p f (u.num (portKey p 3 f)))) t
  t.portRoleChange p

theorem State.kindEff_other (hv : v ≤ 4) (hk : s.kind p ≠ v) : s.kindEff p v = okay (s.kindChanged p v) := by
  unfold State.kindEff
  rw [if_neg (Nat.not_lt.mpr hv), if_neg hk]
  rfl

theorem State.kindEff_same (hv : s.kind p ≤ 4) : s.kindEff p (s.kind p) = okay s := by
  unfold State.kindEff
  rw [if_neg (Nat.not_lt.mpr hv), if_pos rfl]

theorem answers_portKind_other (h : Serves s n (portAddr p 0 0x10) v) (hv : v ≤ 4) (hk : s.kind p ≠ v) :
    Answers (.portKind n p v) s n (okay (s.kindChanged p v)) :=
  answers_of_write rfl h (State.kindEff_other hv hk)

theorem answers_ctStart (h : Serves s n (portAddr p 0 0x21) v) (hlo : 1 ≤ v) (hhi : v ≤ 63) :
    Answers (.ctStart n p v) s n (okay (s.putN (Reg.pCtStart p) v)) :=
  answers_of_write rfl h (State.ranged_ok s _ v (decide_eq_true ⟨hlo, hhi⟩))

theorem answers_xonThreshold (h : Serves s n (portAddr p 0 0x1B) v) (hv : v < s.num (Reg.pXoffThresh p)) :
    Answers (.xoffXonThreshold n p true v) s n (okay (s.putN (Reg.pXonThresh p) v)) :=
  answers_of_write (e := s.xonEff p v) rfl h (State.ranged_ok s _ v (decide_eq_true hv))

theorem answers_xoffThreshold (h : Serves s n (portAddr p 0 0x1A) v) (hlo : 1 ≤ v) (hhi : v ≤ s.num (Reg.pIngressLimit p))
    (hx : s.num (Reg.pXonThresh p) < v) : Answers (.xoffXonThreshold n p false v) s n (okay (s.putN (Reg.pXoffThresh p) v)) :=
  answers_of_write (e := s.xoffEff p v) rfl h (State.ranged_ok s _ v (decide_eq_true ⟨hlo, hhi, hx⟩))

theorem State.cmEff_zero : s.cmEff b 0 = (s, .abort 0x140001) := rfl

theorem State.cmEff_level (hlo : 1 ≤ v) (hhi : v ≤ 3) : s.cmEff b v = okay (s.setCmLevel b v) := by
  refine check_none ?_ _
  rw [beq_eq_false_iff_ne.mpr (by omega), decide_eq_false (by omega)]
  rfl

theorem State.panelLimitEff_ok (hlo : 2 ^ 16 ≤ v) (hhi : v ≤ 2 ^ 60) (hw : s.num (Reg.bTwPanelWarn b) < v) :
    s.panelLimitEff b v = (let t := s.putN (Reg.bTwPanelLimit b) v
      okay (forEach ((boltPorts b).filter (fun p => t.tribSends p && t.panelBarred p (t.num (Reg.pTribKeyCount p)))) (fun t p => t.panelStop p) t)) := by
  refine check_none ?_ _
  rw [decide_eq_false (by omega)]
  rfl

theorem State.policyEff_inForce : s.policyEff b (s.num (Reg.bPolicyActive b)) = okay s := if_pos rfl

theorem State.policyEff_move (hv : v < 2) (hr : s.running (.bank b v) = true) (hn : s.num (Reg.bPolicyActive b) ≠ v) :
    s.policyEff b v = okay (((s.putN (Reg.bPolicyActive b) v).raise 0x050001 ((0x2000 + 0x100 * b) * 256)
      (b * 2097152 + v * 1048576)).mirror (.policyActive b v)) := by
  unfold State.policyEff
  rw [if_neg hn]
  refine check_none ?_ _
  rw [hr, decide_eq_false (by omega : ¬ 1 < v), Bool.not_true, Bool.and_false]
  rfl

theorem State.policyEff_stopped (hv : v < 2) (hr : s.running (.bank b v) = false) (hn : s.num (Reg.bPolicyActive b) ≠ v) :
    s.policyEff b v = (s, .abort 0x120014) := by
  unfold State.policyEff
  rw [if_neg hn, hr, decide_eq_true hv, decide_eq_false (by omega : ¬ 1 < v)]
  rfl

end Objects

/-- A queue's idle slope is staged and committed in one command (log entry 39). -/
theorem exec_qIdleSlope {s t : State} {n v : Nat} (ht : t = s.putN (stage n 0x4500 0x12) v) (h1 : Serves s n 0x450012 v)
    (h2 : Serves t n 0x450005 2) (hc : t.cursor n 0x4500 ≠ 0xFFFFFF) (hl : t.num (.cur n 0x4500 0) ≠ 1)
    (hr : t.tribRow 0x4500 (t.cursor n 0x4500) = false) : exec (.qIdleSlope n v) s
      = done (answered n (t.commitRow n 0x4500 (t.cursor n 0x4500) none)).afterResponse := by
  show execQIdleSlope n v s = _
  unfold execQIdleSlope
  rw [State.writeNum_serves h1, ← ht]
  show hostDone n t (t.writeNum n 0x450005 2 (t.onRow n 0x4500 false (fun row => t.commitRow n 0x4500 row none))) = _
  rw [State.writeNum_serves h2, State.onRow_selected hc hl hr, hostDone_answers h2.1]

theorem exec_pcsAlignmentChange {s : State} {p : Nat} (pcs fec : Bool) (hp : p < s.nPorts) :
    exec (.pcsAlignmentChange p pcs fec) s = done ((s.setPort p { s.port p with pcs := pcs, fec := fec }).linkEval p) := if_pos hp

theorem exec_linkFaultOrderedSets {s : State} {p kind : Nat} (ho : s.ownsLanes p = true) (hu : s.num (Reg.pLinkUp p) = 1)
    (hk : kind < 3) : exec (.linkFaultOrderedSets p kind) s = done (s.putN (Reg.pFaultRx p) kind) := if_pos ⟨ho, hu, hk⟩

/-- Settles O34: each write by the case of its effect, the two events by their equations. -/
theorem portAndBoltObjectsComplete : Obligations.PortAndBoltObjectsComplete := by
  unfold Obligations.PortAndBoltObjectsComplete
  refine ⟨?kind, ?sameKind, ?ct, ?ctBad, ?xon, ?xonBad, ?xoffBad, ?xoff, ?cm, ?cmZero, ?xpn, ?pn32, ?panelLimit, ?policy, ?inForce,
    ?stopped, ?slope, ?alignment, ?faults⟩
  case kind => exact fun s n p v h hv hk => answers_portKind_other h hv hk
  case sameKind => exact fun s n p h hv => answers_of_write rfl h (State.kindEff_same hv)
  case ct => exact fun s n p v h hlo hhi => answers_ctStart h hlo hhi
  case ctBad => exact fun s n p v h hv => answers_of_write rfl h (State.ranged_bad s _ v (decide_eq_false (by omega)))
  case xon => exact fun s n p v h hv => answers_xonThreshold h hv
  case xonBad =>
    exact fun s n p v h hv => answers_of_write (e := s.xonEff p v) rfl h (State.ranged_bad s _ v (decide_eq_false (by omega)))
  case xoffBad =>
    exact fun s n p v h hv => answers_of_write (e := s.xoffEff p v) rfl h (State.ranged_bad s _ v (decide_eq_false (by omega)))
  case xoff => exact fun s n p v h hlo hhi hx => answers_xoffThreshold h hlo hhi hx
  case cm => exact fun s n b v h hlo hhi => answers_of_write rfl h (State.cmEff_level hlo hhi)
  case cmZero => exact fun s n b h => answers_of_write rfl h State.cmEff_zero
  case xpn =>
    exact fun s n b v h hlo hhi => answers_of_write (e := s.pnWarnEff b true v) rfl h (State.ranged_ok s _ v (decide_eq_true ⟨hlo, hhi⟩))
  case pn32 =>
    exact fun s n b v h hlo hhi => answers_of_write (e := s.pnWarnEff b false v) rfl h (State.ranged_ok s _ v (decide_eq_true ⟨hlo, hhi⟩))
  case panelLimit => exact fun s n b v h hlo hhi hw => answers_of_write rfl h (State.panelLimitEff_ok hlo hhi hw)
  case policy => exact fun s n b v h hv hr hn => answers_of_write rfl h (State.policyEff_move hv hr hn)
  case inForce => exact fun s n b h => answers_of_write rfl h State.policyEff_inForce
  case stopped => exact fun s n b v h hv hr hn => answers_of_write rfl h (State.policyEff_stopped hv hr hn)
  case slope => exact fun s n v t ht h1 h2 hc hl hr _ => completes_of_done (exec_qIdleSlope ht h1 h2 hc hl hr)
  case alignment => exact fun s p pcs fec hp => completes_of_done (exec_pcsAlignmentChange pcs fec hp)
  case faults => exact fun s p kind ho hu hk => completes_of_done (exec_linkFaultOrderedSets ho hu hk)

end Sys2Proof.Machine
end

section
/-! PROOFS. Lanes and references: signal, lock, acquisition, sleep and wake, faults, patterns (R467, R471 to R473, R478, R480, R485),
and the objects of the management interfaces (R568, R586). -/

namespace Sys2Proof.Machine

/-! What frames leave alone -/

theorem lane_still {n sub : Nat} (hn : n < 128) (hs : sub < 256) : trafficKey (.dev ((0x1900 + n) * 256 + sub)) = false :=
  dev_still (by omega) (by omega) (by simp only [List.mem_cons, List.not_mem_nil, or_false]; omega)

theorem lane_rests {n sub : Nat} (hn : n < 128) (hs : sub < 256) : responseKey (.dev ((0x1900 + n) * 256 + sub)) = false :=
  dev_rests (lane_still hn hs) (by omega)

theorem port_rests {p k sub : Nat} (hk : k < 4) (hs : sub < 256) (h : portTraffic k sub = false) : responseKey (portKey p k sub) = false :=
  dev_rests (port_still hk hs h) (by omega)

/-! Events of a lane -/

theorem State.lane_count (s : State) (k : Key) (n : Nat) : (s.count k).lane n = s.lane n := rfl

section Lane
variable {s : State} {n : Nat}

theorem exec_laneSignalDetected_noted (hp : s.lanePresent n = true)
    (hs : s.num (Reg.lnState n) = 2 ∨ s.num (Reg.lnState n) = 3 ∨ s.num (Reg.lnState n) = 5) :
    exec (.laneSignalDetected n) s = done (s.setLane n { s.lane n with signal := true }) := by
  show execLaneSignalDetected n s = _
  unfold execLaneSignalDetected
  dsimp only
  rw [if_neg (by simp only [hp, Bool.true_eq_false, false_or]; omega), if_neg (by omega)]

theorem exec_laneSignalLost (hp : s.lanePresent n = true)
    (hs : s.num (Reg.lnState n) = 1 ∨ s.num (Reg.lnState n) = 2 ∨ s.num (Reg.lnState n) = 3 ∨ s.num (Reg.lnState n) = 5) :
    exec (.laneSignalLost n) s = done ((s.setLane n { (s.lane n).unsynced with signal := false }).setLaneState n 1) := by
  show execLaneSignalLost n s = _
  unfold execLaneSignalLost
  dsimp only
  rw [if_neg (by simp only [hp, Bool.true_eq_false, false_or]; omega)]

/-- An acquisition between its settling and its bound may end in a lock (R472). -/
theorem State.mayLock_acquiring {ppm : Nat} (hppm : ppm ≤ 25000) (hs : s.num (Reg.lnState n) = 2)
    (hlo : s.acqFrom n + settleTime ≤ s.time.elapsed) (hhi : s.time.elapsed ≤ s.acqFrom n + acqBound) : s.mayLock n ppm = true := by
  unfold State.mayLock
  dsimp only
  rw [hs, decide_eq_true hppm, decide_eq_true ⟨hlo, hhi⟩]
  rfl

/-- The state that a lock of lane n leaves, with its frequency offset and quality (R472). -/
def State.laneLockedTo (s : State) (n : Nat) (slow : Bool) (ppm snr : Nat) : State :=
  (((s.setLane n { s.lane n with kept := false, signal := true, wake := if (s.lane n).txActive then none else (s.lane n).wake }).setLaneState n 3).putN
    (Reg.lnRxPpm n) (toI24 (if slow then -(ppm : Int) else ppm))).putN (Reg.lnSnr n) (min snr 65535)

theorem exec_laneLocked (slow : Bool) {ppm : Nat} (snr : Nat) (h : s.mayLock n ppm = true) :
    exec (.laneLocked n slow ppm snr) s = done (s.laneLockedTo n slow ppm snr) := if_pos h

theorem State.num_laneLockedTo (slow : Bool) (ppm snr : Nat) :
    (s.laneLockedTo n slow ppm snr).num (Reg.lnSnr n) = min snr 65535
      ∧ (s.laneLockedTo n slow ppm snr).num (Reg.lnRxPpm n) = toI24 (if slow then -(ppm : Int) else ppm) := by
  unfold State.laneLockedTo
  refine ⟨State.num_putN_same _ _ _, ?_⟩
  rw [State.num_putN_other _ _ (dev_ne (by omega)), State.num_putN_same]

theorem exec_laneAcqTimeout (hs : s.num (Reg.lnState n) = 2) (ht : s.acqFrom n + acqBound ≤ s.time.elapsed) :
    exec (.laneAcqTimeout n) s = done ((s.acquire n).count (Reg.lnAcqRetries n)) := if_pos ⟨hs, ht⟩

/-- An acquisition begins now. -/
theorem State.acquire_since : ((s.acquire n).lane n).since = s.time.elapsed := by
  unfold State.acquire
  dsimp only
  rw [State.lane_setLane, if_pos rfl]
  rfl

theorem exec_laneLockLost (hs : s.num (Reg.lnState n) = 3) :
    exec (.laneLockLost n) s = done (((s.acquire n).count (Reg.lnLockLosses n)).setLaneState n 2) := if_pos hs

theorem exec_laneWakeTxActive {w : Nat} (hw : (s.lane n).wake = some w) (ha : (s.lane n).txActive = false)
    (ht : w + 1000000 ≤ s.time.elapsed) : exec (.laneWakeTxActive n) s
      = done (s.setLane n { s.lane n with txActive := true, txLevel := 0, txUnits := [], wake := if (s.lane n).kept || s.num (Reg.lnState n) == 5 then (s.lane n).wake else none }) := by
  show execLaneWakeTxActive n s = _
  unfold execLaneWakeTxActive
  dsimp only
  rw [hw]
  exact if_pos ⟨ha, ht⟩

/-- A wake that kept its equaliser and has no lock 2.5 ms on is counted, raised, and goes on as NO_SIGNAL (R482). -/
theorem exec_laneWakeTimeout_kept {w : Nat} (hw : (s.lane n).wake = some w) (ha : (s.lane n).txActive = true)
    (hk : (s.lane n).kept = true) (hs : s.num (Reg.lnState n) = 5) (ht : w + 2500000 ≤ s.time.elapsed) (hn : n < 130) :
    exec (.laneWakeTimeout n) s
      = done ((((s.count (Reg.lnWakeSlow n)).raise 0x040003 ((0x1900 + n) * 256) (n * 65536)).setLane n { s.lane n with kept := false, wake := none, signal := false }).setLaneState n 1) := by
  have hstate : ((s.count (Reg.lnWakeSlow n)).raise 0x040003 ((0x1900 + n) * 256) (n * 65536)).num (Reg.lnState n) = 5 := by
    rw [(State.raise_follows (Follows.refl _) _ _ _).num (dev_still (by omega) (by omega)
      (by simp only [List.mem_cons, List.not_mem_nil, or_false]; omega))]
    exact (State.num_putN_other _ _ (dev_ne (by omega))).trans hs
  show execLaneWakeTimeout n s = _
  unfold execLaneWakeTimeout
  dsimp only
  rw [hw]
  dsimp only
  rw [if_pos ⟨ha, .inr ht⟩, if_pos hk, hstate, beq_self_eq_true, if_pos rfl, Bool.not_true, Bool.and_false]

theorem exec_patternCheckerSync_lost {before : Nat} {levels : List Nat} (hp : s.num (Reg.lnPattern n) ≠ 0)
    (hs : s.num (Reg.lnState n) = 3) : exec (.patternCheckerSync n false before levels) s
      = done ((s.farEnd n [⟨before, levels⟩]).setLane n ((s.farEnd n [⟨before, levels⟩]).lane n).unsynced) := by
  show execPatternCheckerSync n false before levels s = _
  unfold execPatternCheckerSync
  rw [if_neg (by omega)]
  rfl

theorem exec_patternCheckerSync_compares {before : Nat} {levels : List Nat} (hp : s.num (Reg.lnPattern n) ≠ 0)
    (hs : s.num (Reg.lnState n) = 3) (hl : s.num (Reg.lnLoopback n) = 0) : exec (.patternCheckerSync n true before levels) s
      = done ((s.setLane n { s.lane n with prbsSync := true }).checkLevels n before levels) := by
  have hfar : s.farEnd n [⟨before, levels⟩] = s := by
    unfold State.farEnd
    exact if_neg (fun h => absurd (hl.symm.trans h.1) (by decide))
  show execPatternCheckerSync n true before levels s = _
  unfold execPatternCheckerSync
  rw [if_neg (by omega)]
  dsimp only
  rw [hfar, if_neg (by decide : ¬ true = false), hl, if_neg Nat.zero_ne_one]

end Lane

/-! Sleep, wake and equalisation, by the host -/

section LaneObjects
variable {s : State} {k v : Nat}

/-- Writing LN_SLEEP leaves the state of the lane to be read as it was. -/
theorem State.lnState_putN_lnSleep : (s.putN (Reg.lnSleep k) v).num (Reg.lnState k) = s.num (Reg.lnState k) :=
  State.num_putN_other _ _ (dev_ne (by omega))

theorem State.sleepEff_locked (hk : k < 128) (hs : s.num (Reg.lnState k) = 3) : s.sleepEff k 1
      = okay (((s.putN (Reg.lnSleep k) 1).setLane k { (s.lane k).unsynced with kept := true, signal := false, txActive := false, wake := none }).setLaneState k 4) := by
  unfold State.sleepEff
  rw [if_neg (Nat.not_le.mpr hk)]
  dsimp only
  rw [State.lnState_putN_lnSleep, hs]
  rfl

/-- The state that LN_SLEEP = 0 leaves of a sleeping lane (R481). -/
def State.laneWoken (s : State) (k : Nat) : State :=
  let t := s.putN (Reg.lnSleep k) 0
  let u := (t.setLane k { t.lane k with since := t.time.elapsed, txActive := false, wake := if t.laneRefFault k then none else some t.time.elapsed }).laneReacquire k
  u.setLaneState k (if t.laneRefFault k then 6 else 5)

theorem State.sleepEff_wake (hk : k < 128) (hs : s.num (Reg.lnState k) = 4) : s.sleepEff k 0 = okay (s.laneWoken k) := by
  unfold State.sleepEff
  rw [if_neg (Nat.not_le.mpr hk)]
  dsimp only
  rw [State.lnState_putN_lnSleep, hs, if_neg Nat.zero_ne_one, if_pos rfl]
  rfl

theorem State.ffeEff_ok (hpre : v / 65536 % 64 ≤ 16) (hpost : v / 256 % 64 ≤ 24) : s.ffeEff k v
      = okay (s.putN (Reg.lnFfe k) (v / 65536 % 64 * 65536 + v / 256 % 64 * 256 + (64 - v / 65536 % 64 - v / 256 % 64) % 64)) :=
  if_neg (by omega)

theorem answers_lnFfe {n : Nat} (h : Serves s n (blockAddr 0x1900 256 k 0x13) v) (hpre : v / 65536 % 64 ≤ 16)
    (hpost : v / 256 % 64 ≤ 24) : Answers (.lnFfe n k v) s n
      (okay (s.putN (Reg.lnFfe k) (v / 65536 % 64 * 65536 + v / 256 % 64 * 256 + (64 - v / 65536 % 64 - v / 256 % 64) % 64))) :=
  answers_of_write rfl h (State.ffeEff_ok hpre hpost)

theorem answers_lnCtle {n : Nat} (h : Serves s n (blockAddr 0x1900 256 k 0x14) v) (hv : v ≤ 16) :
    Answers (.lnCtle n k v) s n (okay (s.putN (Reg.lnCtle k) v)) :=
  answers_of_write rfl h (State.ranged_ok s _ v (decide_eq_true hv))

end LaneObjects

/-! References -/

theorem exec_refFaultDeclared_first {s : State} {b : Nat} (absent : Bool) (hb : b < s.nBolts) (hr : s.num (Reg.bRefState b) = 0) :
    exec (.refFaultDeclared b absent) s
      = done (let kind := if absent then 1 else 2
         let t := ((s.putN (Reg.bRefState b) kind).count (Reg.bRefFaults b)).raise 0x040002 ((0x2000 + 0x100 * b + 0x0E) * 256) (b * 2097152 + 1048576 + kind * 262144)
         forEach (t.runningLanes b) (fun t n =>
           if t.num (Reg.lnState n) = 4 then t
           else (t.setLane n { (t.lane n).unsynced with signal := false, wake := none }).setLaneState n 6) t) := by
  show execRefFaultDeclared b absent s = _
  unfold execRefFaultDeclared
  dsimp only
  rw [if_neg (Nat.not_le.mpr hb), if_neg (not_not.mpr hr)]

theorem exec_refFaultCleared {s : State} {b : Nat} (hb : b < s.nBolts) (hr : s.num (Reg.bRefState b) ≠ 0) :
    exec (.refFaultCleared b) s
      = done (let t := (s.putN (Reg.bRefState b) 0).raise 0x040002 ((0x2000 + 0x100 * b + 0x0E) * 256) (b * 2097152)
         forEach (t.runningLanes b) (fun t n => if t.num (Reg.lnState n) = 6 then (t.setLane n { t.lane n with txActive := true }).setLaneState n 1 else t) t) := by
  show execRefFaultCleared b s = _
  unfold execRefFaultCleared
  rw [if_neg (by omega)]

/-! Management objects -/

theorem answers_mgmtIn_on {s : State} {n p : Nat} (h : Serves s n (portAddr p 0 0x2B) 1) :
    Answers (.mgmtIn n p 1) s n (okay (s.putN (Reg.pMgmtIn p) 1)) := answers_of_write rfl h rfl

theorem answers_t1sEnable_on {s : State} {n : Nat} (h : Serves s n 0x110103 1) :
    Answers (.t1sEnable n 1) s n (okay (s.saveN Reg.t1sEnable 1)) := answers_of_write rfl h rfl

/-- A Silsy EtherType that is allowed waits for the response (R568). -/
theorem State.etypeEff_ok {s : State} {v : Nat} (hv : 0x0600 ≤ v) (hm : v ∉ ([0x8808, 0x888E, 0x88E5, 0x88F7] : List Nat)) :
    s.etypeEff v = okay (s.putN etypeNext v) := by
  refine check_none ?_ _
  rw [decide_eq_false (Nat.not_lt.mpr hv), List.contains_eq_mem, decide_eq_false hm]
  rfl

/-- Settles O57: the state an event leaves by the equation of its case, the object a write sets by what a response can move. -/
theorem lanesAndPortsAnswer : Obligations.LanesAndPortsAnswer := by
  unfold Obligations.LanesAndPortsAnswer
  refine ⟨?signal, ?signalLost, ?locked, ?acqTimeout, ?lockLost, ?sleep, ?wake, ?txActive, ?wakeTimeout, ?ffe, ?ctle, ?refFault,
    ?refCleared, ?kind, ?ct, ?xon, ?xoff, ?slope, ?mgmtIn, ?t1s, ?etype, ?alignment, ?faults, ?patternLost, ?pattern⟩
  case signal =>
    intro s n hp hs
    obtain ⟨t, e, f⟩ := (completes_of_done (exec_laneSignalDetected_noted hp hs)).lane n
    exact ⟨t, e, by rw [f, State.lane_setLane, if_pos rfl]⟩
  case signalLost => exact fun s n hp hs => completes_of_done (exec_laneSignalLost hp hs)
  case locked =>
    intro s n slow ppm snr hn hppm hs hlo hhi
    obtain ⟨t, e, f⟩ := completes_of_done (exec_laneLocked slow snr (State.mayLock_acquiring hppm hs hlo hhi))
    obtain ⟨hsnr, hoff⟩ := State.num_laneLockedTo (s := s) (n := n) slow ppm snr
    exact ⟨t, e, (f.num (lane_still hn (by decide))).trans hsnr, (f.num (lane_still hn (by decide))).trans hoff⟩
  case acqTimeout =>
    intro s n hs ht
    obtain ⟨t, e, f⟩ := (completes_of_done (exec_laneAcqTimeout hs ht)).lane n
    exact ⟨t, e, by rw [f, State.lane_count, State.acquire_since]⟩
  case lockLost => exact fun s n hs => completes_of_done (exec_laneLockLost hs)
  case sleep => exact fun s n k hk h hs => answers_of_write rfl h (State.sleepEff_locked hk hs)
  case wake => exact fun s n k hk h hs => answers_of_write rfl h (State.sleepEff_wake hk hs)
  case txActive =>
    intro s n w hw ha ht
    obtain ⟨t, e, f⟩ := (completes_of_done (exec_laneWakeTxActive hw ha ht)).lane n
    exact ⟨t, e, by rw [f, State.lane_setLane, if_pos rfl]⟩
  case wakeTimeout => exact fun s n w hw ha hk hs ht hn => completes_of_done (exec_laneWakeTimeout_kept hw ha hk hs ht hn)
  case ffe =>
    intro s n k v hn hk h hpre hpost
    obtain ⟨t, e, f⟩ := (answers_lnFfe h hpre hpost).num hn (k := Reg.lnFfe k) (lane_rests hk (by decide))
    exact ⟨t, e, f.trans (State.num_putN_same _ _ _)⟩
  case ctle =>
    intro s n k v hn hk h hv
    obtain ⟨t, e, f⟩ := (answers_lnCtle h hv).num hn (k := Reg.lnCtle k) (lane_rests hk (by decide))
    exact ⟨t, e, f.trans (State.num_putN_same _ _ _)⟩
  case refFault => exact fun s b absent hb hr => completes_of_done (exec_refFaultDeclared_first absent hb hr)
  case refCleared => exact fun s b hb hr => completes_of_done (exec_refFaultCleared hb hr)
  case kind => exact fun s n p v h hv hk => answers_portKind_other h hv hk
  case ct =>
    intro s n p v hn h hlo hhi
    obtain ⟨t, e, f⟩ := (answers_ctStart h hlo hhi).num hn (k := Reg.pCtStart p) (port_rests (by decide) (by decide) (by decide))
    exact ⟨t, e, f.trans (State.num_putN_same _ _ _)⟩
  case xon =>
    intro s n p v hn h hv
    obtain ⟨t, e, f⟩ := (answers_xonThreshold h hv).num hn (k := Reg.pXonThresh p) (port_rests (by decide) (by decide) (by decide))
    exact ⟨t, e, f.trans (State.num_putN_same _ _ _)⟩
  case xoff =>
    intro s n p v hn h hlo hhi hx
    obtain ⟨t, e, f⟩ := (answers_xoffThreshold h hlo hhi hx).num hn (k := Reg.pXoffThresh p) (port_rests (by decide) (by decide) (by decide))
    exact ⟨t, e, f.trans (State.num_putN_same _ _ _)⟩
  case slope => exact fun s n v t ht h1 h2 hc hl hr _ => completes_of_done (exec_qIdleSlope ht h1 h2 hc hl hr)
  case mgmtIn =>
    intro s n p hn h
    obtain ⟨t, e, f⟩ := (answers_mgmtIn_on h).num hn (k := Reg.pMgmtIn p) (port_rests (by decide) (by decide) (by decide))
    exact ⟨t, e, f.trans (State.num_putN_same _ _ _)⟩
  case t1s =>
    intro s n hn h
    obtain ⟨t, e, f⟩ := (answers_t1sEnable_on h).num hn (k := Reg.t1sEnable) (by decide)
    exact ⟨t, e, f.trans ((State.num_saveN _ _ _ _).trans (if_pos rfl))⟩
  case etype => exact fun s n v h hv hm => answers_of_write rfl h (State.etypeEff_ok hv hm)
  case alignment => exact fun s p pcs fec hp => completes_of_done (exec_pcsAlignmentChange pcs fec hp)
  case faults =>
    intro s p kind ho hu hk
    obtain ⟨t, e, f⟩ := (completes_of_done (exec_linkFaultOrderedSets ho hu hk)).num (k := Reg.pFaultRx p)
      (port_still (by decide) (by decide) (by decide))
    exact ⟨t, e, f.trans (State.num_putN_same _ _ _)⟩
  case patternLost =>
    intro s n before levels hp hs
    obtain ⟨t, e, f⟩ := (completes_of_done (exec_patternCheckerSync_lost (before := before) (levels := levels) hp hs)).lane n
    exact ⟨t, e, by rw [f, State.lane_setLane, if_pos rfl]; rfl⟩
  case pattern => exact fun s n before levels hp hs hl => completes_of_done (exec_patternCheckerSync_compares hp hs hl)

end Sys2Proof.Machine
end

section
/-! PROOFS. PAUSE and PFC timers and the station table (R311, R314, R316, R362 to R364), and what an arrival, the end of a frame and
a failed reseed leave to be read. -/

namespace Sys2Proof.Machine

/-! PAUSE and PFC timers -/

theorem exec_pauseRepeat {s : State} {p prio t : Nat} (ht : (s.port p).pausedAt.get? prio = some t) (hp : s.pauses p prio = true)
    (hd : t * s.portRate p + s.num (Reg.pPauseQuanta p) * 256000 ≤ s.time.elapsed * s.portRate p) : exec (.pauseRepeat p prio) s
      = done (let t := s.sendPause p prio (s.num (Reg.pPauseQuanta p))
         t.setPort p { t.port p with pausedAt := (t.port p).pausedAt.put prio t.time.elapsed }) := by
  show execPauseRepeat p prio s = _
  unfold execPauseRepeat
  dsimp only
  rw [ht]
  exact if_pos ⟨hp, hd⟩

theorem exec_peerPauseExpiry {s : State} {p prio t : Nat} (ht : (s.port p).peerPause.get? prio = some t) (hd : t ≤ s.time.elapsed) :
    exec (.peerPauseExpiry p prio) s = done (s.setPort p { s.port p with peerPause := (s.port p).peerPause.del prio }) := by
  show execPeerPauseExpiry p prio s = _
  unfold execPeerPauseExpiry
  rw [ht]
  exact congrArg done (if_pos hd)

/-! Stations -/

theorem exec_stationLearn {s : State} {b : Nat} {r : LearnReq} {rest : List LearnReq} (hl : (s.bolt b).learn = r :: rest) :
    exec (.stationLearn b) s = done ((s.setBolt b { s.bolt b with learn := rest }).serveLearn b r) := by
  show execStationLearn b s = _
  unfold execStationLearn
  rw [hl]

theorem exec_ageSweepTick {s : State} {b : Nat} (hb : b < s.nBolts) (ht : (s.bolt b).ageAt + 1000000000 ≤ s.time.elapsed) :
    exec (.ageSweepTick b) s
      = done (((s.setBolt b { s.bolt b with ageAt := (s.bolt b).ageAt + 1000000000 }).serveAll b).ageSweep b) := by
  show execAgeSweepTick b s = _
  unfold execAgeSweepTick
  exact if_neg (by omega)

theorem State.flushEff_ok {s : State} {b v : Nat} (hv : v ≤ 127 ∨ v = 0xFFFF) : s.flushEff b v = okay (s.flushStations b v) := by
  refine check_none ?_ _
  rw [decide_eq_false (by omega)]
  rfl

theorem exec_stnFlush {s : State} {n b v : Nat} (h : Serves s n (boltAddr b 9 5) v) (hv : v ≤ 127 ∨ v = 0xFFFF) :
    exec (.stnFlush n b v) s = done (answered n (okay (s.flushStations b v))).afterResponse := by
  show hostWrite n (boltAddr b 9 5) v s (s.flushEff b v) = _
  rw [hostWrite_serves h, State.flushEff_ok hv]

theorem exec_stnFlushComplete {s : State} {b n : Nat} {rest : List Nat} (hf : (s.bolt b).flushes = n :: rest) :
    exec (.stnFlushComplete b) s = done ((s.setBolt b { s.bolt b with flushes := rest }).raise 0x050004 ((0x2000 + 0x100 * b) * 256) (b * 2097152 + min n 65535)) := by
  show execStnFlushComplete b s = _
  unfold execStnFlushComplete
  rw [hf]

/-! Counters that frames do not move, after an arrival -/

theorem State.arrives_follows {r s : State} (h : Follows r s) (p : Nat) (pi : Pipe) (rx : RxFrame) : Follows r (s.arrives p pi rx).2 := by
  unfold State.arrives State.comes
  exact State.setPort_follows (State.deliver_follows h _ _ _ _ _) _ _

theorem State.hearthIn_setPipe (s : State) (b : Nat) (pi : Pipe) (x : PipeState) : (s.setPipe b pi x).hearthIn = s.hearthIn := by
  cases pi <;> rfl

theorem State.hearthIn_arrives (s : State) (p : Nat) (pi : Pipe) (rx : RxFrame) : (s.arrives p pi rx).2.hearthIn = s.hearthIn :=
  State.hearthIn_setPipe s _ _ _

theorem State.drainHearth_nil {s : State} (h : s.hearthIn = []) : s.drainHearth = s := by
  cases s; cases h; rfl

theorem State.num_count_same (s : State) (k : Key) : (s.count k).num k = min (s.num k + 1) k.ty.max := State.num_putN_same _ _ _

/-- An arrival that is only counted leaves that count, of a counter of its port that frames do not move. -/
theorem arrival_counted {c : Instr} {s : State} {p sub : Nat} {pi : Pipe} {rx : RxFrame} (hh : s.hearthIn = []) (hs : sub < 256)
    (ht : portTraffic 2 sub = false) (h : exec c s = done ((s.arrives p pi rx).2.count (portKey p 2 sub)).drainHearth) :
    ∃ t, exec c s = .next t ∧ t.num (portKey p 2 sub) = min (s.num (portKey p 2 sub) + 1) (portKey p 2 sub).ty.max := by
  have hkey : trafficKey (portKey p 2 sub) = false := port_still (by decide) hs ht
  have hin : ((s.arrives p pi rx).2.count (portKey p 2 sub)).hearthIn = [] := (State.hearthIn_arrives s p pi rx).trans hh
  rw [State.drainHearth_nil hin] at h
  obtain ⟨t, e, f⟩ := (completes_of_done h).num hkey
  refine ⟨t, e, ?_⟩
  rw [f, State.num_count_same, (State.arrives_follows (Follows.refl s) p pi rx).num hkey]

/-! What is on the wire -/

theorem State.sendPcs_mem_wire {s : State} {w : Wire} (h : w ∈ s.wire) (p : Nat) (bytes : Octets) : w ∈ (s.sendPcs p bytes).wire := by
  refine List.foldlRecOn (motive := fun t : State => w ∈ t.wire) _ _ h (fun t ht x _ => ?_)
  split
  · exact List.mem_cons_of_mem _ ht
  · exact ht

/-- The frame that ended is on the wire, its FCS bad where it was spoiled or poisoned (R46, R85). -/
theorem State.frame_mem_wire_txEnded (s : State) (p ts : Nat) (x : Sending) :
    Wire.frame p x.frame.bytes (!(x.frame.bad || x.frame.poison)) ∈ (s.txEnded p ts x).wire := by
  unfold State.txEnded
  refine (State.pauseAfter_follows (State.traceEnd_follows (Follows.refl _) _ _) _).mem_wire ?_
  exact State.sendPcs_mem_wire List.mem_cons_self _ _

/-! CT_START after an underrun -/

theorem State.spoil_num (s : State) (p : Nat) (k : Key) : (s.spoil p).num k = s.num k := by
  unfold State.spoil
  split <;> rfl

/-- The two counts of an underrun leave CT_START as it was. -/
theorem State.num_pCtStart_underrun (s : State) (p q : Nat) :
    (((s.spoil p).count (Reg.bCUnderruns (boltOfPort q))).count (Reg.pCUnderruns q)).num (Reg.pCtStart q) = s.num (Reg.pCtStart q) := by
  have hbolt : Reg.bCUnderruns (boltOfPort q) ≠ Reg.pCtStart q := dev_ne (by omega)
  have hport : Reg.pCUnderruns q ≠ Reg.pCtStart q := dev_ne (by omega)
  exact (State.num_putN_other _ _ hport).trans ((State.num_putN_other _ _ hbolt).trans (State.spoil_num s p _))

/-! A record that was raised -/

/-- While Hearth is ready and the queue has room, a raised event is in it (R142, R144). -/
theorem State.raise_queued {s : State} (hp : s.phase = .ready) (hq : s.events.queue.length < 1024) (code source detail : Nat) :
    ∃ r ∈ (s.raise code source detail).events.queue, r.code = code := by
  unfold State.raise State.enter
  rw [if_pos hp]
  dsimp only
  rw [if_pos hq]
  exact ⟨_, (State.logRecord_follows (State.notify_follows (Follows.refl _) _) _).records.subset
    (List.mem_append_right _ List.mem_cons_self), rfl⟩

theorem State.events_setPipe (s : State) (b : Nat) (pi : Pipe) (x : PipeState) : (s.setPipe b pi x).events = s.events := by
  cases pi <;> rfl

theorem State.phase_setPipe (s : State) (b : Nat) (pi : Pipe) (x : PipeState) : (s.setPipe b pi x).phase = s.phase := by
  cases pi <;> rfl

/-- Settles O55: the next state by the equation of each case, and single fields of it by what frames do not move. -/
theorem framesAndStationsAnswer : Obligations.FramesAndStationsAnswer := by
  unfold Obligations.FramesAndStationsAnswer
  refine ⟨?runt, ?badFcs, ?lineRunt, ?classified, ?tagged, ?filled, ?sectorD, ?sectorE, ?fecLost, ?opened, ?pause, ?peerPause, ?replay,
    ?due, ?control, ?classC, ?ended, ?gate, ?takeover, ?learn, ?age, ?flush, ?flushed, ?reseeded, ?reseedFailed⟩
  case runt =>
    intro s p rx hh h hp hk hf hu hr
    exact arrival_counted hh (by decide) (by decide) (by rw [exec_clearFrameReceived h, State.clearIn_runt hp hk hf hu hr])
  case badFcs =>
    intro s p rx hh h hp hk hf hu hm hr hc hs hn
    exact arrival_counted hh (by decide) (by decide) (by rw [exec_clearFrameReceived h, State.clearIn_badFcs hp hk hf hu hm hr hc hs hn])
  case lineRunt =>
    intro s p rx hh h hp hk ho hf hu hr
    exact arrival_counted hh (by decide) (by decide) (by rw [exec_lineFrameReceived h, State.lineIn_runt hp hk ho hf hu hr])
  case classified =>
    intro s p rx h hp hk hf hu hm hr hc hl he hs hg hq
    refine next_of_done ?_
    rw [exec_clearFrameReceived h, State.clearIn_classified hp hk hf hu hm hr hc hl he hs hg hq]
  case tagged =>
    intro s p rx h hp hk ho hf hu hm hr hl hc he
    exact next_of_done (by rw [exec_lineFrameReceived h, State.lineIn_tagged hp hk ho hf hu hm hr hl hc he])
  case filled => exact fun s b pipe h hb => next_of_done (exec_keystreamMissFilled h pipe hb)
  case sectorD =>
    intro s b f n rest h hb hs ha hw hn hc
    exact next_of_done (by rw [exec_sectorTransformDone_d h hb hs, State.sectorDoneD_open ha hw hn hc])
  case sectorE => exact fun s b h hb hs => next_of_done (exec_sectorTransformDone_e h hb hs)
  case fecLost =>
    intro s p rx us u h hr hd hl hu hn
    exact next_of_done (by rw [exec_twPanelReceived h, State.panelReceived_fecLost hr hd hl hu hn])
  case opened =>
    intro s p rx us u h hr hd hl hu hn hs hp
    exact next_of_done (by rw [exec_twPanelReceived h, State.panelReceived_opened hr hd hl hu hn hs hp])
  case pause => exact fun s p prio t ht hp hd => next_of_done (exec_pauseRepeat ht hp hd)
  case peerPause => exact fun s p prio t ht hd => next_of_done (exec_peerPauseExpiry ht hd)
  case replay => exact fun s e c hb hr hc hf => next_of_done (exec_beatParityError_replay hb hr hc hf)
  case due => exact fun s p ho => next_of_done (exec_frameDue ho)
  case control =>
    exact fun s p c rest ho hc hs hu hf => (completes_of_done (exec_frameSelected_control ho hc hs hu hf)).wire List.mem_cons_self
  case classC =>
    intro s p x hs h0 h1 h2 h3 hlt
    have hct := State.num_pCtStart_underrun s p x.port
    have hkey : trafficKey (Reg.pCtStart x.port) = false := port_still (by decide) (by decide) (by decide)
    obtain ⟨t, e, f⟩ := (completes_of_done (exec_classCUnderrun_classC hs ⟨h0, h1, h2, h3⟩)).num hkey
    refine ⟨t, e, f.trans ?_⟩
    dsimp only
    rw [hct, if_pos hlt, (State.raise_follows (Follows.refl _) _ _ _).num hkey, State.num_putN_same]
  case ended =>
    exact fun s p ts x hs => (completes_of_done (exec_frameTxEnd hs)).wire (State.frame_mem_wire_txEnded s p ts x)
  case gate => exact fun s p => next_of_done rfl
  case takeover => exact fun s p ha ht => next_of_done (exec_gateTakeover ha ht)
  case learn => exact fun s b r rest hl => next_of_done (exec_stationLearn hl)
  case age => exact fun s b hb ht => next_of_done (exec_ageSweepTick hb ht)
  case flush => exact fun s n b v h hv => next_of_done (exec_stnFlush h hv)
  case flushed =>
    intro s b n rest hf
    obtain ⟨t, e, f⟩ := completes_of_done (exec_stnFlushComplete hf)
    refine ⟨t, e, ((State.raise_follows (Follows.refl _) _ _ _).trans f |>.bolt b).2.2.1.trans ?_⟩
    rw [State.bolt_setBolt, if_pos rfl]
  case reseeded => exact fun s b pipe hb => next_of_done (exec_generatorReseedRetry_ok pipe hb)
  case reseedFailed =>
    intro s b pipe hp hq hb hg
    obtain ⟨t, e, f⟩ := completes_of_done (exec_generatorReseedRetry_firstFailure hb hg)
    obtain ⟨r, hr, hcode⟩ := State.raise_queued (s := s.setPipe b pipe { s.pipe b pipe with genFailed := true })
      ((State.phase_setPipe ..).trans hp) (by rw [State.events_setPipe]; exact hq) 0x020008 _ _
    exact ⟨t, e, r, f.records.subset hr, hcode⟩

end Sys2Proof.Machine
end

section
/-! PROOFS. A step: it runs the front of the queue, and it keeps what every command keeps (R110, R111, R144, R586); storage read
after a write (R103, R109), and a request that is refused (R139). -/

namespace Sys2Proof.Machine

/-- Every command keeps the form of the state, the burned bits and the part, each by the lemma of its meaning. -/
theorem exec_keeps {r s : State} (h : Keeps r s) : ∀ c : Instr, KeepsOut r (exec c s)
  | .powerGoodFall => execPowerGoodFall_keeps h
  | .rstNAssert => execRstNAssert_keeps h
  | .internalResetEnd st => execInternalResetEnd_keeps h st
  | .hearthBankedInStep => execHearthBankedInStep_keeps h
  | .mainPowerLost => execMainPowerLost_keeps h
  | .mainPowerReturned senseHigh tempHigh vbatLow => execMainPowerReturned_keeps h senseHigh tempHigh vbatLow
  | .vbatCollapse => execVbatCollapse_keeps h
  | .bkComparatorTrip j => execBkComparatorTrip_keeps h j
  | .bkClear sess v => execBkClear_keeps h sess v
  | .flueDetectorFire kind detB => execFlueDetectorFire_keeps h kind detB
  | .flueLoneRecognised kind => execFlueLoneRecognised_keeps h kind
  | .almAck sess mask => execAlmAck_keeps h sess mask
  | .almHoldClear sess v => execAlmHoldClear_keeps h sess v
  | .tjSample tj => execTjSample_keeps h tj
  | .watchdogExpiry => execWatchdogExpiry_keeps h
  | .hearthMemoryError => execHearthMemoryError_keeps h
  | .hearthCmd sess v => execHearthCmd_keeps h sess v
  | .switchOverComplete => execSwitchOverComplete_keeps h
  | .kindlingRestartComplete => execKindlingRestartComplete_keeps h
  | .objectWrite sess addr words pad => execObjectWrite_keeps h sess addr words pad
  | .select sess win row => execSelect_keeps h sess win row
  | .opRead sess win => execOpRead_keeps h sess win
  | .opCommit sess win badLine => execOpCommit_keeps h sess win badLine
  | .opCommitIfUnchanged sess win badLine => execOpCommitIfUnchanged_keeps h sess win badLine
  | .opDelete sess win => execOpDelete_keeps h sess win
  | .opNext sess win => execOpNext_keeps h sess win
  | .opClear sess win => execOpClear_keeps h sess win
  | .fnStop sess addr => execFnStop_keeps h sess addr
  | .fnStart sess addr => execFnStart_keeps h sess addr
  | .fnDrainComplete f => execFnDrainComplete_keeps h f
  | .fnDrainLimit f => execFnDrainLimit_keeps h f
  | .fnStartComplete f => execFnStartComplete_keeps h f
  | .evtPop sess v => execEvtPop_keeps h sess v
  | .dcNonceRead sess => execDcNonceRead_keeps h sess
  | .pActionSubmit sess => execPActionSubmit_keeps h sess
  | .pActionApprove sess => execPActionApprove_keeps h sess
  | .pActionCancel sess => execPActionCancel_keeps h sess
  | .dcWindowExpiry slot => execDcWindowExpiry_keeps h slot
  | .clearFrameReceived p rx => execClearFrameReceived_keeps h p rx
  | .lineFrameReceived p rx => execLineFrameReceived_keeps h p rx
  | .keystreamMissFilled b pipe => execKeystreamMissFilled_keeps h b pipe
  | .pauseRepeat p prio => execPauseRepeat_keeps h p prio
  | .peerPauseExpiry p prio => execPeerPauseExpiry_keeps h p prio
  | .beatParityError e => execBeatParityError_keeps h e
  | .sectorTransformDone b pipe => execSectorTransformDone_keeps h b pipe
  | .frameDue p => execFrameDue_keeps h p
  | .frameSelected p => execFrameSelected_keeps h p
  | .classCUnderrun p => execClassCUnderrun_keeps h p
  | .frameTxEnd p txTs => execFrameTxEnd_keeps h p txTs
  | .gateEdge p => execGateEdge_keeps h p
  | .gateTakeover p => execGateTakeover_keeps h p
  | .stationLearn b => execStationLearn_keeps h b
  | .ageSweepTick b => execAgeSweepTick_keeps h b
  | .stnFlush sess b v => execStnFlush_keeps h sess b v
  | .stnFlushComplete b => execStnFlushComplete_keeps h b
  | .policyActive sess b v => execPolicyActive_keeps h sess b v
  | .cmLevel sess b v => execCmLevel_keeps h sess b v
  | .pnWarn sess b xpn v => execPnWarn_keeps h sess b xpn v
  | .twPanelLimit sess b v => execTwPanelLimit_keeps h sess b v
  | .txSaAn sess p n v => execTxSaAn_keeps h sess p n v
  | .txAn sess p v => execTxAn_keeps h sess p v
  | .saRetired sa => execSaRetired_keeps h sa
  | .legacyGo sess v => execLegacyGo_keeps h sess v
  | .wrap sess v => execWrap_keeps h sess v
  | .twArmFlip sess p => execTwArmFlip_keeps h sess p
  | .twArmCancel sess p => execTwArmCancel_keeps h sess p
  | .twMultiframeBoundary b g => execTwMultiframeBoundary_keeps h b g
  | .twTxPhaseRelease p => execTwTxPhaseRelease_keeps h p
  | .twPanelSent p => execTwPanelSent_keeps h p
  | .twOverheadReceived ll oh => execTwOverheadReceived_keeps h ll oh
  | .twPanelReceived p rx => execTwPanelReceived_keeps h p rx
  | .twillDefectTimer ll lom => execTwillDefectTimer_keeps h ll lom
  | .tgAcqHoldExpiry b g => execTgAcqHoldExpiry_keeps h b g
  | .tgForceAcq sess v => execTgForceAcq_keeps h sess v
  | .deviceSecondBoundary m => execDeviceSecondBoundary_keeps h m
  | .timeSet sess words => execTimeSet_keeps h sess words
  | .timeAdj sess v => execTimeAdj_keeps h sess v
  | .timeFreq sess v => execTimeFreq_keeps h sess v
  | .ppsRise => execPpsRise_keeps h
  | .ppsFall => execPpsFall_keeps h
  | .tsInEdge k rising edge => execTsInEdge_keeps h k rising edge
  | .tsiPop sess k v => execTsiPop_keeps h sess k v
  | .tcErrMax sess p v => execTcErrMax_keeps h sess p v
  | .tjPeak sess v => execTjPeak_keeps h sess v
  | .laneSignalDetected n => execLaneSignalDetected_keeps h n
  | .laneSignalLost n => execLaneSignalLost_keeps h n
  | .laneLocked n slow ppm snr => execLaneLocked_keeps h n slow ppm snr
  | .laneAcqTimeout n => execLaneAcqTimeout_keeps h n
  | .laneLockLost n => execLaneLockLost_keeps h n
  | .laneSleep sess n => execLaneSleep_keeps h sess n
  | .laneWake sess n => execLaneWake_keeps h sess n
  | .laneWakeTxActive n => execLaneWakeTxActive_keeps h n
  | .laneWakeTimeout n => execLaneWakeTimeout_keeps h n
  | .lnFfe sess n v => execLnFfe_keeps h sess n v
  | .lnCtle sess n v => execLnCtle_keeps h sess n v
  | .refFaultDeclared b absent => execRefFaultDeclared_keeps h b absent
  | .refFaultCleared b => execRefFaultCleared_keeps h b
  | .portKind sess p v => execPortKind_keeps h sess p v
  | .ctStart sess p v => execCtStart_keeps h sess p v
  | .xoffXonThreshold sess p xon v => execXoffXonThreshold_keeps h sess p xon v
  | .qIdleSlope sess v => execQIdleSlope_keeps h sess v
  | .mgmtIn sess p v => execMgmtIn_keeps h sess p v
  | .t1sEnable sess v => execT1sEnable_keeps h sess v
  | .silsyEtype sess v => execSilsyEtype_keeps h sess v
  | .i3cPrivateWrite w => execI3cPrivateWrite_keeps h w
  | .i3cPrivateRead r => execI3cPrivateRead_keeps h r
  | .ibiAccepted => execIbiAccepted_keeps h
  | .entdaa dyn => execEntdaa_keeps h dyn
  | .setdasa static dyn => execSetdasa_keeps h static dyn
  | .rstdaa => execRstdaa_keeps h
  | .enec bits => execEnec_keeps h bits
  | .disec bits => execDisec_keeps h bits
  | .setmwl v => execSetmwl_keeps h v
  | .setmrl v => execSetmrl_keeps h v
  | .getmwl => execGetmwl_keeps h
  | .getmrl => execGetmrl_keeps h
  | .getpid => execGetpid_keeps h
  | .getbcr => execGetbcr_keeps h
  | .getdcr => execGetdcr_keeps h
  | .getstatus => execGetstatus_keeps h
  | .getmxds => execGetmxds_keeps h
  | .getcaps => execGetcaps_keeps h
  | .enthdr0 => execEnthdr0_keeps h
  | .unsupportedCcc code direct => execUnsupportedCcc_keeps h code direct
  | .t1sFrameReceived fr fcsOk => execT1sFrameReceived_keeps h fr fcsOk
  | .t1sBackoffExpiry won => execT1sBackoffExpiry_keeps h won
  | .inbandSilsyReceived p fr tagged => execInbandSilsyReceived_keeps h p fr tagged
  | .hello via body => execHello_keeps h via body
  | .helloReplySent n => execHelloReplySent_keeps h n
  | .auth n via body => execAuth_keeps h n via body
  | .authOkSent n => execAuthOkSent_keeps h n
  | .authTimeout n => execAuthTimeout_keeps h n
  | .dataFrameReceived n via fr => execDataFrameReceived_keeps h n via fr
  | .closeReceived n via fr => execCloseReceived_keeps h n via fr
  | .plainReceived n via broadcast msg => execPlainReceived_keeps h n via broadcast msg
  | .sessionIdleExpiry n => execSessionIdleExpiry_keeps h n
  | .sessClose sess n v => execSessClose_keeps h sess n v
  | .meshFrameReceived p tagged fr => execMeshFrameReceived_keeps h p tagged fr
  | .meshHostFrame via fr => execMeshHostFrame_keeps h via fr
  | .meshHelloSend => execMeshHelloSend_keeps h
  | .meshNeighbourDead m => execMeshNeighbourDead_keeps h m
  | .meshKeyLoad sess v => execMeshKeyLoad_keeps h sess v
  | .meshAdvance sess v => execMeshAdvance_keeps h sess v
  | .meshId sess v => execMeshId_keeps h sess v
  | .jobGoSubmit sess => execJobGoSubmit_keeps h sess
  | .jobGoAbort sess => execJobGoAbort_keeps h sess
  | .jobStart => execJobStart_keeps h
  | .jobComplete disagree => execJobComplete_keeps h disagree
  | .jobAbortErased => execJobAbortErased_keeps h
  | .lcRequestTestLocked sess => execLcRequestTestLocked_keeps h sess
  | .lcRequestTestOpen sess => execLcRequestTestOpen_keeps h sess
  | .lcRequestFactory sess => execLcRequestFactory_keeps h sess
  | .lcRequestIssued sess => execLcRequestIssued_keeps h sess
  | .lcRequestService sess => execLcRequestService_keeps h sess
  | .lcRequestReturn sess => execLcRequestReturn_keeps h sess
  | .lcRequestEnd sess => execLcRequestEnd_keeps h sess
  | .lcResumeBurn sess v => execLcResumeBurn_keeps h sess v
  | .idcInstall sess v => execIdcInstall_keeps h sess v
  | .stmtGo sess v => execStmtGo_keeps h sess v
  | .dbgNonceRead sess => execDbgNonceRead_keeps h sess
  | .dbgCmdAccept sess => execDbgCmdAccept_keeps h sess
  | .dbgCmdEnd sess => execDbgCmdEnd_keeps h sess
  | .dbgCertExpiry => execDbgCertExpiry_keeps h
  | .dbgDataRead sess => execDbgDataRead_keeps h sess
  | .dbgHearthHalt sess => execDbgHearthHalt_keeps h sess
  | .dbgHearthResume sess => execDbgHearthResume_keeps h sess
  | .credEnrolDirect sess c value => execCredEnrolDirect_keeps h sess c value
  | .fwChunk sess value => execFwChunk_keeps h sess value
  | .fwVerify sess badLine => execFwVerify_keeps h sess badLine
  | .fwLoadBanked sess => execFwLoadBanked_keeps h sess
  | .fwSwitch sess => execFwSwitch_keeps h sess
  | .fwLoadOther sess => execFwLoadOther_keeps h sess
  | .fwRevert sess => execFwRevert_keeps h sess
  | .fwCommit sess => execFwCommit_keeps h sess
  | .fwAbandon sess => execFwAbandon_keeps h sess
  | .fwErase sess => execFwErase_keeps h sess
  | .smChEnable sess c v => execSmChEnable_keeps h sess c v
  | .smChannelTrained c ok => execSmChannelTrained_keeps h c ok
  | .smAccDataWrite sess value badLine => execSmAccDataWrite_keeps h sess value badLine
  | .smAccDataRead sess badLine => execSmAccDataRead_keeps h sess badLine
  | .pcSel sess b k v => execPcSel_keeps h sess b k v
  | .pcClear sess b mask => execPcClear_keeps h sess b mask
  | .pcValRead sess b k => execPcValRead_keeps h sess b k
  | .pairJoinSet sess => execPairJoinSet_keeps h sess
  | .pairJoinClear sess => execPairJoinClear_keeps h sess
  | .pairCmdTake sess => execPairCmdTake_keeps h sess
  | .pairCmdGive sess => execPairCmdGive_keeps h sess
  | .mirrorLinkAttempt ok => execMirrorLinkAttempt_keeps h ok
  | .mirrorLinkUp peer => execMirrorLinkUp_keeps h peer
  | .heartbeatSend => execHeartbeatSend_keeps h
  | .heartbeatReceived hb => execHeartbeatReceived_keeps h hb
  | .heartbeatLoss => execHeartbeatLoss_keeps h
  | .witnessClaimDone stayedHigh => execWitnessClaimDone_keeps h stayedHigh
  | .mirrorUpdateReceived u => execMirrorUpdateReceived_keeps h u
  | .resyncComplete => execResyncComplete_keeps h
  | .counterReport => execCounterReport_keeps h
  | .pairHoldoffExpiry => execPairHoldoffExpiry_keeps h
  | .pairWatchTimeout b => execPairWatchTimeout_keeps h b
  | .pcsAlignmentChange p pcs fec => execPcsAlignmentChange_keeps h p pcs fec
  | .linkFaultOrderedSets p kind => execLinkFaultOrderedSets_keeps h p kind
  | .patternCheckerSync n sync before levels => execPatternCheckerSync_keeps h n sync before levels
  | .flueDetectorRelease kind detB => execFlueDetectorRelease_keeps h kind detB
  | .bkComparatorRelease j => execBkComparatorRelease_keeps h j
  | .slewComplete => execSlewComplete_keeps h
  | .rtcSecondTick => execRtcSecondTick_keeps h
  | .generatorReseedRetry b pipe ok => execGeneratorReseedRetry_keeps h b pipe ok
  | .t1sCollision => execT1sCollision_keeps h
  | .plainReplyDelayExpiry => execPlainReplyDelayExpiry_keeps h
  | .takeoverComplete => execTakeoverComplete_keeps h

/-- So does a step: the queue's rest is no part of what is kept, and an empty queue is a nanosecond of idling. -/
theorem step_keeps (s : State) : KeepsOut s (step s) := by
  unfold step
  split
  · intro t e
    obtain rfl := Host.Outcome.next.inj e
    exact State.idle_keeps (Keeps.refl s)
  · exact exec_keeps (keeps_mk (Keeps.refl s)) _

/-- Settles O11: the four forms are the fields of `Form`, which every step keeps. -/
theorem stepKeepsForm : Obligations.StepKeepsForm := by
  unfold Obligations.StepKeepsForm
  intro s t hstore hcopies hqueue hmemory e
  obtain ⟨store, copies, queue, memory⟩ := (step_keeps s t e).form ⟨hstore, hcopies, hqueue, hmemory⟩
  exact ⟨store, copies, queue, memory⟩

/-- Settles O1: `step` looks at the front of the queue. -/
theorem stepRunsFront : Obligations.StepRunsFront := by
  unfold Obligations.StepRunsFront
  exact fun _ _ _ => rfl

/-- Settles O4, by the laws of the sorted store. -/
theorem storageReadsBack : Obligations.StorageReadsBack := by
  unfold Obligations.StorageReadsBack
  exact ⟨fun s k x v => State.rd_put s k v x, State.rd_clear⟩

/-- An effect under aborts of which one stands is that refusal, where the effect has no abort of its own that comes before. -/
theorem underAborts_refused {s : State} {cs : List (Option Nat)} {c : Nat} {r : Eff} (h : firstAbort cs = some c)
    (hr : ∀ d, r.2 = .abort d → ¬ abortRank d < abortRank c) : underAborts s cs r = refuse s c := by
  unfold underAborts
  rw [h]
  dsimp only
  split
  · exact if_neg (hr _ ‹_›)
  · rfl

/-- Settles O7: the refusal stands in the effect's place, and the answer is given. -/
theorem refusedRequestHasNoEffect : Obligations.RefusedRequestHasNoEffect := by
  unfold Obligations.RefusedRequestHasNoEffect
  intro s n addr v c e ha hc he
  have heff : s.writeNum n addr v e = refuse s c := underAborts_refused hc he
  have hout : hostWrite n addr v s e = done (answered n (refuse s c)).afterResponse := by
    unfold hostWrite
    rw [heff, hostDone_answers ha]
  obtain ⟨t, hnext, hfollows⟩ := done_follows (answered n (refuse s c)).afterResponse
  exact ⟨t, hout.trans hnext, hfollows⟩

end Sys2Proof.Machine
end

section
/-! PROOFS. Table windows (R114 to R121, R137): the operations of a window with a row selected, and without one. -/

namespace Sys2Proof.Machine

section Windows
variable {s : State} {n w : Nat}

/-- The abort of an operation that needs a row, while none is selected (R118, R137). -/
def State.rowAbort (s : State) (n w : Nat) : Nat := if s.num (.cur n w 1) = 1 then 0x150003 else 0x150001

theorem State.noRow_unselected (hc : s.cursor n w = 0xFFFFFF) : s.noRow n w = some (s.rowAbort n w) := if_pos hc

theorem State.noRow_selected (hc : s.cursor n w ≠ 0xFFFFFF) : s.noRow n w = none := if_neg hc

theorem State.opReadEff_unselected (hc : s.cursor n w = 0xFFFFFF) : s.opReadEff n w = refuse s (s.rowAbort n w) := by
  unfold State.opReadEff
  rw [State.noRow_unselected hc]

theorem State.onRow_unselected (hc : s.cursor n w = 0xFFFFFF) (version : Bool) (eff : Nat → Eff) :
    s.onRow n w version eff = refuse s (s.rowAbort n w) := by
  unfold State.onRow
  rw [State.noRow_unselected hc]

/-- READ copies the fields of the selected row into staging, with its version (R119). -/
theorem State.opReadEff_selected (hc : s.cursor n w ≠ 0xFFFFFF) (ht : s.tribRow w (s.cursor n w) = false) : s.opReadEff n w
      = okay ((forEach (rowFields w (s.cursor n w)) (fun t f => t.put (stage n w f) (s.rowField w (s.cursor n w) f)) s).putN
          (.ses n (w * 256 + 4)) (s.num (.row w (s.cursor n w) 3))) := by
  unfold State.opReadEff
  rw [State.noRow_selected hc]
  dsimp only
  rw [ht, if_neg Bool.false_ne_true]

/-- An operation on condition of the version comes to its effect where the version is the one read (R119). -/
theorem State.onRow_unchanged (hc : s.cursor n w ≠ 0xFFFFFF) (hl : s.num (.cur n w 0) ≠ 1) (ht : s.tribRow w (s.cursor n w) = false)
    (hv : s.num (.row w (s.cursor n w) 3) = s.num (.ses n (w * 256 + 4))) (eff : Nat → Eff) :
    s.onRow n w true eff = eff (s.cursor n w) := by
  unfold State.onRow
  rw [State.noRow_selected hc]
  refine underAborts_none ?_ _
  rw [beq_eq_false_iff_ne.mpr hl, ht, hv, bne_self_eq_false]
  rfl

/-- SELECT of a row that exists, and is not of a tributary, moves the cursor there (R117, R493). -/
theorem State.selectRow_exists {r : Nat} (he : s.rowExists w r = true) (ht : s.tribRow w r = false) :
    s.selectRow n w r = okay (s.moveCursor n w r) := by
  unfold State.selectRow
  simp only [he, ht, Bool.true_eq_false, Bool.false_eq_true, if_false, ite_self]

end Windows

/-- Settles O10: each of the four operations meets the row's abort first. -/
theorem operationsNeedARow : Obligations.OperationsNeedARow := by
  unfold Obligations.OperationsNeedARow
  refine ⟨?read, ?commit, ?unchanged, ?delete⟩
  case read => exact fun s n w h hc => answers_of_write rfl h (State.opReadEff_unselected hc)
  case commit => exact fun s n w bad h hc => answers_of_write rfl h (State.onRow_unselected hc _ _)
  case unchanged => exact fun s n w bad h hc => answers_of_write rfl h (State.onRow_unselected hc _ _)
  case delete => exact fun s n w h hc => answers_of_write rfl h (State.onRow_unselected hc _ _)

/-- Settles O14: each operation by the case of its effect in which the cursor is good. -/
theorem windowCommandsComplete : Obligations.WindowCommandsComplete := by
  unfold Obligations.WindowCommandsComplete
  refine ⟨?select, ?read, ?next, ?clear, ?commit, ?unchanged, ?delete⟩
  case select => exact fun s n w r h he ht => answers_of_write rfl h (State.selectRow_exists he ht)
  case read => exact fun s n w h hc ht => answers_of_write rfl h (State.opReadEff_selected hc ht)
  case next => exact fun s n w h => answers_of_write rfl h rfl
  case clear => exact fun s n w h => answers_of_write rfl h rfl
  case commit => exact fun s n w bad h hc hl ht _ => answers_of_write rfl h (State.onRow_selected hc hl ht _)
  case unchanged => exact fun s n w bad h hc hl ht hv _ => answers_of_write rfl h (State.onRow_unchanged hc hl ht hv _)
  case delete => exact fun s n w h hc hl ht _ => answers_of_write rfl h (State.onRow_selected hc hl ht _)

end Sys2Proof.Machine
end

section
/-! PROOFS. Functions (R124 to R131): STOP and START, the end of a start, of a drain, and the limit of a drain. -/

namespace Sys2Proof.Machine

section Functions
variable {s : State} {n a : Nat} {f : Fn}

/-- A STOP goes through where it does not meet the policy bank in force (R131). -/
theorem State.fnWrite_stop (hf : s.fnAt n a = .ok f) (hb : s.bankActive f = false) :
    s.fnWrite n a 1 = okay ((s.clear (fnCodeKey f)).stopFn f) := by
  unfold State.fnWrite
  rw [hf]
  refine check_none ?_ _
  rw [hb]
  rfl

/-- A START goes through where the device need not be commissioned again (R603). -/
theorem State.fnWrite_start (hf : s.fnAt n a = .ok f) (hu : s.uncommissioned f = false) :
    s.fnWrite n a 2 = okay ((s.clear (fnCodeKey f)).startFn f) := by
  unfold State.fnWrite
  rw [hf]
  refine check_none ?_ _
  rw [hu]
  rfl

theorem State.fnWrite_stopActiveBank (hf : s.fnAt n a = .ok f) (hb : s.bankActive f = true) :
    s.fnWrite n a 1 = (s, .abort 0x120003) := by
  unfold State.fnWrite
  rw [hf]
  dsimp only
  rw [hb]
  rfl

theorem exec_fnStop (ha : isFnCtrl a = true) : exec (.fnStop n a) s = hostWrite n a 1 s (s.fnWrite n a 1) := if_pos ha

theorem exec_fnStart (ha : isFnCtrl a = true) : exec (.fnStart n a) s = hostWrite n a 2 s (s.fnWrite n a 2) := if_pos ha

/-- A drain that has nothing left ends (R127). -/
theorem exec_fnDrainComplete (hs : s.fnState f = 3 ∨ s.fnState f = 4) (hd : s.drained f = true) :
    exec (.fnDrainComplete f) s = done (s.drainEnd f) := if_pos ⟨hs, hd⟩

/-- At its limit a drain discards what is left, says so and ends (R129). -/
theorem exec_fnDrainLimit_left {d : Fn × Nat} (hs : s.fnState f = 3 ∨ s.fnState f = 4)
    (hd : s.drains.find? (fun d => decide (d.1 = f)) = some d) (ht : d.2 + 100000000 ≤ s.time.elapsed) (hl : s.drained f = false) :
    exec (.fnDrainLimit f) s
      = done (((s.drainDiscard f).raise 0x070102 (fnSource f) (fnKind f * 2097152 + fnInstance f % 8192)).drainEnd f) := by
  show execFnDrainLimit f s = _
  unfold execFnDrainLimit
  dsimp only
  rw [hd]
  dsimp only
  rw [if_pos ⟨hs, ht⟩, hl, if_neg Bool.false_ne_true]

/-- A start whose check failed ends STOPPED with its code (R127, R128). -/
theorem exec_fnStartComplete_failed (hs : s.fnState f = 1) (hc : s.num (startCode f) ≠ 0) : exec (.fnStartComplete f) s
      = done (((s.clear (startCode f)).clear (startHeld f)).startFailed f (s.num (startCode f))) := by
  show execFnStartComplete f s = _
  unfold execFnStartComplete
  dsimp only
  rw [hs, if_pos (.inl rfl), if_pos hc]

/-- A start whose check passed ends RUNNING, and drains at once where a STOP has met it (R127). -/
theorem exec_fnStartComplete_passed (hs : s.fnState f = 1 ∨ s.fnState f = 5) (hc : s.num (startCode f) = 0) :
    exec (.fnStartComplete f) s = done (let t := (((s.clear (startCode f)).clear (startHeld f)).setFn f 2).onRunning f
      if s.fnState f = 5 then t.beginDrain f else t) := by
  show execFnStartComplete f s = _
  unfold execFnStartComplete
  dsimp only
  rw [if_pos hs, if_neg (not_not.mpr hc)]

end Functions

/-- Settles O8: the active bank is the one that a STOP may not reach. -/
theorem activeBankCannotStop : Obligations.ActiveBankCannotStop := by
  unfold Obligations.ActiveBankCannotStop
  intro s n a b k ha h hf hk
  exact answers_of_write (exec_fnStop ha) h (State.fnWrite_stopActiveBank hf (beq_iff_eq.mpr hk))

/-- Settles O15: each command by the equation of its case. -/
theorem functionCommandsComplete : Obligations.FunctionCommandsComplete := by
  unfold Obligations.FunctionCommandsComplete
  refine ⟨?stop, ?start, ?drained, ?limit, ?runs, ?fails, ?stops⟩
  case stop => exact fun s n a f ha h hf hb => answers_of_write (exec_fnStop ha) h (State.fnWrite_stop hf hb)
  case start => exact fun s n a f ha h hf hu => answers_of_write (exec_fnStart ha) h (State.fnWrite_start hf hu)
  case drained => exact fun s f hs hd => completes_of_done (exec_fnDrainComplete hs hd)
  case limit => exact fun s f d hs hd ht hl => completes_of_done (exec_fnDrainLimit_left hs hd ht hl)
  case runs =>
    intro s f hs hc
    refine completes_of_done ((exec_fnStartComplete_passed (.inl hs) hc).trans ?_)
    rw [hs]
    rfl
  case fails => exact fun s f hs hc => completes_of_done (exec_fnStartComplete_failed hs hc)
  case stops =>
    intro s f hs hc
    refine completes_of_done ((exec_fnStartComplete_passed (.inr hs) hc).trans ?_)
    rw [hs]
    rfl

end Sys2Proof.Machine
end

section
/-! PROOFS. The on-chip event queue (R144 to R148): what an event does to it, and EVT_POP. -/

namespace Sys2Proof.Machine

/-! What the queue does not see -/

/-- The notification of a record moves the records of notifications only (R148). -/
theorem State.notify_events (s : State) (r : Record) :
    (s.notify r).events.queue = s.events.queue ∧ (s.notify r).events.nextSeq = s.events.nextSeq
      ∧ (s.notify r).events.dropped = s.events.dropped := by
  unfold State.notify
  dsimp only
  split
  · split <;> exact ⟨rfl, rfl, rfl⟩
  · exact ⟨rfl, rfl, rfl⟩

/-- The event log takes a record without touching the queue (R147, R663). -/
theorem State.logRecord_events (s : State) (r : Record) :
    (s.logRecord r).events.queue = s.events.queue ∧ (s.logRecord r).events.nextSeq = s.events.nextSeq
      ∧ (s.logRecord r).events.dropped = s.events.dropped := by
  unfold State.logRecord
  dsimp only
  split
  · split <;> exact ⟨rfl, rfl, rfl⟩
  · exact ⟨rfl, rfl, rfl⟩
  · exact ⟨rfl, rfl, rfl⟩

section Queue
variable {s : State} {code source detail : Nat}

/-- While fewer than 1,024 records are queued, an event is queued behind them under the next sequence number (R144). -/
theorem State.raise_room (hp : s.phase = .ready) (hq : s.events.queue.length < 1024) :
    (s.raise code source detail).events.queue
        = s.events.queue ++ [⟨s.events.nextSeq, code, s.now96, source, detail % 16777216⟩]
      ∧ (s.raise code source detail).events.nextSeq = (s.events.nextSeq + 1) % 16777216 := by
  unfold State.raise State.enter
  rw [if_pos hp]
  dsimp only
  rw [if_pos hq]
  obtain ⟨hlog, hlogSeq, _⟩ := State.logRecord_events (State.notify _ _) _
  obtain ⟨hnote, hnoteSeq, _⟩ := State.notify_events _ _
  exact ⟨hlog.trans hnote, hlogSeq.trans hnoteSeq⟩

/-- While 1,024 records are queued, an event takes its sequence number and is dropped and counted (R146). -/
theorem State.raise_full (hp : s.phase = .ready) (hq : 1024 ≤ s.events.queue.length) :
    (s.raise code source detail).events.queue = s.events.queue
      ∧ (s.raise code source detail).events.dropped = s.events.dropped + 1
      ∧ (s.raise code source detail).events.nextSeq = (s.events.nextSeq + 1) % 16777216 := by
  unfold State.raise State.enter
  rw [if_pos hp]
  dsimp only
  rw [if_neg (Nat.not_lt.mpr hq)]
  obtain ⟨hlog, hlogSeq, hlogDropped⟩ := State.logRecord_events (State.count _ _) _
  exact ⟨hlog, hlogDropped, hlogSeq⟩

end Queue

/-! EVT_POP (R148) -/

section Pop
variable {s : State} {r : Record} {rest : List Record}

theorem State.evtPopEff_head (hq : s.events.queue = r :: rest) : s.evtPopEff r.seq
      = okay (let t : State := { s with events := { s.events with queue := rest, dropped := 0 } }
         if s.events.dropped = 0 then t else t.raise 0x070001 0x140000 (min s.events.dropped 16777215)) := by
  unfold State.evtPopEff
  rw [hq]
  exact if_pos rfl

theorem State.evtPopEff_kept (hq : s.events.queue = r :: rest) (hd : s.events.dropped = 0) :
    s.evtPopEff r.seq = okay { s with events := { s.events with queue := rest, dropped := 0 } } :=
  (State.evtPopEff_head hq).trans (congrArg okay (if_pos hd))

theorem State.evtPopEff_lost (hq : s.events.queue = r :: rest) (hd : s.events.dropped ≠ 0) : s.evtPopEff r.seq
      = okay (({ s with events := { s.events with queue := rest, dropped := 0 } } : State).raise 0x070001 0x140000
          (min s.events.dropped 16777215)) :=
  (State.evtPopEff_head hq).trans (congrArg okay (if_neg hd))

/-- Any other value, and any on an empty queue, is refused. -/
theorem State.evtPopEff_other {v : Nat} (hv : ∀ r ∈ s.events.queue.head?, r.seq ≠ v) : s.evtPopEff v = (s, .abort 0x130005) := by
  unfold State.evtPopEff
  cases hq : s.events.queue with
  | nil => rfl
  | cons r rest => exact if_neg (hv r (by rw [hq]; rfl))

end Pop

/-- Settles O16: an event by what it does to the queue, EVT_POP by the case of its effect. -/
theorem eventQueueCompletes : Obligations.EventQueueCompletes := by
  unfold Obligations.EventQueueCompletes
  refine ⟨?queued, ?dropped, ?popped, ?told, ?refused⟩
  case queued => exact fun s code o d hp hq => State.raise_room hp hq
  case dropped => exact fun s code o d hp hq => State.raise_full hp hq
  case popped => exact fun s n r rest h hq hd => answers_of_write rfl h (State.evtPopEff_kept hq hd)
  case told => exact fun s n r rest h hq hd => answers_of_write rfl h (State.evtPopEff_lost hq hd)
  case refused => exact fun s n v h hv => answers_of_write rfl h (State.evtPopEff_other hv)

end Sys2Proof.Machine
end

section
/-! PROOFS. Dual control (R150 to R160): nonces, what a submission, an approval and a cancel that pass their checks do, and the end
of a proposal's window. -/

namespace Sys2Proof.Machine

/-! Aborts of a list, and the jobs of a request -/

theorem firstAbort_cons_ne_none (c : Nat) (cs : List (Option Nat)) : firstAbort (some c :: cs) ≠ none := by
  unfold firstAbort
  split
  · exact Option.some_ne_none _
  · split <;> exact Option.some_ne_none _

theorem firstAbort_append_none {as bs : List (Option Nat)} (ha : firstAbort as = none) (hb : firstAbort bs = none) :
    firstAbort (as ++ bs) = none := by
  induction as with
  | nil => exact hb
  | cons a as ih =>
    cases a with
    | none => exact ih ha
    | some c => exact absurd ha (firstAbort_cons_ne_none c as)

/-- An effect that stands on a signature check: done where the signatures verify, and refused where they do not, its two jobs
of Retort counted (R644, R650). -/
def State.underSignature (s : State) (signed : Bool) (t : State) : Eff :=
  if signed then okay (t.countBy Reg.rtJobs 2) else refuse (s.countBy Reg.rtJobs 2) 0x140002

theorem withJobs_signature (s t : State) (signed : Bool) :
    withJobs 2 2 (if signed then okay t else refuse s 0x140002) = s.underSignature signed t := by
  cases signed <;> rfl

section Dual
variable {s : State} {n i : Nat} {p : Proposal}

/-- While Retort's units agree, a signature check is the answer of its signatures (R644). -/
theorem State.jobAbortOr_agree (hr : s.retort.disagree = false) (c : Option Nat) : s.jobAbortOr c = c := by
  unfold State.jobAbortOr
  rw [hr, if_neg Bool.false_ne_true]

theorem State.unlessHeld_free (hh : s.hold = false) (e : Eff) : s.unlessHeld e = e := by
  unfold State.unlessHeld
  rw [hh, if_neg Bool.false_ne_true]

/-! Submission (R151, R154) -/

/-- The digest that the proposal block of session n is signed over. -/
def State.blockDigest (s : State) (n : Nat) : Octets :=
  s.dcDigest (s.num (Reg.pNonce n)) (s.num (Reg.pTarget n)) (s.oct (Reg.pValue n))

/-- Whether the credential of the proposal block of session n has signed a digest with both halves. -/
def State.blockSigned (s : State) (n : Nat) (digest : Octets) : Bool :=
  s.credSigned (s.num (Reg.pCred n)) digest (s.oct (Reg.pSigEd n)) (s.oct (Reg.pSigMl n))

/-- The state with the proposal of session n in slot i, its nonce used (R154). -/
def State.submitted (s : State) (n i : Nat) : State :=
  let target := s.num (Reg.pTarget n)
  let c := s.num (Reg.pCred n)
  let digest := s.blockDigest n
  let pr : Proposal := ⟨target, s.oct (Reg.pValue n), c, digest, s.time.dev, s.time.dev + s.dcWindowUnits, false⟩
  let t : State := { s with proposals := s.proposals.put i pr,
                            trust := { s.trust with dcNonces := s.trust.dcNonces.filter (fun x => x != s.num (Reg.pNonce n)) } }
  (t.putAll [(Reg.slotState i, .num 1), (Reg.slotTarget i, .num target), (Reg.slotDigest i, .oct digest),
    (Reg.slotProposer i, .num c), (Reg.slotOpened i, .num t.now96), (Reg.slotCloses i, .num (time96 (pr.closes / nsUnits)))]).raise
      0x070201 ((0x1318 + i) * 256) (i * 2097152 + c * 131072)

/-- What a submission meets beside its signatures (R154): the session's block names a change under dual control that can be
made, with an issued nonce and a credential that may, and a slot is free for it. -/
structure State.Submits (s : State) (n i : Nat) : Prop where
  target   : dcTarget (s.num (Reg.pTarget n)) (s.oct (Reg.pValue n)) = true
  reached  : s.missing n (s.num (Reg.pTarget n)) = none
  level    : ¬(isCmLevel (s.num (Reg.pTarget n)) = true ∧ s.lc ≠ 2)
  nonce    : s.trust.dcNonces.contains (s.num (Reg.pNonce n)) = true
  role     : s.credHas (s.num (Reg.pCred n)) 1 = true
  change   : firstAbort (s.dcAbort (s.num (Reg.pTarget n)) (s.oct (Reg.pValue n))) = none
  alone    : s.proposals.any (fun e => e.2.target == s.num (Reg.pTarget n)) = false
  room     : s.proposals.length < 8
  slot     : (List.range 8).find? (fun i => (s.proposals.get? i).isNone) = some i
  agree    : s.retort.disagree = false

theorem State.submitEff_stands (h : s.Submits n i) :
    s.submitEff n = s.underSignature (s.blockSigned n (s.blockDigest n)) (s.submitted n i) := by
  have hlevel : (isCmLevel (s.num (Reg.pTarget n)) && s.lc != 2) = false := by simpa using h.level
  have hlater : firstAbort (s.dcAbort (s.num (Reg.pTarget n)) (s.oct (Reg.pValue n)) ++
      [abortIf (s.proposals.any (fun e => e.2.target == s.num (Reg.pTarget n))) 0x170003,
        abortIf (decide (8 ≤ s.proposals.length)) 0x180002]) = none := by
    refine firstAbort_append_none h.change ?_
    rw [h.alone, decide_eq_false (Nat.not_le.mpr h.room)]
    rfl
  rw [← withJobs_signature]
  unfold State.submitEff
  dsimp only
  rw [hlater, h.slot, h.reached, h.target, h.nonce, h.role, hlevel, State.jobAbortOr_agree h.agree]
  show withJobs 2 2 _ = withJobs 2 2 (if s.credSigned _ (s.dcDigest _ _ _) _ _ = true then _ else _)
  cases s.credSigned (s.num (Reg.pCred n)) (s.dcDigest (s.num (Reg.pNonce n)) (s.num (Reg.pTarget n)) (s.oct (Reg.pValue n)))
    (s.oct (Reg.pSigEd n)) (s.oct (Reg.pSigMl n)) <;> rfl

theorem answers_pActionSubmit (h : Serves s n 0x131108 1) (hh : s.hold = false) (hs : s.Submits n i) :
    Answers (.pActionSubmit n) s n (s.underSignature (s.blockSigned n (s.blockDigest n)) (s.submitted n i)) :=
  answers_of_write rfl h ((State.unlessHeld_free hh _).trans (State.submitEff_stands hs))

/-! Approval and cancel (R152, R154, R159) -/

/-- What an approval and a cancel share (R152, R159): the block names an outstanding proposal p, the only one there is, and a
credential that may. -/
structure State.Answerable (s : State) (n : Nat) (p : Proposal) : Prop where
  outstanding : s.proposals.get? (s.num (Reg.pSlot n)) = some p
  role        : s.credHas (s.num (Reg.pCred n)) 1 = true
  alone       : s.proposals.any (fun e => e.1 != s.num (Reg.pSlot n)) = false
  agree       : s.retort.disagree = false

/-- With no other proposal outstanding, only the signatures over the proposal's digest are left to decide; an approval also
needs an open window and another credential than the proposer's (R154). -/
theorem State.inOrder_slotChecks {approve : Bool} (h : s.Answerable n p)
    (ha : approve = true → p.opened ≤ s.time.dev ∧ s.time.dev < p.closes ∧ s.num (Reg.pCred n) ≠ p.proposer) :
    inOrder (s.slotChecks n approve) = if s.blockSigned n p.digest then none else some 0x140002 := by
  have hwindow : (approve && !decide (p.opened ≤ s.time.dev ∧ s.time.dev < p.closes)) = false := by
    cases approve with
    | false => rfl
    | true =>
      obtain ⟨hopened, hcloses, _⟩ := ha rfl
      rw [decide_eq_true ⟨hopened, hcloses⟩]
      rfl
  have hother : (approve && s.num (Reg.pCred n) == p.proposer) = false := by
    cases approve with
    | false => rfl
    | true => exact beq_eq_false_iff_ne.mpr (ha rfl).2.2
  have hwrong : s.proposals.any (fun e => e.1 != s.num (Reg.pSlot n) && s.blockSigned n e.2.digest) = false := by
    refine List.any_eq_false.mpr (fun e he => ?_)
    rw [Bool.eq_false_iff.mpr (List.any_eq_false.mp h.alone e he), Bool.false_and]
    exact Bool.false_ne_true
  unfold State.slotChecks
  dsimp only
  rw [h.outstanding]
  dsimp only
  rw [h.role, hwindow, hother, State.jobAbortOr_agree h.agree]
  show inOrder [_, _, _, if s.blockSigned n p.digest = true then none
    else if s.proposals.any (fun e => e.1 != s.num (Reg.pSlot n) && s.blockSigned n e.2.digest) = true then _ else _] = _
  rw [hwrong]
  cases s.blockSigned n p.digest <;> rfl

theorem checkInOrder_signature {cs : List (Option Nat)} {signed : Bool} (h : inOrder cs = if signed then none else some 0x140002)
    (e : Eff) : checkInOrder s cs e = if signed then e else refuse s 0x140002 := by
  unfold checkInOrder
  rw [h]
  cases signed <;> rfl

/-- The state with the proposal of session n's block approved and its change made (R154, R160). -/
def State.approved (s : State) (n : Nat) (p : Proposal) : State :=
  let i := s.num (Reg.pSlot n)
  ((s.dcMake p.target p.value).freeSlot i).raise 0x070202 ((0x1318 + i) * 256)
    (i * 2097152 + p.proposer * 131072 + s.num (Reg.pCred n) * 8192)

theorem State.dcApply_made (hd : firstAbort (abortIf (isCmLevel p.target && s.lc != 2) 0x110003 :: s.dcAbort p.target p.value) = none) :
    s.dcApply p.target p.value = some (s.dcMake p.target p.value) := by
  unfold State.dcApply
  rw [hd]

theorem State.approveEff_stands (h : s.Answerable n p) (ho : p.opened ≤ s.time.dev) (hc : s.time.dev < p.closes)
    (hq : s.num (Reg.pCred n) ≠ p.proposer) (hg : p.changed = false)
    (hd : firstAbort (abortIf (isCmLevel p.target && s.lc != 2) 0x110003 :: s.dcAbort p.target p.value) = none) :
    s.approveEff n = s.underSignature (s.blockSigned n p.digest) (s.approved n p) := by
  unfold State.approveEff
  dsimp only
  rw [checkInOrder_signature (State.inOrder_slotChecks h (fun _ => ⟨ho, hc, hq⟩)), h.outstanding]
  dsimp only
  rw [hg, if_neg Bool.false_ne_true, State.dcApply_made hd]
  exact withJobs_signature _ _ _

theorem State.cancelEff_stands (h : s.Answerable n p) : s.cancelEff n
      = s.underSignature (s.blockSigned n p.digest) (s.endProposal (s.num (Reg.pSlot n)) 1) := by
  unfold State.cancelEff
  rw [checkInOrder_signature (State.inOrder_slotChecks h Bool.noConfusion)]
  exact withJobs_signature _ _ _

theorem answers_pActionApprove (h : Serves s n 0x131108 2) (hh : s.hold = false) (ha : s.Answerable n p) (ho : p.opened ≤ s.time.dev)
    (hc : s.time.dev < p.closes) (hq : s.num (Reg.pCred n) ≠ p.proposer) (hg : p.changed = false)
    (hd : firstAbort (abortIf (isCmLevel p.target && s.lc != 2) 0x110003 :: s.dcAbort p.target p.value) = none) :
    Answers (.pActionApprove n) s n (s.underSignature (s.blockSigned n p.digest) (s.approved n p)) :=
  answers_of_write rfl h ((State.unlessHeld_free hh _).trans (State.approveEff_stands ha ho hc hq hg hd))

theorem answers_pActionCancel (h : Serves s n 0x131108 3) (hh : s.hold = false) (ha : s.Answerable n p) : Answers (.pActionCancel n) s n
      (s.underSignature (s.blockSigned n p.digest) (s.endProposal (s.num (Reg.pSlot n)) 1)) :=
  answers_of_write rfl h ((State.unlessHeld_free hh _).trans (State.cancelEff_stands ha))

/-! The end of a window, and nonces (R153, R157) -/

theorem State.endProposal_outstanding (hp : s.proposals.get? i = some p) (reason : Nat) : s.endProposal i reason
      = (s.freeSlot i).raise 0x070203 ((0x1318 + i) * 256) (i * 2097152 + p.proposer * 131072 + reason * 16384) := by
  unfold State.endProposal
  rw [hp]

theorem exec_dcWindowExpiry (hp : s.proposals.get? i = some p) (hc : p.closes ≤ s.time.dev) : exec (.dcWindowExpiry i) s
      = done ((s.freeSlot i).raise 0x070203 ((0x1318 + i) * 256) (i * 2097152 + p.proposer * 131072)) := by
  show execDcWindowExpiry i s = _
  unfold execDcWindowExpiry
  rw [hp]
  dsimp only
  rw [if_pos hc, State.endProposal_outstanding hp, Nat.zero_mul, Nat.add_zero]

end Dual

/-- Settles O17: each command where its checks stand, the signatures deciding. -/
theorem dualControlCompletes : Obligations.DualControlCompletes := by
  unfold Obligations.DualControlCompletes
  refine ⟨?nonce, ?submit, ?approve, ?cancel, ?expiry⟩
  case nonce => exact fun s n h => answers_of_read rfl h rfl
  case submit =>
    intro s n i h hh ht hm hl hn hc hd ha hr hi hj
    exact answers_pActionSubmit h hh ⟨ht, hm, hl, hn, hc, hd, ha, hr, hi, hj⟩
  case approve =>
    intro s n p h hh hp ho hc hr hq hg hd ha hj
    exact answers_pActionApprove h hh ⟨hp, hr, ha, hj⟩ ho hc hq hg hd
  case cancel => exact fun s n p h hh hp hr ha hj => answers_pActionCancel h hh ⟨hp, hr, ha, hj⟩
  case expiry => exact fun s i p hp hc => completes_of_done (exec_dcWindowExpiry hp hc)

end Sys2Proof.Machine
end

section
/-! PROOFS. Management objects (R107, R568, R582, R586, R587): the field network and in-band ports turned off, SILSY_ETYPE, SESS_CLOSE,
and OBJECT_WRITE. -/

namespace Sys2Proof.Machine

theorem State.sessCloseEff_one {s : State} {k : Nat} (hk : k ≠ 0) : s.sessCloseEff k 1 = okay (s.markClose k 1) := by
  refine check_none ?_ _
  rw [beq_eq_false_iff_ne.mpr hk]
  rfl

/-- A write whose words spell a number of the object's type comes, under its admission, to the effect of that number (R103, R107). -/
theorem State.writeEff_number {s : State} {n addr v pad : Nat} {words : List Nat} {e : Entry} (ha : addr < 0x600000)
    (hl : addr ≠ 0x133004) (he : Dict.entry addr = some e) (hv : e.ty.decode addr words pad = (.num v, none)) :
    s.writeEff n addr words pad = s.request n addr true v none (s.numWrite n addr v) := by
  unfold State.writeEff
  dsimp only
  rw [he, if_neg (fun h => absurd h.1 (Nat.not_le.mpr ha))]
  dsimp only
  rw [hv]
  exact if_neg hl

theorem exec_objectWrite_number {s : State} {n addr v pad : Nat} {words : List Nat} {e : Entry} (hn : s.answers n = true)
    (ha : addr < 0x600000) (hl : addr ≠ 0x133004) (he : Dict.entry addr = some e)
    (hv : e.ty.decode addr words pad = (.num v, none)) (hr : firstAbort (s.admission n addr true v ++ [none]) = none) :
    exec (.objectWrite n addr words pad) s = done (answered n (s.numWrite n addr v)).afterResponse := by
  show hostDone n s (s.writeEff n addr words pad) = _
  rw [State.writeEff_number ha hl he hv, State.request_served hr, hostDone_answers hn]

/-- Settles O40: each write by its effect, OBJECT_WRITE by what its words spell. -/
theorem managementObjectsComplete : Obligations.ManagementObjectsComplete := by
  unfold Obligations.ManagementObjectsComplete
  refine ⟨?t1sOff, ?t1sOn, ?mgmtOff, ?mgmtOn, ?etype, ?close, ?write⟩
  case t1sOff => exact fun s n h => answers_of_write rfl h rfl
  case t1sOn => exact fun s n h => answers_t1sEnable_on h
  case mgmtOff => exact fun s n p h => answers_of_write rfl h rfl
  case mgmtOn => exact fun s n p h => answers_mgmtIn_on h
  case etype => exact fun s n v h hv hm => answers_of_write rfl h (State.etypeEff_ok hv hm)
  case close => exact fun s n k h hk => answers_of_write rfl h (State.sessCloseEff_one hk)
  case write =>
    exact fun s n addr v words pad e hn ha hl he hv hr => completes_of_done (exec_objectWrite_number hn ha hl he hv hr)

end Sys2Proof.Machine
end

section
/-! PROOFS. Flue monitors, alarms, the backup clock, device time and timestamp inputs (R533 to R541, R671 to R690, R753): the state that
each command leaves, and the part of it that neither frames nor responses move. -/

namespace Sys2Proof.Machine

/-! What neither frames nor responses move -/

theorem Completes.rests {c : Instr} {s u : State} (h : Completes c s u) : ∃ t, exec c s = .next t ∧ Rests u t := by
  obtain ⟨t, e, f⟩ := h
  exact ⟨t, e, f.rests⟩

theorem rests_of_done {c : Instr} {s u : State} (h : exec c s = done u) : ∃ t, exec c s = .next t ∧ Rests u t :=
  (completes_of_done h).rests

section Rests
variable {s t : State} (h : Rests s t)
include h

theorem Rests.time : t.time = s.time := (congrArg State.time h.calm :)
theorem Rests.tsIn : t.tsIn = s.tsIn := (congrArg State.tsIn h.calm :)
theorem Rests.flue : t.flue = s.flue := (congrArg State.flue h.calm :)
theorem Rests.backup : t.backup = s.backup := (congrArg State.backup h.calm :)
theorem Rests.proposals : t.proposals = s.proposals := (congrArg State.proposals h.calm :)
theorem Rests.dcNonces : t.trust.dcNonces = s.trust.dcNonces :=
  (congrArg (fun u : State => u.trust.dcNonces) h.calm :)

theorem Rests.flueKind (k : Nat) : t.flueKind k = s.flueKind k := by
  unfold State.flueKind
  rw [h.flue]

end Rests

/-! Flue monitors (R677 to R681) -/

/-- The output of a detector of a monitor, detector B where `b`. -/
def FlueKind.out (x : FlueKind) (b : Bool) : Bool := if b then x.outB else x.outA

/-- The monitor with the output of a detector set. -/
def FlueKind.setOut (x : FlueKind) (b v : Bool) : FlueKind := if b then { x with outB := v } else { x with outA := v }

@[simp] theorem FlueKind.out_setOut (x : FlueKind) (b v : Bool) : (x.setOut b v).out b = v := by cases b <;> rfl

@[simp] theorem FlueKind.waiting_setOut (x : FlueKind) (b v : Bool) : (x.setOut b v).waiting = x.waiting := by cases b <;> rfl

theorem State.flueKind_setFlue (s : State) (k : Nat) (x : FlueKind) : (s.setFlue k x).flueKind k = x :=
  (FMap.getD_put s.flue k x k {}).trans (if_pos rfl)

section Flue
variable {s : State} {k : Nat} {b : Bool} {w : Nat × Bool}

/-- A firing that agrees with one that waits completes its event (R679, R680). -/
theorem exec_flueDetectorFire_agrees (hk : k < 5) (hm : s.mainPower = true) (ho : (s.flueKind k).out b = false)
    (hw : (s.flueKind k).waiting.find? (fun w => w.2 != b && decide (s.alarm.clock < w.1 + 1000)) = some w) :
    exec (.flueDetectorFire k b) s
      = done (s.setFlue k { (s.flueKind k).setOut b true with waiting := (s.flueKind k).waiting.erase w }) := by
  have hlive : ¬ (5 ≤ k ∨ s.mainPower = false ∨ (s.flueKind k).out b = true) := by
    rw [hm, ho]
    simp only [Bool.true_eq_false, Bool.false_eq_true, or_false]
    omega
  have hwait : ((s.flueKind k).setOut b true).waiting.find? (fun w => w.2 != b && decide (s.alarm.clock < w.1 + 1000)) = some w := by
    rw [FlueKind.waiting_setOut]
    exact hw
  show execFlueDetectorFire k b s = _
  unfold execFlueDetectorFire
  refine (if_neg hlive).trans ?_
  show (match ((s.flueKind k).setOut b true).waiting.find? _ with | some w => _ | none => _) = _
  rw [hwait]
  show done (s.setFlue k { (s.flueKind k).setOut b true with waiting := ((s.flueKind k).setOut b true).waiting.erase w }) = _
  rw [FlueKind.waiting_setOut]

theorem exec_flueDetectorRelease (hk : k < 5) (hm : s.mainPower = true) :
    exec (.flueDetectorRelease k b) s = done (s.setFlue k ((s.flueKind k).setOut b false)) :=
  if_neg (by rw [hm]; simp only [Bool.true_eq_false, or_false]; omega)

theorem exec_flueLoneRecognised (hw : (s.flueKind k).waiting.find? (fun w => decide (w.1 + 1000 ≤ s.alarm.clock)) = some w) :
    exec (.flueLoneRecognised k) s
      = done ((s.setFlue k { s.flueKind k with waiting := (s.flueKind k).waiting.erase w }).flueLone k w.1 w.2) := by
  show execFlueLoneRecognised k s = _
  unfold execFlueLoneRecognised
  dsimp only
  rw [hw]

end Flue

/-! Alarms and temperature (R671, R675, R753) -/

section Alarms
variable {s : State} {n v : Nat}

theorem State.almAckEff_ok (hv : v < 512) :
    s.almAckEff v = okay (s.putN Reg.almPending (s.num Reg.almPending - (s.num Reg.almPending &&& v))) := by
  refine check_none ?_ _
  rw [decide_eq_false (Nat.not_le.mpr hv)]
  rfl

theorem State.holdClearEff_ok (hn : n ≠ 0) (hr : s.sessHas n 1 = true) : s.holdClearEff n 1 = okay (s.putN Reg.almHold 0) := by
  refine check_none ?_ _
  rw [beq_eq_false_iff_ne.mpr hn, hr]
  rfl

/-- The state with a sample of the junction temperature taken, and the peak with it (R753). -/
def State.sampled (s : State) (tj : Int) : State :=
  let t := s.putN Reg.tjNow (toI24 tj)
  if i24 (t.num Reg.tjPeak) < tj then t.putN Reg.tjPeak (toI24 tj) else t

theorem State.num_tjNow_sampled (s : State) (tj : Int) : (s.sampled tj).num Reg.tjNow = toI24 tj := by
  unfold State.sampled
  dsimp only
  split
  · rw [State.num_putN_other _ _ (dev_ne (by decide)), State.num_putN_same]
  · exact State.num_putN_same _ _ _

/-- Whether a sample warns, takes the warning back or does neither, it stands in TJ_NOW. -/
theorem exec_tjSample (s : State) (tj : Int) : ∃ u, exec (.tjSample tj) s = done u ∧ u.num Reg.tjNow = toI24 tj := by
  have hnow := State.num_tjNow_sampled s tj
  show ∃ u, (if i24 (s.num Reg.tjWarn) ≤ tj ∧ (s.sampled tj).tjWarned = false then
      done (({ s.sampled tj with tjWarned := true } : State).raise 0x0A0004 0x100400 (toI24 tj))
    else if tj ≤ i24 (s.num Reg.tjWarn) - 50 then done { s.sampled tj with tjWarned := false } else done (s.sampled tj)) = done u ∧ _
  split
  · exact ⟨_, rfl, ((State.raise_follows (Follows.refl _) _ _ _).num (by decide)).trans hnow⟩
  · split
    · exact ⟨_, rfl, hnow⟩
    · exact ⟨_, rfl, hnow⟩

end Alarms

/-! Device time (R429, R533 to R541, R552) -/

section Time
variable {s : State} {n k v : Nat}

/-- At the boundary of a second that second is the last one taken. -/
theorem exec_deviceSecondBoundary (m : SecondInput) (hp : s.phase ≠ .reset) (hd : s.boundaryDue = true) :
    ∃ u, exec (.deviceSecondBoundary m) s = done u ∧ u.time.latched = s.nowSec := by
  have hdue : ¬ (s.phase = .reset ∨ s.boundaryDue = false) := by
    rw [hd]
    exact fun h => h.elim hp Bool.noConfusion
  exact ⟨_, if_neg hdue, rfl⟩

theorem exec_timeSet {words : List Nat} (hn : s.answers n = true) (hv : Ty.decode .time96 0x120002 words 0 = (.num v, none))
    (hr : firstAbort (s.admission n 0x120002 true v ++ [none]) = none) :
    exec (.timeSet n words) s = done (answered n (s.timeSetEff v)).afterResponse := by
  show execTimeSet n words s = _
  unfold execTimeSet
  rw [hv]
  dsimp only
  rw [State.request_served hr, hostDone_answers hn]

theorem exec_slewComplete (h0 : 0 ≤ s.time.slew) (h1 : s.time.slew ≤ 6553600) : exec .slewComplete s
      = done { s with time := { s.time with dev := s.time.dev + s.time.slew.toNat, slew := 0, ran := s.time.ran + s.time.slew.toNat } } :=
  if_pos ⟨h0, h1⟩

theorem exec_ppsRise (he : s.num Reg.ppsEnable = 1) (hd : s.ppsDue = true) (hh : s.time.ppsHigh = false) : exec .ppsRise s
      = done { s with time := { s.time with ran := 0, ppsHigh := true, ppsEnd := s.time.elapsed + s.num Reg.ppsWidth * 1000 } } :=
  if_pos ⟨he, hd, hh⟩

theorem exec_ppsFall (he : s.time.ppsEnd ≤ s.time.elapsed) :
    exec .ppsFall s = done { s with time := { s.time with ppsHigh := false } } := if_pos he

/-- A pulse of 2 ns that ends no shorter one counts (R538). -/
theorem TsInput.filter_counts {x : TsInput} {rising : Bool} {lasts : Nat} (hl : 4 ≤ lasts) (hg : x.glitch ≠ some (!rising)) :
    x.filter rising lasts = ({ x with glitch := none }, true) := by
  unfold TsInput.filter
  dsimp only
  rw [if_neg (Nat.not_lt.mpr hl), beq_eq_false_iff_ne.mpr hg]
  rfl

/-- Whether an input's last queued edge is less than 100 ns old (R539). -/
def TsInput.crowded (x : TsInput) (now : Nat) : Bool :=
  match x.last with
  | some t => decide (now < t + 100)
  | none => false

theorem TsInput.crowded_eq_false {x : TsInput} {now : Nat} (h : ∀ t, x.last = some t → t + 100 ≤ now) : x.crowded now = false := by
  unfold TsInput.crowded
  split
  · exact decide_eq_false (Nat.not_lt.mpr (h _ ‹_›))
  · rfl

/-- An edge that counts, on an input that listens for it and has room, is queued with its time (R538, R539). -/
theorem exec_tsInEdge_queued {rising half : Bool} {lasts : Nat} {x : TsInput} (hk : k < 4)
    (he : (if rising then s.num (Reg.tsiEdge k) % 2 else s.num (Reg.tsiEdge k) / 2) ≠ 0) (hx : s.tsIn.getD k {} = x)
    (hl : 4 ≤ lasts) (hg : x.glitch ≠ some (!rising)) (hc : ∀ t, x.last = some t → t + 100 ≤ s.time.elapsed)
    (hq : x.queue.length < 16) :
    ∃ u, exec (.tsInEdge k rising ⟨half, lasts⟩) s = done u
      ∧ (u.tsIn.getD k {}).queue = x.queue ++ [(x.nextSeq, rising, s.now96, half)] := by
  have hlistens : ¬ (true = false ∨ if rising = true then s.num (Reg.tsiEdge k) % 2 = 0 else s.num (Reg.tsiEdge k) / 2 = 0) := by
    cases rising <;> simpa using he
  have hroom : (x.crowded s.time.elapsed || decide (16 ≤ x.queue.length)) = false := by
    rw [TsInput.crowded_eq_false hc, decide_eq_false (Nat.not_le.mpr hq)]
    rfl
  show ∃ u, execTsInEdge k rising ⟨half, lasts⟩ s = done u ∧ _
  unfold execTsInEdge
  dsimp only
  rw [if_neg (Nat.not_le.mpr hk), hx, TsInput.filter_counts hl hg]
  dsimp only
  rw [if_neg hlistens]
  show ∃ u, (if (x.crowded s.time.elapsed || decide (16 ≤ x.queue.length)) = true then _ else _) = done u ∧ _
  rw [hroom, if_neg Bool.false_ne_true]
  refine ⟨_, rfl, ?_⟩
  split
  · rw [(State.raise_follows (Follows.refl _) _ _ _).rests.tsIn, FMap.getD_put, if_pos rfl]
    rfl
  · rw [FMap.getD_put, if_pos rfl]
    rfl

theorem State.tsiPopEff_head {y : Bool × Nat × Bool} {rest : List (Nat × Bool × Nat × Bool)}
    (hq : (s.tsIn.getD k {}).queue = (v, y) :: rest) :
    s.tsiPopEff k v = okay { s with tsIn := s.tsIn.put k { s.tsIn.getD k {} with queue := rest } } := by
  unfold State.tsiPopEff
  dsimp only
  rw [hq]
  exact if_pos rfl

end Time

/-! The backup domain (R687 to R690) -/

theorem Backup.comp_setComp (x : Backup) (j : Nat) (c : Comparator) : (x.setComp j c).comp j = c := by
  unfold Backup.setComp Backup.comp
  split
  · rfl
  · split <;> rfl

theorem exec_bkComparatorRelease {s : State} {j : Nat} (hj : j < 3) : exec (.bkComparatorRelease j) s
      = done { s with backup := s.backup.setComp j { s.backup.comp j with out := false } } := if_neg (Nat.not_le.mpr hj)

theorem exec_rtcSecondTick {s : State} (hl : ¬(s.backup.lost = true ∧ s.mainPower = false)) (hp : 500000000 ≤ s.backup.phase) :
    exec .rtcSecondTick s = done { s with backup := { s.backup with rtc := (s.backup.rtc + 1) % 2 ^ 64, phase := 0 } } :=
  if_neg (fun h => h.elim hl (Nat.not_lt.mpr hp))

/-- A proposal that has ended is in no slot. -/
theorem State.get?_proposals_freeSlot (s : State) (i : Nat) : (s.freeSlot i).proposals.get? i = none :=
  (FMap.get?_del s.proposals i i).trans (if_pos rfl)

/-- Settles O54: fields of the next state by what frames and responses do not move, the next state itself by the equation of the
command. -/
theorem alarmsAndTimeAnswer : Obligations.AlarmsAndTimeAnswer := by
  unfold Obligations.AlarmsAndTimeAnswer
  refine ⟨?fire, ?release, ?lone, ?ack, ?holdClear, ?sample, ?peak, ?pop, ?nonce, ?submit, ?approve, ?cancel, ?expiry, ?boundary, ?set,
    ?adj, ?freq, ?slew, ?rise, ?fall, ?edge, ?tsiPop, ?errMax, ?comparator, ?rtc⟩
  case fire =>
    intro s k b w hk hm ho hw
    obtain ⟨t, e, h⟩ := rests_of_done (exec_flueDetectorFire_agrees hk hm ho hw)
    have hx := (h.flueKind k).trans (State.flueKind_setFlue _ _ _)
    exact ⟨t, e, by rw [hx]; exact FlueKind.out_setOut _ _ _, by rw [hx]⟩
  case release =>
    intro s k b hk hm
    obtain ⟨t, e, h⟩ := rests_of_done (exec_flueDetectorRelease hk hm)
    have hx := (h.flueKind k).trans (State.flueKind_setFlue _ _ _)
    exact ⟨t, e, by rw [hx]; exact FlueKind.out_setOut _ _ _⟩
  case lone => exact fun s k w hw => completes_of_done (exec_flueLoneRecognised hw)
  case ack =>
    intro s n m hn h hm
    obtain ⟨t, e, f⟩ := (answers_of_write (c := .almAck n m) rfl h (State.almAckEff_ok hm)).num hn (k := Reg.almPending) (by decide)
    exact ⟨t, e, f.trans (State.num_putN_same _ _ _)⟩
  case holdClear =>
    intro s n hn h h0 hr
    obtain ⟨t, e, f⟩ := (answers_of_write (c := .almHoldClear n 1) rfl h (State.holdClearEff_ok h0 hr)).num hn (k := Reg.almHold) (by decide)
    exact ⟨t, e, f.trans (State.num_putN_same _ _ _)⟩
  case sample =>
    intro s tj
    obtain ⟨u, hu, hnow⟩ := exec_tjSample s tj
    obtain ⟨t, e, f⟩ := (completes_of_done hu).num (k := Reg.tjNow) (by decide)
    exact ⟨t, e, f.trans hnow⟩
  case peak =>
    intro s n v hn h
    obtain ⟨t, e, f⟩ := (answers_of_write (c := .tjPeak n v) rfl h rfl).num hn (k := Reg.tjPeak) (by decide)
    exact ⟨t, e, f.trans (State.num_putN_same _ _ _)⟩
  case pop =>
    intro s n r rest hn h hq hd
    obtain ⟨t, e, f⟩ := (answers_of_write (c := .evtPop n r.seq) rfl h (State.evtPopEff_kept hq hd)).rests hn
    exact ⟨t, e, f.records⟩
  case nonce =>
    intro s n hn h
    obtain ⟨t, e, f⟩ := (answers_of_read (c := .dcNonceRead n) rfl h rfl).rests hn
    exact ⟨t, e, f.dcNonces⟩
  case submit =>
    intro s n i h hh ht hm hl hn hc hd ha hr hi hj
    exact answers_pActionSubmit h hh ⟨ht, hm, hl, hn, hc, hd, ha, hr, hi, hj⟩
  case approve =>
    intro s n p h hh hp ho hc hr hq hg hd ha hj
    exact answers_pActionApprove h hh ⟨hp, hr, ha, hj⟩ ho hc hq hg hd
  case cancel => exact fun s n p h hh hp hr ha hj => answers_pActionCancel h hh ⟨hp, hr, ha, hj⟩
  case expiry =>
    intro s i p hp hc
    obtain ⟨t, e, h⟩ := rests_of_done (exec_dcWindowExpiry hp hc)
    have hfree := h.proposals.trans (State.raise_rests _ _ _ _).proposals
    exact ⟨t, e, by rw [hfree, State.get?_proposals_freeSlot]⟩
  case boundary =>
    intro s m hp hd
    obtain ⟨u, hu, hlatched⟩ := exec_deviceSecondBoundary m hp hd
    obtain ⟨t, e, h⟩ := rests_of_done hu
    exact ⟨t, e, by rw [h.time, hlatched]⟩
  case set => exact fun s n v words hn hv hr => completes_of_done (exec_timeSet hn hv hr)
  case adj =>
    intro s n v hn h
    obtain ⟨t, e, f⟩ := (answers_of_write (c := .timeAdj n v) rfl h rfl).rests hn
    exact ⟨t, e, congrArg TimeUnit.slew f.time⟩
  case freq =>
    intro s n v hn h
    obtain ⟨t, e, f⟩ := (answers_of_write (c := .timeFreq n v) rfl h rfl).num hn (k := Reg.timeFreq) (by decide)
    exact ⟨t, e, f.trans (State.num_putN_same _ _ _)⟩
  case slew =>
    intro s h0 h1
    obtain ⟨t, e, h⟩ := rests_of_done (exec_slewComplete h0 h1)
    exact ⟨t, e, congrArg TimeUnit.dev h.time, congrArg TimeUnit.slew h.time⟩
  case rise =>
    intro s he hd hh
    obtain ⟨t, e, h⟩ := rests_of_done (exec_ppsRise he hd hh)
    exact ⟨t, e, congrArg TimeUnit.ppsHigh h.time⟩
  case fall =>
    intro s he
    obtain ⟨t, e, h⟩ := rests_of_done (exec_ppsFall he)
    exact ⟨t, e, congrArg TimeUnit.ppsHigh h.time⟩
  case edge =>
    intro s k lasts rising half x hk he hx hl hg hc hq
    obtain ⟨u, hu, hqueue⟩ := exec_tsInEdge_queued hk he hx hl hg hc hq
    obtain ⟨t, e, h⟩ := rests_of_done hu
    exact ⟨t, e, by rw [h.tsIn, hqueue]⟩
  case tsiPop =>
    intro s n k v y rest hn h hq
    obtain ⟨t, e, f⟩ := (answers_of_write (c := .tsiPop n k v) rfl h (State.tsiPopEff_head hq)).rests hn
    exact ⟨t, e, by rw [f.tsIn]; exact congrArg TsInput.queue ((FMap.getD_put _ _ _ _ _).trans (if_pos rfl))⟩
  case errMax =>
    intro s n p hn h
    obtain ⟨t, e, f⟩ := (answers_of_write (c := .tcErrMax n p 0) rfl h (State.ranged_ok s _ 0 rfl)).num hn (k := Reg.pTcErrMax p)
      (port_rests (by decide) (by decide) (by decide))
    exact ⟨t, e, f.trans (State.num_putN_same _ _ _)⟩
  case comparator =>
    intro s j hj
    obtain ⟨t, e, h⟩ := rests_of_done (exec_bkComparatorRelease hj)
    exact ⟨t, e, by rw [h.backup]; exact congrArg Comparator.out (Backup.comp_setComp _ _ _)⟩
  case rtc =>
    intro s hl hp
    obtain ⟨t, e, h⟩ := rests_of_done (exec_rtcSecondTick hl hp)
    exact ⟨t, e, congrArg Backup.rtc h.backup⟩

end Sys2Proof.Machine
end

section
/-! PROOFS. Twill transmit (R209, R211, R222, R232, R267, R268, R380, R402): the panel begun or the next sent or withheld, the
multiframe boundary, and the release of an old phase. -/

namespace Sys2Proof.Machine

/-! A panel sent -/

section Panel
variable {s : State} {p : Nat}

theorem State.panelFinish_begun (h : (s.trib p).line ≠ []) : s.panelFinish p = s.panelDone p := by
  unfold State.panelFinish
  rw [List.isEmpty_eq_false_iff.mpr h]
  exact if_neg Bool.false_ne_true

/-- The panel begun goes first. -/
theorem exec_twPanelSent_begun (hs : s.tribSends p = true) (hl : ((s.closeAhead p 2).trib p).line ≠ []) :
    exec (.twPanelSent p) s = done ((s.closeAhead p 2).panelDone p) := by
  show execTwPanelSent p s = _
  unfold execTwPanelSent
  dsimp only
  rw [if_neg (by rw [hs]; exact Bool.noConfusion), List.isEmpty_eq_false_iff.mpr hl, if_neg Bool.false_ne_true,
    State.panelFinish_begun hl]

/-- Where no panel is begun the next one is begun first. -/
theorem exec_twPanelSent_next (hs : s.tribSends p = true) (hl : ((s.closeAhead p 2).trib p).line = []) :
    exec (.twPanelSent p) s = done (((s.closeAhead p 2).beginPanel p false).panelFinish p) := by
  show execTwPanelSent p s = _
  unfold execTwPanelSent
  dsimp only
  rw [if_neg (by rw [hs]; exact Bool.noConfusion), hl, if_pos List.isEmpty_nil]

variable {next : Bool}

/-- Under a row without a key for Twill the panel's client data is discarded (R267). -/
theorem State.beginPanel_keyless (hr : s.panelReady p = true) (hk : s.panelKey (s.txPhaseRow p (s.panelPhase p next)) = false) :
    s.beginPanel p next = s.keyless p (s.txPhaseRow p (s.panelPhase p next)) := by
  unfold State.beginPanel
  rw [if_neg (by rw [hr]; exact Bool.noConfusion)]
  exact if_pos hk

/-- At a limit the tributary stops and the panel is withheld (R211, R222). -/
theorem State.beginPanel_barred (hr : s.panelReady p = true) (hk : s.panelKey (s.txPhaseRow p (s.panelPhase p next)) = true)
    (hb : s.panelBarred p (s.phaseCount p (s.panelPhase p next)) = true) :
    s.beginPanel p next = (s.panelStop p).withhold p := by
  unfold State.beginPanel
  dsimp only
  rw [if_neg (by rw [hr]; exact Bool.noConfusion), if_neg (by rw [hk]; exact Bool.noConfusion)]
  exact if_pos hb

/-- With a key, below its limit and with a hot slot claimed for the counter that follows, the panel goes out (R172, R402). -/
theorem State.beginPanel_claimed {v : State} {claim : Claim} (hr : s.panelReady p = true)
    (hk : s.panelKey (s.txPhaseRow p (s.panelPhase p next)) = true)
    (hb : s.panelBarred p (s.phaseCount p (s.panelPhase p next)) = false)
    (hc : s.claimSlot (boltOfPort p) .e (keyOwner (s.txPhaseRow p (s.panelPhase p next))) (s.pcNext p + 1)
      (if decide (s.phaseCount p (s.panelPhase p next) + 1 < s.num (Reg.bTwPanelLimit (boltOfPort p))
        ∧ s.pcNext p + 1 < 2 ^ 76 - 1) then 32 else 0) [s.pcNext p] = (claim, v)) (hw : claim ≠ .wait) :
    s.beginPanel p next = v.sendPanel p (s.txPhaseRow p (s.panelPhase p next)) (s.panelPhase p next) claim := by
  unfold State.beginPanel
  dsimp only
  rw [if_neg (by rw [hr]; exact Bool.noConfusion), if_neg (by rw [hk]; exact Bool.noConfusion),
    if_neg (by rw [hb]; exact Bool.noConfusion), hc]
  exact if_neg hw

end Panel

/-! The multiframe boundary and the old phase -/

theorem exec_twMultiframeBoundary {s : State} {b g : Nat} (hg : g < 8) (hr : s.running (.group b g) = true) :
    exec (.twMultiframeBoundary b g) s = done (s.multiBoundary (b * 1024 + g) (s.grp (b * 1024 + g)).nextMulti) :=
  if_pos ⟨hg, hr⟩

/-- The panel begun under phase `ph` of a tributary sent to its end. -/
def State.oldPhaseSent (s : State) (p ph : Nat) : State :=
  match (s.trib p).begun with
  | some (_, old) => if old = ph then s.panelFinish p else s
  | none => s

/-- The state that the release of phase `ph` leaves once its last panel was sent, with event 0x02_0014 (R267). -/
def State.oldPhaseReleased (s : State) (p row ph : Nat) : State :=
  ((s.setTrib p { s.trib p with releasing := none }).phaseReleased row).raise 0x020014 ((0x3000 + 4 * p + 3) * 256) (p * 16384 + ph * 8192)

theorem exec_twTxPhaseRelease {s : State} {p ph : Nat} (h : (s.trib p).releasing = some ph) :
    exec (.twTxPhaseRelease p) s = done ((s.oldPhaseSent p ph).oldPhaseReleased p (s.txPhaseRow p ph) ph) := by
  show execTwTxPhaseRelease p s = _
  unfold execTwTxPhaseRelease
  rw [h]
  rfl

/-- Settles O30: each command by the equation of its case. -/
theorem twillTransmitCompletes : Obligations.TwillTransmitCompletes := by
  unfold Obligations.TwillTransmitCompletes
  refine ⟨?begun, ?keyless, ?barred, ?sealed, ?boundary, ?released⟩
  case begun =>
    rintro s p u hs rfl hl
    exact completes_of_done (exec_twPanelSent_begun hs hl)
  case keyless =>
    rintro s p row phase u hs rfl hl rfl rfl hr hk
    exact completes_of_done (by rw [exec_twPanelSent_next hs hl, State.beginPanel_keyless hr hk])
  case barred =>
    rintro s p row phase u hs rfl hl rfl rfl hr hk hb
    exact completes_of_done (by rw [exec_twPanelSent_next hs hl, State.beginPanel_barred hr hk hb])
  case sealed =>
    rintro s p row phase u v claim hs rfl hl rfl rfl hr hk hb hc hw
    exact completes_of_done (by rw [exec_twPanelSent_next hs hl, State.beginPanel_claimed hr hk hb hc hw])
  case boundary => exact fun s b g hg hr => completes_of_done (exec_twMultiframeBoundary hg hr)
  case released =>
    rintro s p ph u h rfl
    exact completes_of_done (exec_twTxPhaseRelease h)

end Sys2Proof.Machine
end

section
/-! PROOFS. Bindings, the switch of association number, retired rows, arms, wrapped and legacy keys (R232, R239, R241, R259, R267,
R275), the defect timers of a Twill lane and the end of ACQUIRE (R416, R420): each command's effect, and what stays of it. -/

namespace Sys2Proof.Machine

/-! Octets read after a write -/

theorem State.oct_putN_other (s : State) {k x : Key} (n : Nat) (h : k ≠ x) : (s.putN k n).oct x = s.oct x := by
  unfold State.oct
  rw [State.rd_putN, if_neg h]

theorem State.oct_clear_other (s : State) {k x : Key} (h : k ≠ x) : (s.clear k).oct x = s.oct x := by
  unfold State.oct
  rw [State.rd_clear, if_neg h]

theorem State.oct_mirror (s : State) (it : MirrorItem) (k : Key) : (s.mirror it).oct k = s.oct k := by
  unfold State.oct
  rw [State.mirror_rd]

/-- A row's state and version are numbers beside its other fields. -/
theorem State.oct_setRowState (s : State) (win row st : Nat) {x : Key} (h2 : Key.row win row 2 ≠ x) (h3 : Key.row win row 3 ≠ x) :
    (s.setRowState win row st).oct x = s.oct x :=
  (State.oct_putN_other _ _ h3).trans (State.oct_putN_other _ _ h2)

theorem row_field_ne {win row f g : Nat} (h : f ≠ g) : Key.row win row f ≠ Key.row win row g := fun e => h (Key.row.inj e).2.2

theorem row_rests {win row f : Nat} (hw : win ≠ 0x1101) (h : rowTraffic win f = false) : responseKey (.row win row f) = false := by
  have hkey : (Key.row win row f == etypeNext) = false := beq_eq_false_iff_ne.mpr (fun e => hw (Key.row.inj e).1)
  unfold responseKey
  rw [hkey, show trafficKey (.row win row f) = false from h]
  rfl

theorem bolt_rests {b off sub : Nat} (ho : off < 256) (hs : sub < 256) (h : boltTraffic off sub = false) :
    responseKey (boltKey b off sub) = false :=
  dev_rests (bolt_still (by omega) ho hs h) (by omega)

theorem Answers.oct {c : Instr} {s u : State} {n : Nat} {a : Answer} (h : Answers c s n (u, a)) (hn : n < 9) {k : Key}
    (hk : responseKey k = false) : ∃ t, exec c s = .next t ∧ t.oct k = u.oct k := by
  obtain ⟨t, e, f⟩ := h.rests hn
  exact ⟨t, e, f.oct hk⟩

theorem Rests.armedAt {s t : State} (h : Rests s t) (p : Nat) : (t.trib p).armedAt = (s.trib p).armedAt :=
  (congrArg TribState.armedAt (h.trib p) :)

/-! Bindings and the switch of association number (R239 to R241) -/

section Binding
variable {s : State} {n p a v : Nat}

/-- A binding that R239 allows is kept, and mirrored. -/
theorem State.bindEff_bound (hv : v ≠ s.num (portKey p 3 (0x11 + a)))
    (hf : ¬(a = s.num (Reg.pTxAnInForce p) ∧ s.num (portKey p 3 (0x11 + a)) ≠ 0xFFFFFF ∧ s.rowState 0x4000 (s.num (portKey p 3 (0x11 + a))) = 3))
    (ho : v = 0xFFFFFF ∨ (boltOfSa v = boltOfPort p ∧ s.bindable p v = true)) :
    s.bindEff p a v = okay ((s.putN (portKey p 3 (0x11 + a)) v).mirror (.binding p (0x11 + a) v)) := by
  have hfree : (a == s.num (Reg.pTxAnInForce p) && s.num (portKey p 3 (0x11 + a)) != 0xFFFFFF
      && s.rowState 0x4000 (s.num (portKey p 3 (0x11 + a))) == 3) = false := by
    rw [Bool.eq_false_iff]
    simpa only [ne_eq, Bool.and_eq_true, beq_iff_eq, bne_iff_ne, and_assoc] using hf
  have hbolt : (v != 0xFFFFFF && boltOfSa v != boltOfPort p) = false := by
    rcases ho with rfl | ⟨h, _⟩
    · rfl
    · rw [h, bne_self_eq_false, Bool.and_false]
  have hrow : (v != 0xFFFFFF && !s.bindable p v) = false := by
    rcases ho with rfl | ⟨_, h⟩
    · rfl
    · rw [h, Bool.not_true, Bool.and_false]
  unfold State.bindEff
  dsimp only
  rw [if_neg hv, hfree, hbolt, hrow]
  exact check_none rfl _

theorem answers_txSaAn (ha : a < 4) (h : Serves s n (portAddr p 3 (0x11 + a)) v) {r : Eff} (hr : s.bindEff p a v = r) :
    Answers (.txSaAn n p a v) s n r :=
  answers_of_write (if_pos ha) h hr

/-- The state in which a port transmits under another association number from now on (R240, R241). -/
def State.anSwitched (s : State) (p v : Nat) : State :=
  let t := ((s.putN (Reg.pTxAn p) v).putN (Reg.pTxAnInForce p) v).putN (Reg.pTxSwitched p) s.now96
  let t := if s.anBinding p = 0xFFFFFF then t else t.discardKeystream (boltOfPort p) .e (s.anBinding p)
  (t.raise 0x020010 ((0x3000 + 4 * p + 3) * 256) (p * 16384 + s.num (Reg.pTxAnInForce p) * 4096 + v * 1024)).mirror (.txAn p v)

theorem State.txAnEff_switch (hv : v ≤ 3) (hn : v ≠ s.num (Reg.pTxAnInForce p))
    (hb : s.num (portKey p 3 (0x11 + v)) = 0xFFFFFF ∨ (s.rowState 0x4000 (s.num (portKey p 3 (0x11 + v))) = 1
      ∧ s.bindingCounts p (s.num (portKey p 3 (0x11 + v))) = true)) : s.txAnEff p v = okay (s.anSwitched p v) := by
  unfold State.txAnEff
  dsimp only
  rw [if_neg (Nat.not_lt.mpr hv), if_neg hn, if_neg (fun h => hb.elim h.1 h.2)]
  rfl

end Binding

/-! The end of a retired row (R232) -/

theorem exec_saRetired {s : State} {sa : Nat} (hr : s.rowState 0x4000 sa = 4) (hb : s.saBusy sa = false) :
    exec (.saRetired sa) s = done (s.saEmptied sa 0) := if_pos ⟨hr, hb⟩

/-- No key is left in a row that was emptied. -/
theorem State.oct_key_saEmptied (s : State) (sa reason : Nat) : (s.saEmptied sa reason).oct (.row 0x4000 sa 0x100) = [] := by
  unfold State.saEmptied State.saEmpty
  rw [(State.raise_follows (Follows.refl _) _ _ _).oct (k := .row 0x4000 sa 0x100) rfl]
  refine (State.oct_putN_other _ _ (row_field_ne (by decide))).trans ?_
  unfold State.oct State.clearRow
  rw [State.rd_clearWhere, if_pos (by simp)]
  rfl

/-! The arm of a flip (R267) -/

section Arm
variable {s : State} {p : Nat}

theorem State.trib_mirror (s : State) (it : MirrorItem) (p : Nat) : (s.mirror it).trib p = s.trib p := by
  unfold State.trib
  rw [State.tribs_mirror]

/-- The state in which a tributary is armed from now on. -/
def State.flipArmed (s : State) (p : Nat) : State :=
  ((s.putN (Reg.pTwTxState p) 1).setTrib p { s.trib p with armedAt := s.time.elapsed }).mirror (.arm p true)

theorem State.twArmEff_arm (hs : s.num (Reg.pTwTxState p) ≠ 1)
    (hr : s.rowState 0x4000 (s.txPhaseRow p (1 - s.num (Reg.pTwTxPhase p))) = 1) : s.twArmEff p 1 = okay (s.flipArmed p) := by
  unfold State.twArmEff
  dsimp only
  rw [if_pos rfl, beq_eq_false_iff_ne.mpr hs, if_neg Bool.false_ne_true, if_neg (not_not_intro hr)]
  rfl

theorem State.armedAt_flipArmed (s : State) (p : Nat) : ((s.flipArmed p).trib p).armedAt = s.time.elapsed := by
  unfold State.flipArmed
  rw [State.trib_mirror, State.trib_setTrib, if_pos rfl]

theorem State.twArmEff_cancel (hs : s.num (Reg.pTwTxState p) = 1) :
    s.twArmEff p 2 = okay ((s.putN (Reg.pTwTxState p) 0).mirror (.arm p false)) := by
  unfold State.twArmEff
  dsimp only
  rw [hs]
  rfl

end Arm

/-! Wrapped and legacy keys (R258, R259, R274, R275) -/

section Keys
variable {s : State} {n : Nat}

/-- The blob that WRAP makes of what session n has staged. -/
def State.stagedBlob (s : State) (n : Nat) : Octets :=
  s.wrapBlob (s.num (stage n 0x4800 0x12)) (s.num (stage n 0x4800 0x13)) (s.num (stage n 0x4800 0x14)) (s.oct (stage n 0x4800 0x11))

/-- The state with a blob in its slot and the session's BLOB, the clear key erased (R259). -/
def State.wrapped (s : State) (n row : Nat) (blob : Octets) : State :=
  (((s.putO (Reg.blob row) blob).setRowState 0x4800 row 1).putO (stage n 0x4800 0x10) blob).clear (stage n 0x4800 0x11)

theorem State.wrapEff_ok (hn : n ≠ 0) (hr : s.sessHas n 2 = true) (hk : s.kduReady = true) (hrow : s.noRow n 0x4800 = none)
    (ht : keyTypeLength (s.num (stage n 0x4800 0x13)) ≠ 0)
    (hl : (s.oct (stage n 0x4800 0x11)).length = keyTypeLength (s.num (stage n 0x4800 0x13)))
    (hb : s.num (stage n 0x4800 0x12) = 0xFF ∨ s.num (stage n 0x4800 0x12) < s.nBolts) :
    s.wrapEff n 1 = okay (s.wrapped n (s.cursor n 0x4800) (s.stagedBlob n)) := by
  refine check_none ?_ _
  rw [beq_eq_false_iff_ne.mpr hn, hr, hk, hrow, decide_eq_false ht, decide_eq_false (not_not_intro hl), decide_eq_false (by omega),
    Bool.not_true, Bool.and_false]
  rfl

theorem State.oct_blob_wrapped (s : State) (n row : Nat) (blob : Octets) : (s.wrapped n row blob).oct (Reg.blob row) = blob := by
  unfold State.wrapped
  rw [State.oct_clear_other _ Key.noConfusion, State.oct_putO_other _ _ Key.noConfusion,
    State.oct_setRowState _ _ _ _ (row_field_ne (by decide)) (row_field_ne (by decide)), State.oct_putO_same]

/-- The length of a legacy key fits the suite of the row it is for (R274). -/
def State.legacyFits (s : State) (n : Nat) : Prop :=
  ((s.oct (Reg.legacyKey n)).length = 16 ∧ (s.num (Reg.saSuite (s.num Reg.legacySa)) = 0 ∨ s.num (Reg.saSuite (s.num Reg.legacySa)) = 2))
    ∨ ((s.oct (Reg.legacyKey n)).length = 32 ∧ (s.num (Reg.saSuite (s.num Reg.legacySa)) = 1 ∨ s.num (Reg.saSuite (s.num Reg.legacySa)) = 3))

/-- The state with session n's legacy key in its row (R274). -/
def State.legacyLoaded (s : State) (n : Nat) : State :=
  let sa := s.num Reg.legacySa
  let t := (((s.putO (.row 0x4000 sa 0x100) (s.oct (Reg.legacyKey n))).putN (Reg.saKeyId sa) 0xFFFFFFFFFFFF).setRowState 0x4000 sa 1).count Reg.legacyUses
  t.mirror (t.saItem sa)

theorem State.legacyEff_ok (he : s.num Reg.legacyEnable ≠ 0) (hlc : s.lc = 5) (hsa : s.num Reg.legacySa < s.nSas)
    (hst : s.rowState 0x4000 (s.num Reg.legacySa) = 7) (hf : s.legacyFits n) : s.legacyEff n 1 = okay (s.legacyLoaded n) := by
  have hsuite : s.num (Reg.saSuite (s.num Reg.legacySa)) < 4 := by
    unfold State.legacyFits at hf
    omega
  have hfits : (((s.oct (Reg.legacyKey n)).length == 16
        && (s.num (Reg.saSuite (s.num Reg.legacySa)) == 0 || s.num (Reg.saSuite (s.num Reg.legacySa)) == 2))
      || ((s.oct (Reg.legacyKey n)).length == 32
        && (s.num (Reg.saSuite (s.num Reg.legacySa)) == 1 || s.num (Reg.saSuite (s.num Reg.legacySa)) == 3))) = true := by
    simpa only [State.legacyFits, Bool.or_eq_true, Bool.and_eq_true, beq_iff_eq] using hf
  unfold State.legacyEff
  dsimp only
  rw [beq_eq_false_iff_ne.mpr he, hlc, decide_eq_true hsa, hst, decide_eq_true hsuite, hfits]
  rfl

/-- The state that a LEGACY_GO that succeeds leaves: the key in its row, erased in the session, with event 0x07_0301 (R275). -/
def State.legacyDone (s : State) (n : Nat) : State :=
  ((s.legacyLoaded n).clear (Reg.legacyKey n)).raise 0x070301 0x133000 ((s.legacyLoaded n).num Reg.legacySa % 65536)

theorem legacyAfter_okay (n : Nat) (u : State) : legacyAfter n (okay u)
    = ((u.clear (Reg.legacyKey n)).raise 0x070301 0x133000 (u.num Reg.legacySa % 65536), .ok) := by
  unfold legacyAfter okay
  dsimp only
  rw [Nat.zero_mul, Nat.zero_add]

theorem answers_legacyGo (h : Serves s n 0x133004 1) (he : s.legacyEff n 1 = okay (s.legacyLoaded n)) :
    Answers (.legacyGo n 1) s n (s.legacyDone n, .ok) := by
  refine completes_of_done ?_
  show execLegacyGo n 1 s = _
  unfold execLegacyGo
  rw [State.writeNum_serves h, he, legacyAfter_okay, hostDone_answers h.1]
  rfl

theorem State.oct_key_legacyDone (s : State) (n : Nat) :
    (s.legacyDone n).oct (.row 0x4000 (s.num Reg.legacySa) 0x100) = s.oct (Reg.legacyKey n) := by
  unfold State.legacyDone State.legacyLoaded
  rw [(State.raise_follows (Follows.refl _) _ _ _).oct (k := .row 0x4000 _ 0x100) rfl, State.oct_clear_other _ Key.noConfusion,
    State.oct_mirror]
  refine (State.oct_putN_other _ _ Key.noConfusion).trans ?_
  rw [State.oct_setRowState _ _ _ _ (row_field_ne (by decide)) (row_field_ne (by decide)),
    State.oct_putN_other _ _ (row_field_ne (by decide)), State.oct_putO_same]

end Keys

/-! Overhead, defects and the end of ACQUIRE (R414 to R420) -/

section Receive
variable {s : State} {ll row : Nat}

theorem exec_twOverheadReceived (oh : OverheadRx) (hr : s.runningGroup ll = some row) : exec (.twOverheadReceived ll oh) s
      = done (((s.farEnd (64 + ll) oh.cws).fecCount ll oh.cws).overheadIn row ll (s.overheadWord ll oh) oh) := by
  show execTwOverheadReceived ll oh s = _
  unfold execTwOverheadReceived
  rw [hr]

/-- A lane out of multiframe, or of a group out of its spread, for 3 ms has its defect (R416). -/
theorem exec_twillDefectTimer_lom (hr : s.runningGroup ll = some row) (hd : bit (s.twLane ll).detected 1 = false)
    (hb : ((s.twLane ll).inMulti = false ∧ (s.twLane ll).mfSince + 3000000 ≤ s.time.elapsed)
      ∨ ((s.twLane ll).spreadBad = true ∧ (s.twLane ll).spreadSince + 3000000 ≤ s.time.elapsed)) :
    exec (.twillDefectTimer ll true) s = done ((s.setTwLane ll { s.twLane ll with
        lomSpread := (s.twLane ll).inMulti || !decide ((s.twLane ll).mfSince + 3000000 ≤ s.time.elapsed) }).detect row ll
          (setBit (s.twLane ll).detected 1 true)) := by
  have hbad : ((!(s.twLane ll).inMulti && decide ((s.twLane ll).mfSince + 3000000 ≤ s.time.elapsed))
      || ((s.twLane ll).spreadBad && decide ((s.twLane ll).spreadSince + 3000000 ≤ s.time.elapsed))) = true := by
    simpa only [Bool.or_eq_true, Bool.and_eq_true, Bool.not_eq_true', decide_eq_true_eq] using hb
  show execTwillDefectTimer ll true s = _
  unfold execTwillDefectTimer
  rw [hr]
  dsimp only
  rw [if_pos rfl, hbad, hd, Bool.and_false, if_neg Bool.false_ne_true, if_pos rfl]

theorem exec_tgAcqHoldExpiry {b g : Nat} (hg : g < 8) (hr : s.running (.group b g) = true) (hq : s.num (Reg.tgRegime (b * 1024 + g)) = 1)
    (hf : s.tgNow (b * 1024 + g) 0x15 = 0) (hl : (s.groupLanes (b * 1024 + g)).all (fun l => !s.hardDefect (lineOf b l)) = true)
    (ht : (s.grp (b * 1024 + g)).acqSince + s.tgNow (b * 1024 + g) 0x14 * 1000000 ≤ s.time.elapsed) : exec (.tgAcqHoldExpiry b g) s
      = done ((((s.putN (Reg.tgRegime (b * 1024 + g)) 0).bumpVersion 0x4400 (b * 1024 + g)).raise 0x030204 0x440000
          (b * 2097152 + g * 262144)).judgeGroup (b * 1024 + g)) :=
  if_pos ⟨hg, hr, hq, hf, hl, ht⟩

end Receive

/-- A group's forced ACQUIRE is staged and committed in one command (R420, log entry 39). -/
theorem exec_tgForceAcq {s t : State} {n v : Nat} (ht : t = s.putN (stage n 0x4400 0x15) v) (h1 : Serves s n 0x440015 v)
    (h2 : Serves t n 0x440005 2) (hc : t.cursor n 0x4400 ≠ 0xFFFFFF) (hl : t.num (.cur n 0x4400 0) ≠ 1)
    (hr : t.tribRow 0x4400 (t.cursor n 0x4400) = false) : exec (.tgForceAcq n v) s
      = done (answered n (t.commitRow n 0x4400 (t.cursor n 0x4400) none)).afterResponse := by
  show execTgForceAcq n v s = _
  unfold execTgForceAcq
  rw [State.writeNum_serves h1, ← ht]
  show hostDone n t (t.writeNum n 0x440005 2 (t.onRow n 0x4400 false (fun row => t.commitRow n 0x4400 row none))) = _
  rw [State.writeNum_serves h2, State.onRow_selected hc hl hr, hostDone_answers h2.1]

/-- Settles O56: the state an event leaves by the equation of its case (those of Twill transmit as O30 has
them), the object a write sets by what a response can move. -/
theorem securityAssociationsAndTwillAnswer : Obligations.SecurityAssociationsAndTwillAnswer := by
  obtain ⟨begun, -, -, sealed, boundary, released⟩ := twillTransmitCompletes
  unfold Obligations.SecurityAssociationsAndTwillAnswer
  refine ⟨?policy, ?cm, ?pnWarn, ?panelLimit, ?bind, ?switch, ?retired, ?legacy, ?wrap, ?arm, ?cancel, ?boundary, ?released, ?begun,
    ?sealed, ?overhead, ?defect, ?hold, ?force⟩
  case policy =>
    intro s n b v hn hb h hv hr hne
    have hkey : responseKey (Reg.bPolicyActive b) = false := bolt_rests (by decide) (by decide) rfl
    obtain ⟨t, e, f⟩ := (answers_of_write (c := .policyActive n b v) rfl h (State.policyEff_move hv hr hne)).num hn hkey
    refine ⟨t, e, f.trans ((State.num_mirror _ _ _).trans ?_)⟩
    rw [(State.raise_rests _ _ _ _).num hkey, State.num_putN_same]
  case cm => exact fun s n b v h hlo hhi => answers_of_write rfl h (State.cmEff_level hlo hhi)
  case pnWarn =>
    intro s n b v hn hb h hlo hhi
    obtain ⟨t, e, f⟩ := (answers_of_write (c := .pnWarn n b true v) (e := s.pnWarnEff b true v) rfl h
      (State.ranged_ok s _ v (decide_eq_true ⟨hlo, hhi⟩))).num hn (k := Reg.bPnWarnXpn b) (bolt_rests (by decide) (by decide) rfl)
    exact ⟨t, e, f.trans (State.num_putN_same _ _ _)⟩
  case panelLimit => exact fun s n b v h hlo hhi hw => answers_of_write rfl h (State.panelLimitEff_ok hlo hhi hw)
  case bind =>
    intro s n p a v hn ha h hv hf ho
    obtain ⟨t, e, f⟩ := (answers_txSaAn ha h (State.bindEff_bound hv hf ho)).num hn (k := portKey p 3 (0x11 + a))
      (port_rests (by decide) (by omega) (beq_eq_false_iff_ne.mpr (by omega)))
    exact ⟨t, e, f.trans ((State.num_mirror _ _ _).trans (State.num_putN_same _ _ _))⟩
  case switch => exact fun s n p v h hv hn hb => answers_of_write rfl h (State.txAnEff_switch hv hn hb)
  case retired =>
    intro s sa hr hb
    obtain ⟨t, e, f⟩ := completes_of_done (exec_saRetired hr hb)
    exact ⟨t, e, (f.oct rfl).trans (State.oct_key_saEmptied s sa 0)⟩
  case legacy =>
    intro s n hn h he hlc hsa hst hf
    obtain ⟨t, e, f⟩ := (answers_legacyGo h (State.legacyEff_ok he hlc hsa hst hf)).oct hn
      (k := .row 0x4000 (s.num Reg.legacySa) 0x100) (row_rests (by decide) rfl)
    exact ⟨t, e, f.trans (State.oct_key_legacyDone s n)⟩
  case wrap =>
    rintro s n row hn h h0 hr hk hrow rfl ht hl hb
    obtain ⟨t, e, f⟩ := (answers_of_write (c := .wrap n 1) rfl h (State.wrapEff_ok h0 hr hk hrow ht hl hb)).oct hn
      (k := Reg.blob (s.cursor n 0x4800)) (row_rests (by decide) rfl)
    exact ⟨t, e, f.trans (State.oct_blob_wrapped _ _ _ _)⟩
  case arm =>
    intro s n p hn h hs hr
    obtain ⟨t, e, f⟩ := (answers_of_write (c := .twArmFlip n p) rfl h (State.twArmEff_arm hs hr)).rests hn
    exact ⟨t, e, (f.armedAt p).trans (State.armedAt_flipArmed s p)⟩
  case cancel => exact fun s n p h hs => answers_of_write rfl h (State.twArmEff_cancel hs)
  case boundary => exact boundary
  case released => exact released
  case begun => exact begun
  case sealed => exact sealed
  case overhead => exact fun s ll row oh hr => completes_of_done (exec_twOverheadReceived oh hr)
  case defect => exact fun s ll row hr hd hb => completes_of_done (exec_twillDefectTimer_lom hr hd hb)
  case hold => exact fun s b g hg hr hq hf hl ht => completes_of_done (exec_tgAcqHoldExpiry hg hr hq hf hl ht)
  case force => exact fun s n v t ht h1 h2 hc hl hr _ => completes_of_done (exec_tgForceAcq ht h1 h2 hc hl hr)

end Sys2Proof.Machine
end

section
/-! PROOFS. Security associations: bindings written again or refused (R239), the association number in force written again or
refused (R240), and an arm without a row to flip to (R267). The accepted writes have their lemmas in the section before. -/

namespace Sys2Proof.Machine

/-! Bindings (R239) -/

section Binding
variable {s : State} {n p a v : Nat}

theorem State.bindEff_unchanged (s : State) (p a : Nat) : s.bindEff p a (s.num (portKey p 3 (0x11 + a))) = okay s := if_pos rfl

/-- A row of another bolt is named as such, whatever its fields say. -/
theorem State.bindEff_refused (hv : v ≠ s.num (portKey p 3 (0x11 + a)))
    (hf : s.rowState 0x4000 (s.num (portKey p 3 (0x11 + a))) ≠ 3) (hb : v ≠ 0xFFFFFF)
    (hr : boltOfSa v ≠ boltOfPort p ∨ s.bindable p v = false) :
    s.bindEff p a v = (s, .abort (if boltOfSa v ≠ boltOfPort p then 0x130010 else 0x130021)) := by
  unfold State.bindEff
  dsimp only
  rw [if_neg hv, beq_eq_false_iff_ne.mpr hf, Bool.and_false, bne_iff_ne.mpr hb, Bool.true_and, Bool.true_and]
  by_cases hbolt : boltOfSa v = boltOfPort p
  · have hrow : s.bindable p v = false := hr.resolve_left (not_not_intro hbolt)
    rw [hbolt, bne_self_eq_false, hrow, if_neg (not_not_intro rfl)]
    rfl
  · rw [bne_iff_ne.mpr hbolt, if_pos hbolt]
    cases s.bindable p v <;> rfl

end Binding

/-! The switch of association number (R240) -/

section Switch
variable {s : State} {p v : Nat}

theorem State.txAnEff_inForce (hv : s.num (Reg.pTxAnInForce p) ≤ 3) :
    s.txAnEff p (s.num (Reg.pTxAnInForce p)) = okay (s.putN (Reg.pTxAn p) (s.num (Reg.pTxAnInForce p))) :=
  (if_neg (Nat.not_lt.mpr hv)).trans (if_pos rfl)

theorem State.txAnEff_refused (hv : v ≤ 3) (hn : v ≠ s.num (Reg.pTxAnInForce p)) (hb : s.num (portKey p 3 (0x11 + v)) ≠ 0xFFFFFF)
    (hr : ¬(s.rowState 0x4000 (s.num (portKey p 3 (0x11 + v))) = 1 ∧ s.bindingCounts p (s.num (portKey p 3 (0x11 + v))) = true)) :
    s.txAnEff p v = (s, .abort 0x120013) :=
  (if_neg (Nat.not_lt.mpr hv)).trans ((if_neg hn).trans (if_pos ⟨hb, hr⟩))

end Switch

/-- No arm without an INSTALLED row in the other phase (R267). -/
theorem State.twArmEff_refused {s : State} {p : Nat} (hs : s.num (Reg.pTwTxState p) ≠ 1)
    (hr : s.rowState 0x4000 (s.txPhaseRow p (1 - s.num (Reg.pTwTxPhase p))) ≠ 1) : s.twArmEff p 1 = (s, .abort 0x120013) := by
  unfold State.twArmEff
  dsimp only
  rw [if_pos rfl, beq_eq_false_iff_ne.mpr hs, if_neg Bool.false_ne_true, if_pos hr]
  rfl

/-- Settles O28: each write by the case of its effect, the end of a retired row by its equation. That a row IN_USE may be bound to a
further AN, and that every row but an EMPTY one has its fields checked, are the model's reading of R239 (log entries 94 and 75). -/
theorem securityAssociationCommandsComplete : Obligations.SecurityAssociationCommandsComplete := by
  unfold Obligations.SecurityAssociationCommandsComplete
  refine ⟨?bound, ?unchanged, ?unbindable, ?switched, ?inForce, ?barred, ?retired, ?armed, ?unarmable, ?cancelled, ?wrapped, ?legacy⟩
  case bound => exact fun s n p a v ha h hv hf ho => answers_txSaAn ha h (State.bindEff_bound hv hf ho)
  case unchanged => exact fun s n p a ha h => answers_txSaAn ha h (State.bindEff_unchanged s p a)
  case unbindable => exact fun s n p a v ha h hv hf hb hr => answers_txSaAn ha h (State.bindEff_refused hv hf hb hr)
  case switched => exact fun s n p v h hv hn hb => answers_of_write rfl h (State.txAnEff_switch hv hn hb)
  case inForce => exact fun s n p h hv => answers_of_write rfl h (State.txAnEff_inForce hv)
  case barred => exact fun s n p v h hv hn hb hr => answers_of_write rfl h (State.txAnEff_refused hv hn hb hr)
  case retired => exact fun s sa hr hb => completes_of_done (exec_saRetired hr hb)
  case armed => exact fun s n p h hs hr => answers_of_write rfl h (State.twArmEff_arm hs hr)
  case unarmable => exact fun s n p h hs hr => answers_of_write rfl h (State.twArmEff_refused hs hr)
  case cancelled => exact fun s n p h hs => answers_of_write rfl h (State.twArmEff_cancel hs)
  case wrapped =>
    rintro s n row h h0 hr hk hrow rfl ht hl hb
    exact answers_of_write rfl h (State.wrapEff_ok h0 hr hk hrow ht hl hb)
  case legacy => exact fun s n h he hlc hsa hst hf => answers_legacyGo h (State.legacyEff_ok he hlc hsa hst hf)

end Sys2Proof.Machine
end

section
/-! PROOFS. PAUSE and PFC timers and the station table, complete (R311, R314, R316, R362 to R364). -/

namespace Sys2Proof.Machine

/-- Settles O26: each timer, learn request, age tick and flush by the equation of its case; the age tick serves the learn requests
that wait before its sweep. -/
theorem pauseAndStationsComplete : Obligations.PauseAndStationsComplete := by
  unfold Obligations.PauseAndStationsComplete
  refine ⟨?pause, ?peerPause, ?learn, ?age, ?flush, ?flushed⟩
  case pause => exact fun s p prio t ht hp hd => completes_of_done (exec_pauseRepeat ht hp hd)
  case peerPause => exact fun s p prio t ht hd => completes_of_done (exec_peerPauseExpiry ht hd)
  case learn => exact fun s b r rest hl => completes_of_done (exec_stationLearn hl)
  case age => exact fun s b hb ht => completes_of_done (exec_ageSweepTick hb ht)
  case flush => exact fun s n b v h hv => completes_of_done (exec_stnFlush h hv)
  case flushed => exact fun s b n rest hf => completes_of_done (exec_stnFlushComplete hf)

end Sys2Proof.Machine
end

section
/-! PROOFS. Twill receive: frame and multiframe alignment, an overhead unit with a wrong OH_CRC, and the end of ACQUIRE (R383, R414
to R420). Overhead received, LOM declared and the end of ACQUIRE have their equations where keys and bindings are. -/

namespace Sys2Proof.Machine

section Defects
variable {s : State} {ll row : Nat}

/-- LOF follows a frame alignment that has lasted 3 ms, in frame or out of it (R416). -/
theorem exec_twillDefectTimer_lof (hr : s.runningGroup ll = some row) (ht : (s.twLane ll).faSince + 3000000 ≤ s.time.elapsed) :
    exec (.twillDefectTimer ll false) s = done (s.detect row ll (setBit (s.twLane ll).detected 2 (!(s.twLane ll).inFrame))) := by
  show execTwillDefectTimer ll false s = _
  unfold execTwillDefectTimer
  rw [hr]
  exact (if_neg Bool.false_ne_true).trans (if_pos (decide_eq_true ht))

/-- A lane in multiframe, of a group within its spread, both for 3 ms, has no LOM (R416). -/
theorem exec_twillDefectTimer_lomClears (hr : s.runningGroup ll = some row) (hm : (s.twLane ll).inMulti = true)
    (hs : (s.twLane ll).spreadBad = false) (htm : (s.twLane ll).mfSince + 3000000 ≤ s.time.elapsed)
    (hts : (s.twLane ll).spreadSince + 3000000 ≤ s.time.elapsed) :
    exec (.twillDefectTimer ll true) s = done (s.detect row ll (setBit (s.twLane ll).detected 1 false)) := by
  have hbad : ((!(s.twLane ll).inMulti && decide ((s.twLane ll).mfSince + 3000000 ≤ s.time.elapsed))
      || ((s.twLane ll).spreadBad && decide ((s.twLane ll).spreadSince + 3000000 ≤ s.time.elapsed))) = false := by
    rw [hm, hs]
    rfl
  have hgood : ((s.twLane ll).inMulti && !(s.twLane ll).spreadBad && decide ((s.twLane ll).mfSince + 3000000 ≤ s.time.elapsed)
      && decide ((s.twLane ll).spreadSince + 3000000 ≤ s.time.elapsed)) = true := by
    rw [hm, hs, decide_eq_true htm, decide_eq_true hts]
    rfl
  show execTwillDefectTimer ll true s = _
  unfold execTwillDefectTimer
  rw [hr]
  dsimp only
  rw [if_pos rfl, hbad, Bool.false_and, if_neg Bool.false_ne_true, if_neg Bool.false_ne_true, if_pos hgood]

end Defects

/-- An overhead unit with a wrong OH_CRC is used for the frame alignment and counts against the multiframe's (R383, R415): besides them
it moves the lane's place, the group's spread and the error counters. -/
theorem State.overheadIn_crcWrong {s : State} {row ll w : Nat} {oh : OverheadRx} (hc : ohCrcOk w = false) :
    s.overheadIn row ll w oh =
      (let a := frameAlign (s.twLane ll) (field w 255 208 == 0x7AE5C41F0B69) (field w 207 205) s.time.elapsed
       let x := multiAlign a.1 false (field w 172 165) (field w 204 173) s.time.elapsed
       let t := s.setTwLane ll { x with base := x.base + 8191 }
       let t := forEach (t.groupLanes row) (fun t l =>
         let y := t.twLane (lineOf (ll / 8) l)
         if y.spreadBad = decide (4000 < oh.spread) then t
         else t.setTwLane (lineOf (ll / 8) l) { y with spreadBad := decide (4000 < oh.spread), spreadSince := s.time.elapsed }) t
       let t := t.putN (Reg.tgSkewNs row) (min oh.spread 65535)
       (if a.2 then t.count (Reg.tlFasErrors (ll / 8) (ll % 8)) else t).count (Reg.tlOhCrcErrors (ll / 8) (ll % 8))) := by
  unfold State.overheadIn
  simp only [hc, Bool.and_false, Bool.false_eq_true, if_false]

/-- Settles O31: overhead, the timers and the hold each by the equation of its case, a wrong OH_CRC by the branches it leaves out.
TG_FORCE_ACQ as one command that stages and commits is the model's choice (log entry 39). -/
theorem twillReceiveCompletes : Obligations.TwillReceiveCompletes := by
  unfold Obligations.TwillReceiveCompletes
  refine ⟨?overhead, ?crcWrong, ?lof, ?lom, ?lomClears, ?hold, ?force⟩
  case overhead => exact fun s ll row oh hr => completes_of_done (exec_twOverheadReceived oh hr)
  case crcWrong => exact fun s row ll w oh hc => State.overheadIn_crcWrong hc
  case lof => exact fun s ll row hr ht => completes_of_done (exec_twillDefectTimer_lof hr ht)
  case lom => exact fun s ll row hr hd hb => completes_of_done (exec_twillDefectTimer_lom hr hd hb)
  case lomClears => exact fun s ll row hr hm hs htm hts => completes_of_done (exec_twillDefectTimer_lomClears hr hm hs htm hts)
  case hold => exact fun s b g hg hr hq hf hl ht => completes_of_done (exec_tgAcqHoldExpiry hg hr hq hf hl ht)
  case force => exact fun s n v t ht h1 h2 hc hl hr _ => completes_of_done (exec_tgForceAcq ht h1 h2 hc hl hr)

end Sys2Proof.Machine
end

section
/-! PROOFS. The second of device time (R386, R419, R429, R529). -/

namespace Sys2Proof.Machine

/-- Settles O36: outside reset, at a boundary not taken yet, the command takes the branch that the statement spells out. That
every boundary judges DEG, and that failures to reseed since the first are gathered into one event there, are the model's choices
(log entries 73 and 77). -/
theorem secondBoundaryCompletes : Obligations.SecondBoundaryCompletes := by
  unfold Obligations.SecondBoundaryCompletes
  intro s m hp hd
  have htaken : ¬(s.phase = .reset ∨ s.boundaryDue = false) := not_or.mpr ⟨hp, ne_false_of_eq_true hd⟩
  exact completes_of_done (if_neg htaken)

end Sys2Proof.Machine
end

section
/-! PROOFS. Serial lanes, complete: the events of a lane and of its reference (R471 to R474, R478, R481, R482, R485), and the objects of
lane sleep and equalisation (R466, R467, R480, R481). Most cases have their equations where lanes and references are. -/

namespace Sys2Proof.Machine

section Lane
variable {s : State} {n : Nat}

/-- A signal ends NO_SIGNAL: a full acquisition begins (R471, R472). -/
theorem exec_laneSignalDetected_acquires (hp : s.lanePresent n = true) (hs : s.num (Reg.lnState n) = 1) :
    exec (.laneSignalDetected n) s = done (((s.setLane n { s.lane n with signal := true }).acquire n).setLaneState n 2) := by
  have hlooks : ¬(s.lanePresent n = false ∨ s.num (Reg.lnState n) = 0 ∨ s.num (Reg.lnState n) = 4 ∨ s.num (Reg.lnState n) = 6) := by
    rw [hp, hs]
    decide
  exact (if_neg hlooks).trans (congrArg done (if_pos hs))

/-- A wake with its settings kept and its transmitter active may end in a lock, up to 2.5 ms after it began (R481, R482). -/
theorem State.mayLock_waking {ppm w : Nat} (hppm : ppm ≤ 25000) (hs : s.num (Reg.lnState n) = 5) (ha : (s.lane n).txActive = true)
    (hk : (s.lane n).kept = true) (hw : (s.lane n).wake = some w) (ht : s.time.elapsed ≤ w + 2500000) : s.mayLock n ppm = true := by
  unfold State.mayLock
  dsimp only
  rw [decide_eq_true hppm, hs, ha, hk, hw]
  exact decide_eq_true ht

/-- Once the transmitter is active, a lock ends the wake (R481). -/
theorem State.laneLockedTo_txActive (slow : Bool) (ppm snr : Nat) (ha : (s.lane n).txActive = true) : s.laneLockedTo n slow ppm snr
      = (((s.setLane n { s.lane n with kept := false, signal := true, wake := none }).setLaneState n 3).putN
          (Reg.lnRxPpm n) (toI24 (if slow then -(ppm : Int) else ppm))).putN (Reg.lnSnr n) (min snr 65535) := by
  unfold State.laneLockedTo
  rw [if_pos ha]

/-- A wake with no equaliser kept goes on as NO_SIGNAL once its transmitter is active, and was not slow (R482). -/
theorem exec_laneWakeTimeout_unkept {w : Nat} (hw : (s.lane n).wake = some w) (ha : (s.lane n).txActive = true)
    (hk : (s.lane n).kept = false) (hs : s.num (Reg.lnState n) = 5) : exec (.laneWakeTimeout n) s
      = done ((s.setLane n { s.lane n with kept := false, wake := none, signal := false }).setLaneState n 1) := by
  show execLaneWakeTimeout n s = _
  unfold execLaneWakeTimeout
  dsimp only
  rw [hw]
  dsimp only
  rw [if_pos ⟨ha, .inl hk⟩, if_neg (ne_true_of_eq_false hk), hs, beq_self_eq_true, if_pos rfl, Bool.not_true, Bool.and_false]

end Lane

/-- A fault that goes on only stores which it is now (R478, R491). -/
theorem exec_refFaultDeclared_again {s : State} {b : Nat} (absent : Bool) (hb : b < s.nBolts) (hr : s.num (Reg.bRefState b) ≠ 0) :
    exec (.refFaultDeclared b absent) s = done (s.putN (Reg.bRefState b) (if absent then 1 else 2)) :=
  (if_neg (Nat.not_le.mpr hb)).trans (if_pos hr)

section LaneObjects
variable {s : State} {k v : Nat}

/-- Neither a STOPPED lane nor one asleep has anything to put to sleep (R480, R483). -/
theorem State.sleepEff_stored (hk : k < 128) (hs : s.num (Reg.lnState k) = 0 ∨ s.num (Reg.lnState k) = 4) :
    s.sleepEff k 1 = okay (s.putN (Reg.lnSleep k) 1) := by
  unfold State.sleepEff
  rw [if_neg (Nat.not_le.mpr hk)]
  dsimp only
  rw [State.lnState_putN_lnSleep, if_pos rfl, if_pos hs]

theorem State.ffeEff_refused (hv : 16 < v / 65536 % 64 ∨ 24 < v / 256 % 64) : s.ffeEff k v = (s, .abort 0x130001) := if_pos hv

end LaneObjects

/-- Settles O32: each event by the equation of its case; a lock by what lets it come, from an acquisition or from a wake. The levels
and polynomials that a checker compares by, the fault that changes its kind without being counted again, and the peaking shown
during a search are the model's choices (log entries 102, 110 and 115). -/
theorem laneEventsComplete : Obligations.LaneEventsComplete := by
  unfold Obligations.LaneEventsComplete
  refine ⟨?acquires, ?noted, ?signalLost, ?lockAcquired, ?lockWoken, ?acqTimeout, ?lockLost, ?txActive, ?wakeSlow, ?wakeUnkept,
    ?refFault, ?refKind, ?refCleared, ?patternLost, ?pattern⟩
  case acquires => exact fun s n hp hs => completes_of_done (exec_laneSignalDetected_acquires hp hs)
  case noted => exact fun s n hp hs => completes_of_done (exec_laneSignalDetected_noted hp hs)
  case signalLost => exact fun s n hp hs => completes_of_done (exec_laneSignalLost hp hs)
  case lockAcquired =>
    exact fun s n slow ppm snr hppm hs hlo hhi => completes_of_done (exec_laneLocked slow snr (State.mayLock_acquiring hppm hs hlo hhi))
  case lockWoken =>
    intro s n w slow ppm snr hppm hs ha hk hw ht
    have hlock := exec_laneLocked slow snr (State.mayLock_waking hppm hs ha hk hw ht)
    exact completes_of_done (hlock.trans (congrArg done (State.laneLockedTo_txActive slow ppm snr ha)))
  case acqTimeout => exact fun s n hs ht => completes_of_done (exec_laneAcqTimeout hs ht)
  case lockLost => exact fun s n hs => completes_of_done (exec_laneLockLost hs)
  case txActive => exact fun s n w hw ha ht => completes_of_done (exec_laneWakeTxActive hw ha ht)
  case wakeSlow => exact fun s n w hw ha hk hs ht hn => completes_of_done (exec_laneWakeTimeout_kept hw ha hk hs ht hn)
  case wakeUnkept => exact fun s n w hw ha hk hs => completes_of_done (exec_laneWakeTimeout_unkept hw ha hk hs)
  case refFault => exact fun s b absent hb hr => completes_of_done (exec_refFaultDeclared_first absent hb hr)
  case refKind => exact fun s b absent hb hr => completes_of_done (exec_refFaultDeclared_again absent hb hr)
  case refCleared => exact fun s b hb hr => completes_of_done (exec_refFaultCleared hb hr)
  case patternLost => exact fun s n before levels hp hs => completes_of_done (exec_patternCheckerSync_lost hp hs)
  case pattern => exact fun s n before levels hp hs hl => completes_of_done (exec_patternCheckerSync_compares hp hs hl)

/-- Settles O33: each write by the case of its effect, with MAIN modulo 64 as the model reads R466 (log entry 122). -/
theorem laneCommandsComplete : Obligations.LaneCommandsComplete := by
  unfold Obligations.LaneCommandsComplete
  refine ⟨?sleep, ?stored, ?wake, ?ffe, ?ffeBad, ?ctle⟩
  case sleep => exact fun s n k hk h hs => answers_of_write rfl h (State.sleepEff_locked hk hs)
  case stored => exact fun s n k hk h hs => answers_of_write rfl h (State.sleepEff_stored hk hs)
  case wake => exact fun s n k hk h hs => answers_of_write rfl h (State.sleepEff_wake hk hs)
  case ffe => exact fun s n k v h hpre hpost => answers_lnFfe h hpre hpost
  case ffeBad => exact fun s n k v h hv => answers_of_write rfl h (State.ffeEff_refused hv)
  case ctle => exact fun s n k v h hv => answers_lnCtle h hv

end Sys2Proof.Machine
end

section
/-! PROOFS. A nanosecond of idling (R527, R530), and device time complete: TIME_SET, slews, the pulse output, timestamp inputs (R529,
R533, R538 to R541, R552, R553). Most cases have their equations where alarms and device time are. -/

namespace Sys2Proof.Machine

/-- Settles O2: `step` looks for a command at the front of the queue and finds none. That what it does then is one nanosecond of
idling is the model's choice (log entry 2). -/
theorem stepIdles : Obligations.StepIdles := by
  unfold Obligations.StepIdles
  intro s hempty
  unfold step
  rw [hempty]

/-! Timestamp inputs (R538, R539) -/

section Inputs
variable {s : State} {k v lasts : Nat} {rising half : Bool} {x : TsInput}

/-- An edge less than 2 ns before the next does not count; it waits as a glitch for the edge that ends it (R538). -/
theorem TsInput.filter_short (hl : lasts < 4) :
    x.filter rising lasts = ({ x with glitch := if x.glitch = some (!rising) then none else some rising }, false) := by
  unfold TsInput.filter
  dsimp only
  rw [if_pos hl]
  simp only [beq_iff_eq]

theorem TsInput.crowded_eq_true {now : Nat} (h : ∃ t, x.last = some t ∧ now < t + 100) : x.crowded now = true := by
  obtain ⟨t, hlast, hnear⟩ := h
  unfold TsInput.crowded
  rw [hlast]
  exact decide_eq_true hnear

/-- The state with an edge queued on input k, told by an event where the queue was empty (R539, R553). -/
def State.edgeQueued (s : State) (k : Nat) (x : TsInput) (rising half : Bool) : State :=
  let y : TsInput := { queue := x.queue ++ [(x.nextSeq, rising, s.now96, half)], nextSeq := (x.nextSeq + 1) % 8388608,
                       last := some s.time.elapsed }
  let t : State := { s with tsIn := (s.tsIn.put k { x with glitch := none }).put k y }
  if x.queue.isEmpty then t.raise 0x060002 ((0x1210 + k) * 256) (k * 4194304) else t

/-- An edge that counts, on an input that listens for it, is lost where it comes too soon or finds the queue full, and queued
otherwise (R538, R539). -/
theorem exec_tsInEdge_counts (half : Bool) (hk : k < 4)
    (he : (if rising then s.num (Reg.tsiEdge k) % 2 else s.num (Reg.tsiEdge k) / 2) ≠ 0)
    (hx : s.tsIn.getD k {} = x) (hl : 4 ≤ lasts) (hg : x.glitch ≠ some (!rising)) :
    exec (.tsInEdge k rising ⟨half, lasts⟩) s
      = if (x.crowded s.time.elapsed || decide (16 ≤ x.queue.length)) = true then
          done (({ s with tsIn := s.tsIn.put k { x with glitch := none } } : State).count (Reg.tsiLost k))
        else done (s.edgeQueued k x rising half) := by
  have hlistens : ¬ (true = false ∨ if rising = true then s.num (Reg.tsiEdge k) % 2 = 0 else s.num (Reg.tsiEdge k) / 2 = 0) := by
    cases rising <;> simpa using he
  show execTsInEdge k rising ⟨half, lasts⟩ s = _
  unfold execTsInEdge
  dsimp only
  rw [if_neg (Nat.not_le.mpr hk), hx, TsInput.filter_counts hl hg]
  exact if_neg hlistens

theorem exec_tsInEdge_room (half : Bool) (hk : k < 4)
    (he : (if rising then s.num (Reg.tsiEdge k) % 2 else s.num (Reg.tsiEdge k) / 2) ≠ 0)
    (hx : s.tsIn.getD k {} = x) (hl : 4 ≤ lasts) (hg : x.glitch ≠ some (!rising))
    (hc : ∀ t, x.last = some t → t + 100 ≤ s.time.elapsed) (hq : x.queue.length < 16) :
    exec (.tsInEdge k rising ⟨half, lasts⟩) s = done (s.edgeQueued k x rising half) := by
  rw [exec_tsInEdge_counts half hk he hx hl hg, TsInput.crowded_eq_false hc, decide_eq_false (Nat.not_le.mpr hq)]
  rfl

theorem exec_tsInEdge_lost (half : Bool) (hk : k < 4)
    (he : (if rising then s.num (Reg.tsiEdge k) % 2 else s.num (Reg.tsiEdge k) / 2) ≠ 0)
    (hx : s.tsIn.getD k {} = x) (hl : 4 ≤ lasts) (hg : x.glitch ≠ some (!rising))
    (hfull : 16 ≤ x.queue.length ∨ ∃ t, x.last = some t ∧ s.time.elapsed < t + 100) :
    exec (.tsInEdge k rising ⟨half, lasts⟩) s
      = done (({ s with tsIn := s.tsIn.put k { x with glitch := none } } : State).count (Reg.tsiLost k)) := by
  have hlost : (x.crowded s.time.elapsed || decide (16 ≤ x.queue.length)) = true :=
    Bool.or_eq_true_iff.mpr (hfull.symm.imp TsInput.crowded_eq_true decide_eq_true)
  rw [exec_tsInEdge_counts half hk he hx hl hg, if_pos hlost]

theorem exec_tsInEdge_short (rising half : Bool) (hk : k < 4) (hl : lasts < 4) : exec (.tsInEdge k rising ⟨half, lasts⟩) s
      = done { s with tsIn := s.tsIn.put k { s.tsIn.getD k {} with
          glitch := if (s.tsIn.getD k {}).glitch = some (!rising) then none else some rising } } := by
  show execTsInEdge k rising ⟨half, lasts⟩ s = _
  unfold execTsInEdge
  dsimp only
  rw [if_neg (Nat.not_le.mpr hk), TsInput.filter_short hl]
  exact if_pos (.inl rfl)

/-- Any number but that of the head, and any on an empty queue, is refused (R539). -/
theorem State.tsiPopEff_other (hv : ∀ r ∈ (s.tsIn.getD k {}).queue.head?, r.1 ≠ v) : s.tsiPopEff k v = (s, .abort 0x130005) := by
  unfold State.tsiPopEff
  dsimp only
  cases hq : (s.tsIn.getD k {}).queue with
  | nil => rfl
  | cons r rest => exact if_neg (hv r (by rw [hq]; rfl))

end Inputs

/-- Settles O35: each host write by its effect, each event by the equation of its case. That a step of device time ends the second
under way, a forward one judging it for DEG, and that the pulse rises only where time has just run over its second, are the model's
choices (log entries 116 and 84); a certificate out of its window ends with the step (R622). -/
theorem deviceTimeCommandsComplete : Obligations.DeviceTimeCommandsComplete := by
  unfold Obligations.DeviceTimeCommandsComplete
  refine ⟨?set, ?adj, ?freq, ?slew, ?rise, ?fall, ?queued, ?lost, ?short, ?popped, ?refused, ?errMax⟩
  case set => exact fun s n v words hn hv hr => completes_of_done (exec_timeSet hn hv hr)
  case adj => exact fun s n v h => answers_of_write rfl h rfl
  case freq => exact fun s n v h => answers_of_write rfl h rfl
  case slew => exact fun s h0 h1 => completes_of_done (exec_slewComplete h0 h1)
  case rise => exact fun s he hd hh => completes_of_done (exec_ppsRise he hd hh)
  case fall => exact fun s he => completes_of_done (exec_ppsFall he)
  case queued =>
    exact fun s k lasts rising half x hk he hx hl hg hc hq => completes_of_done (exec_tsInEdge_room half hk he hx hl hg hc hq)
  case lost =>
    exact fun s k lasts rising half x hk he hx hl hg hfull => completes_of_done (exec_tsInEdge_lost half hk he hx hl hg hfull)
  case short => exact fun s k lasts rising half hk hl => completes_of_done (exec_tsInEdge_short rising half hk hl)
  case popped => exact fun s n k v y rest h hq => answers_of_write rfl h (State.tsiPopEff_head hq)
  case refused => exact fun s n k v h hv => answers_of_write rfl h (State.tsiPopEff_other hv)
  case errMax => exact fun s n p h => answers_of_write rfl h (State.ranged_ok s _ 0 rfl)

end Sys2Proof.Machine
end

section
/-! PROOFS. The I3C target (R562 to R566): transfers of its own in SDR and HDR-DDR, in-band interrupts, and the common command codes. -/

namespace Sys2Proof.Machine

section I3c
variable {s : State} {bytes : Octets} {len c dyn : Nat} {b : List Nat}

/-! Transfers of its own (R562, R563, R565) -/

theorem State.privateTransfer_sdr (h : s.i3cAddressed = true) (own : Nat) (f : State → State) :
    s.privateTransfer none own f = f s.leaveHdr := by
  unfold State.privateTransfer
  rw [h, if_neg Bool.noConfusion]

theorem State.privateTransfer_hdr (h : s.i3cAddressed = true) (hh : s.i3c.hdr = true) (own : Nat) (f : State → State) :
    s.privateTransfer (some own) own f = f s := by
  unfold State.privateTransfer
  rw [h, hh, if_neg Bool.noConfusion]
  exact if_pos rfl

/-- In HDR-DDR mode any other command code than the transfer's own is NACKed (R563). -/
theorem State.privateTransfer_otherCode {own : Nat} (h : s.i3cAddressed = true) (hh : s.i3c.hdr = true) (hc : c ≠ own)
    (f : State → State) : s.privateTransfer (some c) own f = s.emit .nack := by
  unfold State.privateTransfer
  rw [h, hh, if_neg Bool.noConfusion]
  exact if_neg hc

/-- What a write does once the target takes its transfer: NACKed while a request waits, taken in otherwise. -/
def State.i3cWriteTaken (s : State) (bytes : Octets) : State :=
  if bytes = [] then s else if (s.session 0).waiting ≠ [] then s.emit .nack else s.i3cWrite bytes

theorem exec_i3cPrivateWrite (s : State) (code : Option Nat) (bytes : Octets) : exec (.i3cPrivateWrite ⟨code, bytes⟩) s
      = done (s.privateTransfer code 0x01 (fun t => t.i3cWriteTaken bytes)) := rfl

theorem State.i3cWriteTaken_free (hb : bytes ≠ []) (hw : (s.session 0).waiting = []) : s.i3cWriteTaken bytes = s.i3cWrite bytes :=
  (if_neg hb).trans (if_neg (not_not.mpr hw))

theorem State.i3cWriteTaken_busy (hb : bytes ≠ []) (hw : (s.session 0).waiting ≠ []) : s.i3cWriteTaken bytes = s.emit .nack :=
  (if_neg hb).trans (if_pos hw)

theorem exec_i3cPrivateWrite_sdr (h : s.i3cAddressed = true) (hb : bytes ≠ []) (hw : (s.session 0).waiting = []) :
    exec (.i3cPrivateWrite ⟨none, bytes⟩) s = done (s.leaveHdr.i3cWrite bytes) := by
  rw [exec_i3cPrivateWrite, State.privateTransfer_sdr h, State.i3cWriteTaken_free (s := s.leaveHdr) hb hw]

theorem exec_i3cPrivateWrite_hdr (h : s.i3cAddressed = true) (hh : s.i3c.hdr = true) (hb : bytes ≠ [])
    (hw : (s.session 0).waiting = []) : exec (.i3cPrivateWrite ⟨some 0x01, bytes⟩) s = done (s.i3cWrite bytes) := by
  rw [exec_i3cPrivateWrite, State.privateTransfer_hdr h hh, State.i3cWriteTaken_free hb hw]

theorem exec_i3cPrivateWrite_busy (h : s.i3cAddressed = true) (hb : bytes ≠ []) (hw : (s.session 0).waiting ≠ []) :
    exec (.i3cPrivateWrite ⟨none, bytes⟩) s = done (s.leaveHdr.emit .nack) := by
  rw [exec_i3cPrivateWrite, State.privateTransfer_sdr h, State.i3cWriteTaken_busy (s := s.leaveHdr) hb hw]

/-- A part of a request that leaves it unfinished is kept with what came before (R565). -/
theorem State.partialMsg_i3cWrite (hm : msgWhole ((s.session 0).partialMsg ++ bytes) = false) :
    ((s.i3cWrite bytes).session 0).partialMsg = (s.session 0).partialMsg ++ bytes := by
  unfold State.i3cWrite
  dsimp only
  rw [hm, if_neg Bool.false_ne_true, State.session_setSession, if_pos rfl, if_neg Bool.false_ne_true]

theorem State.i3cRead_ready (hw : (s.session 0).waiting = []) (hu : (s.session 0).unread ≠ []) : s.i3cRead len
      = (s.setSession 0 { s.session 0 with unread := (s.session 0).unread.drop (min len s.i3c.mrl) }).emit
          (.i3c (((s.session 0).unread.take (min len s.i3c.mrl)).map BitVec.toNat)) :=
  if_neg (fun h => h.elim (· hw) hu)

theorem exec_i3cPrivateRead (s : State) (code : Option Nat) (len : Nat) : exec (.i3cPrivateRead ⟨code, len⟩) s
      = done (s.privateTransfer code 0x81 (fun t => t.i3cRead len)) := rfl

theorem exec_i3cPrivateRead_sdr (h : s.i3cAddressed = true) (hw : (s.session 0).waiting = []) (hu : (s.session 0).unread ≠ []) :
    exec (.i3cPrivateRead ⟨none, len⟩) s
      = done ((s.leaveHdr.setSession 0 { s.session 0 with unread := (s.session 0).unread.drop (min len s.i3c.mrl) }).emit
          (.i3c (((s.session 0).unread.take (min len s.i3c.mrl)).map BitVec.toNat))) := by
  rw [exec_i3cPrivateRead, State.privateTransfer_sdr h, State.i3cRead_ready (s := s.leaveHdr) hw hu]
  rfl

theorem exec_i3cPrivateRead_hdr (h : s.i3cAddressed = true) (hh : s.i3c.hdr = true) (hw : (s.session 0).waiting = [])
    (hu : (s.session 0).unread ≠ []) : exec (.i3cPrivateRead ⟨some 0x81, len⟩) s
      = done ((s.setSession 0 { s.session 0 with unread := (s.session 0).unread.drop (min len s.i3c.mrl) }).emit
          (.i3c (((s.session 0).unread.take (min len s.i3c.mrl)).map BitVec.toNat))) := by
  rw [exec_i3cPrivateRead, State.privateTransfer_hdr h hh, State.i3cRead_ready hw hu]

/-! In-band interrupts (R566) -/

theorem ibi_not_held (h : s.i3cAddressed = true) (hi : s.i3c.intEnabled = true) :
    ¬ (s.i3cAddressed = false ∨ s.i3c.intEnabled = false) := by
  rw [h, hi]
  exact fun hx => hx.elim Bool.noConfusion Bool.noConfusion

theorem exec_ibiAccepted_response (h : s.i3cAddressed = true) (hi : s.i3c.intEnabled = true) (hr : s.i3c.respIbi = some b) :
    exec .ibiAccepted s = done (({ s with i3c := { s.i3c with respIbi := none } } : State).emit (.ibi b)) := by
  show execIbiAccepted s = _
  unfold execIbiAccepted
  rw [if_neg (ibi_not_held h hi), hr]

theorem exec_ibiAccepted_event (h : s.i3cAddressed = true) (hi : s.i3c.intEnabled = true) (hr : s.i3c.respIbi = none)
    (he : s.i3c.ibi = some b) :
    exec .ibiAccepted s = done (({ s with i3c := { s.i3c with ibi := none } } : State).emit (.ibi b)) := by
  show execIbiAccepted s = _
  unfold execIbiAccepted
  rw [if_neg (ibi_not_held h hi), hr]
  dsimp only
  rw [he]

/-! Common command codes that set (R563 to R565) -/

theorem not_asleep (h : s.i3cAwake = true) : ¬ s.i3cAwake = false := by
  rw [h]
  exact Bool.noConfusion

theorem State.takeAddress_valid (h1 : 1 ≤ dyn) (h2 : dyn ≤ 127) : s.takeAddress dyn = s.putN Reg.i3cDynAddr dyn := if_pos ⟨h1, h2⟩

theorem exec_entdaa (h : s.i3cAwake = true) (h0 : s.num Reg.i3cDynAddr = 0) (h1 : 1 ≤ dyn) (h2 : dyn ≤ 127) : exec (.entdaa dyn) s
      = done ((s.leaveHdr.emit (.i3c ((natToBytes 6 s.provisionalId).map BitVec.toNat ++ [0x26, 0]))).putN Reg.i3cDynAddr dyn) :=
  (if_neg (not_asleep h)).trans ((if_neg (not_not.mpr h0)).trans (congrArg done (State.takeAddress_valid h1 h2)))

theorem exec_setdasa (h : s.i3cAwake = true) (h0 : s.num Reg.i3cDynAddr = 0) (h1 : 1 ≤ dyn) (h2 : dyn ≤ 127) :
    exec (.setdasa (0x58 + s.addrSel % 4) dyn) s = done (s.leaveHdr.putN Reg.i3cDynAddr dyn) :=
  (if_neg (not_asleep h)).trans
    ((if_neg (fun hx => hx.elim (· rfl) (· h0))).trans (congrArg done (State.takeAddress_valid h1 h2)))

theorem exec_rstdaa (h : s.i3cAwake = true) : exec .rstdaa s = done (s.leaveHdr.putN Reg.i3cDynAddr 0) := if_neg (not_asleep h)

theorem exec_enec (h : s.i3cAwake = true) (bits : Nat) : exec (.enec bits) s = done (s.leaveHdr.i3cEvents bits true) :=
  if_neg (not_asleep h)

theorem exec_disec (h : s.i3cAwake = true) (bits : Nat) : exec (.disec bits) s = done (s.leaveHdr.i3cEvents bits false) :=
  if_neg (not_asleep h)

theorem exec_setmwl (h : s.i3cAwake = true) (v : Nat) :
    exec (.setmwl v) s = done { s with i3c := { s.i3c with hdr := false, mwl := min v 3328 } } := if_neg (not_asleep h)

theorem exec_setmrl (h : s.i3cAwake = true) (v : Nat) :
    exec (.setmrl v) s = done { s with i3c := { s.i3c with hdr := false, mrl := min v 3328 } } := if_neg (not_asleep h)

theorem exec_enthdr0 (h : s.i3cAwake = true) : exec .enthdr0 s = done { s with i3c := { s.i3c with hdr := true } } :=
  if_neg (not_asleep h)

theorem exec_unsupportedCcc_direct (h : s.i3cAwake = true) (ha : s.num Reg.i3cDynAddr ≠ 0) (code : Nat) :
    exec (.unsupportedCcc code true) s = done (s.leaveHdr.emit .nack) := (if_neg (not_asleep h)).trans (if_pos ⟨rfl, ha⟩)

theorem exec_unsupportedCcc_broadcast (h : s.i3cAwake = true) (code : Nat) : exec (.unsupportedCcc code false) s = done s.leaveHdr :=
  (if_neg (not_asleep h)).trans (if_neg (fun hx => Bool.noConfusion hx.1))

/-! Common command codes that read (R563, R564) -/

/-- A direct read whose command gives these bytes sends them where the target holds an address. -/
theorem done_ccc {i : Instr} {u : State} (hi : exec i s = done (u.ccc b)) (h : u.i3cAddressed = true) :
    exec i s = done (u.leaveHdr.emit (.i3c b)) := hi.trans (congrArg done (if_pos h))

end I3c

/-- Settles O37: each transfer by its mode and its command code (R563), a write and a read by what the session holds. That a transfer
without a command code ends HDR mode is the model's choice (log entry 57). -/
theorem i3cTransfersComplete : Obligations.I3cTransfersComplete := by
  unfold Obligations.I3cTransfersComplete
  refine ⟨?write, ?busy, ?read, ?writeCode, ?readCode, ?response, ?event, ?writeHdr, ?readHdr⟩
  case write => exact fun s bytes h hb hw => completes_of_done (exec_i3cPrivateWrite_sdr h hb hw)
  case busy => exact fun s bytes h hb hw => completes_of_done (exec_i3cPrivateWrite_busy h hb hw)
  case read => exact fun s len h hw hu => completes_of_done (exec_i3cPrivateRead_sdr h hw hu)
  case writeCode =>
    exact fun s c bytes h hh hc => completes_of_done (congrArg done (State.privateTransfer_otherCode h hh hc _))
  case readCode => exact fun s c len h hh hc => completes_of_done (congrArg done (State.privateTransfer_otherCode h hh hc _))
  case response => exact fun s b h hi hr => completes_of_done (exec_ibiAccepted_response h hi hr)
  case event => exact fun s b h hi hr he => completes_of_done (exec_ibiAccepted_event h hi hr he)
  case writeHdr => exact fun s bytes h hh hb hw => completes_of_done (exec_i3cPrivateWrite_hdr h hh hb hw)
  case readHdr => exact fun s len h hh hw hu => completes_of_done (exec_i3cPrivateRead_hdr h hh hw hu)

/-- Settles O38: each code by its equation on a target that is awake. Which bits of ENEC and DISEC stand for which events, and a
common command code ending HDR mode, are the model's choices (log entry 57). -/
theorem i3cAddressingCompletes : Obligations.I3cAddressingCompletes := by
  unfold Obligations.I3cAddressingCompletes
  refine ⟨?entdaa, ?setdasa, ?rstdaa, ?enec, ?disec, ?setmwl, ?setmrl, ?enthdr0, ?direct, ?broadcast⟩
  case entdaa => exact fun s dyn h h0 h1 h2 => completes_of_done (exec_entdaa h h0 h1 h2)
  case setdasa => exact fun s dyn h h0 h1 h2 => completes_of_done (exec_setdasa h h0 h1 h2)
  case rstdaa => exact fun s h => completes_of_done (exec_rstdaa h)
  case enec => exact fun s bits h => completes_of_done (exec_enec h bits)
  case disec => exact fun s bits h => completes_of_done (exec_disec h bits)
  case setmwl => exact fun s v h => completes_of_done (exec_setmwl h v)
  case setmrl => exact fun s v h => completes_of_done (exec_setmrl h v)
  case enthdr0 => exact fun s h => completes_of_done (exec_enthdr0 h)
  case direct => exact fun s code h ha => completes_of_done (exec_unsupportedCcc_direct h ha code)
  case broadcast => exact fun s code h => completes_of_done (exec_unsupportedCcc_broadcast h code)

/-- Settles O39: each code is the answer of a direct read (`State.ccc`). The third byte of GETMRL, the first of GETCAPS, and free bytes
where no rule states one are the model's choices (log entry 57). -/
theorem i3cReadsComplete : Obligations.I3cReadsComplete := by
  unfold Obligations.I3cReadsComplete
  refine ⟨?getmwl, ?getmrl, ?getpid, ?getbcr, ?getdcr, ?getstatus, ?getmxds, ?getcaps⟩
  case getmwl => exact fun s h => completes_of_done (done_ccc rfl h)
  case getmrl => exact fun s h => completes_of_done (done_ccc rfl h)
  case getpid => exact fun s h => completes_of_done (done_ccc rfl h)
  case getbcr => exact fun s h => completes_of_done (done_ccc rfl h)
  case getdcr => exact fun s h => completes_of_done (done_ccc rfl h)
  case getstatus => exact fun s h => completes_of_done (done_ccc (u := { s with free := s.free + 1 }) rfl h)
  case getmxds => exact fun s h => completes_of_done (done_ccc (u := { s with free := s.free + 1 }) rfl h)
  case getcaps => exact fun s h => completes_of_done (done_ccc (u := { s with free := s.free + 1 }) rfl h)

end Sys2Proof.Machine
end

section
/-! PROOFS. The networks (R569 to R572, R722, R723): frames of the field network, of a port and of the mesh, the transmission of the
field network, and, with the I3C target, the state that each command leaves. -/

namespace Sys2Proof.Machine

section Net
variable {s : State} {fr : Octets} {rest : List Octets} {r p m : Nat}

/-! Frames received (R570 to R572, R722, R723) -/

/-- Whether a frame of the field network that came with a right FCS is one of Silsy's (R570). -/
structure State.T1sHears (s : State) (fr : Octets) : Prop where
  ready   : s.phase = .ready
  enabled : s.num Reg.t1sEnable ≠ 0
  etype   : fieldAt fr 12 2 = s.num Reg.silsyEtype

theorem State.T1sHears.not_dropped (h : s.T1sHears fr) :
    ¬ (s.phase ≠ .ready ∨ s.num Reg.t1sEnable = 0 ∨ true = false ∨ fieldAt fr 12 2 ≠ s.num Reg.silsyEtype) := by
  obtain ⟨hready, henabled, hetype⟩ := h
  simp only [hready, henabled, hetype, ne_eq, not_true_eq_false, Bool.true_eq_false, or_self, not_false_eq_true]

theorem exec_t1sFrameReceived_own (h : s.T1sHears fr) (hd : frameDst fr = s.otp.mgmtMac.toNat) :
    exec (.t1sFrameReceived fr true) s = done (s.silsyIn (.t1s (frameSrc fr)) false (fr.drop 14)) :=
  (if_neg h.not_dropped).trans (if_pos hd)

theorem exec_t1sFrameReceived_broadcast (h : s.T1sHears fr) (hd : frameDst fr ≠ s.otp.mgmtMac.toNat)
    (hb : frameDst fr = 0xFFFFFFFFFFFF) (hv : fieldAt (fr.drop 14) 0 1 = 1) :
    exec (.t1sFrameReceived fr true) s = done (s.silsyIn (.t1s (frameSrc fr)) true (fr.drop 14)) :=
  (if_neg h.not_dropped).trans ((if_neg hd).trans ((if_pos hb).trans (if_pos hv)))

theorem exec_t1sFrameReceived_mesh (h : s.T1sHears fr) (hd : frameDst fr ≠ s.otp.mgmtMac.toNat)
    (hb : frameDst fr = 0xFFFFFFFFFFFF) (hv : fieldAt (fr.drop 14) 0 1 = 2) : exec (.t1sFrameReceived fr true) s
      = done (s.rateLimited (fun u => u.meshHost (.t1s (frameSrc fr)) (fr.drop 14))) :=
  (if_neg h.not_dropped).trans ((if_neg hd).trans ((if_pos hb).trans ((if_neg (by rw [hv]; decide)).trans (if_pos hv))))

theorem exec_t1sFrameReceived_badFcs (s : State) (fr : Octets) : exec (.t1sFrameReceived fr false) s = done s :=
  if_pos (.inr (.inr (.inl rfl)))

theorem exec_meshFrameReceived (tagged : Bool) (hb : s.silsyBroadcast fr = true) (hv : silsyVersion fr = 2)
    (hk : s.kind p = 3 ∨ s.kind p = 4) : exec (.meshFrameReceived p tagged fr) s = done (s.inbandIn p fr tagged) :=
  if_pos ⟨hb, hv, hk⟩

theorem meshHost_not_dropped (hp : s.phase = .ready) (hv : fieldAt fr 0 1 = 2) : ¬ (s.phase ≠ .ready ∨ fieldAt fr 0 1 ≠ 2) :=
  fun h => h.elim (· hp) (· hv)

theorem exec_meshHostFrame_t1s (hp : s.phase = .ready) (hv : fieldAt fr 0 1 = 2) (he : s.num Reg.t1sEnable ≠ 0) :
    exec (.meshHostFrame (.t1s m) fr) s = done (s.rateLimited (fun u => u.meshHost (.t1s m) fr)) :=
  (if_neg (meshHost_not_dropped hp hv)).trans (if_neg he)

theorem exec_meshHostFrame_port (q : Option (Nat × Nat)) (x : Bool) (hp : s.phase = .ready) (hv : fieldAt fr 0 1 = 2)
    (hn : p < s.nPorts) (hk : s.kind p = 1 ∨ s.kind p = 2) : exec (.meshHostFrame (.inband p m q x) fr) s
      = done (s.admitInband p (fun u => u.meshHost (.inband p m q x) fr)) :=
  (if_neg (meshHost_not_dropped hp hv)).trans
    (if_neg (fun h => h.elim (Nat.not_le.mpr hn) (fun hx => hk.elim hx.1 hx.2)))

/-! Transmission on the field network (R569, R570) -/

theorem exec_t1sCollision (hp : s.phase = .ready) (hb : s.t1s.backoff = none) : exec .t1sCollision s = done s.t1sCollides :=
  if_neg (fun h => h.elim (· hp) (by rw [hb]; exact Bool.noConfusion))

/-- The end of a backoff under way: the frame goes out where the slot is won, and collides again otherwise. -/
theorem exec_t1sBackoffExpiry (won : Bool) (hp : s.phase = .ready) (hb : s.t1s.backoff = some r) :
    exec (.t1sBackoffExpiry won) s = if won then done s.t1sSent else done s.t1sCollides :=
  if_neg (fun h => h.elim (· hp) (by rw [hb]; exact Bool.noConfusion))

theorem State.t1sSent_first (hq : s.t1s.queue = fr :: rest) : s.t1sSent
      = ({ s with t1s := { s.t1s with queue := rest, attempts := 0, backoff := none } } : State).emit (.t1s fr) := by
  unfold State.t1sSent
  rw [hq]

theorem exec_t1sBackoffExpiry_won (hp : s.phase = .ready) (hb : s.t1s.backoff = some r) (hq : s.t1s.queue = fr :: rest) :
    exec (.t1sBackoffExpiry true) s
      = done (({ s with t1s := { s.t1s with queue := rest, attempts := 0, backoff := none } } : State).emit (.t1s fr)) :=
  (exec_t1sBackoffExpiry true hp hb).trans (congrArg done (State.t1sSent_first hq))

/-- A collision before the sixteenth counts one attempt more (R569). -/
theorem State.attempts_t1sCollides (hq : s.t1s.queue ≠ []) (ha : s.t1s.attempts + 1 < 16) :
    s.t1sCollides.t1s.attempts = s.t1s.attempts + 1 := by
  unfold State.t1sCollides
  split
  · exact absurd ‹_› hq
  · exact congrArg (fun u : State => u.t1s.attempts) (if_neg (Nat.not_le.mpr ha))

theorem exec_plainReplyDelayExpiry (hq : s.t1s.plain = fr :: rest) : exec .plainReplyDelayExpiry s
      = done (({ s with t1s := { s.t1s with plain := rest } } : State).sendT1s fr) := by
  show execPlainReplyDelayExpiry s = _
  unfold execPlainReplyDelayExpiry
  rw [hq]

theorem State.plain_sendT1s (s : State) (fr : Octets) : (s.sendT1s fr).t1s.plain = s.t1s.plain := by
  unfold State.sendT1s
  split <;> rfl

end Net

/-- Settles O41: each frame by the equation of its case. That each frame that carries a message takes a token,
so that a mesh frame of a host on the field network meets the in-band rate limit too, and when a queued frame is sent are the model's
choices (log entries 111 and 66). The statement's VLAN tag on a port is a number cast to a pair; `exec_meshHostFrame_port` holds of
every tag. -/
theorem fieldNetworkCompletes : Obligations.FieldNetworkCompletes := by
  unfold Obligations.FieldNetworkCompletes
  refine ⟨?own, ?broadcast, ?mesh, ?badFcs, ?collision, ?won, ?lost, ?plain, ?inband, ?line, ?hostT1s, ?hostPort⟩
  case own => exact fun s fr hp he ht hd => completes_of_done (exec_t1sFrameReceived_own ⟨hp, he, ht⟩ hd)
  case broadcast =>
    exact fun s fr hp he ht hd hb hv => completes_of_done (exec_t1sFrameReceived_broadcast ⟨hp, he, ht⟩ hd hb hv)
  case mesh => exact fun s fr hp he ht hd hb hv => completes_of_done (exec_t1sFrameReceived_mesh ⟨hp, he, ht⟩ hd hb hv)
  case badFcs => exact fun s fr => completes_of_done (exec_t1sFrameReceived_badFcs s fr)
  case collision => exact fun s hp hb => completes_of_done (exec_t1sCollision hp hb)
  case won => exact fun s r fr rest hp hb hq => completes_of_done (exec_t1sBackoffExpiry_won hp hb hq)
  case lost => exact fun s r hp hb => completes_of_done (exec_t1sBackoffExpiry false hp hb)
  case plain => exact fun s fr rest hq => completes_of_done (exec_plainReplyDelayExpiry hq)
  case inband => exact fun s p fr tagged => completes_of_done rfl
  case line => exact fun s p fr tagged hb hv hk => completes_of_done (exec_meshFrameReceived tagged hb hv hk)
  case hostT1s => exact fun s m fr hp hv he => completes_of_done (exec_meshHostFrame_t1s hp hv he)
  case hostPort => exact fun s p m q x fr hp hv hn hk => completes_of_done (exec_meshHostFrame_port q x hp hv hn hk)

/-! What frames on their way leave of the units of the management buses -/

/-- A command that completes with u answers a next state of which all holds that follows from u's frames moving on. -/
theorem Completes.holds {c : Instr} {s u : State} {P : State → Prop} (h : Completes c s u) (hp : ∀ t, Follows u t → P t) :
    ∃ t, exec c s = .next t ∧ P t := by
  obtain ⟨t, e, f⟩ := h
  exact ⟨t, e, hp t f⟩

/-- Of the I3C target only the IBI of an event moves with the event queue (R566). -/
theorem Follows.i3c {s t : State} (h : Follows s t) : { t.i3c with ibi := none } = { s.i3c with ibi := none } :=
  (congrArg State.i3c h.still :)

/-- Of the field network only the queue moves. -/
theorem Follows.t1s {s t : State} (h : Follows s t) : { t.t1s with queue := [] } = { s.t1s with queue := [] } :=
  (congrArg State.t1s h.still :)

theorem Follows.partialMsg {s t : State} (h : Follows s t) (n : Nat) : (t.session n).partialMsg = (s.session n).partialMsg :=
  (congrArg Session.partialMsg (h.session n) :)

/-- Settles O58: the fields named by what frames on their way do not move, the wire by what it keeps, the next state itself by the
equation of the command. What these commands change where the rules leave it free is the model's choice (log entries 57 and 66). -/
theorem i3cAndFieldNetworkAnswer : Obligations.I3cAndFieldNetworkAnswer := by
  unfold Obligations.I3cAndFieldNetworkAnswer
  refine ⟨?part, ?write, ?read, ?ibi, ?entdaa, ?setdasa, ?rstdaa, ?enec, ?disec, ?setmwl, ?setmrl, ?getmwl, ?getmrl, ?getpid, ?getbcr,
    ?getdcr, ?getstatus, ?getmxds, ?getcaps, ?enthdr0, ?direct, ?frame, ?won, ?attempt, ?collision, ?plain, ?inband⟩
  case part =>
    exact fun s bytes hm h hb hw => (completes_of_done (exec_i3cPrivateWrite_sdr h hb hw)).holds fun t f =>
      (f.partialMsg 0).trans (State.partialMsg_i3cWrite (s := s.leaveHdr) hm)
  case write => exact fun s bytes h hb hw => next_of_done (exec_i3cPrivateWrite_sdr h hb hw)
  case read => exact fun s len h hw hu => (completes_of_done (exec_i3cPrivateRead_sdr h hw hu)).wire List.mem_cons_self
  case ibi => exact fun s b h hi hr => (completes_of_done (exec_ibiAccepted_response h hi hr)).wire List.mem_cons_self
  case entdaa =>
    exact fun s dyn h h0 h1 h2 => (completes_of_done (exec_entdaa h h0 h1 h2)).holds fun t f =>
      (f.num (by decide)).trans (State.num_putN_same _ _ _)
  case setdasa =>
    exact fun s dyn h h0 h1 h2 => (completes_of_done (exec_setdasa h h0 h1 h2)).holds fun t f =>
      (f.num (by decide)).trans (State.num_putN_same _ _ _)
  case rstdaa =>
    exact fun s h => (completes_of_done (exec_rstdaa h)).holds fun t f => (f.num (by decide)).trans (State.num_putN_same _ _ _)
  case enec =>
    exact fun s bits h => (completes_of_done (exec_enec h bits)).holds fun t f =>
      (congrArg I3c.intEnabled f.i3c).trans (by cases hb : bit bits 0 <;> simp [State.i3cEvents, State.leaveHdr, hb])
  case disec =>
    exact fun s bits h => (completes_of_done (exec_disec h bits)).holds fun t f =>
      (congrArg I3c.intEnabled f.i3c).trans (by cases hb : bit bits 0 <;> simp [State.i3cEvents, State.leaveHdr, hb])
  case setmwl => exact fun s v h => (completes_of_done (exec_setmwl h v)).holds fun t f => congrArg I3c.mwl f.i3c
  case setmrl => exact fun s v h => (completes_of_done (exec_setmrl h v)).holds fun t f => congrArg I3c.mrl f.i3c
  case getmwl => exact fun s h => (completes_of_done (done_ccc rfl h)).wire List.mem_cons_self
  case getmrl => exact fun s h => (completes_of_done (done_ccc rfl h)).wire List.mem_cons_self
  case getpid => exact fun s h => (completes_of_done (done_ccc rfl h)).wire List.mem_cons_self
  case getbcr => exact fun s h => (completes_of_done (done_ccc rfl h)).wire List.mem_cons_self
  case getdcr => exact fun s h => (completes_of_done (done_ccc rfl h)).wire List.mem_cons_self
  case getstatus => exact fun s h => (completes_of_done (done_ccc (u := { s with free := s.free + 1 }) rfl h)).wire List.mem_cons_self
  case getmxds => exact fun s h => (completes_of_done (done_ccc (u := { s with free := s.free + 1 }) rfl h)).wire List.mem_cons_self
  case getcaps => exact fun s h => (completes_of_done (done_ccc (u := { s with free := s.free + 1 }) rfl h)).wire List.mem_cons_self
  case enthdr0 => exact fun s h => (completes_of_done (exec_enthdr0 h)).holds fun t f => congrArg I3c.hdr f.i3c
  case direct => exact fun s code h ha => (completes_of_done (exec_unsupportedCcc_direct h ha code)).wire List.mem_cons_self
  case frame => exact fun s fr hp he ht hd => next_of_done (exec_t1sFrameReceived_own ⟨hp, he, ht⟩ hd)
  case won => exact fun s r fr rest hp hb hq => (completes_of_done (exec_t1sBackoffExpiry_won hp hb hq)).wire List.mem_cons_self
  case attempt =>
    exact fun s hq ha hp hb => (completes_of_done (exec_t1sCollision hp hb)).holds fun t f =>
      (congrArg T1s.attempts f.t1s).trans (State.attempts_t1sCollides hq ha)
  case collision => exact fun s hp hb => next_of_done (exec_t1sCollision hp hb)
  case plain =>
    exact fun s fr rest hq => (completes_of_done (exec_plainReplyDelayExpiry hq)).holds fun t f =>
      (congrArg T1s.plain f.t1s).trans (State.plain_sendT1s _ fr)
  case inband => exact fun s p fr tagged => next_of_done rfl

end Sys2Proof.Machine
end

section
/-! PROOFS. Network sessions (R568, R571, R573, R577 to R582): the handshake, HELLO to AUTH_OK, and what each of its commands does
where it stands and where it is refused. -/

namespace Sys2Proof.Machine

/-! HELLO (R578, R581) -/

theorem State.num_putO_other (s : State) {k x : Key} (bs : Octets) (h : k ≠ x) : (s.putO k bs).num x = s.num x := by
  unfold State.num
  rw [State.rd_putO, if_neg h]

section Hello
variable {s u : State} {via : Via} {body : Octets} {m : Nat} {h : Handshake}

theorem exec_hello (hu : s.afterVia via = some u) (body : Octets) : exec (.hello via body) s = done (u.helloIn via body) :=
  congrArg done (State.admitVia_some hu _)

/-- The objects of session m written for the sender of a HELLO under credential c. -/
def State.sessionGiven (s : State) (via : Via) (c m : Nat) : State :=
  (((s.putN (Reg.sessState m) 1).putN (Reg.sessCred m) c).putO (Reg.sessPeer m) (natToBytes 6 (viaMac via))).putN (Reg.sessPort m)
    (viaPort via)

/-- The state with session m given to the sender of a HELLO, and the device's jobs for its answer queued (R578). -/
def State.helloTaken (s : State) (via : Via) (body : Octets) (m : Nat) : State :=
  let c := (body.getD 0 0).toNat
  let t := (s.sessionGiven via c m).setSession m
    { via := some via, hs := some { cred := c, body := body, reply := [], shared := [], sentAt := none, authSig := none } }
  { t with retort := { t.retort with queue := t.retort.queue ++ helloJobs m } }

/-- What a HELLO meets of R581: Hearth and the device are up, its credential holds SESSION, and a session is free. -/
structure State.Welcomes (s : State) (via : Via) (body : Octets) (m : Nat) : Prop where
  awake    : s.hearthBusy = false
  identity : s.hasIdentity = true
  valid    : s.lc ≠ 15
  enrolled : s.cred (body.getD 0 0).toNat ≠ none
  role     : s.credHas (body.getD 0 0).toNat 0 = true
  free     : s.freeSessionOf via = some m
  length   : body.length = 1233

theorem State.helloIn_taken (h : s.Welcomes via body m) : s.helloIn via body = s.helloTaken via body m := by
  have hidentity : ¬ (s.hasIdentity = false ∨ s.lc = 15) := fun hx => hx.elim (by rw [h.identity]; exact Bool.noConfusion) h.valid
  unfold State.helloIn
  dsimp only
  rw [h.awake, if_neg Bool.false_ne_true, if_neg hidentity, if_neg h.enrolled, h.role, if_neg Bool.noConfusion, h.free]
  dsimp only
  split
  · exact absurd h.length ‹_›
  · rfl

theorem State.num_sessState_helloTaken (s : State) (via : Via) (body : Octets) (m : Nat) :
    (s.helloTaken via body m).num (Reg.sessState m) = 1 := by
  have hother : ∀ i, 1 < i → Key.dev ((0x1110 + m) * 256 + i) ≠ Reg.sessState m := fun i hi => dev_ne (by omega)
  show (s.sessionGiven via (body.getD 0 0).toNat m).num (Reg.sessState m) = 1
  unfold State.sessionGiven
  rw [State.num_putN_other _ _ (hother 4 (by decide)), State.num_putO_other _ _ (hother 3 (by decide)),
    State.num_putN_other _ _ (hother 2 (by decide)), State.num_putN_same]

/-- The code of the first check of R581 that a HELLO fails, where it fails one. -/
def State.helloRefusal (s : State) (body : Octets) : Nat :=
  if s.hearthBusy = true then 0x170001 else if s.hasIdentity = false ∨ s.lc = 15 then 0x110003
  else if s.cred (body.getD 0 0).toNat = none then 0x140004
  else if s.credHas (body.getD 0 0).toNat 0 = false then 0x110004 else 0x180003

theorem State.helloIn_refused (h : s.hearthBusy = true ∨ s.hasIdentity = false ∨ s.lc = 15 ∨ s.cred (body.getD 0 0).toNat = none
      ∨ s.credHas (body.getD 0 0).toNat 0 = false ∨ s.freeSessionOf via = none) :
    s.helloIn via body = s.refuseFrame 0 (body.getD 0 0).toNat via (s.helloRefusal body) := by
  unfold State.helloIn State.helloRefusal
  dsimp only
  by_cases hbusy : s.hearthBusy = true
  · rw [if_pos hbusy, if_pos hbusy]
  rw [if_neg hbusy, if_neg hbusy]
  by_cases hidentity : s.hasIdentity = false ∨ s.lc = 15
  · rw [if_pos hidentity, if_pos hidentity]
  rw [if_neg hidentity, if_neg hidentity]
  by_cases hcred : s.cred (body.getD 0 0).toNat = none
  · rw [if_pos hcred, if_pos hcred]
  rw [if_neg hcred, if_neg hcred]
  by_cases hrole : s.credHas (body.getD 0 0).toNat 0 = false
  · rw [if_pos hrole, if_pos hrole]
  rw [if_neg hrole, if_neg hrole]
  have hnone : s.freeSessionOf via = none := by tauto
  rw [hnone]

/-! HELLO_REPLY (R578) -/

/-- HELLO_REPLY goes out once its jobs are done, where it has not gone out before. -/
theorem exec_helloReplySent (hp : s.phase = .ready) (hb : s.hearthBusy = false) (hn : s.netSession m 1 = true)
    (hj : s.jobsOf (.hello m) = false) (hv : (s.session m).via = some via) (hh : (s.session m).hs = some h) (ht : h.sentAt = none) :
    exec (.helloReplySent m) s = done (s.helloReply m via h) := by
  have hgo : ¬ (s.phase ≠ .ready ∨ s.hearthBusy = true ∨ s.netSession m 1 = false ∨ s.jobsOf (.hello m) = true) := by
    simp only [hp, hb, hn, hj, ne_eq, not_true_eq_false, Bool.false_eq_true, Bool.true_eq_false, or_self, not_false_eq_true]
  show execHelloReplySent m s = _
  unfold execHelloReplySent
  dsimp only
  rw [if_neg hgo, hv, hh]
  dsimp only
  rw [ht]
  rfl

end Hello

/-! AUTH, in its frames (R577, R578) -/

section Auth
variable {s : State} {via : Via} {b body : Octets} {n i : Nat} {h : Handshake}

/-- What a fragment brings a message to: the first begins it. -/
def State.joined (s : State) (n i : Nat) (b : Octets) : Octets := if i = 0 then b else (s.session n).partialMsg ++ b

/-- The fragment that comes next, one of the eight of a message, is neither counted as lost nor dropped (R577). -/
theorem fragment_not_lost (hi : i < 8) : ((i != 0 && (i != i || !true)) || (i == 0 && i != 0) || decide (8 ≤ i)) = false := by
  simp only [bne_self_eq_false, Bool.not_true, Bool.or_self, Bool.and_false, Bool.false_or, Bool.or_eq_false_iff, decide_eq_false_iff_not]
  exact ⟨by cases i <;> rfl, by omega⟩

theorem fragment_not_dropped (hi : i < 8) : ¬ (i ≠ 0 ∧ (i ≠ i ∨ False ∨ 8 ≤ i)) :=
  fun hx => hx.2.elim (· rfl) (fun hy => hy.elim id (Nat.not_le.mpr hi))

/-- The next fragment of a message, not the last. -/
theorem State.joinFragment_part (hi : i < 8) (hn : (s.session n).nextFrag = i) : s.joinFragment n i true b
      = (none, s.setSession n { s.session n with partialMsg := s.joined n i b, nextFrag := i + 1 }) := by
  have hidx : i % 128 = i := Nat.mod_eq_of_lt (by omega)
  unfold State.joinFragment
  simp only [hidx, hn, fragment_not_lost hi, decide_eq_false (show ¬ 128 ≤ i by omega), Bool.false_eq_true, Bool.true_eq_false, if_false]
  exact if_neg (fragment_not_dropped hi)

/-- The next fragment of a message, its last. -/
theorem State.joinFragment_last (hi : i < 8) (hn : (s.session n).nextFrag = i) : s.joinFragment n (128 + i) true b
      = (some (s.joined n i b), s.setSession n { s.session n with partialMsg := [], nextFrag := 0 }) := by
  have hidx : (128 + i) % 128 = i := by omega
  unfold State.joinFragment
  simp only [hidx, hn, fragment_not_lost hi, decide_eq_true (Nat.le_add_right 128 i), Bool.false_eq_true, Bool.true_eq_false,
    if_false, if_true]
  exact if_neg (fragment_not_dropped hi)

/-- The state with a fragment joined to the message of session n. -/
def State.fragmentKept (s : State) (n i : Nat) (b : Octets) : State :=
  s.setSession n { s.session n with partialMsg := s.joined n i b, nextFrag := i + 1 }

theorem State.session_fragmentKept (s : State) (n i : Nat) (b : Octets) : (s.fragmentKept n i b).session n
      = { s.session n with partialMsg := s.joined n i b, nextFrag := i + 1 } :=
  (State.session_setSession _ _ _ _).trans (if_pos rfl)

/-- The state with the message of session n taken out whole. -/
def State.messageTaken (s : State) (n : Nat) : State := s.setSession n { s.session n with partialMsg := [], nextFrag := 0 }

theorem State.session_messageTaken (s : State) (n : Nat) : (s.messageTaken n).session n
      = { s.session n with partialMsg := [], nextFrag := 0 } := (State.session_setSession _ _ _ _).trans (if_pos rfl)

theorem State.authFrame_part (hn : s.netSession n 1 = true) (hp : s.fromPeer n via = true) (hi : i < 8)
    (hx : (s.session n).nextFrag = i) : s.authFrame n via i b = s.fragmentKept n i b := by
  unfold State.authFrame
  rw [if_pos ⟨hn, hp⟩, State.joinFragment_part hi hx]
  rfl

theorem State.authFrame_last (hn : s.netSession n 1 = true) (hp : s.fromPeer n via = true) (hi : i < 8)
    (hx : (s.session n).nextFrag = i) : s.authFrame n via (128 + i) b = (s.messageTaken n).authIn n via (s.joined n i b) := by
  unfold State.authFrame
  rw [if_pos ⟨hn, hp⟩, State.joinFragment_last hi hx]
  rfl

/-- The state with the two signatures of an AUTH held and their verifications queued (R578). -/
def State.authQueued (s : State) (n : Nat) (h : Handshake) (body : Octets) : State :=
  let s := s.setSession n { s.session n with hs := some { h with authSig := some (body.take 64, body.drop 64) } }
  { s with retort := { s.retort with queue := s.retort.queue ++ [⟨.auth n, 2, [], [], []⟩, ⟨.auth n, 6, [], [], []⟩] } }

theorem State.hs_authQueued (s : State) (n : Nat) (h : Handshake) (body : Octets) :
    ((s.authQueued n h body).session n).hs = some { h with authSig := some (body.take 64, body.drop 64) } :=
  congrArg Session.hs ((State.session_setSession s n _ n).trans (if_pos rfl))

theorem peer_not_refused (hn : s.netSession n 1 = true) (hp : s.fromPeer n via = true) :
    ¬ (s.netSession n 1 = false ∨ s.fromPeer n via = false) := by
  rw [hn, hp]
  exact fun hx => hx.elim Bool.noConfusion Bool.noConfusion

theorem State.authIn_queued (hh : (s.session n).hs = some h) (hn : s.netSession n 1 = true) (hp : s.fromPeer n via = true)
    (ha : h.authSig = none) (hd : s.authDue h = true) (hl : body.length = 3373) : s.authIn n via body = s.authQueued n h body := by
  have hgood : ¬ (h.authSig.isSome = true ∨ s.authDue h = false ∨ body.length ≠ 3373) := by
    simp only [ha, hd, hl, Option.isSome_none, Bool.false_eq_true, Bool.true_eq_false, ne_eq, not_true_eq_false, or_self,
      not_false_eq_true]
  unfold State.authIn
  rw [hh]
  exact (if_neg (peer_not_refused hn hp)).trans (if_neg hgood)

theorem State.authIn_wrongLength (hh : (s.session n).hs = some h) (hn : s.netSession n 1 = true) (hp : s.fromPeer n via = true)
    (hl : body.length ≠ 3373) : s.authIn n via body = s.refuseHandshake n 0x150010 := by
  unfold State.authIn
  rw [hh]
  exact (if_neg (peer_not_refused hn hp)).trans (if_pos (.inr (.inr hl)))

theorem State.afterVia_t1s {x : Nat} (hr : s.phase = .ready) (he : s.num Reg.t1sEnable ≠ 0) : s.afterVia (.t1s x) = some s :=
  (if_neg (not_not.mpr hr)).trans (if_neg he)

/-- The state with all three fragments of an AUTH come, its message whole. -/
def State.authWhole (s : State) (n : Nat) (body : Octets) : State :=
  ((s.fragmentKept n 0 (body.take 1440)).fragmentKept n 1 ((body.drop 1440).take 1440)).messageTaken n

theorem State.hs_authWhole (s : State) (n : Nat) (body : Octets) : ((s.authWhole n body).session n).hs = (s.session n).hs := by
  unfold State.authWhole
  rw [State.session_messageTaken, State.session_fragmentKept, State.session_fragmentKept]

/-- An AUTH of three frames over the field network, each joined to those before it (R577, R578). -/
theorem exec_auth_queued {x : Nat} (hr : s.phase = .ready) (he : s.num Reg.t1sEnable ≠ 0) (hn : s.netSession n 1 = true)
    (hp : s.fromPeer n (.t1s x) = true) (hh : (s.session n).hs = some h) (hx : (s.session n).nextFrag = 0) (ha : h.authSig = none)
    (hd : s.authDue h = true) (hl : body.length = 3373) :
    exec (.auth n (.t1s x) body) s = done ((s.authWhole n body).authQueued n h body) := by
  let u := s.fragmentKept n 0 (body.take 1440)
  let v := u.fragmentKept n 1 ((body.drop 1440).take 1440)
  have hsecond : (u.session n).nextFrag = 1 := congrArg Session.nextFrag (State.session_fragmentKept _ _ _ _)
  have hthird : (v.session n).nextFrag = 2 := congrArg Session.nextFrag (State.session_fragmentKept _ _ _ _)
  have hwhole : v.joined n 2 ((body.drop 1440).drop 1440) = body := by
    have hu : (u.session n).partialMsg = body.take 1440 := congrArg Session.partialMsg (State.session_fragmentKept _ _ _ _)
    have hv : (v.session n).partialMsg = body.take 1440 ++ (body.drop 1440).take 1440 :=
      (congrArg Session.partialMsg (State.session_fragmentKept _ _ _ _)).trans
        (congrArg (· ++ (body.drop 1440).take 1440) hu)
    show (v.session n).partialMsg ++ _ = _
    rw [hv, List.append_assoc, List.take_append_drop, List.take_append_drop]
  show done (s.byFrames _ _ _) = _
  unfold State.byFrames
  rw [fragments_three (by omega) (by omega)]
  simp only [forEach, List.foldl_cons, List.foldl_nil]
  rw [State.admitVia_some (State.afterVia_t1s hr he), State.authFrame_part hn hp (by decide) hx,
    State.admitVia_some (u := u) (State.afterVia_t1s hr he), State.authFrame_part (s := u) hn hp (by decide) hsecond,
    State.admitVia_some (u := v) (State.afterVia_t1s hr he),
    State.authFrame_last (s := v) (i := 2) hn hp (by decide) hthird, hwhole,
    State.authIn_queued (s := v.messageTaken n) ((State.hs_authWhole s n body).trans hh) hn hp ha hd hl]
  rfl

/-- What stands after such an AUTH: its signatures in the session, its two verifications behind the jobs before them. -/
theorem auth_answers {x : Nat} (hr : s.phase = .ready) (he : s.num Reg.t1sEnable ≠ 0) (hn : s.netSession n 1 = true)
    (hp : s.fromPeer n (.t1s x) = true) (hh : (s.session n).hs = some h) (hx : (s.session n).nextFrag = 0) (ha : h.authSig = none)
    (hd : s.authDue h = true) (hl : body.length = 3373) : ∃ t, exec (.auth n (.t1s x) body) s = .next t
      ∧ (t.session n).hs = some { h with authSig := some (body.take 64, body.drop 64) }
      ∧ t.retort.queue = s.retort.queue ++ [⟨.auth n, 2, [], [], []⟩, ⟨.auth n, 6, [], [], []⟩] :=
  (completes_of_done (exec_auth_queued hr he hn hp hh hx ha hd hl)).holds fun _ f =>
    ⟨(congrArg Session.hs (f.session n) :).trans (State.hs_authQueued _ _ _ _), (congrArg (fun u : State => u.retort.queue) f.still :)⟩

/-- An AUTH of a single frame is too short. -/
theorem exec_auth_short {u : State} (hu : s.afterVia via = some u) (hl : body.length ≤ 1440) (hh : (u.session n).hs = some h)
    (hn : u.netSession n 1 = true) (hp : u.fromPeer n via = true) (hx : (u.session n).nextFrag = 0) :
    exec (.auth n via body) s = done ((u.messageTaken n).refuseHandshake n 0x150010) := by
  have htaken : ((u.messageTaken n).session n).hs = some h := (congrArg Session.hs (State.session_messageTaken u n)).trans hh
  show done (s.byFrames _ _ _) = _
  rw [State.byFrames_one hl, State.admitVia_some hu, State.authFrame_last (i := 0) hn hp (by decide) hx]
  exact congrArg done (State.authIn_wrongLength (s := u.messageTaken n) htaken hn hp (by show body.length ≠ 3373; omega))

/-! AUTH_OK and AUTH_TIMEOUT (R578, R581) -/

theorem exec_authOkSent {ed ml : Octets} (hr : s.phase = .ready) (hb : s.hearthBusy = false) (hn : s.netSession n 1 = true)
    (hj : s.jobsOf (.auth n) = false) (hh : (s.session n).hs = some h) (ha : h.authSig = some (ed, ml)) (hlc : s.lc ≠ 15) :
    exec (.authOkSent n) s
      = done (if s.credSigned h.cred (sha512 (ascii "NZ-SILSY-CLI" ++ s.transcript h)) ed ml then s.openSession n h
          else s.refuseHandshake n 0x150010) := by
  have hgo : ¬ (s.phase ≠ .ready ∨ s.hearthBusy = true ∨ s.netSession n 1 = false ∨ s.jobsOf (.auth n) = true) := by
    simp only [hr, hb, hn, hj, ne_eq, not_true_eq_false, Bool.false_eq_true, Bool.true_eq_false, or_self, not_false_eq_true]
  show execAuthOkSent n s = _
  unfold execAuthOkSent
  rw [if_neg hgo, hh]
  dsimp only
  rw [ha]
  dsimp only
  cases hs : s.credSigned h.cred (sha512 (ascii "NZ-SILSY-CLI" ++ s.transcript h)) ed ml
  · exact if_neg (fun hx => Bool.noConfusion hx.2)
  · exact if_pos ⟨hlc, rfl⟩

theorem exec_authTimeout (hr : s.phase = .ready) (hn : s.netSession n 1 = true) (hh : (s.session n).hs = some h)
    (ht : h.sentAt ≠ none) (ha : h.authSig = none) (hd : s.authDue h = false) :
    exec (.authTimeout n) s = done (s.refuseHandshake n 0x150010) := by
  have hgo : ¬ (s.phase ≠ .ready ∨ s.netSession n 1 = false) := fun hx => hx.elim (· hr) (by rw [hn]; exact Bool.noConfusion)
  have hlate : ¬ (h.sentAt.isNone = true ∨ h.authSig.isSome = true ∨ s.authDue h = true) := by
    simp only [ha, hd, Option.isNone_iff_eq_none, ht, Option.isSome_none, Bool.false_eq_true, or_self, not_false_eq_true]
  show execAuthTimeout n s = _
  unfold execAuthTimeout
  rw [if_neg hgo, hh]
  exact if_neg hlate

end Auth

/-- Settles O42: each command by the equation of its case, an AUTH by what joins its frames. Bit 0 of a credential's roles is
SESSION (R607). The refusal under an INVALID codeword (log entry 119), what a refusal counts and the code of a HELLO of a wrong length
(68), and that an AUTH out of order ends only the handshake of its own peer (55) are the model's choices. -/
theorem handshakeCompletes : Obligations.HandshakeCompletes := by
  unfold Obligations.HandshakeCompletes
  refine ⟨?hello, ?refused, ?reply, ?auth, ?short, ?ok, ?timeout⟩
  case hello =>
    intro s via body m u hu hb hi hlc hc hr hf hl
    exact completes_of_done ((exec_hello hu body).trans (congrArg done (State.helloIn_taken ⟨hb, hi, hlc, hc, hr, hf, hl⟩)))
  case refused =>
    exact fun s via body u hu h => completes_of_done ((exec_hello hu body).trans (congrArg done (State.helloIn_refused h)))
  case reply => exact fun s m via h hp hb hn hj hv hh ht => completes_of_done (exec_helloReplySent hp hb hn hj hv hh ht)
  case auth => exact fun s m x body h hr he hn hp hh hx ha hd hl => auth_answers hr he hn hp hh hx ha hd hl
  case short => exact fun s m via body h u hu hl hh hn hp hx => completes_of_done (exec_auth_short hu hl hh hn hp hx)
  case ok => exact fun s m h ed ml hr hb hn hj hh ha hlc => completes_of_done (exec_authOkSent hr hb hn hj hh ha hlc)
  case timeout => exact fun s m h hr hn hh ht ha hd => completes_of_done (exec_authTimeout hr hn hh ht ha hd)

end Sys2Proof.Machine
end

section
/-! PROOFS. Frames of a session under way, its close and its idle end, and PLAIN (R570, R577, R580, R582, R584). -/

namespace Sys2Proof.Machine

section Traffic
variable {s u t v : State} {via : Via} {fr body msg : Octets} {m : Nat}

theorem exec_dataFrameReceived (hu : s.afterVia via = some u) (hk : silsyIs fr 5 m = true) :
    exec (.dataFrameReceived m via fr) s = done (u.dataIn m via fr) :=
  (if_pos hk).trans (congrArg done (State.admitVia_some hu _))

/-- What a fragment of a DATA message that has been deciphered does: it is joined, and a whole message taken in (R577). -/
def State.dataJoined (s : State) (m : Nat) (via : Via) (frag : Nat) (follows : Bool) (body : Octets) : State :=
  match s.joinFragment m frag follows body with
  | (none, v) => v
  | (some msg, v) => v.receive m (some via) msg

theorem State.dataIn_accepted (h : u.acceptFrame m via fr = (some body, t)) : u.dataIn m via fr
      = t.dataJoined m via (fieldAt fr 3 1) (fieldAt fr 4 8 == (u.session m).seqIn + 1) body := by
  unfold State.dataIn
  dsimp only
  rw [h]
  rfl

theorem State.dataIn_discarded (h : u.acceptFrame m via fr = (none, t)) : u.dataIn m via fr = t := by
  unfold State.dataIn
  dsimp only
  rw [h]

theorem exec_closeReceived (hu : s.afterVia via = some u) (hk : silsyIs fr 6 m = true) :
    exec (.closeReceived m via fr) s = done (u.closeIn m via fr) :=
  (if_pos hk).trans (congrArg done (State.admitVia_some hu _))

theorem State.closeIn_accepted (h : u.acceptFrame m via fr = (some body, t)) : u.closeIn m via fr = t.closeSession m 0 false := by
  unfold State.closeIn
  rw [h]

theorem State.closeIn_discarded (h : u.acceptFrame m via fr = (none, t)) : u.closeIn m via fr = t := by
  unfold State.closeIn
  rw [h]

theorem exec_sessionIdleExpiry (hr : s.phase = .ready) (hn : s.netSession m 2 = true)
    (ht : (s.session m).lastValid + s.num Reg.sessIdle * 1000000000 ≤ s.time.elapsed) :
    exec (.sessionIdleExpiry m) s = done (s.closeSession m 2 true) := by
  have hidle : ¬ (s.phase ≠ .ready ∨ s.netSession m 2 = false
      ∨ s.time.elapsed < (s.session m).lastValid + s.num Reg.sessIdle * 1000000000) := by
    simp only [hr, hn, ne_eq, not_true_eq_false, Bool.true_eq_false, false_or, Nat.not_lt.mpr ht, not_false_eq_true]
  exact if_neg hidle

/-- A PLAIN message of one frame is whole with it. -/
theorem exec_plainReceived (broadcast : Bool) (hu : s.afterVia via = some u) (hl : msg.length ≤ 1440)
    (hj : u.joinClear via 128 msg = (some msg, v)) :
    exec (.plainReceived m via broadcast msg) s = done (v.plainIn m via broadcast msg) := by
  show done (s.byFrames _ _ _) = _
  rw [State.byFrames_one hl, State.admitVia_some hu]
  unfold State.plainFrame
  rw [hj]

end Traffic

/-- Settles O43: each frame by what its checks answer. -/
theorem sessionTrafficCompletes : Obligations.SessionTrafficCompletes := by
  unfold Obligations.SessionTrafficCompletes
  refine ⟨?data, ?dataFails, ?close, ?closeFails, ?idle, ?plain, ?plainLater⟩
  case data =>
    exact fun s m via fr body u t hu hk ha =>
      completes_of_done ((exec_dataFrameReceived hu hk).trans (congrArg done (State.dataIn_accepted ha)))
  case dataFails =>
    exact fun s m via fr u t hu hk ha =>
      completes_of_done ((exec_dataFrameReceived hu hk).trans (congrArg done (State.dataIn_discarded ha)))
  case close =>
    exact fun s m via fr body u t hu hk ha =>
      completes_of_done ((exec_closeReceived hu hk).trans (congrArg done (State.closeIn_accepted ha)))
  case closeFails =>
    exact fun s m via fr u t hu hk ha =>
      completes_of_done ((exec_closeReceived hu hk).trans (congrArg done (State.closeIn_discarded ha)))
  case idle => exact fun s m hr hn ht => completes_of_done (exec_sessionIdleExpiry hr hn ht)
  case plain => exact fun s m via msg u v hu hl hj => completes_of_done (exec_plainReceived false hu hl hj)
  case plainLater => exact fun s m via msg u v hu hl hj => completes_of_done (exec_plainReceived true hu hl hj)

end Sys2Proof.Machine
end

section
/-! PROOFS. The mesh, Retort, the life cycle, identity and debug (R594 to R609, R619 to R624, R643 to R649, R720 to R725): what each
command does where its checks stand, and, with the sessions, the state that it leaves. -/

namespace Sys2Proof.Machine

/-- A host command that answers r gives a next state of which all holds that follows from r's state after a response. -/
theorem Answers.holds {c : Instr} {s : State} {n : Nat} {r : Eff} {P : State → Prop} (h : Answers c s n r) (hn : n < 9)
    (hp : ∀ t, Rests r.1 t → P t) : ∃ t, exec c s = .next t ∧ P t := by
  obtain ⟨t, e, f⟩ := h.rests hn
  exact ⟨t, e, hp t f⟩

section Rests
variable {s t : State} (h : Rests s t)
include h

theorem Rests.mesh : t.mesh = s.mesh := (congrArg State.mesh h.calm :)
theorem Rests.otp : t.otp = s.otp := (congrArg State.otp h.calm :)
theorem Rests.hearth : t.hearth = s.hearth := (congrArg State.hearth h.calm :)
theorem Rests.dbgNonce : t.trust.dbgNonce = s.trust.dbgNonce := (congrArg (fun u : State => u.trust.dbgNonce) h.calm :)

end Rests

theorem sessState_still {m : Nat} (hm : m < 9) : trafficKey (Reg.sessState m) = false :=
  dev_still (by omega) (.inl (by omega)) (by simp only [List.mem_cons, List.not_mem_nil, or_false]; omega)

/-! The mesh (R720, R724, R725) -/

section Mesh
variable {s : State} {v m : Nat} {key : Octets}

/-- Hellos under the current key on each mesh port, from the state as it is (R725). -/
def State.hellosSent (s : State) (key : Octets) : State :=
  let body := meshBody 0xFFFF s.meshIdNow (s.num Reg.meshHops) (s.num Reg.meshEpoch) []
  forEach ((List.range s.nPorts).filter s.meshPort) (fun t p => t.meshOut p (body ++ meshMac key body)) s

theorem exec_meshHelloSend (hk : s.mesh.cur = some key) (hp : s.phase = .ready) (hg : s.hearth.gap = false)
    (hr : s.hearth.restarting = false) : exec .meshHelloSend s = done (s.hellosSent key) := by
  have hgo : ¬ (s.phase ≠ .ready ∨ s.hearth.gap = true ∨ s.hearth.restarting = true) := by
    simp only [hp, hg, hr, ne_eq, not_true_eq_false, Bool.false_eq_true, or_self, not_false_eq_true]
  show execMeshHelloSend s = _
  unfold execMeshHelloSend
  rw [hk]
  exact if_neg hgo

theorem exec_meshNeighbourDead (hp : s.phase = .ready) (hn : s.neighbour m = true) (hd : s.mesh.dead.contains m = false)
    (ht : s.mesh.heard.getD m 0 + s.num Reg.meshDead * 1000000000 ≤ s.time.elapsed) : exec (.meshNeighbourDead m) s
      = done (({ s with mesh := { s.mesh with dead := s.mesh.dead ++ [m] } } : State).raise 0x090102 0x152000
          (8388608 + 4194304 + m * 4096)) := by
  have hsilent : ¬ (s.phase ≠ .ready ∨ s.neighbour m = false ∨ s.mesh.dead.contains m = true
      ∨ s.time.elapsed < s.mesh.heard.getD m 0 + s.num Reg.meshDead * 1000000000) := by
    simp only [hp, hn, hd, ne_eq, not_true_eq_false, Bool.true_eq_false, Bool.false_eq_true, false_or, Nat.not_lt.mpr ht, not_false_eq_true]
  exact if_neg hsilent

theorem State.mesh_record (s : State) : s.record.mesh = s.mesh := by
  unfold State.record
  dsimp only
  split <;> rfl

theorem State.mesh_save (s : State) (k : Key) (x : Val) : (s.save k x).mesh = s.mesh := by
  unfold State.save
  dsimp only
  split
  · exact State.mesh_record _
  · rfl

/-- A mesh key is taken as the current one where none is held (R724). -/
theorem State.meshKeyLoadEff_current {k : BlobKey} (hv : v ≤ 63)
    (hu : s.unwrapBlob (s.oct (Reg.blob v)) 0xFF (s.num Reg.blobGenDev) = .ok k) (hk : k.1 = 2) (hc : s.mesh.cur = none) :
    s.meshKeyLoadEff v = okay (({ s with mesh := { s.mesh with cur := some k.2.2.2 } } : State).save meshBlobCur
      (.oct (s.oct (Reg.blob v)))) := by
  unfold State.meshKeyLoadEff
  dsimp only
  rw [if_neg (Nat.not_lt.mpr hv), hu]
  dsimp only
  rw [if_neg (not_not.mpr hk), hc]
  rfl

theorem State.meshAdvanceEff_ok (hn : s.mesh.next = some key) (he : s.num Reg.meshEpoch ≠ 0xFFFFFF) :
    s.meshAdvanceEff 1 = okay s.meshAdvance := by
  refine check_none ?_ _
  rw [hn, beq_eq_false_iff_ne.mpr he]
  rfl

theorem State.mesh_meshAdvance (s : State) : s.meshAdvance.mesh = { s.mesh with cur := s.mesh.next, next := none } :=
  (State.raise_rests _ _ _ _).mesh.trans (State.mesh_save _ _ _)

theorem State.meshIdEff_ok (hv : v ≤ 1023)
    (hg : (List.range s.nBolts).any (fun b => (List.range 8).any (fun g => !s.stopped (.group b g))) = false)
    (ht : (List.range s.nPorts).any (fun p => s.kind p == 4 && !s.stopped (.port p)) = false) :
    s.meshIdEff v = okay (s.saveN Reg.meshId v) := by
  refine check_none ?_ _
  rw [hg, ht, decide_eq_false (Nat.not_lt.mpr hv)]
  rfl

end Mesh

/-! Retort (R628, R629, R636, R643, R645, R647) -/

section Retort
variable {s : State} {n : Nat} {j : Job} {rest : List Job}

/-- The state with the job of slot n queued, and the results of the one before erased (R647, R649). -/
def State.jobSubmitted (s : State) (n : Nat) : State :=
  let t : State := { s with retort := { s.retort with queue := s.retort.queue
    ++ [⟨.host n, s.num (Reg.jobOp n), s.oct (Reg.jobInA n), s.oct (Reg.jobInB n), s.oct (Reg.jobInC n)⟩] } }
  let t := ((((t.clear (Reg.jobOutA n)).clear (Reg.jobOutB n)).putN (Reg.jobState n) 1).clear (Reg.jobStatus n)).clear (Reg.jobStarted n)
  t.putN (Reg.jobSeq n) ((t.num (Reg.jobSeq n) + 1) % 16777216)

theorem State.jobSubmit_ok (hs : ¬(1 ≤ s.num (Reg.jobState n) ∧ s.num (Reg.jobState n) ≤ 3))
    (ho : 1 ≤ s.num (Reg.jobOp n) ∧ s.num (Reg.jobOp n) ≤ 10)
    (hl : jobLengths (s.num (Reg.jobOp n)) (s.oct (Reg.jobInA n)).length (s.oct (Reg.jobInB n)).length
      (s.oct (Reg.jobInC n)).length = true) :
    s.jobSubmit n = okay (s.jobSubmitted n) := by
  refine check_none ?_ _
  rw [decide_eq_false hs, decide_eq_true ho, hl]
  rfl

theorem State.owner_slotJob (s : State) (n : Nat) (j : Job) : (s.slotJob n j).owner = j.owner := by
  unfold State.slotJob
  dsimp only
  split <;> rfl

/-- The first job of the queue, of a host, starts with the operands of its slot (R628, R629). -/
theorem exec_jobStart_host (hq : s.retort.queue = j :: rest) (hr : s.retort.running = none) (hc : s.retort.clearing = none)
    (ho : j.owner = .host n) : exec .jobStart s
      = done ((({ s with retort := { s.retort with queue := rest, running := some (s.slotJob n j), since := s.time.elapsed } } : State).putN
          (Reg.jobState n) 2).putN (Reg.jobStarted n) s.now96) := by
  show execJobStart s = _
  unfold execJobStart
  rw [hq, hr, hc]
  dsimp only
  rw [ho]
  dsimp only
  rw [State.owner_slotJob, ho]
  rfl

/-- The state with the running job's computation at its end (R636). -/
def State.jobComputed (s : State) (j : Job) : State :=
  let (st, outA, outB, t) := ({ s with retort := { s.retort with running := none } } : State).jobRun j
  t.jobDone j st outA outB

theorem exec_jobComplete_host (hr : s.retort.running = some j) (ho : j.owner = .host n)
    (ht : s.retort.since + jobTime j ≤ s.time.elapsed + 1000) : exec (.jobComplete false) s = done (s.jobComputed j) := by
  show execJobComplete false s = _
  unfold execJobComplete
  rw [hr]
  dsimp only
  rw [if_neg (Nat.not_lt.mpr ht), if_neg Bool.false_ne_true, ho]
  rfl

theorem exec_jobAbortErased (hc : s.retort.clearing = some j) (ht : s.retort.since + 16000 ≤ s.time.elapsed) : exec .jobAbortErased s
      = done ((({ s with retort := { s.retort with clearing := none } } : State).jobDone j 0x0E [] []).jobFails j) := by
  show execJobAbortErased s = _
  unfold execJobAbortErased
  rw [hc]
  exact if_neg (Nat.not_lt.mpr ht)

end Retort

/-! The life cycle (R594 to R598) -/

section LifeCycle
variable {s : State} {n v : Nat}

theorem State.lcEff_testLocked (h : s.lc = 0) : s.lcEff n 1 = okay (s.lcMove 1) := by
  unfold State.lcEff
  dsimp only
  rw [h]
  rfl

theorem State.lcEff_testOpen (h : s.lc = 1) (hr : bit (s.rightsOf n) 6 = true) (ht : s.tokensUsed ≠ 16) :
    s.lcEff n 2 = okay s.openTest := by
  have hfree : firstAbort [abortIf (!bit (s.rightsOf n) 6) 0x140034, abortIf (s.tokensUsed == 16) 0x180030] = none := by
    rw [hr, beq_eq_false_iff_ne.mpr ht]
    rfl
  unfold State.lcEff
  dsimp only
  rw [h]
  exact check_none hfree _

theorem State.lcEff_factory (h : s.lc = 2) (hc : (List.range s.nBolts).any (fun b => s.num (Reg.bCmLevel b) == 0) = false) :
    s.lcEff n 3 = okay (s.lcMove 3) := by
  unfold State.lcEff
  dsimp only
  rw [h, hc]
  rfl

theorem State.lcEff_issued (h : s.lc = 3) : s.lcEff n 4 = okay (s.lcMove 4) := by
  unfold State.lcEff
  dsimp only
  rw [h]
  rfl

theorem State.lcEff_service (h : s.lc = 4) (hc : s.commissioned = true) : s.lcEff n 5 = okay (s.lcMove 5) := by
  unfold State.lcEff
  dsimp only
  rw [h, hc]
  rfl

theorem State.lcEff_return (h : s.lc = 4) : s.lcEff n 6 = okay (s.withdraw 6) := by
  unfold State.lcEff
  dsimp only
  rw [h]
  rfl

theorem State.lcEff_end (h : s.lc = 1 ∨ s.lc = 3 ∨ s.lc = 4 ∨ s.lc = 6) : s.lcEff n 7 = okay (s.withdraw 7) := by
  unfold State.lcEff
  dsimp only
  rcases h with h | h | h | h <;> rw [h] <;> rfl

/-- On an INVALID codeword a request for the target that LC_RESUME names goes through (R598). -/
theorem State.lcEff_resume (h : s.lc = 15) (hv : v = s.lcResume) (hf : v ≠ 0xFF) :
    s.lcEff n v = okay (if v = 6 ∨ v = 7 then s.withdraw v else s.lcMove v) :=
  (if_pos h).trans (if_pos ⟨hv, hf⟩)

theorem State.otp_emptyCreds (s : State) : s.emptyCreds.otp = s.otp := by
  unfold State.emptyCreds State.record
  dsimp only
  split <;> rfl

/-- A transition burns the codeword of its target and no other bit of it (R593). -/
theorem State.codeword_lcMove (s : State) (target : Nat) :
    (s.lcMove target).otp.codeword = s.otp.codeword ||| BitVec.ofNat 32 (lcCodeword target) := by
  unfold State.lcMove
  extract_lets old o u tr t v w
  have hv : v.otp = t.otp := by
    unfold v
    split
    · exact State.otp_emptyCreds t
    · rfl
  have hw : (w.certEnd 3).otp = v.otp := (State.certEnd_rests (State.raise_rests v _ _ _) 3).otp
  rw [hw, hv]

end LifeCycle

/-! Identity (R605, R606) -/

section Identity
variable {s : State} {n : Nat}

/-- The staged device certificate is signed by the device CA over the device's keys (R605). -/
def State.idcSigned (s : State) : Bool :=
  s.ryminSigned 1 ((s.oct Reg.idcInfo).getD 66 0).toNat (sha512 (s.oct Reg.idcInfo ++ s.idPubEd ++ s.idPubMl)) (s.oct Reg.idcSigEd)
    (s.oct Reg.idcSigMl)

theorem State.idcEff_stands (hs : s.num Reg.idcState ≠ 1) (hlc : s.lc = 4) (hi : s.hasIdentity = true)
    (hm : (s.oct Reg.idcInfo).take 8 = ascii "NZ-IDC01") (hd : ((s.oct Reg.idcInfo).drop 8).take 32 = s.deviceId)
    (hx : ((s.oct Reg.idcInfo).drop 40).take 8 = natToBytes 8 s.otp.dieId.toNat) (hr : s.retort.disagree = false) :
    s.idcEff 1 = s.underSignature s.idcSigned (s.saveN Reg.idcState 1) := by
  have hchecks : firstAbort [abortIf (s.num Reg.idcState == 1) 0x110001, abortIf (s.lc != 4) 0x110003, abortIf (1 != 1) 0x130001]
      = none := by
    rw [beq_eq_false_iff_ne.mpr hs, hlc]
    rfl
  rw [← withJobs_signature]
  unfold State.idcEff
  dsimp only
  rw [check_none hchecks, hi, hm, hd, hx, State.jobAbortOr_agree hr]
  simp only [beq_self_eq_true, Bool.and_self, if_true]
  show withJobs 2 2 (match abortIf (!s.idcSigned) 0x140002 with | some c => refuse s c | none => okay (s.saveN Reg.idcState 1)) = _
  cases s.idcSigned <;> rfl

/-- The state with the identity statement of session n made and signed (R606). -/
def State.stated (s : State) (n : Nat) : State :=
  let (ed, ml, t) := s.identitySign (sha512 (s.statement (s.oct (Reg.stmtNonce n))))
  t.putAll [(Reg.stmtBody n, .oct (s.statement (s.oct (Reg.stmtNonce n)))), (Reg.stmtSigEd n, .oct ed), (Reg.stmtSigMl n, .oct ml)]

theorem State.stmtEff_stands (hi : s.hasIdentity = true) (hr : s.retort.disagree = false) :
    s.stmtEff n 1 = okay ((s.stated n).countBy Reg.rtJobs 2) := by
  have hchecks : firstAbort [abortIf (!s.hasIdentity) 0x110003, abortIf (1 != 1) 0x130001] = none := by
    rw [hi]
    rfl
  unfold State.stmtEff
  rw [check_none hchecks, hr, if_neg Bool.false_ne_true]
  rfl

end Identity

/-! Debug (R617 to R624) -/

section Debug
variable {s : State} {n t : Nat} {x : Octets}

/-- The state with the certificate staged in session n in force, its nonce used (R621). -/
def State.certTaken (s : State) (n : Nat) : State :=
  let body := s.oct (Reg.dbgBody n)
  let kind := certField body 83 1
  let index := certField body 84 1
  let c : Cert := ⟨n, time96Ns (certField body 56 12), time96Ns (certField body 68 12), certField body 80 3, kind, index, sha512 body⟩
  ({ s with trust := { s.trust with cert := some c, dbgNonce := none } } : State).raise 0x0B0004 0x134000
    (kind * 8388608 + index % 16 * 524288 + certField body 80 3)

/-- The certificate staged in session n has the form of one, and its signer has signed it with both halves (R619, R621). -/
def State.certSigned (s : State) (n : Nat) : Bool :=
  let body := s.oct (Reg.dbgBody n)
  let kind := certField body 83 1
  let index := certField body 84 1
  body.length == 85 && body.take 8 == ascii "NZ-DBG01" &&
    (if kind = 0 then s.ryminSigned 2 index (sha512 body) (s.oct (Reg.dbgSigEd n)) (s.oct (Reg.dbgSigMl n))
     else s.credSigned index (sha512 body) (s.oct (Reg.dbgSigEd n)) (s.oct (Reg.dbgSigMl n)))

/-- What a certificate staged in session n meets beside its signatures, in the order of R621: none is in force, its signer may, it
names the device and an issued nonce x of time t not 10 minutes old, and the rights and the time are right. -/
structure State.Admits (s : State) (n t : Nat) (x : Octets) : Prop where
  vacant : s.trust.cert = none
  signer : s.signerOk (certField (s.oct (Reg.dbgBody n)) 83 1) (certField (s.oct (Reg.dbgBody n)) 84 1) = true
  device : ((s.oct (Reg.dbgBody n)).drop 8).take 32 = s.deviceId
  issued : s.trust.dbgNonce = some (x, t)
  nonce  : x = ((s.oct (Reg.dbgBody n)).drop 40).take 16
  fresh  : s.time.elapsed < t + 600000000000
  rights : certField (s.oct (Reg.dbgBody n)) 80 3 < 128
  dated  : (s.lc ≠ 4 ∧ s.lc ≠ 5) ∨ s.num Reg.timeValid = 1
  window : time96Ns (certField (s.oct (Reg.dbgBody n)) 56 12) ≤ s.nowNs ∧ s.nowNs < time96Ns (certField (s.oct (Reg.dbgBody n)) 68 12)
  agree  : s.retort.disagree = false

theorem State.dbgAccept_stands (h : s.Admits n t x) : s.dbgAccept n = s.underSignature (s.certSigned n) (s.certTaken n) := by
  have hdated : ((s.lc == 4 || s.lc == 5) && s.num Reg.timeValid != 1) = false := by
    rcases h.dated with ⟨h4, h5⟩ | hv
    · rw [beq_eq_false_iff_ne.mpr h4, beq_eq_false_iff_ne.mpr h5]
      rfl
    · rw [hv]
      exact Bool.and_false _
  rw [← withJobs_signature]
  unfold State.dbgAccept
  dsimp only
  refine congrArg (withJobs 2 2) (checkInOrder_signature ?_ _)
  rw [h.vacant, h.signer, h.device, h.issued, h.nonce, hdated, decide_eq_true h.window, decide_eq_false (Nat.not_le.mpr h.rights),
    State.jobAbortOr_agree h.agree]
  dsimp only
  rw [decide_eq_true h.fresh, bne_self_eq_false, beq_self_eq_true]
  show inOrder [none, none, none, none, none, none, abortIf (!s.certSigned n) 0x140002] = _
  cases s.certSigned n <;> rfl

theorem exec_dbgCertExpiry {c : Cert} (hc : s.trust.cert = some c) (hw : s.inWindow c = false) :
    exec .dbgCertExpiry s = done (s.certEnd 0) := by
  show execDbgCertExpiry s = _
  unfold execDbgCertExpiry
  rw [hc]
  dsimp only
  rw [hw, if_neg Bool.false_ne_true]

theorem State.cert_certEnd {c : Cert} (hc : s.trust.cert = some c) (reason : Nat) : (s.certEnd reason).trust.cert = none := by
  unfold State.certEnd
  rw [hc]
  exact (congrArg (fun u : State => u.trust.cert) (State.raise_follows (Follows.refl _) _ _ _).still :)

/-- A read of 32 words from DBG_ADDR on, with their parity bits (R623). -/
def State.wordsRead (s : State) : Eff :=
  let ws := s.rawWords (s.num Reg.dbgMem) (s.num Reg.dbgAddr)
  ((s.putN Reg.dbgAddr ((s.num Reg.dbgAddr + 32) % 2 ^ 48)).putN Reg.dbgPar (ws.foldl (fun a w => 2 * a + w.2) 0),
    .value (.oct (ws.flatMap (fun w => natToBytes 3 w.1))))

/-- A read of 96 bytes from DBG_ADDR on (R623). -/
def State.bytesRead (s : State) : Eff :=
  let (fill, t) := s.drawBytes 96
  let bytes := (List.range 96).map (fun i => (s.rawByte (s.num Reg.dbgMem) (s.num Reg.dbgAddr) i).getD (fill.getD i 0))
  let (x, u) := t.draw
  ((u.putN Reg.dbgAddr ((s.num Reg.dbgAddr + 96) % 2 ^ 48)).putN Reg.dbgPar (x % 2 ^ 32), .value (.oct bytes))

theorem State.dbgDataEff_words (h : firstAbort (s.memAbort n (s.num Reg.dbgMem)) = none)
    (hm : s.num Reg.dbgMem ≠ 3 ∧ s.num Reg.dbgMem ≠ 4) : s.dbgDataEff n = s.wordsRead :=
  (check_none h _).trans (if_neg (fun hx => hx.elim hm.1 hm.2))

theorem State.dbgDataEff_bytes (h : firstAbort (s.memAbort n (s.num Reg.dbgMem)) = none)
    (hm : s.num Reg.dbgMem = 3 ∨ s.num Reg.dbgMem = 4) : s.dbgDataEff n = s.bytesRead :=
  (check_none h _).trans (if_pos hm)

theorem State.dbgHearthEff_halt (h : firstAbort (s.memAbort n 5) = none) : s.dbgHearthEff n 1
      = okay (({ s with hearth := { s.hearth with halted := true } } : State).putN Reg.hearthBanked 0) :=
  check_none (firstAbort_append_none h rfl) _

theorem State.dbgHearthEff_resume (h : firstAbort (s.memAbort n 5) = none) (hh : s.hearth.halted = true) : s.dbgHearthEff n 2
      = okay (({ s with hearth := { s.hearth with halted := false } } : State).putN Reg.hearthBanked 1) :=
  (check_none (firstAbort_append_none h rfl) _).trans (if_pos hh)

end Debug

/-! Direct enrolment (R609) -/

/-- An enrolment on session 0 that nothing of R608 stands against is made and told of. -/
theorem exec_credEnrolDirect {s : State} {c : Nat} {r : Byte} {rest : Octets} (h0 : s.answers 0 = true) (hc : c < 16)
    (hd : s.directEnrol 0 = true)
    (hr : firstAbort ((s.admission 0 ((0x1380 + c) * 256 + 1) true 0).filter (fun x => x != some 0x140001)
      ++ [abortIf (!octetsLengthOk ((0x1380 + c) * 256 + 1) 2000 (r :: rest).length) 0x130003]) = none)
    (ha : s.enrolAbort c (r :: rest) = none) : exec (.credEnrolDirect 0 c (r :: rest)) s
      = done (answered 0 (okay ((s.enrol c (r :: rest)).raise 0x0B000B 0x130000
          (c * 1048576 + s.lc * 65536 + r.toNat * 256)))).afterResponse := by
  have hgo : (s.directEnrol 0 && decide (c < 16)) = true := by
    rw [hd, decide_eq_true hc]
    rfl
  have hcheck : firstAbort [s.enrolAbort c (r :: rest)] = none := by
    rw [ha]
    rfl
  show hostDone 0 s (s.enrolWrite 0 c (r :: rest)) = _
  rw [hostDone_answers h0]
  unfold State.enrolWrite
  dsimp only
  rw [if_pos hgo, underAborts_none hr]
  unfold State.enrolEff
  rw [check_none hcheck]
  rfl

/-- Settles O59: what stays where it is by what frames and responses do not move, the next state itself by the equation of the
command. The signature checks of a request as Retort jobs made in its step (log entry 79), the operands of a job taken at its start
(120), a certificate's window that binds in every state (80), an AUTH out of order that ends only its own peer's handshake (55), and
one event for each silent neighbour (111) are the model's choices. -/
theorem sessionsTrustAndRetortAnswer : Obligations.SessionsTrustAndRetortAnswer := by
  unfold Obligations.SessionsTrustAndRetortAnswer
  refine ⟨?hello, ?reply, ?auth, ?ok, ?timeout, ?data, ?close, ?plain, ?idle, ?sessClose, ?meshFrame, ?meshHost, ?hellos, ?dead, ?keyLoad,
    ?advance, ?meshId, ?submit, ?abort, ?start, ?complete, ?erased, ?testLocked, ?testOpen, ?factory, ?issued, ?service, ?withdrawn, ?ended,
    ?resume, ?idc, ?stmt, ?nonce, ?accept, ?certEnd, ?expiry, ?words, ?bytes, ?halt, ?resumeHearth, ?enrol⟩
  case hello =>
    intro s via body m u hm hu hb hi hlc hc hr hf hl
    have he := (exec_hello hu body).trans (congrArg done (State.helloIn_taken ⟨hb, hi, hlc, hc, hr, hf, hl⟩))
    exact (completes_of_done he).holds fun t f =>
      (f.num (sessState_still hm)).trans (State.num_sessState_helloTaken u via body m)
  case reply => exact fun s m via h hp hb hn hj hv hh ht => completes_of_done (exec_helloReplySent hp hb hn hj hv hh ht)
  case auth => exact fun s m x body h hr he hn hp hh hx ha hd hl => auth_answers hr he hn hp hh hx ha hd hl
  case ok => exact fun s m h ed ml hr hb hn hj hh ha hlc => completes_of_done (exec_authOkSent hr hb hn hj hh ha hlc)
  case timeout => exact fun s m h hr hn hh ht ha hd => completes_of_done (exec_authTimeout hr hn hh ht ha hd)
  case data =>
    exact fun s m via fr body u t hu hk ha =>
      completes_of_done ((exec_dataFrameReceived hu hk).trans (congrArg done (State.dataIn_accepted ha)))
  case close =>
    exact fun s m via fr body u t hu hk ha =>
      completes_of_done ((exec_closeReceived hu hk).trans (congrArg done (State.closeIn_accepted ha)))
  case plain => exact fun s m via msg u v hu hl hj => completes_of_done (exec_plainReceived false hu hl hj)
  case idle => exact fun s m hr hn ht => completes_of_done (exec_sessionIdleExpiry hr hn ht)
  case sessClose => exact fun s n k h hk => answers_of_write rfl h (State.sessCloseEff_one hk)
  case meshFrame => exact fun s p fr tagged hb hv hk => completes_of_done (exec_meshFrameReceived tagged hb hv hk)
  case meshHost => exact fun s m fr hp hv he => completes_of_done (exec_meshHostFrame_t1s hp hv he)
  case hellos => exact fun s key hk hp hg hr => completes_of_done (exec_meshHelloSend hk hp hg hr)
  case dead =>
    exact fun s m hp hn hd ht => (completes_of_done (exec_meshNeighbourDead hp hn hd ht)).holds fun t f =>
      congrArg Mesh.dead (f.rests.mesh.trans (State.raise_rests _ _ _ _).mesh)
  case keyLoad =>
    exact fun s n v k hn h hv hu hk hc =>
      (answers_of_write (c := .meshKeyLoad n v) rfl h (State.meshKeyLoadEff_current hv hu hk hc)).holds hn fun t f =>
        congrArg Mesh.cur (f.mesh.trans (State.mesh_save _ _ _))
  case advance =>
    exact fun s n key hn h hk he =>
      (answers_of_write (c := .meshAdvance n 1) rfl h (State.meshAdvanceEff_ok hk he)).holds hn fun t f =>
        have hmesh := f.mesh.trans (State.mesh_meshAdvance s)
        ⟨(congrArg Mesh.cur hmesh).trans hk, congrArg Mesh.next hmesh⟩
  case meshId =>
    exact fun s n v hn h hv hg ht =>
      (answers_of_write (c := .meshId n v) rfl h (State.meshIdEff_ok hv hg ht)).holds hn fun t f =>
        (f.num (by decide)).trans ((State.num_saveN _ _ _ _).trans (if_pos rfl))
  case submit => exact fun s n h hs ho hl => answers_of_write rfl h (State.jobSubmit_ok hs ho hl)
  case abort => exact fun s n h => answers_of_write rfl h rfl
  case start =>
    exact fun s n j rest hq hr hc ho => (completes_of_done (exec_jobStart_host hq hr hc ho)).holds fun t f =>
      have hretort := (congrArg State.retort f.still :)
      ⟨congrArg Retort.running hretort, congrArg Retort.queue hretort⟩
  case complete => exact fun s n j hr ho ht => completes_of_done (exec_jobComplete_host hr ho ht)
  case erased => exact fun s j hc ht => completes_of_done (exec_jobAbortErased hc ht)
  case testLocked =>
    exact fun s n hn h hlc => (answers_of_write (c := .lcRequestTestLocked n) rfl h (State.lcEff_testLocked hlc)).holds hn fun t f =>
      (congrArg Otp.codeword f.otp).trans (State.codeword_lcMove s 1)
  case testOpen => exact fun s n h hlc hr ht => answers_of_write rfl h (State.lcEff_testOpen hlc hr ht)
  case factory => exact fun s n h hlc hc => answers_of_write rfl h (State.lcEff_factory hlc hc)
  case issued =>
    exact fun s n hn h hlc => (answers_of_write (c := .lcRequestIssued n) rfl h (State.lcEff_issued hlc)).holds hn fun t f =>
      (congrArg Otp.codeword f.otp).trans (State.codeword_lcMove s 4)
  case service =>
    exact fun s n hn h hlc hc => (answers_of_write (c := .lcRequestService n) rfl h (State.lcEff_service hlc hc)).holds hn fun t f =>
      (congrArg Otp.codeword f.otp).trans (State.codeword_lcMove s 5)
  case withdrawn => exact fun s n h hlc => answers_of_write rfl h (State.lcEff_return hlc)
  case ended => exact fun s n h hlc => answers_of_write rfl h (State.lcEff_end hlc)
  case resume => exact fun s n v h hlc hv hf => answers_of_write rfl h (State.lcEff_resume hlc hv hf)
  case idc => exact fun s n h hs hlc hi hm hd hx hr => answers_of_write rfl h (State.idcEff_stands hs hlc hi hm hd hx hr)
  case stmt => exact fun s n h hi hr => answers_of_write rfl h (State.stmtEff_stands hi hr)
  case nonce => exact fun s n hn h => (answers_of_read (c := .dbgNonceRead n) rfl h rfl).holds hn fun t f => f.dbgNonce
  case accept =>
    intro s n t x h hc hk hd hi hx hf hr ht hw hj
    exact answers_of_write rfl h (State.dbgAccept_stands ⟨hc, hk, hd, hi, hx, hf, hr, ht, hw, hj⟩)
  case certEnd => exact fun s n h => answers_of_write rfl h rfl
  case expiry =>
    exact fun s c hc hw => (completes_of_done (exec_dbgCertExpiry hc hw)).holds fun t f =>
      (congrArg (fun u : State => u.trust.cert) f.still :).trans (State.cert_certEnd hc 0)
  case words => exact fun s n h ha hm => answers_of_read rfl h (State.dbgDataEff_words ha hm)
  case bytes => exact fun s n h ha hm => answers_of_read rfl h (State.dbgDataEff_bytes ha hm)
  case halt =>
    exact fun s n hn h ha => (answers_of_write (c := .dbgHearthHalt n) rfl h (State.dbgHearthEff_halt ha)).holds hn fun t f =>
      congrArg Hearth.halted f.hearth
  case resumeHearth =>
    exact fun s n hn h ha hh => (answers_of_write (c := .dbgHearthResume n) rfl h (State.dbgHearthEff_resume ha hh)).holds hn fun t f =>
      congrArg Hearth.halted f.hearth
  case enrol => exact fun s c r rest h0 hc hd hr ha => completes_of_done (exec_credEnrolDirect h0 hc hd hr ha)

end Sys2Proof.Machine
end

section
/-! PROOFS. The OTP array and the life cycle (R591 to R598), and identity, direct enrolment and debug (R605, R606, R609, R621 to R624):
the steps burn bits and clear none, and each command comes to its effect where its checks stand. -/

namespace Sys2Proof.Machine

/-! The codeword (R592) -/

theorem eq_of_lcOfCodeword_eq_one {w : Nat} (h : lcOfCodeword w = 1) : w = 0x1F := by
  unfold lcOfCodeword at h
  split_ifs at h <;> omega

/-- The open flag tells TEST_OPEN from TEST_LOCKED, which have one codeword; under any other codeword it says nothing (R592,
R594). -/
theorem State.lc_of_codeword (s : State) : s.lc = (if s.otp.codeword = 0x00000000#32 then 0
      else if s.otp.codeword = 0x0000001F#32 then (if s.trust.testOpen then 2 else 1)
      else if s.otp.codeword = 0x000003FF#32 then 3 else if s.otp.codeword = 0x00007FFF#32 then 4
      else if s.otp.codeword = 0x000FFFFF#32 then 5 else if s.otp.codeword = 0x01FFFFFF#32 then 6
      else if s.otp.codeword = 0xFFFFFFFF#32 then 7 else 15) := by
  by_cases htest : s.otp.codeword = 0x0000001F#32
  · unfold State.lc
    rw [htest]
    cases s.trust.testOpen <;> rfl
  · have hlocked : lcOfCodeword s.otp.codeword.toNat ≠ 1 := fun h => htest (BitVec.eq_of_toNat_eq (eq_of_lcOfCodeword_eq_one h))
    have hflag : s.lc = lcOfCodeword s.otp.codeword.toNat := if_neg (fun h => hlocked h.1)
    have hcode : s.otp.codeword.toNat ≠ 0x1F := fun h => htest (BitVec.eq_of_toNat_eq h)
    rw [if_neg htest, hflag]
    unfold lcOfCodeword
    rw [if_neg hcode]
    simp only [BitVec.toNat_eq, BitVec.toNat_ofNat, Nat.reducePow, Nat.reduceMod]

/-- Settles O12: the codeword is a field of the OTP array, whose bits every step keeps burned. -/
theorem codewordOnlyBurns : Obligations.CodewordOnlyBurns := by
  unfold Obligations.CodewordOnlyBurns
  exact ⟨fun s t e => (step_keeps s t e).otp.codeword, State.lc_of_codeword⟩

/-- Settles O13: what every step keeps holds the OTP array and the part. -/
theorem otpOnlyBurns : Obligations.OtpOnlyBurns := by
  unfold Obligations.OtpOnlyBurns
  intro s t e
  obtain ⟨_, hotp, hpart, hstep⟩ := step_keeps s t e
  exact ⟨hotp, hpart, hstep⟩

/-! The life cycle (R594 to R598) -/

theorem State.lcEff_testClosed {s : State} {n : Nat} (h : s.lc = 2)
    (hc : (List.range s.nBolts).any (fun b => s.num (Reg.bCmLevel b) == 0) = false) : s.lcEff n 1 = okay (s.lcMove 1) := by
  unfold State.lcEff
  dsimp only
  rw [h, hc]
  rfl

/-- In SERVICE a device goes to RETURN by dual control only (R595). -/
theorem State.lcEff_returnInService {s : State} {n : Nat} (h : s.lc = 5) : s.lcEff n 6 = (s, .abort 0x140001) := by
  unfold State.lcEff
  dsimp only
  rw [h]
  rfl

/-- Settles O45: each request by its effect in the state it is made in; out of TEST_OPEN only with no bolt at CM0 (R185). What the
statement calls VIRGIN is RAW, and the value that LC_RESUME reads is written to LC_REQUEST. That a token is used once either of its bits
is burned is the model's choice (log entry 80). -/
theorem lifeCycleCompletes : Obligations.LifeCycleCompletes := by
  unfold Obligations.LifeCycleCompletes
  refine ⟨?testLocked, ?testOpen, ?testClosed, ?factory, ?issued, ?service, ?returned, ?refused, ?ended, ?resume⟩
  case testLocked => exact fun s n h hlc => answers_of_write rfl h (State.lcEff_testLocked hlc)
  case testOpen => exact fun s n h hlc hr ht => answers_of_write rfl h (State.lcEff_testOpen hlc hr ht)
  case testClosed => exact fun s n h hlc hc => answers_of_write rfl h (State.lcEff_testClosed hlc hc)
  case factory => exact fun s n h hlc hc => answers_of_write rfl h (State.lcEff_factory hlc hc)
  case issued => exact fun s n h hlc => answers_of_write rfl h (State.lcEff_issued hlc)
  case service => exact fun s n h hlc hc => answers_of_write rfl h (State.lcEff_service hlc hc)
  case returned => exact fun s n h hlc => answers_of_write rfl h (State.lcEff_return hlc)
  case refused => exact fun s n h hlc => answers_of_write rfl h (State.lcEff_returnInService hlc)
  case ended => exact fun s n h hlc => answers_of_write rfl h (State.lcEff_end hlc)
  case resume => exact fun s n v h hlc hv hf => answers_of_write rfl h (State.lcEff_resume hlc hv hf)

/-! Direct enrolment (R608, R609) -/

theorem State.enrolEff_removal {s : State} {c : Nat} (h : s.enrolAbort c [] = none) : s.enrolEff c [] = okay (s.enrol c []) := by
  have hcheck : firstAbort [s.enrolAbort c []] = none := by
    rw [h]
    rfl
  exact (check_none hcheck _).trans (congrArg okay (if_pos rfl))

/-- A write of CRED_ENROL on session 0 that R609 lets through, and that no other abort stands against, comes to its effect. -/
theorem exec_credEnrolDirect_admitted {s : State} {c : Nat} {bytes : Octets} (h0 : s.answers 0 = true) (hc : c < 16)
    (hd : s.directEnrol 0 = true)
    (hr : firstAbort ((s.admission 0 ((0x1380 + c) * 256 + 1) true 0).filter (fun x => x != some 0x140001)
      ++ [abortIf (!octetsLengthOk ((0x1380 + c) * 256 + 1) 2000 bytes.length) 0x130003]) = none) :
    exec (.credEnrolDirect 0 c bytes) s = done (answered 0 (s.enrolEff c bytes)).afterResponse := by
  have hgo : (s.directEnrol 0 && decide (c < 16)) = true := by
    rw [hd, decide_eq_true hc]
    rfl
  show hostDone 0 s (s.enrolWrite 0 c bytes) = _
  rw [hostDone_answers h0]
  unfold State.enrolWrite
  dsimp only
  rw [if_pos hgo, underAborts_none hr]

/-- Settles O46: each command where its checks stand, the signatures of a certificate deciding. The signature checks of a request as
Retort jobs made in its step are the model's choice (log entry 79). -/
theorem trustCommandsComplete : Obligations.TrustCommandsComplete := by
  unfold Obligations.TrustCommandsComplete
  refine ⟨?idc, ?stmt, ?enrol, ?removal⟩
  case idc => exact fun s n h hs hlc hi hm hd hx hr => answers_of_write rfl h (State.idcEff_stands hs hlc hi hm hd hx hr)
  case stmt => exact fun s n h hi hr => answers_of_write rfl h (State.stmtEff_stands hi hr)
  case enrol => exact fun s c r rest h0 hc hd hr ha => completes_of_done (exec_credEnrolDirect h0 hc hd hr ha)
  case removal =>
    intro s c h0 hc hd hr ha
    rw [← State.enrolEff_removal ha]
    exact completes_of_done (exec_credEnrolDirect_admitted h0 hc hd hr)

/-- Settles O47: each command where its checks stand, the signatures of a certificate deciding. A certificate of a wrong magic refused
as one of a wrong signature, its window binding in every state (log entry 80), the checks as Retort jobs made in the request's step
(79), DBG_PAR of a byte memory (83), and a halted core that is out of step until it has been resumed (50) are the model's choices. -/
theorem debugCommandsComplete : Obligations.DebugCommandsComplete := by
  unfold Obligations.DebugCommandsComplete
  refine ⟨?nonce, ?accept, ?ended, ?expiry, ?words, ?bytes, ?halt, ?resume⟩
  case nonce => exact fun s n h => answers_of_read rfl h rfl
  case accept =>
    intro s n t x h hc hk hd hi hx hf hr ht hw hj
    exact answers_of_write rfl h (State.dbgAccept_stands ⟨hc, hk, hd, hi, hx, hf, hr, ht, hw, hj⟩)
  case ended => exact fun s n h => answers_of_write rfl h rfl
  case expiry => exact fun s c hc hw => completes_of_done (exec_dbgCertExpiry hc hw)
  case words => exact fun s n h ha hm => answers_of_read rfl h (State.dbgDataEff_words ha hm)
  case bytes => exact fun s n h ha hm => answers_of_read rfl h (State.dbgDataEff_bytes ha hm)
  case halt => exact fun s n h ha => answers_of_write rfl h (State.dbgHearthEff_halt ha)
  case resume => exact fun s n h ha hh => answers_of_write rfl h (State.dbgHearthEff_resume ha hh)

end Sys2Proof.Machine
end

section
/-! PROOFS. Firmware (R613 to R616, R665): chunks, and the steps of an update in their order. -/

namespace Sys2Proof.Machine

section Firmware
variable {s : State} {n : Nat} {bytes : Octets}

/-! Chunks (R616, R661, R665) -/

/-- The state with a chunk in the boot store's slot that is not preferred, which is not verified any more. -/
def State.chunkStored (s : State) (bytes : Octets) : State :=
  s.setImageSlot s.newSlot { bytes := Mem.writeAll (s.imageSlot s.newSlot).bytes (s.num Reg.fwChunkOff) bytes, state := 1 }

theorem State.chunkEff_checked (hr : s.fwRole n = none) (hb : s.num Reg.fwChunkOff + bytes.length ≤ slotBytes) :
    firstAbort [s.fwRole n, abortIf (decide (slotBytes < s.num Reg.fwChunkOff + bytes.length)) 0x130001] = none := by
  rw [hr, decide_eq_false (Nat.not_lt.mpr hb)]
  rfl

theorem State.chunkEff_bootStore (hr : s.fwRole n = none) (hb : s.num Reg.fwChunkOff + bytes.length ≤ slotBytes)
    (hs : s.rangeOf 5 = none) : s.chunkEff n bytes = okay (s.chunkStored bytes) := by
  unfold State.chunkEff
  dsimp only
  rw [check_none (State.chunkEff_checked hr hb), hs]
  rfl

theorem State.chunkEff_staging {r : Nat} (hr : s.fwRole n = none) (hb : s.num Reg.fwChunkOff + bytes.length ≤ slotBytes)
    (hs : s.rangeOf 5 = some (r, true)) (hp : s.partFails r (s.num Reg.fwChunkOff) bytes.length = none) :
    s.chunkEff n bytes = okay (s.smWrite r (s.num Reg.fwChunkOff) bytes) := by
  unfold State.chunkEff
  dsimp only
  rw [check_none (State.chunkEff_checked hr hb), hs]
  dsimp only
  rw [hp]

/-- A chunk of a right length that Hearth takes comes to its effect. -/
theorem answers_fwChunk {r : Eff} (hn : s.answers n = true)
    (ha : firstAbort (s.admission n 0x136005 true 0 ++ [abortIf (!octetsLengthOk 0x136005 3072 bytes.length) 0x130003]) = none)
    (he : s.chunkEff n bytes = r) : Answers (.fwChunk n bytes) s n r := by
  refine completes_of_done ?_
  show hostDone n s (s.request n 0x136005 true 0 _ (s.chunkEff n bytes)) = _
  rw [State.request_served ha, hostDone_answers hn, he]

/-! Steps (R613 to R616) -/

/-- What the verdict on a staged image leaves (R613, R616): none of it where the image is not accepted; and in recovery the device
boots it (R614). -/
def State.verified (s : State) (bad : Option Nat) : Eff :=
  match s.stagedImage bad with
  | .error (t, c) => (t, .abort c)
  | .ok im =>
    match s.imageFault im with
    | some _ => ((s.setImageSlot s.newSlot { s.imageSlot s.newSlot with state := 1 }).countBy Reg.rtJobs 2, .abort 0x140036)
    | none =>
      let t := s.setImageSlot s.newSlot { im with state := 2 }
      if t.phase = .recovery then
        let u : State := { t with boot := { t.boot with preferred := s.newSlot } }
        okay (((u.bootFirmware s.newSlot [(0x0B0008, 0x136000, 1048576 + s.newSlot * 524288)]).putN Reg.fwStep 1).countBy Reg.rtJobs 2)
      else okay ((t.fwStepDone 1).countBy Reg.rtJobs 2)

theorem State.fwVerifyEff_judged (bad : Option Nat) (hs : ¬(2 ≤ s.num Reg.fwStep ∧ s.num Reg.fwStep ≤ 5))
    (hr : s.retort.disagree = false) : s.fwVerifyEff bad = s.verified bad := by
  unfold State.fwVerifyEff State.verified
  dsimp only
  rw [if_neg hs]
  cases s.stagedImage bad with
  | error e => rfl
  | ok im =>
    dsimp only
    rw [hr, if_neg Bool.false_ne_true]
    cases s.imageFault im with
    | some x => rfl
    | none =>
      dsimp only
      split <;> rfl

theorem fwRole_admits (hr : s.fwRole n = none) : firstAbort [s.fwRole n] = none := by
  rw [hr]
  rfl

/-- A step that comes in its order is made (R616). -/
theorem check_inOrder {t : State} {ok : Bool} (h : ok = true) : check s [abortIf (!ok) 0x120031] (okay t) = okay t := by
  subst h
  rfl

/-- The image of the slot that firmware steps work on is verified. -/
theorem State.inStep_verified {k : Nat} (hs : s.num Reg.fwStep = k) (hv : (s.imageSlot s.newSlot).state = 2) :
    (s.num Reg.fwStep == k && (s.imageSlot s.newSlot).state == 2) = true := by
  rw [hs, hv, beq_self_eq_true]
  rfl

theorem State.fwEff_verify (bad : Option Nat) (hr : s.fwRole n = none) (hs : ¬(2 ≤ s.num Reg.fwStep ∧ s.num Reg.fwStep ≤ 5))
    (hj : s.retort.disagree = false) : s.fwEff n 1 bad = s.verified bad :=
  (underAborts_none (fwRole_admits hr) _).trans (State.fwVerifyEff_judged bad hs hj)

theorem State.fwEff_loadBanked (hr : s.fwRole n = none) (hs : s.num Reg.fwStep = 1) (hv : (s.imageSlot s.newSlot).state = 2) :
    s.fwEff n 2 none = okay ((s.loadBanked s.newSlot).fwStepDone 2) :=
  (underAborts_none (fwRole_admits hr) _).trans (check_inOrder (State.inStep_verified hs hv))

theorem State.fwEff_switch (hr : s.fwRole n = none) (hs : s.num Reg.fwStep = 2) :
    s.fwEff n 3 none = okay ((s.fwStepDone 3).switchOver 3) :=
  (underAborts_none (fwRole_admits hr) _).trans (check_inOrder (beq_iff_eq.mpr hs))

theorem State.fwEff_loadOther (hr : s.fwRole n = none) (hs : s.num Reg.fwStep = 3) (hv : (s.imageSlot s.newSlot).state = 2) :
    s.fwEff n 4 none = okay ((s.loadBanked s.newSlot).fwStepDone 4) :=
  (underAborts_none (fwRole_admits hr) _).trans (check_inOrder (State.inStep_verified hs hv))

theorem State.fwEff_revert (hr : s.fwRole n = none) (hs : s.num Reg.fwStep = 4) :
    s.fwEff n 5 none = okay ((s.fwStepDone 5).switchOver 3) :=
  (underAborts_none (fwRole_admits hr) _).trans (check_inOrder (beq_iff_eq.mpr hs))

/-- The state that COMMIT leaves: the slot of the update preferred, the floor raised to its image's SV (R615, R616). -/
def State.fwCommitted (s : State) : State :=
  let t := s.fwStepDone 6
  ({ t with boot := { t.boot with preferred := s.newSlot } } : State).raiseFloor (imageSv (t.imageSlot s.newSlot))

theorem State.fwEff_commit (hr : s.fwRole n = none) (hs : s.num Reg.fwStep = 5) (hv : (s.imageSlot s.newSlot).state = 2) :
    s.fwEff n 6 none = okay s.fwCommitted :=
  (underAborts_none (fwRole_admits hr) _).trans (check_inOrder (State.inStep_verified hs hv))

theorem State.fwEff_abandon (hr : s.fwRole n = none) (hs : 2 ≤ s.num Reg.fwStep) (hl : s.num Reg.fwStep ≤ 5) :
    s.fwEff n 7 none = okay s.fwAbandonNow :=
  (underAborts_none (fwRole_admits hr) _).trans (check_inOrder (decide_eq_true ⟨hs, hl⟩))

theorem State.fwEff_erase (hr : s.fwRole n = none) (hs : ¬(2 ≤ s.num Reg.fwStep ∧ s.num Reg.fwStep ≤ 5)) :
    s.fwEff n 8 none = okay ((s.setImageSlot s.newSlot {}).fwStepDone 8) :=
  (underAborts_none (fwRole_admits hr) _).trans (check_inOrder (by rw [decide_eq_false hs]; rfl))

end Firmware

/-- Settles O48: a chunk by where it goes, each step where it comes in its order. VERIFY and ERASE of a verified slot, a chunk that
clears its verification (log entry 83), and the signature checks as Retort jobs made in the request's step (79) are the model's
choices. -/
theorem firmwareCommandsComplete : Obligations.FirmwareCommandsComplete := by
  unfold Obligations.FirmwareCommandsComplete
  refine ⟨?bootStore, ?staging, ?verify, ?loadBanked, ?switch, ?loadOther, ?revert, ?commit, ?abandon, ?erase⟩
  case bootStore => exact fun s n bytes hn ha hr hb hs => answers_fwChunk hn ha (State.chunkEff_bootStore hr hb hs)
  case staging => exact fun s n r bytes hn ha hr hb hs hp => answers_fwChunk hn ha (State.chunkEff_staging hr hb hs hp)
  case verify => exact fun s n bad h hr hs hj => answers_of_write rfl h (State.fwEff_verify bad hr hs hj)
  case loadBanked => exact fun s n h hr hs hv => answers_of_write rfl h (State.fwEff_loadBanked hr hs hv)
  case switch => exact fun s n h hr hs => answers_of_write rfl h (State.fwEff_switch hr hs)
  case loadOther => exact fun s n h hr hs hv => answers_of_write rfl h (State.fwEff_loadOther hr hs hv)
  case revert => exact fun s n h hr hs => answers_of_write rfl h (State.fwEff_revert hr hs)
  case commit => exact fun s n h hr hs hv => answers_of_write rfl h (State.fwEff_commit hr hs hv)
  case abandon => exact fun s n h hr hs hl => answers_of_write rfl h (State.fwEff_abandon hr hs hl)
  case erase => exact fun s n h hr hs => answers_of_write rfl h (State.fwEff_erase hr hs)

end Sys2Proof.Machine
end

section
/-! PROOFS. Side memory, performance counters and the pair (R653, R660, R661, R666, R700 to R719, R730 to R736), and, with firmware, the
state that each command leaves. -/

namespace Sys2Proof.Machine

/-! Reading the next state of a host command -/

/-- A host write that Hearth takes gives its effect's state, answered and with its traffic moved on. -/
theorem next_of_write {c : Instr} {s : State} {n addr v : Nat} {e r : Eff} (hc : exec c s = hostWrite n addr v s e)
    (h : Serves s n addr v) (he : e = r) : exec c s = .next (answered n r).afterResponse.settle :=
  next_of_done (by rw [hc, hostWrite_serves h, he])

theorem next_of_read {c : Instr} {s : State} {n addr : Nat} {e r : Eff} (hc : exec c s = hostRead n addr s e)
    (h : ServesRead s n addr) (he : e = r) : exec c s = .next (answered n r).afterResponse.settle :=
  next_of_done (by rw [hc, hostRead_serves h, he])

/-- An event that ends in one of two states ends in the one that its condition names. -/
theorem ite_done {c : Prop} {_ : Decidable c} {a b : State} {o : Host.Outcome State Fault Refusal} (h : o = done b) :
    (if c then done a else o) = done (if c then a else b) := by
  rw [h]
  exact (apply_ite done c a b).symm

section Rests
variable {s t : State} (h : Rests s t)
include h

theorem Rests.imageSlot (k : Nat) : t.imageSlot k = s.imageSlot k := by
  have hslot0 : t.boot.slot0 = s.boot.slot0 := (congrArg (fun u : State => u.boot.slot0) h.calm :)
  have hslot1 : t.boot.slot1 = s.boot.slot1 := (congrArg (fun u : State => u.boot.slot1) h.calm :)
  unfold State.imageSlot
  rw [hslot0, hslot1]

theorem Rests.preferred : t.boot.preferred = s.boot.preferred := (congrArg (fun u : State => u.boot.preferred) h.calm :)

/-- Of the pair unit only what its health and its hold-off watch moves. -/
theorem Rests.pair : { t.pair with watchBad := [], linesBad := [], holdoff := none }
    = { s.pair with watchBad := [], linesBad := [], holdoff := none } := (congrArg State.pair h.calm :)

theorem Rests.becoming : t.pair.becoming = s.pair.becoming := (congrArg PairUnit.becoming h.pair :)

end Rests

/-! Firmware (R616) -/

theorem State.num_fwStep_fwStepDone (s : State) (v : Nat) : (s.fwStepDone v).num Reg.fwStep = v :=
  ((State.raise_rests _ _ _ _).num (by decide)).trans (State.num_putN_same _ _ _)

theorem State.imageSlot_setImageSlot (s : State) (k : Nat) (i : ImageSlot) : (s.setImageSlot k i).imageSlot k = i := by
  unfold State.imageSlot State.setImageSlot
  split <;> rfl

/-- Burning the floor leaves the boot store. -/
theorem State.boot_raiseFloor (s : State) (sv : Nat) : (s.raiseFloor sv).boot = s.boot := by
  unfold State.raiseFloor
  dsimp only
  split <;> rfl

theorem State.preferred_fwCommitted (s : State) : s.fwCommitted.boot.preferred = s.newSlot :=
  congrArg BootStore.preferred (State.boot_raiseFloor _ _)

/-! Side memory (R653, R660, R661, R666) -/

section SideMemory
variable {s : State} {n c r off : Nat} {bytes : Octets} {bad : Option Nat}

theorem smCh_rests {c sub : Nat} (hc : c < 2) (hs : sub < 256) : responseKey (.dev ((0x1600 + c) * 256 + sub)) = false :=
  dev_rests (dev_still (by omega) (.inl (by omega)) (by simp only [List.mem_cons, List.not_mem_nil, or_false]; omega)) (by omega)

/-- The state with a channel enabled, in training (R653). -/
def State.chTraining (s : State) (c : Nat) : State := (s.saveN (Reg.smChEnable c) 1).putN (Reg.smChState c) 1

theorem State.chEnableEff_training (h : s.num (Reg.smChEnable c) ≠ 1) : s.chEnableEff c 1 = okay (s.chTraining c) := by
  unfold State.chEnableEff
  dsimp only
  rw [if_neg Nat.one_ne_zero, if_neg h]
  rfl

theorem State.num_smChState_chTraining (s : State) (c : Nat) : (s.chTraining c).num (Reg.smChState c) = 1 :=
  State.num_putN_same _ _ _

theorem State.num_smChEnable_chTraining (s : State) (c : Nat) : (s.chTraining c).num (Reg.smChEnable c) = 1 := by
  unfold State.chTraining
  rw [State.num_putN_other _ _ (dev_ne (by omega)), State.num_saveN, if_pos rfl]

theorem exec_smChannelTrained (hc : c < s.part.sideChannels) (hs : s.num (Reg.smChState c) = 1) :
    exec (.smChannelTrained c true) s = done (s.putN (Reg.smChState c) 2) :=
  (if_neg (fun h => h.elim (Nat.not_le.mpr hc) (· hs))).trans (if_pos rfl)

/-- An access at a line of a RUNNING range that a session may reach there comes to its effect (R666). -/
theorem State.accEff_reached {write : Bool} {act : Nat → Nat → Eff}
    (hu : s.num (Reg.rngUse (s.num (Reg.smAccRange n))) ≠ 5)
    (hw : write = true → s.num (Reg.rngUse (s.num (Reg.smAccRange n))) < 2 ∨ 5 < s.num (Reg.rngUse (s.num (Reg.smAccRange n))))
    (hr : s.running (.range (s.num (Reg.smAccRange n))) = true) (ha : s.num (Reg.smAccOff n) % 64 = 0)
    (hl : s.num (Reg.smAccOff n) + 192 ≤ s.num (Reg.rngSize (s.num (Reg.smAccRange n))) * 1048576) :
    s.accEff n write act = act (s.num (Reg.smAccRange n)) (s.num (Reg.smAccOff n)) := by
  have hwrite : (write && decide (2 ≤ s.num (Reg.rngUse (s.num (Reg.smAccRange n)))
      ∧ s.num (Reg.rngUse (s.num (Reg.smAccRange n))) ≤ 4)) = false := by
    cases write with
    | false => rfl
    | true =>
      have huse := hw rfl
      exact decide_eq_false (by omega)
  unfold State.accEff
  dsimp only
  rw [beq_eq_false_iff_ne.mpr hu, hwrite, hr, if_neg Bool.noConfusion, ha, decide_eq_false (Nat.not_lt.mpr hl)]
  rfl

theorem State.accWriteEff_reached (hx : s.num (Reg.smAccRange n) = r) (ho : s.num (Reg.smAccOff n) = off)
    (hu : s.num (Reg.rngUse r) < 2 ∨ 5 < s.num (Reg.rngUse r)) (hr : s.running (.range r) = true) (ha : off % 64 = 0)
    (hl : off + 192 ≤ s.num (Reg.rngSize r) * 1048576) :
    s.accWriteEff n bytes = okay ((s.smWrite r off bytes).putN (Reg.smAccOff n) (off + 192)) := by
  subst hx ho
  exact State.accEff_reached (by omega) (fun _ => hu) hr ha hl

theorem State.accReadEff_reached (hx : s.num (Reg.smAccRange n) = r) (ho : s.num (Reg.smAccOff n) = off)
    (hu : s.num (Reg.rngUse r) ≠ 5) (hr : s.running (.range r) = true) (ha : off % 64 = 0)
    (hl : off + 192 ≤ s.num (Reg.rngSize r) * 1048576) (hf : s.lineFails r (off / 64) 3 bad = none) :
    s.accReadEff n bad = (s.putN (Reg.smAccOff n) (off + 192), .value (.oct (s.smRead r off 192))) := by
  subst hx ho
  refine (State.accEff_reached hu Bool.noConfusion hr ha hl).trans ?_
  rw [hf]

theorem exec_smAccDataWrite {e : Eff} (hn : s.answers n = true)
    (ha : firstAbort (s.admission n 0x162003 true 0 ++ [abortIf (bytes.length != 192) 0x130003]) = none)
    (he : s.accWriteEff n bytes = e) : exec (.smAccDataWrite n bytes bad) s = done (answered n e).afterResponse := by
  show hostDone n s (s.request n 0x162003 true 0 _ (s.accWriteEff n bytes)) = _
  rw [State.request_served ha, hostDone_answers hn, he]

end SideMemory

/-! Performance counters (R730 to R736) -/

section Counters
variable {s : State} {n b i v : Nat}

theorem exec_pcSel (hi : i < 16) : exec (.pcSel n b i v) s = hostWrite n (blockAddr 0x1810 8 b (1 + i)) v s (s.pcSelEff b i v) :=
  congrArg (fun a => hostWrite n a v s (s.pcSelEff b i v)) (if_pos hi)

theorem exec_pcValRead (hi : i < 16) : exec (.pcValRead n b i) s = hostRead n (blockAddr 0x1810 8 b (0x11 + i)) s (s.pcReadEff n b i) :=
  congrArg (fun a => hostRead n a s (s.pcReadEff n b i)) (if_pos hi)

/-- An event of the table that is not of the sector engines can be selected on every part (R731). -/
theorem State.pcSelEff_ok (hv : countedEvents.contains v = true) (hs : v ≠ 0x0A0 ∧ v ≠ 0x0A1) :
    s.pcSelEff b i v = okay ((s.putN (pcSelKey b i) v).pcZero b i) := by
  refine check_none ?_ _
  rw [hv, beq_eq_false_iff_ne.mpr hs.1, beq_eq_false_iff_ne.mpr hs.2]
  rfl

/-- A counter set to 0 keeps what it counts. -/
theorem State.num_pcSelKey_pcZero (s : State) (b i : Nat) : (s.pcZero b i).num (pcSelKey b i) = s.num (pcSelKey b i) := by
  have hval : pcValKey b i ≠ pcSelKey b i := dev_ne (by omega)
  unfold State.pcZero
  rw [State.num_putN_other _ _ Key.noConfusion, State.num_putN_other _ _ hval]

theorem pcSelKey_rests (hi : i < 16) : responseKey (pcSelKey b i) = false := by
  have hsel : ((0x1810 + b % 8) * 256 + (1 + i)) % 256 = 1 + i := by omega
  refine dev_rests ?_ (by omega)
  simp only [trafficKey, hsel, Bool.or_eq_false_iff, Bool.and_eq_false_iff, decide_eq_false_iff_not, List.contains_eq_mem]
  exact ⟨⟨⟨.inl (by omega), .inl (by omega)⟩, by omega⟩, by simp only [List.mem_cons, List.not_mem_nil, or_false]; omega⟩

end Counters

/-! The pair (R700 to R719) -/

section Pair
variable {s : State} {t gen row b cause : Nat} {hb : Heartbeat} {rs : List Report}

/-- A heartbeat sent takes one frame count of the mirror link and changes nothing else of the pair unit (R703). -/
theorem State.pair_heartbeat (s : State) (relinquish handover request : Bool) :
    { (s.heartbeat relinquish handover request).pair with txCount := 0 } = { s.pair with txCount := 0 } := by
  unfold State.heartbeat
  split <;> rfl

theorem State.time_heartbeat (s : State) (relinquish handover request : Bool) :
    (s.heartbeat relinquish handover request).time = s.time := by
  unfold State.heartbeat
  split <;> rfl

/-- So does an item for the partner, where it is sent (R705). -/
theorem State.pair_mirror (s : State) (it : MirrorItem) : { (s.mirror it).pair with txCount := 0 } = { s.pair with txCount := 0 } := by
  unfold State.mirror State.update
  split
  · split <;> rfl
  · rfl

/-! Joining, TAKE and GIVE (R713, R715) -/

theorem State.pairJoinEff_set (h : s.num Reg.pairJoin ≠ 1) : s.pairJoinEff 1 = okay ((s.saveN Reg.pairJoin 1).setRole 1 6) :=
  (if_pos rfl).trans (if_neg h)

/-- The state with the device Cold, a Lit one having relinquished, and the link ended (R713). -/
def State.pairLeft (s : State) : State :=
  let t := if s.role = 2 then s.giveUp false 0 6 else s.setRole 0 6
  (t.linkDown t.pair.relinquished).saveN Reg.pairJoin 0

theorem State.pairJoinEff_clear (s : State) : s.pairJoinEff 0 = okay s.pairLeft := rfl

theorem State.num_pairJoin_pairLeft (s : State) : s.pairLeft.num Reg.pairJoin = 0 :=
  (State.num_saveN _ _ _ _).trans (if_pos rfl)

/-- The state with the partner asked to hand over (R713). -/
def State.takeAsked (s : State) : State :=
  ({ s with pair := { s.pair with requested := true, claimCause := 3 } } : State).heartbeat false false true

/-- TAKE over the link, of a partner that is not Lit (R713, R719). -/
theorem State.takeEff_linked (hr : s.role = 1) (hl : s.linked = true) (hp : s.pair.peerHealthy = true) (ho : s.pair.peerRole ≠ 2) :
    s.takeEff = okay (s.takeAsked.becomeLit 3) := by
  have hpeer : s.takeAsked.pair.peerRole = s.pair.peerRole := (congrArg PairUnit.peerRole (State.pair_heartbeat _ false false true) :)
  refine (check_none ?reached _).trans ((if_pos hl).trans ?asked)
  case reached =>
    rw [hr, hl, hp]
    rfl
  case asked =>
    show okay (if s.takeAsked.pair.peerRole = 2 then s.takeAsked else s.takeAsked.becomeLit 3) = _
    rw [hpeer, if_neg ho]

theorem State.becoming_takeAsked (s : State) : (s.takeAsked.becomeLit 3).pair.becoming = some (3, s.time.elapsed) :=
  congrArg (fun x : TimeUnit => some (3, x.elapsed)) (State.time_heartbeat _ false false true)

theorem State.giveEff_linked (hr : s.role = 2) (hl : s.linked = true) (hp : s.pair.peerHealthy = true) :
    s.giveEff = okay (s.giveUp true 1 3) := by
  refine check_none ?_ _
  rw [hr, hl, hp]
  rfl

/-! The mirror link (R702, R703) -/

theorem exec_mirrorLinkAttempt (hp : s.phase = .ready) (hj : s.num Reg.pairJoin ≠ 0) (hl : s.num Reg.pairLink = 0)
    (ht : s.pair.attemptAt ≤ s.time.elapsed) (h0 : s.laneReport 128 = 0) (h1 : s.laneReport 129 = 0) :
    exec (.mirrorLinkAttempt true) s = done ((s.putN Reg.pairLink 1).linkEvent 0) := by
  have hdue : ¬ (s.phase ≠ .ready ∨ s.num Reg.pairJoin = 0 ∨ s.num Reg.pairLink ≠ 0 ∨ s.time.elapsed < s.pair.attemptAt) := by
    simp only [hp, hj, hl, ne_eq, not_true_eq_false, Nat.not_lt.mpr ht, or_self, not_false_eq_true]
  refine (if_neg hdue).trans (if_pos ?_)
  rw [h0, h1]
  rfl

theorem State.num_pairLink_linkEvent (s : State) (step : Nat) : (s.linkEvent step).num Reg.pairLink = s.num Reg.pairLink :=
  (State.raise_rests _ _ _ _).num (by decide)

theorem exec_heartbeatSend (hl : s.linked = true) (ht : s.pair.beatAt + 1000 ≤ s.time.elapsed) : exec .heartbeatSend s
      = done (({ s with pair := { s.pair with beatAt := s.time.elapsed } } : State).heartbeat false false s.pair.requested) :=
  if_pos ⟨hl, ht⟩

/-- The state with a heartbeat's words about the partner taken in (R703). -/
def State.heartbeatNoted (s : State) (hb : Heartbeat) : State :=
  ({ s with pair := { s.pair with heardAt := s.time.elapsed, peerRole := hb.role, peerGen := hb.roleGen, peerHealthy := hb.healthy,
                                  peerSync := hb.sync } } : State).hear hb.reports

/-- A partner that relinquishes makes a healthy Banked device Lit (R713), unless it is becoming so already. -/
theorem exec_heartbeatReceived_relinquish (hl : s.linked = true) (hv : hb.valid = true) (hq : hb.relinquish = true)
    (hr : s.role = 1) (hh : s.healthy = true) (hn : s.pair.becoming = none) : exec (.heartbeatReceived hb) s
      = done (({ s.heartbeatNoted hb with pair := { (s.heartbeatNoted hb).pair with relinquished := true } } : State).becomeLit 1) := by
  have hheard : ¬ (s.linked = false ∨ hb.valid = false) := by
    rw [hl, hv]
    exact fun h => h.elim Bool.noConfusion Bool.noConfusion
  have hlit : (s.role == 2 && s.num Reg.pairSync == 2 && s.pair.peerSync == 2 && hb.sync == 1) = false := by
    rw [hr]
    rfl
  have hready : (s.heartbeatNoted hb).role = 1 ∧ (s.heartbeatNoted hb).healthy = true
      ∧ (s.heartbeatNoted hb).pair.becoming.isNone = true := by
    refine ⟨hr, hh, ?_⟩
    show s.pair.becoming.isNone = true
    rw [hn]
    rfl
  refine (if_neg hheard).trans ?_
  rw [hlit]
  refine (if_pos (.inl hq)).trans ((if_pos hready).trans ?_)
  rw [hq]
  rfl

/-- A healthy Banked device with WITNESS wired claims it when the heartbeats stop (R713). -/
theorem exec_heartbeatLoss_claims (hl : s.linked = true) (hr : s.role = 1) (hw : s.num Reg.pairWitnessWired = 1)
    (hh : s.healthy = true) (hn : s.pair.becoming = none) (ht : s.pair.heardAt + 10000 ≤ s.time.elapsed) :
    exec .heartbeatLoss s = done ((s.linkDown true).claimWitness 2) := by
  have hlost : ¬ (s.linked = false ∨ s.time.elapsed < s.pair.heardAt + 10000) := by
    rw [hl]
    exact fun h => h.elim Bool.noConfusion (Nat.not_lt.mpr ht)
  have hclaims : (s.role == 1 && s.num Reg.pairWitnessWired == 1 && s.healthy && s.pair.becoming.isNone) = true := by
    rw [hr, hw, hh, hn]
    rfl
  refine (if_neg hlost).trans ?_
  rw [hclaims, Bool.or_true]
  rfl

theorem exec_witnessClaimDone_high (hc : s.pair.claiming = some t) (ht : t + 10000 + 20000 * s.pairId ≤ s.time.elapsed) :
    exec (.witnessClaimDone true) s
      = done (({ s with pair := { s.pair with claiming := none, witnessHigh := true } } : State).becomeLit 2) := by
  show execWitnessClaimDone true s = _
  unfold execWitnessClaimDone
  rw [hc]
  exact (if_neg (Nat.not_lt.mpr ht)).trans (if_pos rfl)

theorem exec_takeoverComplete (hc : s.pair.becoming = some (cause, t)) : exec .takeoverComplete s
      = done (({ s with pair := { s.pair with requested := false } } : State).setRole 2 cause) := by
  show execTakeoverComplete s = _
  unfold execTakeoverComplete
  rw [hc]

/-! Mirror updates and reports (R705, R708) -/

/-- Reports of the role generation in force are taken in any role. -/
theorem exec_mirrorUpdateReceived_reports (hl : s.linked = true) :
    exec (.mirrorUpdateReceived ⟨gen, s.num Reg.pairRoleGen, .reports rs⟩) s
      = done (({ s with pair := { s.pair with peerGen := gen } } : State).applyItem (.reports rs)) :=
  (if_neg (by rw [hl]; exact Bool.noConfusion)).trans (if_neg (not_not.mpr rfl))

/-- The end of a row of the role generation in force is taken by a Banked device. -/
theorem exec_mirrorUpdateReceived_saDelete (hl : s.linked = true) (hr : s.role = 1) :
    exec (.mirrorUpdateReceived ⟨gen, s.num Reg.pairRoleGen, .saDelete row⟩) s
      = done (({ s with pair := { s.pair with peerGen := gen } } : State).applyItem (.saDelete row)) :=
  (if_neg (by rw [hl]; exact Bool.noConfusion)).trans ((if_neg (not_not.mpr rfl)).trans (if_pos hr))

theorem exec_resyncComplete (hl : s.linked = true) (hs : s.num Reg.pairSync = 1) :
    exec .resyncComplete s = done (s.putN Reg.pairSync 2) := if_pos ⟨hl, hs⟩

theorem exec_counterReport (ht : s.pair.reportAt + 100000 ≤ s.time.elapsed) : exec .counterReport s
      = done (({ s with pair := { s.pair with reportAt := s.time.elapsed } } : State).mirror (.reports s.ownReports)) := if_pos ht

/-! Hold-off and watch (R716, R717) -/

theorem exec_pairHoldoffExpiry (hh : s.pair.holdoff = some t) (hr : s.revertReady = true)
    (ht : t + s.num Reg.pairHoldoff * 1000000000 ≤ s.time.elapsed) : exec .pairHoldoffExpiry s
      = done (({ s with pair := { s.pair with requested := true, claimCause := 4 } } : State).heartbeat false false true) := by
  show execPairHoldoffExpiry s = _
  unfold execPairHoldoffExpiry
  rw [hh]
  exact if_pos ⟨hr, ht⟩

theorem exec_pairWatchTimeout (hb : b < s.nBolts) (hl : s.boltLinesBad b = true)
    (ht : s.pair.linesBad.getD b s.time.elapsed + 10000000 ≤ s.time.elapsed) (hw : s.pair.watchBad.contains b = false) :
    exec (.pairWatchTimeout b) s
      = done ({ s with pair := { s.pair with watchBad := s.pair.watchBad ++ [b] } } : State).healthCheck := if_pos ⟨hl, ht, hb, hw⟩

end Pair

/-- Settles O60: the fields named by what frames and responses do not move, the next state itself by the equation of the command. The
signature checks of VERIFY as Retort jobs made in its step (log entry 79), VERIFY and ERASE of a verified slot (83), a channel not
trained again when it is enabled already, and memory returned that applies to tributary counters only (82) are the model's
choices. -/
theorem firmwareMemoryAndPairAnswer : Obligations.FirmwareMemoryAndPairAnswer := by
  unfold Obligations.FirmwareMemoryAndPairAnswer
  refine ⟨?chunk, ?verify, ?loadBanked, ?switch, ?loadOther, ?revert, ?commit, ?abandon, ?erase, ?channel, ?trained, ?accWrite, ?accRead,
    ?select, ?zeroed, ?sampled, ?join, ?left, ?leave, ?take, ?give, ?attempt, ?linkUp, ?beatAt, ?beat, ?relinquish, ?loss, ?witness,
    ?reports, ?deleted, ?resync, ?reportAt, ?report, ?holdoff, ?asked, ?watch, ?takeover⟩
  case chunk =>
    exact fun s n bytes hn h ha hr hb hs => (answers_fwChunk h ha (State.chunkEff_bootStore hr hb hs)).holds hn fun t f =>
      congrArg ImageSlot.state ((f.imageSlot _).trans (State.imageSlot_setImageSlot s _ _))
  case verify => exact fun s n bad h hr hs hj => next_of_write rfl h (State.fwEff_verify bad hr hs hj)
  case loadBanked =>
    exact fun s n hn h hr hs hv =>
      (answers_of_write (c := .fwLoadBanked n) rfl h (State.fwEff_loadBanked hr hs hv)).holds hn fun t f =>
        (f.num (by decide)).trans (State.num_fwStep_fwStepDone _ 2)
  case switch => exact fun s n h hr hs => next_of_write rfl h (State.fwEff_switch hr hs)
  case loadOther =>
    exact fun s n hn h hr hs hv =>
      (answers_of_write (c := .fwLoadOther n) rfl h (State.fwEff_loadOther hr hs hv)).holds hn fun t f =>
        (f.num (by decide)).trans (State.num_fwStep_fwStepDone _ 4)
  case revert => exact fun s n h hr hs => next_of_write rfl h (State.fwEff_revert hr hs)
  case commit =>
    exact fun s n hn h hr hs hv => (answers_of_write (c := .fwCommit n) rfl h (State.fwEff_commit hr hs hv)).holds hn fun t f =>
      f.preferred.trans (State.preferred_fwCommitted s)
  case abandon => exact fun s n h hr hs hl => next_of_write rfl h (State.fwEff_abandon hr hs hl)
  case erase =>
    exact fun s n hn h hr hs => (answers_of_write (c := .fwErase n) rfl h (State.fwEff_erase hr hs)).holds hn fun t f =>
      (f.num (by decide)).trans (State.num_fwStep_fwStepDone _ 8)
  case channel =>
    exact fun s n c hn hc h he =>
      (answers_of_write (c := .smChEnable n c 1) rfl h (State.chEnableEff_training he)).holds hn fun t f =>
        ⟨(f.num (smCh_rests hc (by decide))).trans (State.num_smChEnable_chTraining s c),
          (f.num (smCh_rests hc (by decide))).trans (State.num_smChState_chTraining s c)⟩
  case trained =>
    exact fun s c hc hp hs => (completes_of_done (exec_smChannelTrained hp hs)).holds fun t f =>
      (f.rests.num (smCh_rests hc (by decide))).trans (State.num_putN_same _ _ _)
  case accWrite =>
    exact fun s n r off bytes bad hn ha hx ho hu hr hz hl =>
      next_of_done (exec_smAccDataWrite hn ha (State.accWriteEff_reached hx ho hu hr hz hl))
  case accRead =>
    exact fun s n r off bad h hx ho hu hr hz hl hf => next_of_read rfl h (State.accReadEff_reached hx ho hu hr hz hl hf)
  case select =>
    exact fun s n b i v hn hi h hv hs => (answers_of_write (exec_pcSel hi) h (State.pcSelEff_ok hv hs)).holds hn fun t f =>
      (f.num (pcSelKey_rests hi)).trans ((State.num_pcSelKey_pcZero _ b i).trans (State.num_putN_same _ _ _))
  case zeroed => exact fun s n b mask h => next_of_write rfl h rfl
  case sampled => exact fun s n b i hi h => next_of_read (exec_pcValRead hi) h rfl
  case join => exact fun s n h hj => next_of_write rfl h (State.pairJoinEff_set hj)
  case left =>
    exact fun s n hn h => (answers_of_write (c := .pairJoinClear n) rfl h (State.pairJoinEff_clear s)).holds hn fun t f =>
      (f.num (by decide)).trans (State.num_pairJoin_pairLeft s)
  case leave => exact fun s n h => next_of_write rfl h (State.pairJoinEff_clear s)
  case take =>
    exact fun s n hn h hr hl hp ho => (answers_of_write (c := .pairCmdTake n) rfl h (State.takeEff_linked hr hl hp ho)).holds hn fun t f =>
      f.becoming.trans (State.becoming_takeAsked s)
  case give => exact fun s n h hr hl hp => next_of_write rfl h (State.giveEff_linked hr hl hp)
  case attempt =>
    exact fun s hp hj hl ht h0 h1 => (completes_of_done (exec_mirrorLinkAttempt hp hj hl ht h0 h1)).holds fun t f =>
      (f.num (by decide)).trans ((State.num_pairLink_linkEvent _ 0).trans (State.num_putN_same _ _ _))
  case linkUp =>
    exact fun s x hl => next_of_done ((if_neg (not_not.mpr hl)).trans (ite_done (ite_done (ite_done rfl))))
  case beatAt =>
    exact fun s hl ht => (completes_of_done (exec_heartbeatSend hl ht)).holds fun t f =>
      (congrArg PairUnit.beatAt f.rests.pair :).trans (congrArg PairUnit.beatAt (State.pair_heartbeat _ false false s.pair.requested) :)
  case beat => exact fun s hl ht => next_of_done (exec_heartbeatSend hl ht)
  case relinquish =>
    intro s hb u hl hv hq hr hh hn _ hu
    subst hu
    exact (completes_of_done (exec_heartbeatReceived_relinquish hl hv hq hr hh hn)).holds fun t f => f.rests.becoming
  case loss =>
    exact fun s hl hr hw hh hn ht => (completes_of_done (exec_heartbeatLoss_claims hl hr hw hh hn ht)).holds fun t f =>
      (congrArg PairUnit.claiming f.rests.pair :)
  case witness =>
    exact fun s t hc ht => (completes_of_done (exec_witnessClaimDone_high hc ht)).holds fun z f => f.rests.becoming
  case reports => exact fun s gen rs hl => next_of_done (exec_mirrorUpdateReceived_reports hl)
  case deleted => exact fun s gen row hl hr => next_of_done (exec_mirrorUpdateReceived_saDelete hl hr)
  case resync =>
    exact fun s hl hs => (completes_of_done (exec_resyncComplete hl hs)).holds fun t f =>
      (f.num (by decide)).trans (State.num_putN_same _ _ _)
  case reportAt =>
    exact fun s ht => (completes_of_done (exec_counterReport ht)).holds fun t f =>
      (congrArg PairUnit.reportAt f.rests.pair :).trans (congrArg PairUnit.reportAt (State.pair_mirror _ _) :)
  case report => exact fun s ht => next_of_done (exec_counterReport ht)
  case holdoff =>
    exact fun s t hh hr ht => (completes_of_done (exec_pairHoldoffExpiry hh hr ht)).holds fun z f =>
      have hpair := State.pair_heartbeat ({ s with pair := { s.pair with requested := true, claimCause := 4 } } : State) false false true
      ⟨(congrArg PairUnit.requested f.rests.pair :).trans (congrArg PairUnit.requested hpair :),
        (congrArg PairUnit.claimCause f.rests.pair :).trans (congrArg PairUnit.claimCause hpair :)⟩
  case asked => exact fun s t hh hr ht => next_of_done (exec_pairHoldoffExpiry hh hr ht)
  case watch => exact fun s b hb hl ht hw => next_of_done (exec_pairWatchTimeout hb hl ht hw)
  case takeover => exact fun s cause t hc => next_of_done (exec_takeoverComplete hc)

end Sys2Proof.Machine
end

section
/-! PROOFS. Retort's jobs (R628, R636, R643, R645, R647): an internal job's start and end, and a job whose two computations disagree. The
host jobs' equations stand with those of the sessions. -/

namespace Sys2Proof.Machine

section Retort
variable {s : State} {j : Job} {rest : List Job}

/-- The first job of the queue, where no host has submitted it, starts with the operands that it was queued with (R628). -/
theorem exec_jobStart_internal (hq : s.retort.queue = j :: rest) (hr : s.retort.running = none) (hc : s.retort.clearing = none)
    (ho : ∀ n, j.owner ≠ .host n) : exec .jobStart s
      = done { s with retort := { s.retort with queue := rest, running := some j, since := s.time.elapsed } } := by
  show execJobStart s = _
  unfold execJobStart
  rw [hq, hr, hc]
  obtain ⟨owner, op, a, b, c⟩ := j
  cases owner with
  | host n => exact absurd rfl (ho n)
  | closed _ _ | hello _ | auth _ | dropped => rfl

/-- A running job whose two computations disagree ends in FAULT, with the event, the alarm and no result (R643). -/
theorem exec_jobComplete_disagree (hr : s.retort.running = some j) (ht : s.retort.since + jobTime j ≤ s.time.elapsed + 1000) :
    exec (.jobComplete true) s
      = done ((((({ s with retort := { s.retort with running := none } } : State).jobDone j 0x0F [] []).raise 0x080101 0x170000
          (jobSession j * 1048576 + j.op % 16 * 65536)).raiseAlarm 6 0 false).jobFails j) := by
  show execJobComplete true s = _
  unfold execJobComplete
  rw [hr]
  exact if_neg (Nat.not_lt.mpr ht)

/-- A running job that no host's slot waits for ends with status 0 and no result (R636). -/
theorem exec_jobComplete_internal (hr : s.retort.running = some j) (ho : ∀ n, j.owner ≠ .host n)
    (ht : s.retort.since + jobTime j ≤ s.time.elapsed + 1000) : exec (.jobComplete false) s
      = done (({ s with retort := { s.retort with running := none } } : State).jobDone j 0 [] []) := by
  show execJobComplete false s = _
  unfold execJobComplete
  rw [hr]
  dsimp only
  rw [if_neg (Nat.not_lt.mpr ht), if_neg Bool.false_ne_true]
  split
  next n h => exact absurd h (ho n)
  next => rfl

end Retort

/-- The job of a handshake is no host's. -/
theorem owner_ne_host_of_handshake {j : Job} {m : Nat} (h : j.owner = .hello m ∨ j.owner = .auth m) (n : Nat) : j.owner ≠ .host n := by
  rcases h with h | h <;> rw [h] <;> exact JobOwner.noConfusion

/-- Settles O49: each command of a job by its equation. That a host job takes the operands that its slot holds when it starts, and
keeps those submitted where its operation does not take them, is the model's choice (log entry 120). -/
theorem retortCommandsComplete : Obligations.RetortCommandsComplete := by
  unfold Obligations.RetortCommandsComplete
  refine ⟨?submit, ?abort, ?startHost, ?startInternal, ?disagree, ?completeHost, ?completeHandshake, ?erased⟩
  case submit => exact fun s n h hs ho hl => answers_of_write rfl h (State.jobSubmit_ok hs ho hl)
  case abort => exact fun s n h => answers_of_write rfl h rfl
  case startHost => exact fun s n j rest hq hr hc ho => completes_of_done (exec_jobStart_host hq hr hc ho)
  case startInternal => exact fun s j rest hq hr hc ho => completes_of_done (exec_jobStart_internal hq hr hc ho)
  case disagree => exact fun s j hr ht => completes_of_done (exec_jobComplete_disagree hr ht)
  case completeHost => exact fun s n j hr ho ht => completes_of_done (exec_jobComplete_host hr ho ht)
  case completeHandshake =>
    exact fun s m j hr ho ht => completes_of_done (exec_jobComplete_internal hr (owner_ne_host_of_handshake ho) ht)
  case erased => exact fun s j hc ht => completes_of_done (exec_jobAbortErased hc ht)

end Sys2Proof.Machine
end

section
/-! PROOFS. Side memory and the temperature sensor (R653, R658, R660, R661, R666, R753 to R755): bytes written and read back, channels
and accesses, samples, and a TJ_WARN out of its range. -/

namespace Sys2Proof.Machine

/-! The bytes of a range (R658, R666) -/

/-- A write to a range puts its bytes into the data of that range. -/
theorem State.data_smWrite_same (s : State) (r off : Nat) (bytes : Octets) :
    ((s.smWrite r off bytes).sm.getD r {}).data = Mem.writeAll (s.sm.getD r {}).data off bytes := by
  unfold State.smWrite
  rw [FMap.getD_put, if_pos rfl]

theorem State.sm_smWrite_other {q r : Nat} (h : q ≠ r) (s : State) (off : Nat) (bytes : Octets) :
    (s.smWrite r off bytes).sm.getD q {} = s.sm.getD q {} := by
  unfold State.smWrite
  rw [FMap.getD_put, if_neg h.symm]

/-- Settles O5, by what a write leaves in the memory of its range and in the map of ranges. -/
theorem sideMemoryReadsBack : Obligations.SideMemoryReadsBack := by
  unfold Obligations.SideMemoryReadsBack
  refine ⟨?same, ?other⟩
  case same =>
    intro s r off bytes a
    rw [State.data_smWrite_same, Mem.rd_writeAll]
  case other => exact fun s r q off bytes h => State.sm_smWrite_other h s off bytes

/-! Channels and refused accesses (R653, R661) -/

section SideMemory
variable {s : State} {n c r off k : Nat} {bad : Option Nat}

theorem State.chEnableEff_off
    (h : (List.range 8).any (fun r => s.num (Reg.rngChannel r) == c && s.fnState (.range r) != 0) = false) :
    s.chEnableEff c 0 = okay ((s.saveN (Reg.smChEnable c) 0).putN (Reg.smChState c) 0) := by
  unfold State.chEnableEff
  dsimp only
  rw [if_pos rfl, h]
  rfl

theorem exec_smChannelTrained_failed (hc : c < s.part.sideChannels) (hs : s.num (Reg.smChState c) = 1) :
    exec (.smChannelTrained c false) s
      = done ((s.putN (Reg.smChState c) 3).raise 0x070601 ((0x1600 + c) * 256) (c * 8388608)) :=
  (if_neg (fun h => h.elim (Nat.not_le.mpr hc) (· hs))).trans (if_neg Bool.false_ne_true)

/-- A read that reaches a line whose tag fails ends there, reported (R661). -/
theorem State.accReadEff_tagFails (hx : s.num (Reg.smAccRange n) = r) (ho : s.num (Reg.smAccOff n) = off)
    (hu : s.num (Reg.rngUse r) ≠ 5) (hr : s.running (.range r) = true) (ha : off % 64 = 0)
    (hl : off + 192 ≤ s.num (Reg.rngSize r) * 1048576) (hf : s.lineFails r (off / 64) 3 bad = some k) :
    s.accReadEff n bad = (s.tagFailure r k false, .abort 0x140050) := by
  subst hx ho
  refine (State.accEff_reached hu Bool.noConfusion hr ha hl).trans ?_
  rw [hf]

end SideMemory

/-- Settles O50: each command by its effect or its equation, an access as what the range and the offset let it reach. -/
theorem sideMemoryCommandsComplete : Obligations.SideMemoryCommandsComplete := by
  unfold Obligations.SideMemoryCommandsComplete
  refine ⟨?on, ?off, ?ready, ?failed, ?write, ?read, ?tagFails⟩
  case on => exact fun s n c h he => answers_of_write rfl h (State.chEnableEff_training he)
  case off => exact fun s n c h hb => answers_of_write rfl h (State.chEnableEff_off hb)
  case ready => exact fun s c hc hs => completes_of_done (exec_smChannelTrained hc hs)
  case failed => exact fun s c hc hs => completes_of_done (exec_smChannelTrained_failed hc hs)
  case write =>
    exact fun s n r off bytes bad hn ha hx ho hu hr hz hl =>
      completes_of_done (exec_smAccDataWrite hn ha (State.accWriteEff_reached hx ho hu hr hz hl))
  case read =>
    exact fun s n r off bad h hx ho hu hr hz hl hf =>
      answers_of_read rfl h (State.accReadEff_reached hx ho hu hr hz hl hf)
  case tagFails =>
    exact fun s n r off k bad h hx ho hu hr hz hl hf =>
      answers_of_read rfl h (State.accReadEff_tagFails hx ho hu hr hz hl hf)

/-! The temperature sensor (R753 to R755) -/

/-- A word is spelled as itself where it fits (R103). -/
theorem Ty.decode_i24 {addr v pad : Nat} (hv : v < 2 ^ 24) : Ty.i24.decode addr [v] pad = (.num v, none) := by
  have hword : wordsToNat [v] = v := by
    show 0 * 16777216 + v % 16777216 = v
    omega
  show (Val.num (wordsToNat [v]), (none : Option Nat)) = _
  rw [hword]

theorem State.numWrite_tjWarn_refused {s : State} {n v : Nat} (hr : i24 v < -400 ∨ 1600 < i24 v) :
    s.numWrite n 0x100403 v = (s, .abort 0x130001) := by
  show s.withinI n 0x100403 v (-400) 1600 = _
  unfold State.withinI
  rw [decide_eq_true hr]
  rfl

/-- Settles O9: one word is that number, and the number is out of the range. -/
theorem tjWarnRange : Obligations.TjWarnRange := by
  unfold Obligations.TjWarnRange
  intro s n v pad hv hr hn ha
  refine completes_of_done ((exec_objectWrite_number (e := ⟨.i24, .rw, .num 1400⟩) hn (by decide) (by decide) rfl
    (Ty.decode_i24 hv) ha).trans ?_)
  rw [State.numWrite_tjWarn_refused hr]

/-- TJ_NOW written leaves the peak that the sample is measured against. -/
theorem State.sampled_eq (s : State) (tj : Int) : s.sampled tj
    = if i24 (s.num Reg.tjPeak) < tj then (s.putN Reg.tjNow (toI24 tj)).putN Reg.tjPeak (toI24 tj) else s.putN Reg.tjNow (toI24 tj) := by
  unfold State.sampled
  dsimp only
  rw [State.num_putN_other _ _ (dev_ne (by decide))]

theorem State.tjWarned_sampled (s : State) (tj : Int) : (s.sampled tj).tjWarned = s.tjWarned := by
  unfold State.sampled
  dsimp only
  split <;> rfl

/-- A sample at TJ_WARN or above warns once, one 5.0 degrees or more below takes the warning back (R753). -/
theorem exec_tjSample_eq (s : State) (tj : Int) : exec (.tjSample tj) s
    = done (if i24 (s.num Reg.tjWarn) ≤ tj ∧ s.tjWarned = false then
        ({ s.sampled tj with tjWarned := true } : State).raise 0x0A0004 0x100400 (toI24 tj)
      else if tj ≤ i24 (s.num Reg.tjWarn) - 50 then { s.sampled tj with tjWarned := false } else s.sampled tj) := by
  rw [← State.tjWarned_sampled s tj]
  exact ite_done (ite_done rfl)

/-- Settles O24: a sample by its equation, TJ_PEAK by its effect. -/
theorem temperatureCompletes : Obligations.TemperatureCompletes := by
  unfold Obligations.TemperatureCompletes
  refine ⟨?sample, ?peak⟩
  case sample =>
    intro s tj
    have hsample := exec_tjSample_eq s tj
    rw [State.sampled_eq] at hsample
    exact completes_of_done hsample
  case peak => exact fun s n v h => answers_of_write rfl h rfl

end Sys2Proof.Machine
end

section
/-! PROOFS. Power, reset inputs and the start, the Hearth pair, the backup domain and the Flue monitors (R671 to R692, R697 to R699,
R747, R756 to R760). -/

namespace Sys2Proof.Machine

/-! Power and reset inputs (R691, R692, R747, R756, R758) -/

section Power
variable {s : State}

theorem exec_powerGoodFall (hm : s.mainPower = true) (hg : s.powerGood = true) :
    exec .powerGoodFall s = done { s.internalReset with powerGood := false } :=
  if_pos (by rw [hm, hg]; rfl)

theorem exec_rstNAssert (hm : s.mainPower = true) : exec .rstNAssert s = done { s.internalReset with rstLow := true } := if_pos hm

theorem exec_mainPowerLost (hm : s.mainPower = true) : exec .mainPowerLost s
    = done { s.internalReset with mainPower := false, powerGood := false, flue := [], alarm := {}, backup :=
        { s.internalReset.backup with mainPresent := false, tl := s.internalReset.backup.rtc, report := false } } :=
  if_pos hm

theorem exec_vbatCollapse (hm : s.mainPower = false) :
    exec .vbatCollapse s = done { s with backup := { mainPresent := false, lost := true } } :=
  if_neg (Bool.eq_false_iff.mp hm)

end Power

/-- Settles O18: each input by its equation, under the supply that it needs. -/
theorem powerLossCompletes : Obligations.PowerLossCompletes := by
  unfold Obligations.PowerLossCompletes
  refine ⟨?powerGood, ?reset, ?lost, ?battery⟩
  case powerGood => exact fun s hm hg => completes_of_done (exec_powerGoodFall hm hg)
  case reset => exact fun s hm => completes_of_done (exec_rstNAssert hm)
  case lost => exact fun s hm => completes_of_done (exec_mainPowerLost hm)
  case battery => exact fun s hm => completes_of_done (exec_vbatCollapse hm)

/-! The start, and the Hearth pair coming back (R691, R698, R699, R760) -/

section Start
variable {s : State} {st : StartInput} {l : Bool}

/-- Main power that returns with no comparator high drops the three outputs and trips none. -/
theorem exec_mainPowerReturned_quiet (hm : s.mainPower = false) : exec (.mainPowerReturned false false false) s
    = done { s with mainPower := true, alarm := {}, backup :=
        { s.backup with mainPresent := true, tr := s.backup.rtc, report := true,
                        vbatLow := { s.backup.vbatLow with out := false }, tempHigh := { s.backup.tempHigh with out := false },
                        senseIn := { s.backup.senseIn with out := false } } } :=
  if_neg (Bool.eq_false_iff.mp hm)

/-- The end of internal reset, with no detector stuck and no burn to resume; a backup domain that lost its supply starts its
clock at 0 (log entry 81). -/
theorem exec_internalResetEnd (hp : s.phase = .reset) (hm : s.mainPower = true) (hs : st.stuck = []) (hc : s.lc ≠ 15)
    (hl : s.backup.lost = l) : exec (.internalResetEnd st) s
      = done ({ s with powerGood := true, rstLow := false, addrSel := st.addrSel % 4, pairId := st.pairId % 2,
                       hearth := { s.hearth with start := some st },
                       time := { dev := (if l then 0 else s.backup.rtc) * 1000000000 * nsUnits,
                                 latched := if l then 0 else s.backup.rtc },
                       backup := { s.backup with rtc := if l then 0 else s.backup.rtc, phase := if l then 0 else s.backup.phase,
                                                 bkState := if l then 1 else 0 } } : State).kindling := by
  have hburn (p : Prop) : ¬ (s.lc = 15 ∧ p) := fun h => hc h.1
  show execInternalResetEnd st s = _
  unfold execInternalResetEnd
  rw [if_pos ⟨hp, hm⟩, hs]
  cases l with
  | false =>
    simp only [hl, Bool.false_eq_true, if_false]
    exact congrArg (fun u : State => done u.kindling) (if_neg (hburn _))
  | true =>
    simp only [hl, if_true]
    exact congrArg (fun u : State => done u.kindling) (if_neg (hburn _))

theorem exec_switchOverComplete (hg : s.hearth.gap = true) : exec .switchOverComplete s
    = done (({ s with hearth := { s.hearth with gap := false } } : State).cursorsLost.putN Reg.hearthBanked 1) := if_pos hg

theorem exec_kindlingRestartComplete (hr : s.hearth.restarting = true) : exec .kindlingRestartComplete s
    = done (({ s with hearth := { s.hearth with restarting := false } } : State).cursorsLost.putN Reg.hearthBanked 1) := if_pos hr

theorem exec_hearthBankedInStep (hb : s.num Reg.hearthBanked = 1) (hh : s.hearth.halted = false) (hg : s.hearth.gap = false) :
    exec .hearthBankedInStep s = done (s.putN Reg.hearthBanked 2) := if_pos ⟨hb, hh, hg⟩

end Start

/-- Settles O20: each command by its equation. That the core which was active loads again from its slot after a switch-over (log
entry 47), start-up as one step (69) and the clock of a backup domain that lost its supply (81) are the model's choices. -/
theorem powerReturnCompletes : Obligations.PowerReturnCompletes := by
  unfold Obligations.PowerReturnCompletes
  refine ⟨?returned, ?start, ?switched, ?restarted, ?inStep⟩
  case returned => exact fun s hm => completes_of_done (exec_mainPowerReturned_quiet hm)
  case start => exact fun s st l hp hm hs hc hl => completes_of_done (exec_internalResetEnd hp hm hs hc hl)
  case switched => exact fun s hg => completes_of_done (exec_switchOverComplete hg)
  case restarted => exact fun s hr => completes_of_done (exec_kindlingRestartComplete hr)
  case inStep => exact fun s hb hh hg => completes_of_done (exec_hearthBankedInStep hb hh hg)

/-! A core that fails (R697 to R699) -/

section Core
variable {s : State} {cause : Nat}

/-- A core is judged while Hearth runs. -/
theorem State.coreFails_running (hp : s.phase = .ready) (hr : s.hearth.restarting = false) :
    s.coreFails cause = if s.num Reg.hearthBanked = 2 then s.switchOver cause else s.kindlingRestart cause :=
  if_neg (by rw [hp, hr]; exact fun h => h.elim (· rfl) Bool.noConfusion)

theorem State.coreFails_inStep (hp : s.phase = .ready) (hr : s.hearth.restarting = false) (hb : s.num Reg.hearthBanked = 2) :
    s.coreFails cause = s.switchOver cause := (State.coreFails_running hp hr).trans (if_pos hb)

theorem State.coreFails_alone (hp : s.phase = .ready) (hr : s.hearth.restarting = false) (hb : s.num Reg.hearthBanked ≠ 2) :
    s.coreFails cause = s.kindlingRestart cause := (State.coreFails_running hp hr).trans (if_neg hb)

theorem State.hearthCmdEff_ok (hb : s.num Reg.hearthBanked = 2) : s.hearthCmdEff 1 = okay (s.switchOver 2) := by
  refine check_none ?_ _
  rw [hb]
  rfl

end Core

/-- Settles O21: a failure by whether the banked core is in step, the command by its effect. -/
theorem coreFailureCompletes : Obligations.CoreFailureCompletes := by
  unfold Obligations.CoreFailureCompletes
  refine ⟨?watchdogSwitch, ?watchdogRestart, ?memorySwitch, ?memoryRestart, ?command⟩
  case watchdogSwitch => exact fun s hp hr hb => completes_of_done (congrArg done (State.coreFails_inStep hp hr hb))
  case watchdogRestart => exact fun s hp hr hb => completes_of_done (congrArg done (State.coreFails_alone hp hr hb))
  case memorySwitch => exact fun s hp hr hb => completes_of_done (congrArg done (State.coreFails_inStep hp hr hb))
  case memoryRestart => exact fun s hp hr hb => completes_of_done (congrArg done (State.coreFails_alone hp hr hb))
  case command => exact fun s n h hb => answers_of_write rfl h (State.hearthCmdEff_ok hb)

/-! The backup domain (R687 to R690) -/

section BackupDomain
variable {s : State} {n j : Nat}

/-- A trip on battery latches in the backup domain and takes no response (R690). -/
theorem State.compTrip_onBattery (hm : s.mainPower = false) : s.compTrip j
    = { s with backup := s.backup.setComp j {
            out := true, latched := true, first := if (s.backup.comp j).latched then (s.backup.comp j).first else s.backup.rtc,
            trips := min ((s.backup.comp j).trips + 1) 255,
            onBattery := if (s.backup.comp j).latched then (s.backup.comp j).onBattery else true } } := by
  unfold State.compTrip
  dsimp only
  rw [if_pos hm, hm]
  rfl

theorem exec_bkComparatorTrip (hj : j < 3) (ho : (s.backup.comp j).out = false) (hl : s.backup.lost = false) :
    exec (.bkComparatorTrip j) s = done (s.compTrip j) := by
  refine if_neg ?_
  simp only [ho, hl, Bool.false_eq_true, false_and, or_false]
  exact Nat.not_le.mpr hj

theorem State.bkClearEff_ok (hn : n ≠ 0) : s.bkClearEff n 1
    = okay { s with backup := { s.backup with vbatLow := { out := s.backup.vbatLow.out }, tempHigh := { out := s.backup.tempHigh.out },
                                              senseIn := { out := s.backup.senseIn.out } } } := by
  refine check_none ?_ _
  rw [beq_eq_false_iff_ne.mpr hn]
  rfl

end BackupDomain

/-- Settles O22: the clock and the comparators by their equations, BK_CLEAR by its effect. That a tick of the crystal within half a
second of the last is none is the model's choice (log entry 117). -/
theorem backupDomainCompletes : Obligations.BackupDomainCompletes := by
  unfold Obligations.BackupDomainCompletes
  refine ⟨?tick, ?trip, ?release, ?clear⟩
  case tick => exact fun s hl hp => completes_of_done (exec_rtcSecondTick hl hp)
  case trip =>
    intro s j hj ho hm hl
    have htrip := exec_bkComparatorTrip hj ho hl
    rw [State.compTrip_onBattery hm] at htrip
    exact completes_of_done htrip
  case release => exact fun s j hj => completes_of_done (exec_bkComparatorRelease hj)
  case clear => exact fun s n h hn => answers_of_write rfl h (State.bkClearEff_ok hn)

/-! Flue monitors and alarms (R671, R675, R679 to R681) -/

section Flue
variable {s : State} {n k : Nat} {b : Bool}

/-- A firing that nothing waits to agree with is an event of its own, and waits (R679, R680). -/
theorem exec_flueDetectorFire_first (hk : k < 5) (hm : s.mainPower = true) (ho : (s.flueKind k).out b = false)
    (hw : (s.flueKind k).waiting.find? (fun w => w.2 != b && decide (s.alarm.clock < w.1 + 1000)) = none) :
    exec (.flueDetectorFire k b) s
      = done ((s.setFlue k { (s.flueKind k).setOut b true with waiting := (s.flueKind k).waiting ++ [(s.alarm.clock, b)] }).flueEvent k
          s.alarm.clock) := by
  have hlive : ¬ (5 ≤ k ∨ s.mainPower = false ∨ (s.flueKind k).out b = true) := by
    rw [hm, ho]
    simp only [Bool.true_eq_false, Bool.false_eq_true, or_false]
    omega
  have hwait := hw
  rw [← FlueKind.waiting_setOut (s.flueKind k) b true] at hwait ⊢
  show execFlueDetectorFire k b s = _
  unfold execFlueDetectorFire
  refine (if_neg hlive).trans ?_
  show (match ((s.flueKind k).setOut b true).waiting.find? _ with | some w => _ | none => _) = _
  rw [hwait]
  rfl

/-- ALM_HOLD_CLEAR is for a network session with the role (R675). -/
theorem State.holdClearEff_refused (h : n = 0 ∨ s.sessHas n 1 = false) :
    s.holdClearEff n 1 = (s, .abort (if n = 0 then 0x110005 else 0x110004)) := by
  by_cases hn : n = 0
  · rw [if_pos hn]
    subst hn
    unfold State.holdClearEff
    cases s.sessHas 0 1 <;> rfl
  · have hrole : s.sessHas n 1 = false := h.resolve_left hn
    rw [if_neg hn]
    unfold State.holdClearEff
    rw [hrole, beq_eq_false_iff_ne.mpr hn]
    rfl

end Flue

/-- Settles O23: a detector by its equations, the host's side by its effects. -/
theorem alarmInputsComplete : Obligations.AlarmInputsComplete := by
  unfold Obligations.AlarmInputsComplete
  refine ⟨?first, ?agrees, ?release, ?lone, ?ack, ?holdClear, ?refused⟩
  case first => exact fun s k b hk hm ho hw => completes_of_done (exec_flueDetectorFire_first hk hm ho hw)
  case agrees => exact fun s k b w hk hm ho hw => completes_of_done (exec_flueDetectorFire_agrees hk hm ho hw)
  case release => exact fun s k b hk hm => completes_of_done (exec_flueDetectorRelease hk hm)
  case lone => exact fun s k w hw => completes_of_done (exec_flueLoneRecognised hw)
  case ack => exact fun s n m h hm => answers_of_write rfl h (State.almAckEff_ok hm)
  case holdClear => exact fun s n h hn hr => answers_of_write rfl h (State.holdClearEff_ok hn hr)
  case refused => exact fun s n h hn => answers_of_write rfl h (State.holdClearEff_refused hn)

end Sys2Proof.Machine
end

section
/-! PROOFS. Performance counters, the mesh and the pair, complete (R700 to R719, R720 to R725, R730 to R736): the cases of their
commands that the proofs before leave out. -/

namespace Sys2Proof.Machine

/-- Settles O51: PC_SEL and a read of PC_VAL for a counter that there is, PC_CLEAR by its effect. -/
theorem performanceCountersComplete : Obligations.PerformanceCountersComplete := by
  unfold Obligations.PerformanceCountersComplete
  refine ⟨?select, ?clear, ?read⟩
  case select => exact fun s n b i v hi h hv hs => answers_of_write (exec_pcSel hi) h (State.pcSelEff_ok hv hs)
  case clear => exact fun s n b mask h => answers_of_write rfl h rfl
  case read => exact fun s n b i hi h => answers_of_read (exec_pcValRead hi) h rfl

/-- A mesh key is taken as the next one where one is in use (R724). -/
theorem State.meshKeyLoadEff_next {s : State} {v : Nat} {k : BlobKey} (hv : v ≤ 63)
    (hu : s.unwrapBlob (s.oct (Reg.blob v)) 0xFF (s.num Reg.blobGenDev) = .ok k) (hk : k.1 = 2) (hc : s.mesh.cur ≠ none) :
    s.meshKeyLoadEff v = okay (({ s with mesh := { s.mesh with next := some k.2.2.2 } } : State).save meshBlobNext
      (.oct (s.oct (Reg.blob v)))) := by
  have hheld : ¬ s.mesh.cur.isNone = true := fun h => hc (Option.isNone_iff_eq_none.mp h)
  unfold State.meshKeyLoadEff
  dsimp only
  rw [if_neg (Nat.not_lt.mpr hv), hu]
  dsimp only
  rw [if_neg (not_not.mpr hk), if_neg hheld]

/-- Settles O44: each write by its effect, each event by its equation. One event for each neighbour that falls silent is the model's
choice (log entries 65 and 111). -/
theorem meshCommandsComplete : Obligations.MeshCommandsComplete := by
  unfold Obligations.MeshCommandsComplete
  refine ⟨?id, ?current, ?next, ?advance, ?hello, ?dead⟩
  case id => exact fun s n v h hv hg ht => answers_of_write rfl h (State.meshIdEff_ok hv hg ht)
  case current => exact fun s n v k h hv hu hk hc => answers_of_write rfl h (State.meshKeyLoadEff_current hv hu hk hc)
  case next => exact fun s n v k h hv hu hk hc => answers_of_write rfl h (State.meshKeyLoadEff_next hv hu hk hc)
  case advance => exact fun s n key h hn he => answers_of_write rfl h (State.meshAdvanceEff_ok hn he)
  case hello => exact fun s key hk hp hg hr => completes_of_done (exec_meshHelloSend hk hp hg hr)
  case dead => exact fun s m hp hn hd ht => completes_of_done (exec_meshNeighbourDead hp hn hd ht)

/-! The mirror link (R702, R705, R708, R709) -/

section Mirror
variable {s : State}

/-- An attempt to which no partner answers fails at step 1 (R702). -/
theorem exec_mirrorLinkAttempt_alone (hp : s.phase = .ready) (hj : s.num Reg.pairJoin ≠ 0) (hl : s.num Reg.pairLink = 0)
    (ht : s.pair.attemptAt ≤ s.time.elapsed) : exec (.mirrorLinkAttempt false) s = done (s.attemptFails 1) := by
  have hdue : ¬ (s.phase ≠ .ready ∨ s.num Reg.pairJoin = 0 ∨ s.num Reg.pairLink ≠ 0 ∨ s.time.elapsed < s.pair.attemptAt) := by
    simp only [hp, hj, hl, ne_eq, not_true_eq_false, Nat.not_lt.mpr ht, or_self, not_false_eq_true]
  exact (if_neg hdue).trans (if_neg Bool.false_ne_true)

/-- An update for another role generation is discarded, and a resync asked for (R705). -/
theorem exec_mirrorUpdateReceived_discarded {u : MirrorUpdate} (hl : s.linked = true) (hg : u.receiverGen ≠ s.num Reg.pairRoleGen) :
    exec (.mirrorUpdateReceived u) s
      = done (((({ s with pair := { s.pair with peerGen := u.senderGen } } : State).count Reg.mirrorRoleDiscards).raise 0x090104
          0x151000 (mirrorItemNo u.item % 65536)).resync) :=
  (if_neg (by rw [hl]; exact Bool.noConfusion)).trans (if_pos hg)

end Mirror

/-- Settles O52: each command by the equation of its case. What an update of each kind is, and what the mirror does with it, is in part
the model's choice (log entries 7 and 82). -/
theorem mirrorLinkCompletes : Obligations.MirrorLinkCompletes := by
  unfold Obligations.MirrorLinkCompletes
  refine ⟨?attempt, ?alone, ?up, ?discarded, ?reports, ?deleted, ?resync, ?report⟩
  case attempt => exact fun s hp hj hl ht h0 h1 => completes_of_done (exec_mirrorLinkAttempt hp hj hl ht h0 h1)
  case alone => exact fun s hp hj hl ht => completes_of_done (exec_mirrorLinkAttempt_alone hp hj hl ht)
  case up => exact fun s x hl => completes_of_done ((if_neg (not_not.mpr hl)).trans (ite_done (ite_done (ite_done rfl))))
  case discarded => exact fun s u hl hg => completes_of_done (exec_mirrorUpdateReceived_discarded hl hg)
  case reports => exact fun s gen rs hl => completes_of_done (exec_mirrorUpdateReceived_reports hl)
  case deleted => exact fun s gen row hl hr => completes_of_done (exec_mirrorUpdateReceived_saDelete hl hr)
  case resync => exact fun s hl hs => completes_of_done (exec_resyncComplete hl hs)
  case report => exact fun s ht => completes_of_done (exec_counterReport ht)

/-! TAKE (R713) -/

section Take
variable {s : State}

/-- TAKE of a Lit partner over the link asks it to hand over. -/
theorem State.takeEff_asks (hr : s.role = 1) (hl : s.linked = true) (hp : s.pair.peerHealthy = true) (ho : s.pair.peerRole = 2) :
    s.takeEff = okay s.takeAsked := by
  have hpeer : s.takeAsked.pair.peerRole = s.pair.peerRole := (congrArg PairUnit.peerRole (State.pair_heartbeat _ false false true) :)
  refine (check_none ?reached _).trans ((if_pos hl).trans ?asked)
  case reached =>
    rw [hr, hl, hp]
    rfl
  case asked =>
    show okay (if s.takeAsked.pair.peerRole = 2 then s.takeAsked else s.takeAsked.becomeLit 3) = _
    rw [hpeer, if_pos ho]

/-- TAKE without the link goes the way that WITNESS leaves it: claimed where it is wired and high, at once where it is not wired. -/
theorem State.takeEff_unlinked (hr : s.role = 1) (hl : s.linked = false)
    (hw : s.num Reg.pairWitnessWired = 0 ∨ s.pair.witnessHigh = true) :
    s.takeEff = (if s.num Reg.pairWitnessWired = 1
      then okay (({ s with pair := { s.pair with memoryValid := false } } : State).claimWitness 3)
      else okay (({ s with pair := { s.pair with memoryValid := false } } : State).becomeLit 2)) := by
  have halone : (s.num Reg.pairWitnessWired == 0 || s.pair.witnessHigh) = true := by
    rw [Bool.or_eq_true, beq_iff_eq]
    exact hw
  refine (check_none ?reached _).trans (if_neg (by rw [hl]; exact Bool.false_ne_true))
  case reached =>
    rw [hr, hl, halone]
    rfl

theorem State.takeEff_unwired (hr : s.role = 1) (hl : s.linked = false) (hw : s.num Reg.pairWitnessWired = 0) :
    s.takeEff = okay (({ s with pair := { s.pair with memoryValid := false } } : State).becomeLit 2) :=
  (State.takeEff_unlinked hr hl (.inl hw)).trans (if_neg (by rw [hw]; exact Nat.zero_ne_one))

theorem State.takeEff_claims (hr : s.role = 1) (hl : s.linked = false) (hw : s.num Reg.pairWitnessWired = 1)
    (hh : s.pair.witnessHigh = true) :
    s.takeEff = okay (({ s with pair := { s.pair with memoryValid := false } } : State).claimWitness 3) :=
  (State.takeEff_unlinked hr hl (.inr hh)).trans (if_pos hw)

end Take

/-! Heartbeats received, their loss, and a claim given up (R703, R713, R714) -/

section Heartbeat
variable {s : State} {hb : Heartbeat} {t : Nat}

/-- The state with a heartbeat's words taken in, where it gives no role up: a Lit partner has taken back what it relinquished. -/
def State.heartbeatTaken (s : State) (hb : Heartbeat) : State :=
  { s.heartbeatNoted hb with pair := { (s.heartbeatNoted hb).pair with
      relinquished := (s.heartbeatNoted hb).pair.relinquished && hb.role != 2 } }

theorem State.role_heartbeatTaken (s : State) (hb : Heartbeat) : (s.heartbeatTaken hb).role = s.role := rfl

/-- A heartbeat of a partner that keeps its role, and has no resync to catch up with, is taken in, and a request in it answered. -/
theorem exec_heartbeatReceived_kept (hl : s.linked = true) (hv : hb.valid = true) (hq : hb.relinquish = false)
    (ho : hb.handover = false)
    (hs : (s.role == 2 && s.num Reg.pairSync == 2 && s.pair.peerSync == 2 && hb.sync == 1) = false) :
    exec (.heartbeatReceived hb) s = done (if hb.request then (s.heartbeatTaken hb).handoverAsked else s.heartbeatTaken hb) := by
  have hheard : ¬ (s.linked = false ∨ hb.valid = false) := by
    rw [hl, hv]
    exact fun h => h.elim Bool.noConfusion Bool.noConfusion
  have hkept : ¬ (hb.relinquish = true ∨ hb.handover = true) := by
    rw [hq, ho]
    exact fun h => h.elim Bool.noConfusion Bool.noConfusion
  refine (if_neg hheard).trans ?_
  rw [hs]
  exact if_neg hkept

/-- A device that is not Banked goes on in PARTITION when the heartbeats stop (R713). -/
theorem exec_heartbeatLoss_partition (hl : s.linked = true) (hr : s.role ≠ 1)
    (hn : (s.linkDown s.pair.relinquished).pair.becoming = none) (ht : s.pair.heardAt + 10000 ≤ s.time.elapsed) :
    exec .heartbeatLoss s = done ((s.linkDown s.pair.relinquished).setPartition true) := by
  have hlost : ¬ (s.linked = false ∨ s.time.elapsed < s.pair.heardAt + 10000) := by
    rw [hl]
    exact fun h => h.elim Bool.noConfusion (Nat.not_lt.mpr ht)
  have hclaims : (s.role == 1 && s.num Reg.pairWitnessWired == 1 && s.healthy && s.pair.becoming.isNone) = false := by
    rw [beq_eq_false_iff_ne.mpr hr]
    rfl
  refine (if_neg hlost).trans ?_
  rw [hclaims, Bool.or_false]
  refine (if_neg Bool.false_ne_true).trans (if_neg ?_)
  rw [hn]
  exact Bool.false_ne_true

/-- A claim made at a loss that WITNESS did not bear out is given up, and the device goes on in PARTITION (R714). -/
theorem exec_witnessClaimDone_low (hc : s.pair.claiming = some t) (ht : t + 10000 + 20000 * s.pairId ≤ s.time.elapsed)
    (hcause : s.pair.claimCause = 2) : exec (.witnessClaimDone false) s
      = done (({ s with pair := { s.pair with claiming := none, witnessHigh := false,
                                              memoryValid := s.pair.memoryValid && s.pair.relinquished } } : State).setPartition true) := by
  show execWitnessClaimDone false s = _
  unfold execWitnessClaimDone
  rw [hc]
  exact (if_neg (Nat.not_lt.mpr ht)).trans ((if_neg Bool.false_ne_true).trans (congrArg done (if_pos hcause)))

end Heartbeat

/-- Settles O53: each host command by its effect, each event by the equation of its case. The cause of a TAKE that is not wired, and the
order of events of one instant, are the model's choices (log entries 82 and 130). -/
theorem pairRolesComplete : Obligations.PairRolesComplete := by
  unfold Obligations.PairRolesComplete
  refine ⟨?join, ?leave, ?asks, ?unwired, ?take, ?claims, ?give, ?beat, ?heard, ?requested, ?relinquished, ?lossClaims, ?lossPartition,
    ?claimHeld, ?claimLost, ?takeover, ?holdoff, ?watch⟩
  case join => exact fun s n h hj => answers_of_write rfl h (State.pairJoinEff_set hj)
  case leave => exact fun s n h => answers_of_write rfl h (State.pairJoinEff_clear s)
  case asks => exact fun s n h hr hl hp ho => answers_of_write rfl h (State.takeEff_asks hr hl hp ho)
  case unwired => exact fun s n h hr hl hw => answers_of_write rfl h (State.takeEff_unwired hr hl hw)
  case take => exact fun s n h hr hl hp ho => answers_of_write rfl h (State.takeEff_linked hr hl hp ho)
  case claims => exact fun s n h hr hl hw hh => answers_of_write rfl h (State.takeEff_claims hr hl hw hh)
  case give => exact fun s n h hr hl hp => answers_of_write rfl h (State.giveEff_linked hr hl hp)
  case beat => exact fun s hl ht => completes_of_done (exec_heartbeatSend hl ht)
  case heard =>
    intro s hb u hl hv hq ho hno hs hu
    subst hu
    have hkept := exec_heartbeatReceived_kept hl hv hq ho hs
    rw [hno] at hkept
    exact completes_of_done hkept
  case requested =>
    intro s hb u hl hv hq ho hyes hs hu hr
    subst hu
    have hkept := exec_heartbeatReceived_kept hl hv hq ho hs
    rw [hyes] at hkept
    have hlit : (s.heartbeatTaken hb).handoverAsked = (s.heartbeatTaken hb).giveUp true 1 3 :=
      if_pos ((State.role_heartbeatTaken s hb).trans hr)
    exact completes_of_done (hkept.trans (congrArg done hlit))
  case relinquished =>
    intro s hb u hl hv hq hr hh hn _ hu
    subst hu
    exact completes_of_done (exec_heartbeatReceived_relinquish hl hv hq hr hh hn)
  case lossClaims => exact fun s hl hr hw hh hn ht => completes_of_done (exec_heartbeatLoss_claims hl hr hw hh hn ht)
  case lossPartition => exact fun s hl hr hn ht => completes_of_done (exec_heartbeatLoss_partition hl hr hn ht)
  case claimHeld => exact fun s t hc ht => completes_of_done (exec_witnessClaimDone_high hc ht)
  case claimLost => exact fun s t hc ht hcause => completes_of_done (exec_witnessClaimDone_low hc ht hcause)
  case takeover => exact fun s cause t hc => completes_of_done (exec_takeoverComplete hc)
  case holdoff => exact fun s t hh hr ht => completes_of_done (exec_pairHoldoffExpiry hh hr ht)
  case watch => exact fun s b hb hl ht hw => completes_of_done (exec_pairWatchTimeout hb hl ht hw)

end Sys2Proof.Machine
end
